-- ==== Sys2Proof/Word.lean ====
section
/-! DEFINITION. The word types of the model: bytes, 32-bit words and 64-bit words (00_scope R6, R7). -/

namespace Sys2Proof

/-- One byte. -/
abbrev Byte := BitVec 8

/-- One 32-bit word: a register, an FP32 or INT32 value. -/
abbrev Word := BitVec 32

/-- A finite map from numbers to plain data, kept as a list of pairs. -/
abbrev KMap (α : Type) := List (Nat × α)

end Sys2Proof
end

