-- ==== Sys2Proof/Syntax.lean ====
section
/-! DEFINITION. The commands of the block: one constructor for each row of spec/opcode_table.json, in the table's order,
with the row's operands. A command that a host submits through a queue names the fetched command it is (`Ref`) and its
fields as the rules lay them out; an event carries what the block is told when it happens. -/

namespace Sys2Proof

/-- Fields of a command the hub has fetched and not completed: partition, queue, CID (18_queues R565). -/
structure Ref where
  part : Nat
  queue : Nat
  cid : Nat
  deriving DecidableEq, Repr

/-- Fields of layout H (18_queues R583). -/
structure HArgs where
  handle : Nat
  deriving DecidableEq, Repr

/-- Fields of layout Q (18_queues R583). -/
structure QArgs where
  handle : Nat
  qflags : Nat
  outAddr : Nat
  outCap : Nat
  deriving DecidableEq, Repr

/-- Fields of layout S (18_queues R583). -/
structure SArgs where
  src : Nat
  lflags : Nat
  arg16 : Nat
  arg32 : Nat
  addr : Nat
  len : Nat
  extent : Nat
  arg64 : Nat
  deriving DecidableEq, Repr

/-- Fields of layout M (18_queues R583). -/
structure MArgs where
  dua : Nat
  pages : Nat
  pgflags : Nat
  tier : Nat
  mflags : Nat
  hostAddr : Nat
  winOff : Nat
  deriving DecidableEq, Repr

/-- Fields of layout E (18_queues R583). -/
structure EArgs where
  extent : Nat
  offset : Nat
  len : Nat
  addr : Nat
  eflags : Nat
  deriving DecidableEq, Repr

/-- Fields of CONE_PROGRAM (18_queues R585). -/
structure ConeArgs where
  turn : Nat
  offset : Nat
  cancel : Nat
  deriving DecidableEq, Repr

/-- Fields of LOG_READ (18_queues R585). -/
structure LogArgs where
  first : Nat
  outAddr : Nat
  outCap : Nat
  dua : Nat
  deriving DecidableEq, Repr

/-- Fields of parameter block of INDEX_CREATE and INDEX_LOAD (18_queues R588). -/
structure IndexArgs where
  codeBits : Nat
  npartLog2 : Nat
  ixflags : Nat
  vocab : Nat
  blkPages : Nat
  centAddr : Nat
  extent : Nat
  centOff : Nat
  blkOff : Nat
  psgExtent : Nat
  pub : Nat
  deriving DecidableEq, Repr

/-- Fields of INSERT and DELETE (09_vector_search R306). -/
structure InsertArgs where
  index : Nat
  cnt : Nat
  listAddr : Nat
  tokAddr : Nat
  lflags : Nat
  deriving DecidableEq, Repr

/-- Fields of SEARCH (09_vector_search R299). -/
structure SearchArgs where
  index : Nat
  nprobe : Nat
  k : Nat
  ef : Nat
  qcnt : Nat
  attrMask : Nat
  flags : Nat
  shardTag : Nat
  maxVisit : Nat
  queryAddr : Nat
  outAddr : Nat
  deriving DecidableEq, Repr

/-- Fields of WEDGE (09_vector_search R310). -/
structure WedgeArgs where
  index : Nat
  wflags : Nat
  partFirst : Nat
  partCnt : Nat
  deriving DecidableEq, Repr

/-- Fields of SHARD_MERGE (18_queues R585). -/
structure ShardArgs where
  k : Nat
  dua : Nat
  inAddr : Nat
  inCnt : Nat
  inStride : Nat
  outAddr : Nat
  deriving DecidableEq, Repr

/-- Fields of RERANK (18_queues R585). -/
structure RerankArgs where
  image : Nat
  index : Nat
  top : Nat
  pairLimit : Nat
  qtokAddr : Nat
  qtokCnt : Nat
  dua : Nat
  inAddr : Nat
  outAddr : Nat
  deriving DecidableEq, Repr

/-- Fields of PACK (18_queues R585). -/
structure PackArgs where
  template : Nat
  index : Nat
  budget : Nat
  qtokAddr : Nat
  qtokCnt : Nat
  flags : Nat
  itemAddr : Nat
  rrAddr : Nat
  outAddr : Nat
  deriving DecidableEq, Repr

/-- Fields of TABLE_CREATE (18_queues R585). -/
structure TableArgs where
  rows : Nat
  dim : Nat
  rfmt : Nat
  flags : Nat
  deriving DecidableEq, Repr

/-- Fields of TABLE_STAGE (18_queues R585). -/
structure StageArgs where
  handle : Nat
  mode : Nat
  deriving DecidableEq, Repr

/-- Fields of EMBED_LOOKUP and EMBED_UPDATE (18_queues R585). -/
structure EmbedArgs where
  table : Nat
  mode : Nat
  flags : Nat
  bags : Nat
  idxAddr : Nat
  n : Nat
  lr : Nat
  aux : Nat
  outAddr : Nat
  eps : Nat
  fmt : Nat
  deriving DecidableEq, Repr

/-- Fields of TABLE_READ (18_queues R585). -/
structure TReadArgs where
  table : Nat
  dua : Nat
  first : Nat
  rows : Nat
  outAddr : Nat
  deriving DecidableEq, Repr

/-- Fields of TOKENISE and DETOKENISE (11_text_engine R381, R383). -/
structure TextArgs where
  vocab : Nat
  policy : Nat
  tflags : Nat
  ctx : Nat
  inAddr : Nat
  inLen : Nat
  outCap : Nat
  outAddr : Nat
  deriving DecidableEq, Repr

/-- Fields of GRAMMAR_MASK (18_queues R585). -/
structure MaskArgs where
  grammar : Nat
  dua : Nat
  cnt : Nat
  inAddr : Nat
  outAddr : Nat
  outCap : Nat
  deriving DecidableEq, Repr

/-- Fields of GENERATE (13_serving R430). -/
structure GenArgs where
  session : Nat
  gflags : Nat
  policy : Nat
  inAddr : Nat
  inLen : Nat
  maxNew : Nat
  firstDl : Nat
  endDl : Nat
  deriving DecidableEq, Repr

/-- Fields of SHADOW_FEED (18_queues R585). -/
structure FeedArgs where
  session : Nat
  cnt : Nat
  pturn : Nat
  addr : Nat
  dua : Nat
  deriving DecidableEq, Repr

/-- Fields of CLASS_SET (18_queues R585). -/
structure ClassArgs where
  cls : Nat
  weight : Nat
  quantum : Nat
  setQuantum : Nat
  deriving DecidableEq, Repr

/-- Fields of parameter block of CHAIN (18_queues R587). -/
structure ChainArgs where
  encImg : Nat
  qvocab : Nat
  index : Nat
  nprobe : Nat
  k : Nat
  ef : Nat
  maxVisit : Nat
  attrMask : Nat
  chflags : Nat
  rrImg : Nat
  rrCnt : Nat
  rrTop : Nat
  rrPairLimit : Nat
  template : Nat
  budget : Nat
  session : Nat
  maxNew : Nat
  firstDl : Nat
  endDl : Nat
  stageCpl : Nat
  policy : Nat
  queryAddr : Nat
  queryLen : Nat
  deriving DecidableEq, Repr

/-- Parameter block of TEMPLATE_LOAD (18_queues R589): vocabulary, the five lengths, the token IDs. -/
structure TemplateArgs where
  vocab : Nat
  lens  : List Nat
  toks  : List Nat
  deriving DecidableEq, Repr

/-- The session descriptor of SESSION_OPEN (13_serving R427) with the STREAMQ of its command area (18_queues R585). -/
structure OpenArgs where
  streamQ : Nat
  model : Nat
  vocab : Nat
  grammar : Nat
  cls : Nat
  sflags : Nat
  glaze : Nat
  maxCtx : Nat
  maxNew : Nat
  temp : Nat
  seed : Nat
  draft : Nat
  specMax : Nat
  proposer : Nat
  stopCnt : Nat
  stopLen : List Nat
  kvBlocks : Nat
  stops : List (List Byte)
  deriving DecidableEq, Repr

/-- What holds operation records that issue: a serving batch or an admitted GRAPH_RUN (16_scheduling R514). -/
inductive Owner where
  | batch (b : Nat)
  | run (r : Nat)
  deriving DecidableEq, Repr

/-- How a host memory read of the hub fails (18_queues R578). -/
inductive ReadErr where
  | unsupported
  | abort
  | poisoned
  deriving DecidableEq, Repr

/-- A memory that patrol scrub reads (21_reliability R632) and where in it: a tile's scratchpad or accumulator word, a
tier T0 or T1 frame, or hub SRAM. -/
inductive Region where
  | tileWord (tile : Nat) (addr : Nat)
  | frame (tier die frame : Nat)
  | hubSram (addr : Nat)
  deriving DecidableEq, Repr

/-- What a compute check found on a tile (21_reliability R638). -/
inductive FaultKind where
  | residue
  | knownAnswer
  | parity
  | uncorrectable (addr : Nat)
  deriving DecidableEq, Repr

/-- The tile counters whose cycles a record's operand tells: lost port cycles, waits for a page, array holds, drains, and the gated
cell-cycles of passes that the model runs without their schedule (ATTEND, GRAPH_WALK, glaze pairs; log 37)
(04_tile R102, R135; 05_array_dataflow R162 to R164, R170, R179). -/
inductive CycleKind where
  | bankConflict
  | dmaStall
  | arrayHold
  | drain
  | gated
  deriving DecidableEq, Repr

/-- The causes of a held interval of a step, in their order of priority (08_memory_tiers R268). -/
inductive StallCause where
  | t2Media
  | parity
  | t2Latency
  | regulator
  | t1Bank
  deriving DecidableEq, Repr

/-- What happens to a record while it runs, of which the block itself decides nothing (log 37): the tile whose compute check
strikes it (21_reliability R638); the tile of another partition that a packet of it is delivered to (04_tile R129); words that a
read of it corrects (04_tile R133, 21_reliability R632) and frames with an uncorrectable word that it reads (21_reliability R634);
the status of a failing gang of a GANG_REDUCE, 0 for none (06_operations R191); its measured pass time in ns, 0 for none
(06_operations R182); the cycles its tiles count; the intervals it was held in a step, each with its cause and its ns
(08_memory_tiers R268, R271). -/
structure Issue where
  strike : Option (Nat × FaultKind) := none
  dropped : Option Nat := none
  corrected : List Region := []
  broken : List Region := []
  gang : Nat := 0
  passNs : Nat := 0
  cycles : List (Nat × CycleKind × Nat) := []
  holds : List (StallCause × Nat) := []
  deriving DecidableEq, Repr

/-- A path of the regulators: REG, and for REG_D2D the dies a packet goes from and to, 8 the hub die (16_scheduling R530;
01_architecture R20). -/
structure RegPath where
  reg : Nat
  dies : Nat × Nat := (0, 0)
  deriving DecidableEq, Repr

/-- What a verification judges: its rows of target logits (log 11), and the ns it waited for a mask (12_constrained_decoding R413). -/
structure Judged where
  logits : List (List Word)
  maskWaitNs : Nat := 0
  deriving DecidableEq, Repr

/-- Flits of a head since its last recovery: replayed, and corrected by FEC (17_host_link R557, R560). -/
structure FlitCounts where
  replayed : Nat
  corrected : Nat := 0
  deriving DecidableEq, Repr

/-- The alarm sources of 22_security R670, in the table's order. -/
inductive AlarmSource where
  | lidMesh
  | tamperLoop
  | voltageGlitch
  | clockGlitch
  | temperatureGlitch
  | debugFailure
  deriving DecidableEq, Repr

/-- What firmware decides when it releases a batch (15_wheel R503): the module's token budget B_mod, the prefill chunk,
for each batch (in the order in which the batches form) its LRS by layer and its LVS, in ns after the boundary, the sessions whose
deadline cannot be met, and the CHAINs of which it places stages, each with the number of stages placed (01_architecture R29). -/
structure Policy where
  bMod : Nat
  chunk : Nat
  lrs : List (List (Nat × Nat))
  lvs : List Nat
  unreachable : List Nat
  chains : List (Ref × Nat) := []
  deriving DecidableEq, Repr

/-- What a head finds when it trains (17_host_link R538, R542, R554): whether the partner trained, whether it negotiated
LD-IDs, the rate (0, 1, 2), lanes, flit size, partner word, and the lane figures. -/
structure TrainArgs where
  ok : Bool
  mld : Bool
  rate : Nat
  width : Nat
  flit256 : Bool
  latOpt : Bool
  partner : Nat
  lanes : List (List Nat)
  deriving DecidableEq, Repr

/-- One command of the block. -/
inductive Instr where
  /-- IDENTIFY (R595). -/
  | identify (r : Ref) (a : QArgs)
  /-- QUEUE_RESET (R580). -/
  | queueReset (r : Ref) (a : HArgs)
  /-- COUNTER_QUERY (R586). -/
  | counterQuery (r : Ref) (a : QArgs)
  /-- DIAG_QUERY (R585). -/
  | diagQuery (r : Ref) (a : QArgs)
  /-- CONE_PROGRAM (R691). -/
  | coneProgram (r : Ref) (a : ConeArgs)
  /-- SNAPSHOT_READ (R693). -/
  | snapshotRead (r : Ref) (a : QArgs)
  /-- LOG_READ (R685). -/
  | logRead (r : Ref) (a : LogArgs)
  /-- POWER_SET (R616). -/
  | powerSet (r : Ref) (state : Nat)
  /-- TIME_SET (R490). -/
  | timeSet (r : Ref) (seconds : Nat)
  /-- LINK_QUERY (R555). -/
  | linkQuery (r : Ref) (a : QArgs)
  /-- IMAGE_LOAD (R213). -/
  | imageLoad (r : Ref) (a : SArgs)
  /-- IMAGE_UNLOAD (R214). -/
  | imageUnload (r : Ref) (a : HArgs)
  /-- GRAPH_RUN (R202). -/
  | graphRun (r : Ref) (image : Nat) (binds : List Nat)
  /-- IMAGE_QUERY (R206). -/
  | imageQuery (r : Ref) (a : QArgs)
  /-- INDEX_CREATE (R588). -/
  | indexCreate (r : Ref) (a : IndexArgs)
  /-- INDEX_LOAD (R588). -/
  | indexLoad (r : Ref) (a : IndexArgs)
  /-- INDEX_DROP (R316). -/
  | indexDrop (r : Ref) (a : HArgs)
  /-- INDEX_QUERY (R329). -/
  | indexQuery (r : Ref) (a : QArgs)
  /-- INSERT (R308). -/
  | insert (r : Ref) (a : InsertArgs)
  /-- DELETE (R308). -/
  | delete (r : Ref) (a : InsertArgs)
  /-- SEARCH (R301). -/
  | search (r : Ref) (a : SearchArgs)
  /-- WEDGE (R311). -/
  | wedge (r : Ref) (a : WedgeArgs)
  /-- SHARD_MERGE (R318). -/
  | shardMerge (r : Ref) (a : ShardArgs)
  /-- RERANK (R319). -/
  | rerank (r : Ref) (a : RerankArgs) (scores : List Word)
  /-- PACK (R321). -/
  | pack (r : Ref) (a : PackArgs)
  /-- TEMPLATE_LOAD (R589). -/
  | templateLoad (r : Ref) (a : TemplateArgs)
  /-- TEMPLATE_UNLOAD (R589). -/
  | templateUnload (r : Ref) (a : HArgs)
  /-- TABLE_CREATE (R359). -/
  | tableCreate (r : Ref) (a : TableArgs)
  /-- TABLE_DROP (R355). -/
  | tableDrop (r : Ref) (a : HArgs)
  /-- TABLE_STAGE (R352). -/
  | tableStage (r : Ref) (a : StageArgs)
  /-- TABLE_WRITE (R359). -/
  | tableWrite (r : Ref) (a : SArgs)
  /-- TABLE_PUBLISH (R351). -/
  | tablePublish (r : Ref) (a : HArgs)
  /-- TABLE_DISCARD (R359). -/
  | tableDiscard (r : Ref) (a : HArgs)
  /-- EMBED_LOOKUP (R339). -/
  | embedLookup (r : Ref) (a : EmbedArgs)
  /-- EMBED_UPDATE (R345). -/
  | embedUpdate (r : Ref) (a : EmbedArgs)
  /-- TABLE_READ (R359). -/
  | tableRead (r : Ref) (a : TReadArgs)
  /-- TABLE_QUERY (R359). -/
  | tableQuery (r : Ref) (a : QArgs)
  /-- VOCAB_LOAD (R366). -/
  | vocabLoad (r : Ref) (a : SArgs)
  /-- VOCAB_UNLOAD (R368). -/
  | vocabUnload (r : Ref) (a : HArgs)
  /-- VOCAB_QUERY (R394). -/
  | vocabQuery (r : Ref) (a : QArgs)
  /-- TOKENISE (R381). -/
  | tokenise (r : Ref) (a : TextArgs)
  /-- DETOKENISE (R383). -/
  | detokenise (r : Ref) (a : TextArgs)
  /-- GRAMMAR_LOAD (R404). -/
  | grammarLoad (r : Ref) (a : SArgs)
  /-- GRAMMAR_UNLOAD (R404). -/
  | grammarUnload (r : Ref) (a : HArgs)
  /-- GRAMMAR_QUERY (R422). -/
  | grammarQuery (r : Ref) (a : QArgs)
  /-- GRAMMAR_MASK (R423). -/
  | grammarMask (r : Ref) (a : MaskArgs)
  /-- SESSION_OPEN (R428). -/
  | sessionOpen (r : Ref) (a : OpenArgs)
  /-- GENERATE (R430). -/
  | generate (r : Ref) (a : GenArgs)
  /-- SESSION_CANCEL (R456). -/
  | sessionCancel (r : Ref) (a : HArgs)
  /-- SESSION_CLOSE (R457). -/
  | sessionClose (r : Ref) (a : HArgs)
  /-- SESSION_QUERY (R462). -/
  | sessionQuery (r : Ref) (a : QArgs)
  /-- GLAZE_REGISTER (R450). -/
  | glazeRegister (r : Ref) (a : SArgs)
  /-- GLAZE_DEREGISTER (R451). -/
  | glazeDeregister (r : Ref) (a : HArgs)
  /-- GLAZE_QUERY (R462). -/
  | glazeQuery (r : Ref) (a : QArgs)
  /-- PREFIX_FLUSH (R462). -/
  | prefixFlush (r : Ref)
  /-- SHADOW_FEED (R458). -/
  | shadowFeed (r : Ref) (a : FeedArgs)
  /-- SESSION_PROMOTE (R460). -/
  | sessionPromote (r : Ref) (a : HArgs)
  /-- CLASS_SET (R445). -/
  | classSet (r : Ref) (a : ClassArgs)
  /-- CHAIN (R325). -/
  | chain (r : Ref) (a : ChainArgs)
  /-- PAGE_ALLOC (R256). -/
  | pageAlloc (r : Ref) (a : MArgs)
  /-- PAGE_FREE (R284). -/
  | pageFree (r : Ref) (a : MArgs)
  /-- PAGE_MOVE (R285). -/
  | pageMove (r : Ref) (a : MArgs)
  /-- PAGE_PIN (R284). -/
  | pagePin (r : Ref) (a : MArgs)
  /-- PAGE_UNPIN (R284). -/
  | pageUnpin (r : Ref) (a : MArgs)
  /-- HDM_MAP (R272). -/
  | hdmMap (r : Ref) (a : MArgs)
  /-- HDM_UNMAP (R275). -/
  | hdmUnmap (r : Ref) (a : MArgs)
  /-- PAGE_WRITE (R251). -/
  | pageWrite (r : Ref) (a : MArgs)
  /-- PAGE_READ (R284). -/
  | pageRead (r : Ref) (a : MArgs)
  /-- TIER_QUERY (R248). -/
  | tierQuery (r : Ref) (a : MArgs)
  /-- POOL_STATS (R284). -/
  | poolStats (r : Ref) (a : QArgs)
  /-- EXTENT_CREATE (R284). -/
  | extentCreate (r : Ref) (a : EArgs)
  /-- EXTENT_WRITE (R281). -/
  | extentWrite (r : Ref) (a : EArgs)
  /-- EXTENT_READ (R284). -/
  | extentRead (r : Ref) (a : EArgs)
  /-- EXTENT_DELETE (R284). -/
  | extentDelete (r : Ref) (a : EArgs)
  /-- FLASH_HEALTH (R283). -/
  | flashHealth (r : Ref) (a : QArgs)
  /-- SQ_TAIL (R564). -/
  | sqTail (part queue len : Nat) (value : BitVec 64) (stores : List Host.Cell)
  /-- CQ_HEAD (R571). -/
  | cqHead (part queue len : Nat) (value : BitVec 64)
  /-- STR_HEAD (R575). -/
  | strHead (part queue len : Nat) (value : BitVec 64)
  /-- DESCRIPTOR_FETCH (R566). -/
  | descriptorFetch (part queue : Nat)
  /-- PARAMETER_BLOCK_READ (R578). -/
  | parameterBlockRead (r : Ref)
  /-- HOST_READ_TIMEOUT (R578). -/
  | hostReadTimeout (part queue : Nat) (cid : Option Nat)
  /-- ORDERED_START (R577). -/
  | orderedStart (r : Ref)
  /-- REGISTER_WRITE (R594). -/
  | registerWrite (part offset size : Nat) (value : BitVec 64)
  /-- REFUSE_LOG_CLEAR (R595). -/
  | refuseLogClear (part : Nat) (value : Word)
  /-- QUEUE_ENABLE (R600). -/
  | queueEnable (part queue : Nat) (value : Word)
  /-- QUEUE_DISABLE (R600). -/
  | queueDisable (part queue : Nat) (value : Word)
  /-- PARTITION_ENABLE (R610). -/
  | partitionEnable (part slot : Nat) (value : Word)
  /-- PARTITION_DISABLE (R532). -/
  | partitionDisable (part slot : Nat) (value : Word)
  /-- CONE_FIRE (R606). -/
  | coneFire (part : Nat) (value : Word)
  /-- DISABLE_PENDING_CLEAR (R532). -/
  | disablePendingClear (part : Nat) (queue : Option Nat)
  /-- QUEUE_RESET_DONE (R580). -/
  | queueResetDone (part queue : Nat)
  /-- TURN_BOUNDARY (R494). -/
  | turnBoundary
  /-- KV_EXHAUSTED (R437). -/
  | kvExhausted (session : Nat)
  /-- BATCH_RELEASE (R448). -/
  | batchRelease (pol : Policy)
  /-- BATCH_FALLBACK (R504). -/
  | batchFallback
  /-- TASK_PLACE (R516). -/
  | taskPlace (task : Nat)
  /-- AFFINITY_QUEUE_JOIN (R516). -/
  | affinityQueueJoin (task : Nat) (bytesOnDie : List Nat)
  /-- TILE_RELEASE (R517). -/
  | tileRelease (task : Nat) (heldNs : Nat)
  /-- TILE_ZEROING (R132). -/
  | tileZeroing (tile : Nat)
  /-- SAVE_COMPLETE (R527). -/
  | saveComplete (task : Nat)
  /-- RESTORE_COMPLETE (R528). -/
  | restoreComplete (task : Nat)
  /-- RECORD_ISSUE (R202). -/
  | recordIssue (o : Owner) (index : Nat) (told : Issue)
  /-- REGULATOR_PIECE (R531). -/
  | regulatorPiece (part : Nat) (path : RegPath) (bytes refill : Nat)
  /-- LAYER_CLOSE (R78). -/
  | layerClose (batch closeNs : Nat)
  /-- REFIRE_DECISION (R82). -/
  | refireDecision (batch : Nat)
  /-- DRAFT_PASS (R472). -/
  | draftPass (session : Nat) (logits : List Word) (tileUs : Nat)
  /-- MASK_BUILD (R410). -/
  | maskBuild (session : Nat)
  /-- LVS (R474). -/
  | lvs (batch : Nat)
  /-- VERIFICATION (R475). -/
  | verification (session : Nat) (judged : Judged)
  /-- RE_EXECUTION (R639). -/
  | reExecution (o : Owner) (startNs : Nat)
  /-- COMPUTE_WINDOW_END (R495). -/
  | computeWindowEnd
  /-- CHAIN_STAGE_COMPLETE (R326). -/
  | chainStageComplete (r : Ref) (code : Nat) (scores : List Word)
  /-- MIGRATION_START (R262). -/
  | migrationStart (engine : Nat)
  /-- MIGRATION_SWITCH (R262). -/
  | migrationSwitch (page : Nat) (destOk : Bool)
  /-- T2_PAGE_READ (R278). -/
  | t2PageRead (page : Nat) (media : Nat)
  /-- EXTENT_COMMIT (R281). -/
  | extentCommit (extent : Nat)
  /-- FLASH_REFRESH (R279). -/
  | flashRefresh (blocks mediaBytes : Nat)
  /-- PATROL_READ (R279). -/
  | patrolRead (passDone : Bool)
  /-- TIER_READONLY (R282). -/
  | tierReadonly (spare : Nat)
  /-- PAGE_FREE_COMPLETE (R284). -/
  | pageFreeComplete (r : Ref)
  /-- IMAGE_UNLOAD_COMPLETE (R214). -/
  | imageUnloadComplete (part image : Nat)
  /-- TEMPLATE_FREE (R589). -/
  | templateFree (part template : Nat)
  /-- VERSION_RETIRE (R351). -/
  | versionRetire (part table version : Nat)
  /-- WEDGE_RELEASE (R312). -/
  | wedgeRelease (part index : Nat)
  /-- WEDGE_FORCED (R314). -/
  | wedgeForced (part index : Nat)
  /-- PATROL_SCRUB (R632). -/
  | patrolScrub (region : Region) (uncorrectable : Bool)
  /-- HUB_SRAM_RELOAD (R635). -/
  | hubSramReload (addr : Nat)
  /-- PARITY_REBUILD (R276). -/
  | parityRebuild (page : Nat)
  /-- KNOWN_ANSWER_TEST (R637). -/
  | knownAnswerTest (tile : Nat) (pass : Bool)
  /-- DOMAIN_LOST (R613). -/
  | domainLost (domain : Nat)
  /-- RENOB_LINK_FAIL (R643). -/
  | renobLinkFail (link lanes : Nat)
  /-- GOVERNOR_STEP (R620). -/
  | governorStep (fractions : List Nat) (withheld : List Nat)
  /-- CURRENT_CLAMP (R621). -/
  | currentClamp
  /-- CLAMP_HOLD_END (R621). -/
  | clampHoldEnd
  /-- CLAMP_RELEASE (R621). -/
  | clampRelease
  /-- SUSTAINED_LIMIT (R621). -/
  | sustainedLimit
  /-- SUSTAINED_LIMIT_RELEASE (R621). -/
  | sustainedLimitRelease
  /-- DIE_HOT (R621). -/
  | dieHot (die : Nat) (temps : List Int)
  /-- DIE_TRIP (R621). -/
  | dieTrip (die : Nat)
  /-- SENSOR_SAMPLE (R626). -/
  | sensorSample (sensor : Nat) (value : Int)
  /-- SENSOR_STALE (R626). -/
  | sensorStale (sensor : Nat)
  /-- INPUT_LOW (R622). -/
  | inputLow (low : Bool)
  /-- INPUT_LOSS (R622). -/
  | inputLoss
  /-- INPUT_OVERVOLTAGE (R622). -/
  | inputOvervoltage
  /-- QUIESCENCE (R616). -/
  | quiescence
  /-- T0_EVACUATION (R617). -/
  | t0Evacuation
  /-- POWER_STATE_EXIT (R618). -/
  | powerStateExit
  /-- PPS_EDGE (R484). -/
  | ppsEdge (widthNs : Nat) (errNs : Int) (phaseNs : Int)
  /-- REF_PRESENCE_LOSS (R484). -/
  | refPresenceLoss
  /-- REF_FREQUENCY_CHECK (R483). -/
  | refFrequencyCheck (ref25 : Bool) (ppb : Int)
  /-- PPS_CONTINUITY_LOSS (R483). -/
  | ppsContinuityLoss
  /-- HOLDOVER_LIMIT (R485). -/
  | holdoverLimit
  /-- ACQUIRE_TIMEOUT (R485). -/
  | acquireTimeout
  /-- SECOND_MARK (R489). -/
  | secondMark (intoTurnNs : Nat)
  /-- LOG_FLUSH (R684). -/
  | logFlush
  /-- CONE_IN (R689). -/
  | coneIn (widthNs : Nat)
  /-- PROGRAMMED_TRIGGER (R691). -/
  | programmedTrigger (part slot : Nat)
  /-- SNAPSHOT_STORE (R692). -/
  | snapshotStore
  /-- LINK_TRAINING (R538). -/
  | linkTraining (head : Nat) (a : TrainArgs)
  /-- LANE_EXCLUDED (R556). -/
  | laneExcluded (head lane : Nat)
  /-- IDE_FAILURE (R551). -/
  | ideFailure (head : Nat)
  /-- VIRAL (R559). -/
  | viral (head : Nat)
  /-- CXL_MEM_READ (R274). -/
  | cxlMemRead (part offset len : Nat)
  /-- CXL_MEM_WRITE (R274). -/
  | cxlMemWrite (part offset : Nat) (data : List Byte)
  /-- COLD_START (R696). -/
  | coldStart (meshOk loopOk : Bool)
  /-- FIRMWARE_VERIFY (R662). -/
  | firmwareVerify (component : Nat)
  /-- FTL_MOUNT (R696). -/
  | ftlMount
  /-- HBM_TRAINING (R699). -/
  | hbmTraining (failed : List Nat)
  /-- T0_MARCH (R699). -/
  | t0March (failed : List (Nat × Nat))
  /-- TILE_BIST (R699). -/
  | tileBist (failed : List Nat) (railFault : List Nat)
  /-- READY (R700). -/
  | ready (hubOk : Bool)
  /-- PERST_ASSERT (R540). -/
  | perstAssert (head us : Nat)
  /-- PERST_DEASSERT (R697). -/
  | perstDeassert (head : Nat)
  /-- FUNCTION_LEVEL_RESET (R705). -/
  | functionLevelReset (part : Nat)
  /-- ALARM (R671). -/
  | alarm (source : AlarmSource) (within1s : Bool)
  /-- DEBUG_CHALLENGE (R672). -/
  | debugChallenge
  /-- DEBUG_RESPONSE (R673). -/
  | debugResponse (scope : Nat) (signature : List Byte)
  /-- GET_VERSION (R666). -/
  | getVersion (part : Nat)
  /-- GET_CAPABILITIES (R666). -/
  | getCapabilities (part : Nat)
  /-- NEGOTIATE_ALGORITHMS (R667). -/
  | negotiateAlgorithms (part : Nat) (offersAll : Bool)
  /-- GET_DIGESTS (R666). -/
  | getDigests (part : Nat)
  /-- GET_CERTIFICATE (R666). -/
  | getCertificate (part slot : Nat)
  /-- CHALLENGE (R666). -/
  | challenge (part : Nat) (nonce : List Byte)
  /-- GET_MEASUREMENTS (R666). -/
  | getMeasurements (part index : Nat) (signed : Bool)
  /-- KEY_EXCHANGE (R667). -/
  | keyExchange (part : Nat) (encapKey : List Byte)
  /-- FINISH (R666). -/
  | finish (part : Nat) (ok : Bool)
  /-- END_SESSION (R666). -/
  | endSession (part : Nat)
  /-- HEARTBEAT (R666). -/
  | heartbeat (part : Nat)
  /-- KEY_UPDATE (R666). -/
  | keyUpdate (part : Nat)
  /-- IDE_KM (R550). -/
  | ideKm (part : Nat) (memStream skid : Bool)
  /-- TRUST_GET (R668). -/
  | trustGet (part : Nat)
  /-- TRUST_SET (R669). -/
  | trustSet (part cnt : Nat) (list : List (List Byte)) (signature : List Byte)
  /-- KEY_ROTATE (R668). -/
  | keyRotate (part : Nat)
  /-- MCTP_CONTROL (R676). -/
  | mctpControl (command eid : Nat)
  /-- PLDM_REQUEST (R678). -/
  | pldmRequest (type command id : Nat)
  /-- POWER_CAP (R620). -/
  | powerCap (watts : Nat)
  /-- REQUEST_UPDATE (R686). -/
  | requestUpdate (component version : Nat) (sigOk deviceOk : Bool)
  /-- ACTIVATE_FIRMWARE (R687). -/
  | activateFirmware (components : List Nat) (floors : Option (List Nat))
  /-- FM_IDENTIFY (R552). -/
  | fmIdentify
  /-- GET_LD_INFO (R552). -/
  | getLdInfo
  /-- GET_LD_ALLOCATIONS (R552). -/
  | getLdAllocations
  /-- SET_LD_ALLOCATIONS (R552). -/
  | setLdAllocations (first : Nat) (sizes : List Nat)
  /-- GET_QOS_CONTROL (R552). -/
  | getQosControl (head : Nat)
  /-- SET_QOS_CONTROL (R552). -/
  | setQosControl (head control thresholds : Nat)
  /-- GET_QOS_STATUS (R552). -/
  | getQosStatus (head : Nat)
  /-- GET_QOS_ALLOCATED_BW (R552). -/
  | getQosAllocatedBw (reg : Nat)
  /-- SET_QOS_ALLOCATED_BW (R553). -/
  | setQosAllocatedBw (reg first : Nat) (fractions : List Nat)
  /-- GET_QOS_BW_LIMIT (R553). -/
  | getQosBwLimit (reg : Nat)
  /-- SET_QOS_BW_LIMIT (R553). -/
  | setQosBwLimit (reg first : Nat) (fractions : List Nat)
  /-- GET_MULTI_HEADED_INFO (R552). -/
  | getMultiHeadedInfo
  /-- GET_HEAD_INFO (R552). -/
  | getHeadInfo
  /-- IDENTIFY_MEMORY_DEVICE (R544). -/
  | identifyMemoryDevice (part : Nat)
  /-- GET_SUPPORTED_LOGS (R544). -/
  | getSupportedLogs (part : Nat)
  /-- GET_LOG (R544). -/
  | getLog (part : Nat)
  /-- GET_EVENT_RECORDS (R544). -/
  | getEventRecords (part : Nat)
  /-- CLEAR_EVENT_RECORDS (R544). -/
  | clearEventRecords (part : Nat)
  /-- GET_HEALTH_INFO (R544). -/
  | getHealthInfo (part : Nat)
  /-- GET_POISON_LIST (R544). -/
  | getPoisonList (part : Nat)
  /-- MAILBOX_UNSUPPORTED (R544). -/
  | mailboxUnsupported (part opcode : Nat)
  /-- I3C_TARGET_RESET (R718). -/
  | i3cTargetReset (heldUs : Nat)
  /-- HOST_READ_ERROR (R578). -/
  | hostReadError (part queue : Nat) (cid : Option Nat) (kind : ReadErr)
  /-- HDM_DECODER_COMMIT (R545). -/
  | hdmDecoderCommit (part ways : Nat)
  /-- MIRROR_REBUILD (R276). -/
  | mirrorRebuild (page : Nat)
  /-- POWER_STATE_ENTRY (R615). -/
  | powerStateEntry
  /-- LINK_RECOVERY (R557). -/
  | linkRecovery (head : Nat) (flits : FlitCounts) (lateRecs : Nat) (lanes : List (List Nat))
  deriving DecidableEq, Repr

end Sys2Proof
end

