-- ==== Sys2Proof/Decode.lean ====
section
/-! DEFINITION. What a word of table bits spells. No row of spec/opcode_table.json gives bits: the block takes commands and has
no decoder of a processor's kind, so a word spells none. -/

namespace Sys2Proof

/-- The command that a word of `nbits` bits spells by the table's bits: none, since the table gives no row bits. -/
def decodeTableWord (_nbits _w : Nat) : Option Instr := none

end Sys2Proof
end

