-- ==== Sys2Proof/Config.lean ====
section
/-! DEFINITION. What an implementation fixes and what the spec leaves open: uninterpreted constants, none with a body.
Each is named in an assumption log entry; nothing in Lean can evaluate one. -/

namespace Sys2Proof.Config

/-- PRESUMED (log 7): SHAKE256 with an output length in bytes (13_serving R439, 22_security R664); the spec names the
function, FIPS 202 defines it. -/
opaque shake256 : List Byte → Nat → List Byte

/-- PRESUMED (log 7): KMAC256 key, message, customisation, output length (22_security R655). -/
opaque kmac256 : List Byte → List Byte → List Byte → Nat → List Byte

/-- PRESUMED (log 7): ML-DSA-65 verification of (message, signature, context) against some key whose hash is in a list
(06_operations R211, 22_security R662, R669, R672). -/
opaque mlDsaVerify : List Byte → List Byte → Nat → List (List Byte) → Bool

/-- Per module (log 7): the SHAKE256-256 hash of the Lenlet release root's public key, the one entry of the default image trust
list (22_security R669). -/
opaque releaseRoot : Nat

/-- PRESUMED (log 7): ML-DSA-65 signature by the identity key (22_security R657). -/
opaque mlDsaSign : List Byte → List Byte

/-- PRESUMED (log 7): the shared secret that ML-KEM-768 decapsulates from a KEYWRAP under partition p's key pair of generation GEN_p
(06_operations R212; 22_security R658, R659). -/
opaque mlKemDecaps : Nat → Nat → List Byte → List Byte

/-- PRESUMED (log 7): AES-256-GCM decryption under a key, a nonce and additional authenticated data of a ciphertext with its tag:
plaintext, or none where the tag fails (06_operations R212, R213 step 3). -/
opaque aesGcmOpen : List Byte → List Byte → List Byte → List Byte → List Byte → Option (List Byte)

/-- PRESUMED (log 7): responder ciphertext and shared secret for a requester's ML-KEM-768 encapsulation key and a draw
(22_security R667). -/
opaque mlKemEncaps : List Byte → Nat → List Byte × List Byte

/-- PRESUMED (log 7): the partition certificate of partition p and generation GEN_p, and the identity chain as the
pair's first argument selects (22_security R657, R658). -/
opaque certificate : Nat → Nat → Nat → List Byte

/-- PRESUMED (log 7): the 64-byte digest of a firmware component of some version (22_security R664). -/
opaque componentDigest : Nat → Nat → List Byte

/-- PRESUMED (log 7): the debug transcript key, derived from K_ROOT (22_security R655). -/
opaque debugKey : List Byte

/-- PRESUMED (log 7): the answer bytes that another standard (PLDM, MCTP, SPDM, CXL) fixes for a request code in a
state summary; the spec names the answer and not its bytes (23_management R676 to R678). -/
opaque standardAnswer : Nat → List Nat → List Byte

/-- Free value (log 9): the n-th draw of the block's free values. -/
opaque freeNat : Nat → Nat

/-- Free value (log 9): in a sum of FP32 terms, which pair of the n terms left is added next (02 R51, R57, R67). -/
opaque sumOrder : Nat → Nat → Nat

/-- DEDUCED (log 8): the bits of EXP, a fixed function of its input (04_tile R116). -/
opaque expBits : Word → Word
/-- DEDUCED (log 8): the bits of EXP2 (04_tile R116). -/
opaque exp2Bits : Word → Word
/-- DEDUCED (log 8): the bits of LOG (04_tile R116). -/
opaque logBits : Word → Word
/-- DEDUCED (log 8): the bits of LOG2 (04_tile R116). -/
opaque log2Bits : Word → Word
/-- DEDUCED (log 8): the bits of RCP (04_tile R116). -/
opaque rcpBits : Word → Word
/-- DEDUCED (log 8): the bits of RSQRT (04_tile R116). -/
opaque rsqrtBits : Word → Word

/-- Free value (log 8): the first-order filter of a sensor with a time constant of 4 sample periods: the last output (none
before the first) and the median of 3, in thousandths of the sensor's unit (20_power_thermal R626). -/
opaque filterStep : Option Int → Int → Int

/-- Free value (log 16): the output bytes of an operation for which 06_operations R188 gives no parameter layout:
opcode, record bytes, input bytes, output length, draw. -/
opaque catalogueOut : Nat → List Byte → List (List Byte) → Nat → Nat → List Byte

/-- Free value (log 16): which operation of 04_tile R115 a record of ELEM or REDUCE names, by opcode and record bytes; no rule
lays their parameters out (06_operations R188). -/
opaque vectorOp : Nat → List Byte → Nat

/-- Per module (log 5): silicon stepping STEP (19_registers R595). -/
opaque step : BitVec 8
/-- Per module (log 5): ORDER_CODE is 1, VX-968-F14 (00_scope R2, 19_registers R595). -/
opaque isF14 : Bool
/-- Per module (log 5): SERIAL (19_registers R595). -/
opaque serial : BitVec 64
/-- Per module (log 5): the strap HEAD_MODE (17_host_link R539). -/
opaque headModeStrap : Bool
/-- Per module (log 5): the straps SLOT_ID (25_module R716). -/
opaque slotId : BitVec 4

/-- DEDUCED (log 23): class of a code point for CLASS splitting, from the Unicode 15.1 property tables (11_text_engine
R376): 0 LETTER, 1 DIGIT, 2 SPACE, 3 OTHER, for the code points outside ASCII. -/
opaque unicodeClass : Nat → Nat

/-- Free value (log 9): the tokens of a unigram piece for which no path has a score above −∞ (11_text_engine R379). -/
opaque noPath : List (List Byte) → List Nat

/-- Free value (log 9): the passages that a passage store extent holds, ITEM_ID, insert epoch and tokens each; no rule gives
the store's layout (18_queues R588). -/
opaque passageStore : List Byte → List (Nat × Nat × List Nat)

/-- Free value (log 9): SEV of a log record, 0 to 3, by class, event and draw; 23_management R682 lists the values and no
rule says which event carries which. -/
opaque logSev : Nat → Nat → Nat

end Sys2Proof.Config
end

