-- ==== Sys2Proof/Machine/State.lean ====
section
/-! DEFINITION. The state of the block as plain data: every register, queue, table, counter, mode and pin the spec gives it,
each field's docstring naming its width and its rule; the values after reset stand beside the fields. -/

set_option maxRecDepth 4000

namespace Sys2Proof.Machine

/-- A memory: address and byte, addresses strictly rising, no byte equal to zero, what an unlisted address reads as
(logs 3 and 4). -/
abbrev Mem := List Host.Cell

/-- STATE of a queue (18_queues R579). -/
inductive QState where
  | disabled
  | enabled
  | fetchError
  | resetting
  | disablePending
  deriving DecidableEq, Repr

/-- Where a fetched command stands (18_queues R567, R568, R577). -/
inductive CmdSt where
  | pbWait
  | ordWait
  | ready
  | running
  deriving DecidableEq, Repr

/-- State of a session (13_serving R429). -/
inductive SessSt where
  | idle
  | queued
  | running
  | shadow
  deriving DecidableEq, Repr

/-- What a task works on: a serving batch, one record of a run, or a stage of a command (16_scheduling R514). -/
inductive Work where
  | batch (b : Nat)
  | record (run idx : Nat)
  | stage (tag : Nat)
  deriving DecidableEq, Repr

/-- State of a task (16_scheduling R516, R525 to R528). -/
inductive TaskSt where
  | scanning
  | affinity
  | placed
  | saving
  | saved
  | restoring
  deriving DecidableEq, Repr

/-- Where the module stands in its start-up sequence (24_startup R696). -/
inductive Stage where
  | off
  | held
  | verify
  | mount
  | hbm
  | march
  | bist
  | wait
  | up
  | failed
  deriving DecidableEq, Repr

/-- The last answer the block put on a link or transport (log 14): none, data, a refusal by a code, or an SPDM, mailbox,
PLDM or fabric answer of numbers and bytes. -/
inductive Reply where
  | none
  | data (bytes : List Byte)
  | poison
  | allOnes
  | drop
  | code (n : Nat)
  | answer (kind : Nat) (nums : List Nat) (bytes : List Byte)
  deriving DecidableEq, Repr

/-- Why the block stops with a fault. No command of this block ends in one: every rule of the spec gives an effect, so the
type has one constructor, which no meaning raises (safe). -/
inductive Fault where
  /-- Raised by no command; safe. -/
  | unreachable
  deriving DecidableEq, Repr

/-- Why a command is refused. -/
inductive Refusal where
  /-- Raised by an arm of exec whose command has no meaning yet; safe. -/
  | notModelled (mnemonic : String)
  deriving DecidableEq, Repr

/-- One queue of a partition: its set-up slot (R599), its doorbell words (R563) and the hub's ring bookkeeping (R570, R571, R574, R576). -/
structure Queue where
  /-- 1 bit ENABLE (19_registers R599). -/
  enable : Bool := false
  /-- 3 bits STATE: DISABLED, ENABLED, FETCH_ERROR, RESETTING, DISABLE_PENDING (18_queues R579, 19_registers R599). -/
  state : QState := .disabled
  /-- 1 bit PRIV (19_registers R599). -/
  priv : Bool := false
  /-- 1 bit SQ_DUA (19_registers R599). -/
  sqDua : Bool := false
  /-- 2 bits CLASS: 0 ADMIN, 1 WORK, 2 STREAM (18_queues R561, 19_registers R599). -/
  cls : Nat := 1
  /-- 5 bits STR_LOG2 (19_registers R599). -/
  strLog2 : Nat := 20
  /-- 7 bits VECTOR (19_registers R599). -/
  vector : Nat := 0
  /-- 16 bits CQ_SIZE_M1 (19_registers R599). -/
  cqSizeM1 : Nat := 1
  /-- 16 bits SQ_SIZE_M1 (19_registers R599). -/
  sqSizeM1 : Nat := 1
  /-- 64 bits SQ_BASE (stream ring base for STREAM) (19_registers R599). -/
  sqBase : Nat := 0
  /-- 64 bits CQ_BASE (tail writeback address for STREAM) (19_registers R599). -/
  cqBase : Nat := 0
  /-- 16 bits SQ_HEAD, next submission slot to fetch (19_registers R599, 18_queues R566). -/
  sqHead : Nat := 0
  /-- 16 bits CQ_TAIL, next completion slot to write (19_registers R599, 18_queues R571). -/
  cqTail : Nat := 0
  /-- 28 bits STR_WR, stream ring write offset (19_registers R599, 18_queues R574). -/
  strWr : Nat := 0
  /-- 16 bits, last accepted SQ_TAIL doorbell (18_queues R563, 18_queues R564). -/
  sqTailDb : Nat := 0
  /-- 16 bits, last accepted CQ_HEAD doorbell (18_queues R563, 18_queues R571). -/
  cqHeadDb : Nat := 0
  /-- 28 bits, last accepted STR_HEAD doorbell (18_queues R563, 18_queues R575). -/
  strHeadDb : Nat := 0
  /-- 1 bit PHASE of the next completion (18_queues R571, 18_queues R580). -/
  phase : Bool := true
  /-- completion slots reserved by fetched commands (18_queues R570). -/
  reserved : Nat := 0
  /-- the ring received records this turn (tail writeback due) (18_queues R575). -/
  strDirty : Bool := false
  /-- stream bytes reserved for the placed steps of this turn (18_queues R576). -/
  strStep : Nat := 0
  /-- an ignored doorbell of this queue was logged this turn (18_queues R564). -/
  dbLogged : Bool := false
  /-- QUEUE_RESET: tag of the command being run while RESETTING (18_queues R580). -/
  ptbReset : Nat := 0
  /-- QUEUE_RESET: commands aborted so far (RESULT) (18_queues R580). -/
  aborted : Nat := 0
  /-- turn that starts at t_b of this queue's reset or disable (16_scheduling R532, 18_queues R580). -/
  tb : Nat := 0
  deriving DecidableEq, Repr

/-- The per-partition fields of the device-global block that take effect at a turn boundary (R509, R597), as one record kept twice: written and in force. -/
structure PendingRegs where
  /-- 16 bits WEIGHT (16_scheduling R509, 19_registers R609). -/
  weight : Nat := 1
  /-- 11 bits TILE_LIMIT (16_scheduling R509, 19_registers R609). -/
  tileLimit : Nat := 1024
  /-- 10 bits WAIT_BUDGET, us (16_scheduling R509, 19_registers R609). -/
  waitBudget : Nat := 20
  /-- 8 bits PREEMPT_BOUND, turns (16_scheduling R509, 19_registers R609). -/
  preemptBound : Nat := 2
  /-- 3 bits HOME_DIE (16_scheduling R509, 19_registers R609). -/
  homeDie : Nat := 0
  /-- 4 bits DOMAIN (13_serving R440, 19_registers R609). -/
  domain : Nat := 0
  /-- 1 bit HEAD (17_host_link R541, 19_registers R609). -/
  head : Nat := 0
  /-- 1 bit IDE_REQUIRED (17_host_link R551, 19_registers R609). -/
  ideRequired : Bool := false
  /-- 16 bits HDM_SIZE, 256 MiB units (17_host_link R545, 19_registers R609). -/
  hdmSize : Nat := 0
  /-- T0_MIN, frames (08_memory_tiers R255, 19_registers R609). -/
  t0Min : Nat := 0
  /-- T0_MAX, frames (08_memory_tiers R255, 19_registers R609). -/
  t0Max : Nat := 983040
  /-- T1_MIN, frames (08_memory_tiers R255, 19_registers R609). -/
  t1Min : Nat := 0
  /-- T1_MAX, frames (08_memory_tiers R255, 19_registers R609). -/
  t1Max : Nat := 12582912
  /-- 6 x 16 bits RATE of REG_T1, REG_T2_RD, REG_T2_WR, REG_HOST_RD, REG_HOST_WR, REG_D2D (16_scheduling R530, 19_registers R609). -/
  rate : List Nat := [0,0,0,0,0,0]
  /-- 6 x 16 bits BURST (16_scheduling R530, 19_registers R609). -/
  burst : List Nat := [0,0,0,0,0,0]
  deriving DecidableEq, Repr

/-- One unit of a TOKENISE stream: a character, a replaced subpart or a lone byte (R371, R376). -/
structure TUnit where
  /-- its input bytes, none for the U+0020 of ADD_PREFIX (11_text_engine R373, 11_text_engine R377). -/
  raw : List Byte := []
  /-- its bytes after REPLACE and SPACE_MARK (11_text_engine R371, 11_text_engine R377). -/
  out : List Byte := []
  /-- a byte of an ill-formed subpart under BYTES (11_text_engine R371). -/
  lone : Bool := false
  deriving DecidableEq, Repr

/-- One context slot of the text engine (R373, R383). -/
structure TextCtx where
  /-- a stream is in progress (11_text_engine R375). -/
  active : Bool := false
  /-- vocabulary handle of the stream (11_text_engine R375). -/
  vocab : Nat := 0
  /-- the stream is a DETOKENISE stream (11_text_engine R383). -/
  detok : Bool := false
  /-- trailing bytes of an incomplete sequence: input, or held by the UTF-8 stage (11_text_engine R373, 11_text_engine R386). -/
  carry : List Byte := []
  /-- the carried last piece (11_text_engine R373). -/
  units : List TUnit := []
  /-- input bytes of the stream so far (11_text_engine R371). -/
  offset : Nat := 0
  /-- the stream's first unit has been seen (ADD_PREFIX) (11_text_engine R377). -/
  started : Bool := false
  deriving DecidableEq, Repr

/-- One command fetched and not yet complete (R566 to R570, R577). -/
structure CmdE where
  /-- fetch order (18_queues R577). -/
  tag : Nat := 0
  /-- partition (18_queues R561). -/
  part : Nat := 0
  /-- queue (18_queues R561). -/
  queue : Nat := 0
  /-- 16 bits CID (18_queues R565). -/
  cid : Nat := 0
  /-- 8 bits OPC (18_queues R565). -/
  opc : Nat := 0
  /-- ORDERED (18_queues R565, 18_queues R577). -/
  ordered : Bool := false
  /-- QUIET (18_queues R565, 18_queues R572). -/
  quiet : Bool := false
  /-- PB_DUA (18_queues R565). -/
  pbDua : Bool := false
  /-- 48-byte command area (18_queues R565). -/
  area : List Byte := []
  /-- the parameter block read (18_queues R565, 18_queues R578). -/
  pb : List Byte := []
  /-- PB_ADDR (18_queues R565). -/
  pbAddr : Nat := 0
  /-- PB_LEN (18_queues R565). -/
  pbLen : Nat := 0
  /-- where the command stands: its parameter block is being read, it waits under ORDERED, it may start, it runs (18_queues R567, 18_queues R568, 18_queues R577). -/
  st : CmdSt := .ready
  /-- completion slots it holds (18_queues R570). -/
  resv : Nat := 1
  /-- accepted during NAP or DEEP entry (18_queues R582). -/
  woke : Bool := false
  /-- arrival turn: the turn whose boundary is the first after its acceptance (13_serving R431, 18_queues R568). -/
  acceptTurn : Nat := 0
  /-- numbers a running command waits on: its pages, its version, its slots (06_operations R214, 08_memory_tiers R284, 18_queues R589). -/
  aux : List Nat := []
  /-- pages in tier T2 that it waits for (08_memory_tiers R259, 08_memory_tiers R270, 08_memory_tiers R280). -/
  wait : List Nat := []
  deriving DecidableEq, Repr

/-- One ware image that holds a handle (R207 to R214). -/
structure Image where
  /-- READY (06_operations R213, 06_operations R214). -/
  ready : Bool := false
  /-- has left READY under an unload (06_operations R214). -/
  leaving : Bool := false
  /-- command that unloads it (06_operations R214). -/
  unloadTag : Nat := 0
  /-- KIND (06_operations R207). -/
  kind : Nat := 0
  /-- 128 bits MODEL_ID (06_operations R207). -/
  modelId : Nat := 0
  /-- 32 bits MODEL_VER (06_operations R207). -/
  modelVer : Nat := 0
  /-- 128 bits SIGNER_ID (06_operations R207). -/
  signerId : Nat := 0
  /-- the 128-byte header (06_operations R207, 06_operations R206). -/
  hdr : List Byte := []
  /-- VOCAB_ID of MODEL (06_operations R208). -/
  vocabId : Nat := 0
  /-- SEP_ID of MODEL (06_operations R208). -/
  sepId : Nat := 0
  /-- LAYER_CNT (06_operations R207). -/
  layerCnt : Nat := 0
  /-- prefetch window W (06_operations R207, 08_memory_tiers R264). -/
  pfWindow : Nat := 3
  /-- IFLAGS ENCRYPTED (06_operations R207, 22_security R668). -/
  encrypted : Bool := false
  /-- IFLAGS NEEDS_PRIV (06_operations R207, 05_array_dataflow R178). -/
  needsPriv : Bool := false
  /-- the records, 128 bytes each (06_operations R181, 06_operations R208). -/
  recs : List (List Byte) := []
  /-- page groups: first page, count, SHADOW (06_operations R208). -/
  groups : List (Nat × Nat × Bool) := []
  /-- first DUA page of its weight pages (06_operations R213). -/
  pageBase : Nat := 0
  /-- PAGE_CNT (06_operations R207). -/
  pageCnt : Nat := 0
  /-- firing schedule: first record, records, groups, shadow group of each layer (06_operations R210). -/
  sched : List (Nat × Nat × List Nat × Nat) := []
  /-- threshold entry (32 B) of each monitored layer (03_narrow_arithmetic R80). -/
  cal : KMap (List Byte) := []
  /-- turn numbers of the trips of each layer (03_narrow_arithmetic R93). -/
  trips : KMap (List Nat) := []
  /-- sticky-wide layers (03_narrow_arithmetic R93, 03_narrow_arithmetic R95). -/
  sticky : List Nat := []
  /-- measured pass time of each record that has been measured, ns (06_operations R182). -/
  passNs : KMap Nat := []
  /-- shadow group of each layer that the SHADOW section lists (03_narrow_arithmetic R94, 06_operations R208). -/
  shadowMap : KMap Nat := []
  /-- IFLAGS HAS_SHADOW (06_operations R207, 03_narrow_arithmetic R94). -/
  hasShadow : Bool := false
  deriving DecidableEq, Repr

/-- One slip list entry (R293). -/
structure Slip where
  /-- ITEM_ID (09_vector_search R293). -/
  item : Nat := 0
  /-- KIND: delete (true) or insert (09_vector_search R293). -/
  del : Bool := false
  /-- commit epoch (09_vector_search R293). -/
  epoch : Nat := 0
  /-- code of an insert (09_vector_search R293). -/
  code : Nat := 0
  /-- ATTR of an insert (09_vector_search R293). -/
  attr : Nat := 0
  /-- PART of an insert (09_vector_search R293). -/
  part : Nat := 0
  /-- SSTATE WEDGED (09_vector_search R293). -/
  wedged : Bool := false
  /-- epoch F of the wedge that moved it (09_vector_search R293, 09_vector_search R312). -/
  f : Nat := 0
  deriving DecidableEq, Repr

/-- One index (R287 to R316). -/
structure Index where
  /-- its handle is invalid, pages wait for the last pin (09_vector_search R316). -/
  dropped : Bool := false
  /-- code width (09_vector_search R287). -/
  bits : Nat := 256
  /-- log2 NPART (09_vector_search R287). -/
  npartLog2 : Nat := 0
  /-- PARITY flag (09_vector_search R293). -/
  parity : Bool := false
  /-- bound vocabulary handle (18_queues R588). -/
  vocab : Nat := 0
  /-- its VOCAB_ID (09_vector_search R323). -/
  vocabId : Nat := 0
  /-- its TOKEN_CNT (09_vector_search R308). -/
  tokenCnt : Nat := 0
  /-- blocks replaced by a wedge and not yet released: F, first page, pages (09_vector_search R312). -/
  oldBlocks : List (Nat × Nat × Nat) := []
  /-- slip list in commit order (09_vector_search R289, 09_vector_search R293). -/
  slip : List Slip := []
  /-- passage store: ITEM_ID, insert epoch, tokens (09_vector_search R289, 09_vector_search R309). -/
  passages : List (Nat × Nat × List Nat) := []
  /-- published epoch PUB, 48 bits (09_vector_search R294). -/
  pub : Nat := 1
  /-- pins: command tag and read epoch (09_vector_search R297). -/
  pins : List (Nat × Nat) := []
  /-- first page of the centroid plane (09_vector_search R289). -/
  centPage : Nat := 0
  /-- pages of the centroid plane (09_vector_search R289). -/
  centPages : Nat := 0
  /-- first page of the directory (09_vector_search R289, 09_vector_search R290). -/
  dirPage : Nat := 0
  /-- pages of the directory (09_vector_search R289). -/
  dirPages : Nat := 0
  /-- counters of R329 (09_vector_search R329). -/
  ctr : KMap Nat := []
  deriving DecidableEq, Repr

/-- One version of an embedding table (R349). -/
structure TVer where
  /-- VERSION (10_embedding_tables R349). -/
  num : Nat := 1
  /-- first DUA page of the row plane (10_embedding_tables R332, 10_embedding_tables R334). -/
  rowBase : Nat := 0
  /-- pages of the row plane (10_embedding_tables R334). -/
  rowPages : Nat := 0
  /-- first DUA page of the state plane (10_embedding_tables R332, 10_embedding_tables R334). -/
  stBase : Nat := 0
  /-- pages of the state plane (10_embedding_tables R334). -/
  stPages : Nat := 0
  /-- runs and commands that pin it (tags) (10_embedding_tables R350). -/
  pins : List Nat := []
  deriving DecidableEq, Repr

/-- One embedding table (R331). -/
structure Table where
  /-- dropped, waits for admitted runs (10_embedding_tables R355). -/
  dropped : Bool := false
  /-- ROWS (10_embedding_tables R331). -/
  rows : Nat := 0
  /-- DIM (10_embedding_tables R331). -/
  dim : Nat := 0
  /-- RFMT (10_embedding_tables R331). -/
  rfmt : Nat := 0
  /-- UPDATABLE (10_embedding_tables R331). -/
  updatable : Bool := false
  /-- HAS_STATE (10_embedding_tables R331). -/
  hasState : Bool := false
  /-- PARITY (10_embedding_tables R331). -/
  parity : Bool := false
  /-- TIER_PREF (10_embedding_tables R331). -/
  tierPref : Nat := 0
  /-- current version (10_embedding_tables R349). -/
  cur : TVer := {}
  /-- staged version (10_embedding_tables R349). -/
  staged : Option TVer := none
  /-- retiring versions, at most two (10_embedding_tables R349, 10_embedding_tables R354). -/
  retiring : List TVer := []
  /-- 32-bit VERSION counter (10_embedding_tables R349). -/
  verNext : Nat := 2
  /-- counters of R360 (10_embedding_tables R360). -/
  ctr : KMap Nat := []
  deriving DecidableEq, Repr

/-- One prompt template (R589). -/
structure Template where
  /-- unloaded, waits for its last user (18_queues R589). -/
  dropped : Bool := false
  /-- command that unloads it (18_queues R589). -/
  unloadTag : Nat := 0
  /-- VOCAB handle (18_queues R589). -/
  vocab : Nat := 0
  /-- its VOCAB_ID (09_vector_search R323). -/
  vocabId : Nat := 0
  /-- PREFIX, PSG_PRE, PSG_POST, MID, SUFFIX (18_queues R589). -/
  lists : List (List Nat) := []
  /-- PACK and CHAIN commands that keep it (tags) (18_queues R589). -/
  users : List Nat := []
  deriving DecidableEq, Repr

/-- One entry of a token table with its bytes (R365). -/
structure Tok where
  /-- LEN pool bytes (11_text_engine R365). -/
  bytes : List Byte := []
  /-- SPECIAL (11_text_engine R365). -/
  special : Bool := false
  /-- BYTE (11_text_engine R365). -/
  byte : Bool := false
  /-- EOS (11_text_engine R365). -/
  eos : Bool := false
  deriving DecidableEq, Repr

/-- One resident vocabulary (R362 to R366). -/
structure Vocab where
  /-- partition that loaded it (11_text_engine R363). -/
  owner : Nat := 0
  /-- SHARED (11_text_engine R363). -/
  shared : Bool := false
  /-- 64-byte header (11_text_engine R364). -/
  hdr : List Byte := []
  /-- resident footprint, bytes (11_text_engine R362). -/
  footprint : Nat := 0
  /-- ALG (11_text_engine R364). -/
  alg : Nat := 0
  /-- PRESPLIT (11_text_engine R364). -/
  presplit : Nat := 0
  /-- SPACE_MARK (11_text_engine R364). -/
  spaceMark : Bool := false
  /-- ADD_PREFIX (11_text_engine R364). -/
  addPrefix : Bool := false
  /-- HAS_BYTE_FALLBACK (11_text_engine R364). -/
  byteFallback : Bool := false
  /-- BOS_ID (11_text_engine R364). -/
  bosId : Nat := 0
  /-- UNK_ID (11_text_engine R364). -/
  unkId : Nat := 0
  /-- UNK_SCORE (11_text_engine R364). -/
  unkScore : BitVec 32 := 0
  /-- VOCAB_ID (11_text_engine R364). -/
  vocabId : Nat := 0
  /-- token table (11_text_engine R365). -/
  toks : List Tok := []
  /-- byte map, 256 entries (11_text_engine R365). -/
  byteMap : List Nat := []
  /-- merge table (11_text_engine R365). -/
  merges : List (Nat × Nat × Nat) := []
  /-- score table (11_text_engine R365). -/
  scores : List (BitVec 32) := []
  deriving DecidableEq, Repr

/-- One grammar transition (R402). -/
structure Trans where
  /-- CLASS (12_constrained_decoding R402). -/
  cls : Nat := 0
  /-- TOP (12_constrained_decoding R402). -/
  top : Nat := 0
  /-- NEXT (12_constrained_decoding R402). -/
  next : Nat := 0
  /-- POP (12_constrained_decoding R402). -/
  pop : Nat := 0
  /-- symbols pushed, PUSH_CNT of them (12_constrained_decoding R402). -/
  push : List Nat := []
  deriving DecidableEq, Repr

/-- One state of a grammar's state table (R401). -/
structure GState where
  /-- its transitions (12_constrained_decoding R401, 12_constrained_decoding R402). -/
  trans : List Trans := []
  /-- ACCEPT (12_constrained_decoding R401). -/
  accept : Bool := false
  /-- CONT (12_constrained_decoding R401). -/
  cont : Bool := false
  /-- BASE_MASK (12_constrained_decoding R401). -/
  base : Nat := 0xFFFFFFFF
  deriving DecidableEq, Repr

/-- One resident grammar (R397 to R404). -/
structure Grammar where
  /-- partition that loaded it (12_constrained_decoding R398). -/
  owner : Nat := 0
  /-- SHARED (12_constrained_decoding R398). -/
  shared : Bool := false
  /-- 64-byte header (12_constrained_decoding R399). -/
  hdr : List Byte := []
  /-- footprint, bytes (12_constrained_decoding R397). -/
  footprint : Nat := 0
  /-- vocabulary handle (12_constrained_decoding R404). -/
  vocab : Nat := 0
  /-- KIND (12_constrained_decoding R399). -/
  pushdown : Bool := false
  /-- START (12_constrained_decoding R399). -/
  start : Nat := 0
  /-- TOKEN_CNT (12_constrained_decoding R399). -/
  tokenCnt : Nat := 0
  /-- class of each token (12_constrained_decoding R400). -/
  classMap : List Nat := []
  /-- state table with its transitions (12_constrained_decoding R401). -/
  states : List GState := []
  /-- mask pool, each mask a bitmap (12_constrained_decoding R403). -/
  masks : List Nat := []
  deriving DecidableEq, Repr

/-- One registered glaze (R449). -/
structure Glaze where
  /-- GFMT (13_serving R449). -/
  gfmt : Nat := 0
  /-- RANK (13_serving R449). -/
  rank : Nat := 0
  /-- ALPHA (13_serving R449). -/
  alpha : BitVec 32 := 0
  /-- MODEL_ID (13_serving R449). -/
  modelId : Nat := 0
  /-- MODEL_VER (13_serving R449). -/
  modelVer : Nat := 0
  /-- 64-byte header (13_serving R449). -/
  hdr : List Byte := []
  /-- projection entries: PROJ, D_IN, D_OUT, DUA of A, DUA of B (13_serving R449). -/
  proj : List (Nat × Nat × Nat × Nat × Nat) := []
  /-- first page (13_serving R450). -/
  pageBase : Nat := 0
  /-- pages (13_serving R450). -/
  pages : Nat := 0
  deriving DecidableEq, Repr

/-- One block of a KV pool (R434 to R442). -/
structure KvBlk where
  /-- 16-bit reference count (13_serving R435). -/
  refs : Nat := 0
  /-- 128-bit hash in the prefix index (13_serving R439, 13_serving R442). -/
  hash : Option Nat := none
  /-- sharing domain of that entry (13_serving R440). -/
  dom : Nat := 0
  /-- sealed: pages READONLY (21_reliability R645). -/
  sealed : Bool := false
  /-- PARITY set (21_reliability R645). -/
  parity : Bool := false
  /-- KV stack its pages lie on (21_reliability R644). -/
  stack : Nat := 0
  deriving DecidableEq, Repr

/-- One KV pool of a partition and image (R434). -/
structure KvPool where
  /-- NBLK_POOL (13_serving R434). -/
  nblk : Nat := 0
  /-- pages of one block over all layers (13_serving R434). -/
  blkPages : Nat := 0
  /-- reserved DUA regions: attention layer, first page, BB (06_operations R197, 13_serving R434). -/
  regions : List (Nat × Nat × Nat) := []
  /-- blocks in use or cached (13_serving R434, 13_serving R435). -/
  blocks : KMap KvBlk := []
  deriving DecidableEq, Repr

/-- One SHADOW_FEED waiting (R458). -/
structure Feed where
  /-- command (13_serving R458). -/
  tag : Nat := 0
  /-- token IDs (13_serving R458). -/
  toks : List Nat := []
  /-- primary's turn number (13_serving R458). -/
  pturn : Nat := 0
  deriving DecidableEq, Repr

/-- One session (R427, R429), its text state (R385 to R391), its grammar state (R405, R409), its speculative state (R469 to R479) and its journal (R646). -/
structure Session where
  /-- partition (13_serving R427). -/
  part : Nat := 0
  /-- MODEL handle (13_serving R427). -/
  image : Nat := 0
  /-- VOCAB handle (13_serving R427). -/
  vocab : Nat := 0
  /-- GRAMMAR handle or 0xFFFF (13_serving R427). -/
  grammar : Nat := 0xFFFF
  /-- CLASS (13_serving R427). -/
  cls : Nat := 0
  /-- SFLAGS: KEEP_LATE, INCLUDE_STOP, SHADOW, TOKIDS, PROMPT_ECHO, NO_SHARE (13_serving R427). -/
  sflags : BitVec 8 := 0
  /-- GLAZE (13_serving R427). -/
  glaze : Nat := 0
  /-- MAX_CTX (13_serving R427). -/
  maxCtx : Nat := 1
  /-- MAX_NEW (13_serving R427). -/
  maxNew : Nat := 1
  /-- TEMP (12_constrained_decoding R419, 13_serving R427). -/
  temp : BitVec 32 := 0
  /-- INV_T (12_constrained_decoding R417). -/
  invT : BitVec 32 := 0
  /-- SEED in use (12_constrained_decoding R419). -/
  seed : BitVec 64 := 0
  /-- DRAFT handle or 0xFFFF (13_serving R427). -/
  draft : Nat := 0xFFFF
  /-- SPEC_MAX (13_serving R427). -/
  specMax : Nat := 0
  /-- PROPOSER (13_serving R427). -/
  proposer : Nat := 0
  /-- stop strings (11_text_engine R388, 13_serving R427). -/
  stops : List (List Byte) := []
  /-- STREAM queue (13_serving R453, 18_queues R585). -/
  streamQ : Nat := 0
  /-- queue it was opened on (16_scheduling R533). -/
  openQ : Nat := 0
  /-- IDLE, QUEUED, RUNNING or SHADOW (13_serving R429). -/
  st : SessSt := .idle
  /-- fired tokens, prompt included (13_serving R426, 13_serving R436). -/
  ctx : List Nat := []
  /-- positions whose KV is kept (14_speculation R469, 14_speculation R478). -/
  kvLen : Nat := 0
  /-- positions whose draft KV is kept (14_speculation R472). -/
  draftKv : Nat := 0
  /-- admitted prompt tokens not yet fired (13_serving R436). -/
  prompt : List Nat := []
  /-- block table: partition, image handle and number of the block of positions 32i to 32i + 31 (13_serving R435, 13_serving R440). -/
  blocks : List (Nat × Nat × Nat) := []
  /-- block table of the draft image (14_speculation R472). -/
  draftBlocks : List (Nat × Nat × Nat) := []
  /-- committed grammar state number (12_constrained_decoding R405, 12_constrained_decoding R409). -/
  gst : Nat := 0
  /-- committed grammar stack, top first (12_constrained_decoding R405). -/
  gstack : List Nat := []
  /-- M0 of the next sampling, a bitmap (12_constrained_decoding R410, 12_constrained_decoding R411). -/
  mask0 : Option Nat := none
  /-- shadow states of this turn: state, stack, mask (12_constrained_decoding R409, 12_constrained_decoding R410). -/
  shadow : List (Nat × List Nat × Nat) := []
  /-- the mask chain has stopped (12_constrained_decoding R410). -/
  chainStop : Bool := false
  /-- bytes the UTF-8 stage holds (11_text_engine R386). -/
  utf8Held : List Byte := []
  /-- bytes the stop stage holds (11_text_engine R387). -/
  stopHeld : List Byte := []
  /-- the first released character is still to be tested for U+0020 (11_text_engine R385). -/
  dropSpace : Bool := false
  /-- a byte has been emitted (11_text_engine R385). -/
  emitted : Bool := false
  /-- GEN_SEQ (13_serving R453). -/
  genSeq : Nat := 0
  /-- GEN_SEQ is due to rise at the generation's first commit (14_speculation R466). -/
  seqDue : Bool := false
  /-- TOK_TOTAL of the generation (13_serving R453). -/
  tokTotal : Nat := 0
  /-- token limit of the generation (13_serving R430). -/
  genMax : Nat := 0
  /-- FIRST_DL (13_serving R430). -/
  firstDl : Nat := 0
  /-- END_DL (13_serving R430). -/
  endDl : Nat := 0
  /-- arrival turn A (13_serving R431). -/
  arrival : Nat := 0
  /-- command that generates (GENERATE or CHAIN) (13_serving R433). -/
  genTag : Nat := 0
  /-- the generation is stage 4 of a CHAIN (09_vector_search R325). -/
  chain : Bool := false
  /-- the prefix lookup of the generation is done (13_serving R441). -/
  looked : Bool := false
  /-- prompt positions taken from the prefix index (13_serving R433, 13_serving R441). -/
  hits : Nat := 0
  /-- positions taken from the prefix index and not yet counted (13_serving R463, 14_speculation R466). -/
  hitsDue : Nat := 0
  /-- the PROMPT record has been written (13_serving R454). -/
  echoed : Bool := false
  /-- the generation's prompt tokens (13_serving R454). -/
  promptToks : List Nat := []
  /-- candidates held for the commit (14_speculation R475). -/
  cand : List Nat := []
  /-- the sample after the candidates was -inf or NaN (12_constrained_decoding R420). -/
  badLogits : Bool := false
  /-- drafts proposed this turn (14_speculation R469). -/
  drafts : List Nat := []
  /-- drafts proposed this turn, those the mask has disallowed among them (14_speculation R481). -/
  proposed : Nat := 0
  /-- n-gram proposals ready for the next turn (14_speculation R473). -/
  nextDrafts : List Nat := []
  /-- draft passes stopped by LVS (14_speculation R474). -/
  lvsHit : Bool := false
  /-- the step of this turn has been verified, or its chunk computed (14_speculation R475). -/
  verified : Bool := false
  /-- positions the step placed this turn computes; 0 when none is placed (13_serving R446, 13_serving R448). -/
  placed : Nat := 0
  /-- its step was carried from the last turn (03_narrow_arithmetic R89, 15_wheel R498). -/
  carried : Bool := false
  /-- layers marked wide for its next step (03_narrow_arithmetic R90). -/
  wide : List Nat := []
  /-- consecutive turns unplaced for lack of KV (13_serving R437). -/
  kvWait : Nat := 0
  /-- ends at the next commit with KV_EXHAUSTED (13_serving R437, 14_speculation R466). -/
  kvOut : Bool := false
  /-- turn at whose commit a cancellation takes effect (13_serving R456). -/
  cancelAt : Option Nat := none
  /-- SESSION_CANCEL commands that wait for it (13_serving R456). -/
  cancelTags : List Nat := []
  /-- status its record carries (13_serving R456, 21_reliability R631). -/
  cancelStatus : Nat := 0
  /-- SESSION_PROMOTE commands that wait (13_serving R460). -/
  promoteTags : List Nat := []
  /-- SHADOW_FEEDs in acceptance order (13_serving R458). -/
  feeds : List Feed := []
  /-- order of acceptance within its class queue (13_serving R447). -/
  order : Nat := 0
  /-- KV stack k (21_reliability R644). -/
  kvStack : Nat := 0
  /-- a recovering session (21_reliability R647). -/
  recovering : Bool := false
  /-- the generation's first token has fired (13_serving R444). -/
  hitFirst : Bool := false
  deriving DecidableEq, Repr

/-- One serving batch of one image in one turn (R448, R514) and the layer it stands at (R77 to R90). -/
structure Batch where
  /-- partition (16_scheduling R514). -/
  part : Nat := 0
  /-- image (16_scheduling R514). -/
  image : Nat := 0
  /-- sessions placed (13_serving R448). -/
  members : List Nat := []
  /-- layer being run (03_narrow_arithmetic R73). -/
  layer : Nat := 0
  /-- records of the step completed (06_operations R202). -/
  recDone : List Nat := []
  /-- monitor slots: SAT_CNT, NAN_CNT, ELEM_CNT, AMAX_OBS (03_narrow_arithmetic R76, 03_narrow_arithmetic R77). -/
  mon : List (Nat × Nat × Nat × BitVec 32) := [(0,0,0,0),(0,0,0,0),(0,0,0,0),(0,0,0,0)]
  /-- the layer has closed and waits for its decision (03_narrow_arithmetic R78, 03_narrow_arithmetic R79). -/
  closed : Bool := false
  /-- layer close time, ns after the boundary (03_narrow_arithmetic R82). -/
  closeAt : Nat := 0
  /-- latest re-fire start of each layer, ns (03_narrow_arithmetic R83). -/
  lrs : KMap Nat := []
  /-- latest verification start, ns (14_speculation R474). -/
  lvs : Nat := 0
  /-- LVS has been reached (14_speculation R474). -/
  lvsReached : Bool := false
  /-- the layer runs in the wide form (03_narrow_arithmetic R84, 03_narrow_arithmetic R90, 03_narrow_arithmetic R94). -/
  wideNow : Bool := false
  /-- a re-fire of the layer runs (03_narrow_arithmetic R84). -/
  refire : Bool := false
  /-- last layer that a re-fire ran in this step (03_narrow_arithmetic R90, 15_wheel R499). -/
  refired : Option Nat := none
  /-- carried because a re-fire could not start (03_narrow_arithmetic R83, 15_wheel R499). -/
  lrsCarry : Bool := false
  /-- re-executions of the layer in this step (21_reliability R639). -/
  faults : Nat := 0
  /-- a compute fault waits for its re-execution (21_reliability R638, 21_reliability R639). -/
  faulted : Bool := false
  /-- a fault carried the batch (15_wheel R499). -/
  faultCarry : Bool := false
  /-- a stall holds the step (08_memory_tiers R268, 15_wheel R499). -/
  stalled : Bool := false
  /-- the batch is carried (03_narrow_arithmetic R89). -/
  carried : Bool := false
  /-- every record of the step has completed (15_wheel R495). -/
  done : Bool := false
  /-- its task, 0 for none (16_scheduling R514). -/
  task : Nat := 0
  /-- tables and versions pinned at admission (10_embedding_tables R350). -/
  pinned : List (Nat × Nat) := []
  /-- the re-fire uses the layer's shadow weights (03_narrow_arithmetic R86). -/
  shadow : Bool := false
  /-- an anchor of the layer lay in a lost scratchpad word (21_reliability R639). -/
  anchorLost : Bool := false
  /-- records held for pages in tier T2 (04_tile R104, 08_memory_tiers R268). -/
  held : List Nat := []
  /-- status of each record of the step that failed (06_operations R203). -/
  failed : KMap Nat := []
  /-- records of the step skipped for a failed one (06_operations R203). -/
  skipped : List Nat := []
  /-- glazes resolved when the batch was formed (06_operations R196). -/
  glazes : KMap Glaze := []
  /-- its work comes from a privileged channel (05_array_dataflow R175). -/
  privileged : Bool := false
  /-- ns up to which a running re-fire's tile time has been counted (03_narrow_arithmetic R96). -/
  usAt : Nat := 0
  deriving DecidableEq, Repr

/-- One task: the work that holds one gang from placement to release (R514). -/
structure Task where
  /-- partition (16_scheduling R514). -/
  part : Nat := 0
  /-- serving batch, record of a run, or stage of a command (16_scheduling R514). -/
  work : Work := .batch 0
  /-- gang size (16_scheduling R514). -/
  size : Nat := 1
  /-- scanning, in an affinity queue, placed, saving, saved, restoring (16_scheduling R516, 16_scheduling R525). -/
  st : TaskSt := .scanning
  /-- position (index in scan numbering of its size) of its affinity queue or gang (16_scheduling R512, 16_scheduling R516). -/
  pos : Nat := 0
  /-- its tiles by gang-relative index (16_scheduling R513). -/
  tiles : List Nat := []
  /-- runs folded on half its gang size (21_reliability R641). -/
  folded : Bool := false
  /-- ns of the wheel base at which it began to wait unplaced (16_scheduling R516, 16_scheduling R523). -/
  since : Nat := 0
  /-- ns of the wheel base at which it joined its affinity queue (16_scheduling R516, 16_scheduling R535). -/
  joined : Nat := 0
  /-- saved scratchpad and accumulator memory of each tile (save area slots) (16_scheduling R526, 16_scheduling R527). -/
  slots : List (Mem × Mem) := []
  deriving DecidableEq, Repr

/-- One admitted run of an operation graph (R202, R203). -/
structure Run where
  /-- partition (06_operations R202). -/
  part : Nat := 0
  /-- GRAPH_RUN command (06_operations R206). -/
  tag : Nat := 0
  /-- image (06_operations R206). -/
  image : Nat := 0
  /-- from a privileged channel (05_array_dataflow R175). -/
  privileged : Bool := false
  /-- binding table, DUA bases (06_operations R205). -/
  binds : List Nat := []
  /-- status of each completed record (06_operations R203). -/
  status : KMap Nat := []
  /-- skipped records (06_operations R203). -/
  skipped : List Nat := []
  /-- tables and versions pinned at admission (10_embedding_tables R350). -/
  pinned : List (Nat × Nat) := []
  /-- stopped by a disable or reset (16_scheduling R532). -/
  stopped : Bool := false
  /-- record waiting for re-execution after a compute fault (21_reliability R640). -/
  faulted : Option Nat := none
  /-- scratchpad words lost to an uncorrectable error (21_reliability R640). -/
  lost : List Nat := []
  /-- pages in tier T2 that a record waits for (08_memory_tiers R268, 08_memory_tiers R280). -/
  held : KMap (List Nat) := []
  /-- what its records have left in their gang's scratchpads (04_tile R130, 06_operations R204). -/
  scratch : Mem := []
  /-- what its records have left in the accumulator memories of their gang's tiles (04_tile R111, 04_tile R130, 06_operations R189). -/
  acc : List Mem := []
  deriving DecidableEq, Repr

/-- One set of the array's pass registers: those of the pass that is active in its rows, or those loaded for the next one (R158, R159). -/
structure PassRegs where
  /-- E, the reduction elements of each cell (05_array_dataflow R142, 05_array_dataflow R159). -/
  e : Nat := 1
  /-- lane bytes of the rows' mode (05_array_dataflow R142, 05_array_dataflow R159). -/
  lane : Nat := 1
  /-- rows between two taps of the columns (05_array_dataflow R149, 05_array_dataflow R159). -/
  taps : Nat := 64
  /-- dataflow of the rows (05_array_dataflow R174). -/
  df : Nat := 0
  /-- pass tag: record index and pass number (05_array_dataflow R159, 05_array_dataflow R164). -/
  tag : Nat × Nat := (0xFFFF, 0)
  /-- 64 x 64 weight registers of 16 bits, row by row; an unlisted cell holds an empty weight (05_array_dataflow R138, 05_array_dataflow R145, 05_array_dataflow R147, 05_array_dataflow R158). -/
  cells : List (List Nat) := []
  /-- codebook register of the row heads, 16 BF16 entries; an unlisted entry is 0 (04_tile R106, 05_array_dataflow R158). -/
  book : List Nat := []
  /-- first-level weight scale bytes of the pass, channel by channel (05_array_dataflow R150). -/
  scales : List (List Nat) := []
  /-- second-level weight scales of the pass, FP32, channel by channel (05_array_dataflow R150). -/
  scales2 : List Nat := []
  /-- scale buffer of the column tails: first-level bytes and the second-level scale of each activation row (05_array_dataflow R150). -/
  actScales : List (List Nat × Nat) := []
  /-- prologue constants of the pass, BF16 (05_array_dataflow R171). -/
  consts : List Nat := []
  deriving DecidableEq, Repr

/-- One tile (R98, R130). -/
structure Tile where
  /-- 4 MiB scratchpad (04_tile R99, 04_tile R130). -/
  scratch : Mem := []
  /-- 512 KiB accumulator memory (04_tile R111, 04_tile R130). -/
  acc : Mem := []
  /-- partition that last held it (04_tile R132). -/
  lastOwner : Option Nat := none
  /-- task that holds it, 0 for none (16_scheduling R514). -/
  task : Nat := 0
  /-- is zeroing its memories (04_tile R132). -/
  zeroing : Bool := false
  /-- its free registers cannot be trusted: the next first pass takes a stalled load (05_array_dataflow R165, 05_array_dataflow R166). -/
  untrusted : Bool := true
  /-- quarantined (21_reliability R638, 21_reliability R642). -/
  quarantined : Bool := false
  /-- 48-bit counters of R135 then R179 (04_tile R135, 05_array_dataflow R179). -/
  ctr : KMap Nat := []
  /-- 32 vector registers of 128 lanes x 32 bits: all zero, or what a record left in them, named by a draw (04_tile R98, 04_tile R113, 04_tile R130). -/
  vregs : Option Nat := none
  /-- active weight registers, current codebooks and the rows' switches (04_tile R98, 05_array_dataflow R158, 05_array_dataflow R159). -/
  act : PassRegs := {}
  /-- free weight registers and next codebooks, none where marked empty (05_array_dataflow R158, 05_array_dataflow R159, 05_array_dataflow R165). -/
  nxt : Option PassRegs := none
  /-- visited filter of the walker, most recent slot first in each of its 64 sets; empty at record boundaries (04_tile R98, 04_tile R126, 04_tile R130). -/
  filter : List (List Nat) := []
  /-- state of each of the 8 DMA contexts: 0 idle, 1 active, 2 waiting on a page (04_tile R98, 04_tile R118, 04_tile R136). -/
  dma : List Nat := [0,0,0,0,0,0,0,0]
  /-- record held on it, 0xFFFF for none (04_tile R136, 23_management R694). -/
  recIdx : Nat := 0xFFFF
  /-- image handle of that record (23_management R694). -/
  recImage : Nat := 0
  /-- pass number within that record (04_tile R136, 23_management R694). -/
  passNo : Nat := 0
  /-- row the weight front has reached, 64 once it has left row 63 (04_tile R136, 05_array_dataflow R167). -/
  front : Nat := 64
  deriving DecidableEq, Repr

/-- One tier table entry (R248) with its migration (R262). -/
structure Page where
  /-- 2 bits TIER (08_memory_tiers R248). -/
  tier : Nat := 0
  /-- 3 bits DIE (08_memory_tiers R248). -/
  die : Nat := 0
  /-- 4 bits OWNER (08_memory_tiers R248). -/
  owner : Nat := 0
  /-- PGFLAGS (08_memory_tiers R249). -/
  flags : BitVec 16 := 0
  /-- 32 bits FRAME (08_memory_tiers R248). -/
  frame : Nat := 0
  /-- 48 bits AGE (08_memory_tiers R248, 08_memory_tiers R250). -/
  age : Nat := 0
  /-- MSTATE (08_memory_tiers R248, 08_memory_tiers R262). -/
  mstate : Nat := 0
  /-- 3 bits AUX stack of the mirror (08_memory_tiers R248). -/
  mirrorDie : Nat := 0
  /-- 2 bits AUX TIER_PREF (08_memory_tiers R248). -/
  tierPref : Nat := 0
  /-- pinned by PAGE_PIN (08_memory_tiers R275). -/
  pinCmd : Bool := false
  /-- destination tier of the migration (08_memory_tiers R262). -/
  dstTier : Nat := 0
  /-- destination die (08_memory_tiers R262). -/
  dstDie : Nat := 0
  /-- destination frame (08_memory_tiers R262). -/
  dstFrame : Nat := 0
  /-- stack of the mirror at the destination (08_memory_tiers R254, 08_memory_tiers R262). -/
  dstMirror : Nat := 0
  /-- dirty lines (or logged rows) of the migration, 1,024-bit map (08_memory_tiers R262, 10_embedding_tables R356). -/
  dirty : List Nat := []
  /-- recopy rounds run (08_memory_tiers R262). -/
  rounds : Nat := 0
  /-- a migration toward wantTier is queued (08_memory_tiers R266). -/
  queued : Bool := false
  /-- tier it is queued toward (08_memory_tiers R266). -/
  wantTier : Nat := 0
  /-- deadline: turn and offset (08_memory_tiers R265). -/
  deadline : Nat × Nat := (0,0)
  /-- a prefetch asked for it, so that its deadline counts (08_memory_tiers R265, 08_memory_tiers R266). -/
  asked : Bool := false
  /-- command that waits for its migration (08_memory_tiers R285). -/
  moveTag : Nat := 0
  /-- lies on a lost stack and waits for its rebuild (08_memory_tiers R276). -/
  rebuild : Bool := false
  /-- its mirror is lost and a new one is due (08_memory_tiers R276). -/
  remirror : Bool := false
  /-- a hold waits for it (a demand fetch) (08_memory_tiers R259, 08_memory_tiers R268). -/
  demand : Bool := false
  /-- batch that asked for it, 0 for none (08_memory_tiers R267). -/
  forBatch : Nat := 0
  /-- belongs to a KV pool (14_speculation R468). -/
  poolKv : Bool := false
  /-- frame of the paging area that holds its BACKED copy, none where the extent store does (08_memory_tiers R249, 08_memory_tiers R258). -/
  back : Option Nat := none
  deriving DecidableEq, Repr

/-- One named extent (R246, R281). -/
structure Extent where
  /-- partition (08_memory_tiers R284). -/
  owner : Nat := 0
  /-- bytes (08_memory_tiers R284). -/
  size : Nat := 0
  /-- its durable bytes (08_memory_tiers R281). -/
  data : Mem := []
  /-- EXTENT_WRITEs not yet durable, in order: command, offset, bytes (08_memory_tiers R281). -/
  pend : List (Nat × Nat × List Byte) := []
  deriving DecidableEq, Repr

/-- One mapping of the HDM window (R272, R546). -/
structure HdmMap where
  /-- window offset (08_memory_tiers R272). -/
  off : Nat := 0
  /-- first DUA page (08_memory_tiers R272). -/
  page : Nat := 0
  /-- pages (08_memory_tiers R272). -/
  pages : Nat := 0
  /-- HDM_MAP command waiting for residency, 0 when complete (08_memory_tiers R272). -/
  tag : Nat := 0
  deriving DecidableEq, Repr

/-- One CHAIN in progress (R325, R587). -/
structure Chain where
  /-- command (09_vector_search R325). -/
  tag : Nat := 0
  /-- partition (09_vector_search R325). -/
  part : Nat := 0
  /-- stage 0 to 4 (09_vector_search R325). -/
  stage : Nat := 0
  /-- number of its stages that batch formation has placed so far (01_architecture R29, 15_wheel R503). -/
  placed : Nat := 0
  /-- its intermediate results in pages of the partition: 0 query tokens, 1 code, 2 candidates, 3 ranking, 4 prompt, each with its first page and its bytes (01_architecture R28, 09_vector_search R325). -/
  results : KMap (Nat × Nat) := []
  deriving DecidableEq, Repr

/-- One partition: its register blocks (R592 to R610) and everything it holds. -/
structure Part where
  /-- 1 bit EN (16_scheduling R509, 19_registers R609). -/
  en : Bool := false
  /-- a set of EN waits for its boundary (19_registers R597, 19_registers R610). -/
  enPend : Bool := false
  /-- EN in force since the last boundary (16_scheduling R509). -/
  live : Bool := false
  /-- 1 bit DISABLE_PENDING (16_scheduling R532, 19_registers R609). -/
  disablePending : Bool := false
  /-- turn that starts at t_b of the disable or queue reset (16_scheduling R532). -/
  tb : Nat := 0
  /-- 16 bits EN_FAIL (19_registers R609). -/
  enFail : Nat := 0
  /-- a written field awaits its boundary (19_registers R597). -/
  cfgPend : Bool := false
  /-- fields as written (19_registers R597, 19_registers R609). -/
  wr : PendingRegs := {}
  /-- fields in force (16_scheduling R509, 19_registers R604). -/
  eff : PendingRegs := {}
  /-- 96 bits U_p (16_scheduling R519, 19_registers R609). -/
  usage : Nat := 0
  /-- save area slots reserved (tiles) (08_memory_tiers R260, 16_scheduling R510). -/
  saveArea : Nat := 0
  /-- 16 bits OFFSET_LO (19_registers R601). -/
  dbLo : Nat := 0
  /-- 11 bits OFFSET_HI (19_registers R601). -/
  dbHi : Nat := 0
  /-- REFUSE_LOG VALID (19_registers R595). -/
  refuseValid : Bool := false
  /-- REFUSE_LOG CAUSE (19_registers R595, 19_registers R596). -/
  refuseCause : Nat := 0
  /-- REFUSE_LOG OFFSET (19_registers R595). -/
  refuseOff : Nat := 0
  /-- 32 bits REFUSE_CNT (19_registers R595). -/
  refuseCnt : Nat := 0
  /-- 16 bits REFIRE_STICKY_N (19_registers R604). -/
  stickyN : Nat := 8
  /-- held low-half write: offset, value (19_registers R593). -/
  heldLow : Option (Nat × Nat) := none
  /-- bus mastering enable of the function (16_scheduling R533, 18_queues R573). -/
  busMaster : Bool := true
  /-- MSI-X enable of the function (18_queues R573). -/
  msixEn : Bool := true
  /-- 64 queues (18_queues R561, 19_registers R599). -/
  queues : KMap Queue := []
  /-- 64-bit counters of COUNTER_QUERY groups 0 to 5, 7, 8 and the partition's own of group 6 (18_queues R586). -/
  ctr : KMap Nat := []
  /-- images by handle 0 to 63 (06_operations R213, 18_queues R729). -/
  images : KMap Image := []
  /-- indexes by handle 0 to 63 (09_vector_search R287, 18_queues R729). -/
  indexes : KMap Index := []
  /-- templates by handle 0 to 63 (18_queues R589, 18_queues R729). -/
  templates : KMap Template := []
  /-- tables by handle 0 to 1,023 (10_embedding_tables R331, 18_queues R729). -/
  tables : KMap Table := []
  /-- glazes by ID (13_serving R449). -/
  glazes : KMap Glaze := []
  /-- pages (first, count) of glazes deregistered in this turn, readable to its end (06_operations R196, 13_serving R452). -/
  glazeGone : List (Nat × Nat) := []
  /-- KV pools by image handle (13_serving R434). -/
  kv : KMap KvPool := []
  /-- 256 text context slots (11_text_engine R373). -/
  ctxs : KMap TextCtx := []
  /-- HDM mappings (08_memory_tiers R272). -/
  maps : List HdmMap := []
  /-- class weights, 1 where unlisted (13_serving R445). -/
  weights : KMap (Nat) := []
  /-- QUANTUM (13_serving R445). -/
  quantum : Nat := 16
  /-- CLASS_SET weights awaiting the boundary (13_serving R445). -/
  weightsWr : KMap (Nat) := []
  /-- QUANTUM as written (13_serving R445). -/
  quantumWr : Nat := 16
  /-- deficit of each class (13_serving R448). -/
  deficit : KMap Int := []
  /-- last class served (13_serving R448). -/
  last : Nat := 255
  /-- tokens in each regulator's bucket, bytes (16_scheduling R531). -/
  bucket : List Nat := [0,0,0,0,0,0]
  /-- programmed turn slots 0 to 3: turn, offset (23_management R691). -/
  cone : KMap (Nat × Nat) := []
  /-- 32 bits GEN_p (22_security R658). -/
  genP : Nat := 0
  /-- image trust list; empty stands for the default list (22_security R669). -/
  trust : List (List Byte) := []
  /-- TRUST_CNT (22_security R661). -/
  trustCnt : Nat := 0
  /-- session secret of the open secured SPDM session (22_security R666, 22_security R667). -/
  spdm : Option (List Byte) := none
  /-- SPDM handshake: 0 none, 1 version, 2 capabilities, 3 algorithms, 4 key exchanged, 5 secured (22_security R666). -/
  spdmState : Nat := 0
  /-- KEY_UPDATEs of the open session (22_security R666). -/
  spdmUpd : Nat := 0
  /-- poison list of the LD (17_host_link R549). -/
  poison : List Nat := []
  /-- General Media event records (17_host_link R549, 17_host_link R544). -/
  events : List Nat := []
  /-- its HDM decoder is committed (17_host_link R545). -/
  decoder : Bool := false
  /-- Commit Error bit (17_host_link R545). -/
  commitErr : Bool := false
  /-- event kinds of R274 logged this turn (08_memory_tiers R274). -/
  memLog : List Nat := []
  /-- sequence allowance S_p of the turn (16_scheduling R522). -/
  sAllow : Nat := 0
  /-- token allowance B_p of the turn (16_scheduling R522). -/
  bAllow : Nat := 0
  deriving DecidableEq, Repr

/-- The wheel (R482 to R506, R602). -/
structure Wheel where
  /-- 2 bits PACE: 0 LOCKED, 1 HOLDOVER, 2 FREERUN, 3 ACQUIRE (15_wheel R485, 19_registers R602). -/
  pace : Nat := 3
  /-- REF_PRESENT (19_registers R602). -/
  refPresent : Bool := false
  /-- REF_25M (19_registers R602). -/
  ref25 : Bool := false
  /-- REF_OFFSET_PPB (19_registers R602). -/
  refPpb : Int := 0
  /-- PHASE_ERR_NS, e (15_wheel R487, 19_registers R602). -/
  phaseErr : Int := 0
  /-- HOLDOVER_TIME_MS (19_registers R602). -/
  holdMs : Nat := 0
  /-- TURN_PERIOD in force (15_wheel R493, 19_registers R602). -/
  turnPeriod : Nat := 80
  /-- TURN_PERIOD as written (19_registers R597, 19_registers R603). -/
  turnPeriodWr : Nat := 80
  /-- COMMIT_WINDOW in force (15_wheel R493, 19_registers R602). -/
  commitWin : Nat := 8
  /-- COMMIT_WINDOW as written (19_registers R597, 19_registers R603). -/
  commitWinWr : Nat := 8
  /-- BATCH_DEADLINE in force (15_wheel R504, 19_registers R602). -/
  batchDl : Nat := 200
  /-- BATCH_DEADLINE as written (19_registers R597). -/
  batchDlWr : Nat := 200
  /-- CFG_PENDING of the wheel block (19_registers R602). -/
  cfgPend : Bool := false
  /-- 64-bit turn number: LAST_TURN once a boundary has passed (15_wheel R492, 19_registers R602). -/
  turn : Nat := 0
  /-- the first boundary after cold reset has passed (15_wheel R492). -/
  started : Bool := false
  /-- 48 bits TOD seconds (15_wheel R489). -/
  todS : Nat := 0
  /-- 30 bits TOD ns at the last boundary (LAST_TOD_NS) (15_wheel R489, 19_registers R602). -/
  todNs : Nat := 0
  /-- LAST_TOD_S (19_registers R602). -/
  lastTodS : Nat := 0
  /-- second marks since cold reset (15_wheel R489). -/
  marks : Nat := 0
  /-- TIME_SETs waiting: SECONDS, command tag, acceptance in ns of `base` (15_wheel R490). -/
  timeSet : List (Nat × Nat × Nat) := []
  /-- ns from the first boundary after cold reset to the last boundary (15_wheel R490, 15_wheel R491). -/
  base : Nat := 0
  /-- SLEWING (15_wheel R487, 19_registers R602). -/
  slewing : Bool := false
  /-- the next turn is a transition turn (15_wheel R491). -/
  transition : Bool := false
  /-- length of the running turn, ns (15_wheel R491). -/
  len : Nat := 20000000
  /-- consecutive edges accepted for qualification (15_wheel R483). -/
  ppsGood : Nat := 0
  /-- error still to be corrected, ns (15_wheel R487). -/
  slewRem : Int := 0
  /-- LOCKED follows the transition turn that realigns the wheel (15_wheel R485, 15_wheel R487). -/
  lockDue : Bool := false
  /-- the running turn is a transition turn (15_wheel R491). -/
  inTransition : Bool := false
  /-- ns into the running turn of its second mark (15_wheel R489). -/
  mark : Option Nat := none
  /-- ns of the wheel base at which HOLDOVER was entered (15_wheel R506, 19_registers R602). -/
  holdAt : Nat := 0
  /-- ns since the boundary, as far as the commands have told (15_wheel R494, 15_wheel R500). -/
  now : Nat := 0
  /-- the commit window is open (15_wheel R494). -/
  commit : Bool := false
  /-- the batch of this turn has been released (15_wheel R494, 15_wheel R504). -/
  released : Bool := false
  deriving DecidableEq, Repr

/-- One head of the CXL port (R539 to R560). -/
structure Head where
  /-- trained to L0 (17_host_link R538). -/
  up : Bool := false
  /-- PERSTn_N asserted (17_host_link R540, 25_module R710). -/
  perst : Bool := true
  /-- MLD mode (17_host_link R542, 19_registers R608). -/
  mld : Bool := false
  /-- RATE 0, 1, 2: 16, 32, 64 GT/s (17_host_link R555). -/
  rate : Nat := 0
  /-- WIDTH lanes in use (17_host_link R555). -/
  width : Nat := 0
  /-- 256 B flits (17_host_link R555). -/
  flit256 : Bool := false
  /-- latency-optimised flits (17_host_link R555). -/
  latOpt : Bool := false
  /-- SPEED_DEGRADED (17_host_link R538, 17_host_link R555). -/
  speedDeg : Bool := false
  /-- WIDTH_DEGRADED (17_host_link R555). -/
  widthDeg : Bool := false
  /-- PARTNER (17_host_link R555). -/
  partner : Nat := 0
  /-- RECOVERIES since training (17_host_link R555). -/
  recoveries : Nat := 0
  /-- lanes excluded (17_host_link R555, 17_host_link R556). -/
  laneFail : List Nat := []
  /-- per lane PRESET, FOM, LOSS_DB, MARGIN_T, MARGIN_V (17_host_link R554, 17_host_link R555). -/
  lanes : KMap (List Nat) := []
  /-- the CXL.io IDE stream is active (17_host_link R550). -/
  ideIo : Bool := false
  /-- the CXL.cachemem IDE stream is active (17_host_link R550). -/
  ideMem : Bool := false
  /-- skid mode chosen (17_host_link R550). -/
  skid : Bool := false
  /-- in recovery (17_host_link R557). -/
  inRecovery : Bool := false
  /-- partition presented in SLD mode, latched at training (17_host_link R542, 19_registers R597). -/
  sldPart : Nat := 0
  /-- counters of R560 (17_host_link R560). -/
  ctr : KMap Nat := []
  /-- QoS control: egress congestion reporting and thresholds (17_host_link R552). -/
  qosOn : Nat := 0
  /-- QoS thresholds (17_host_link R552). -/
  qosThr : Nat := 0
  deriving DecidableEq, Repr

/-- One sensor (R625, R626). -/
structure Sensor where
  /-- filtered value, fixed point 1/4096; none before the first accepted sample (20_power_thermal R626). -/
  filt : Option Int := none
  /-- last samples of the median of 3 (20_power_thermal R626). -/
  recent : List Int := []
  /-- the value loops use (filtered, or its substitute) (20_power_thermal R626). -/
  value : Int := 0
  /-- consecutive discards (20_power_thermal R626). -/
  discards : Nat := 0
  /-- consecutive accepted samples while FAULTY or STALE (20_power_thermal R626). -/
  good : Nat := 0
  /-- FAULTY (20_power_thermal R626). -/
  faulty : Bool := false
  /-- STALE (20_power_thermal R626). -/
  stale : Bool := false
  /-- consecutive flow values below 1.0 L/min, 100 ms apart (20_power_thermal R624, 20_power_thermal R625). -/
  low : Nat := 0
  deriving DecidableEq, Repr

/-- Power domains, states, governor and clamp (R612 to R628). -/
structure Power where
  /-- 20 domains: up (20_power_thermal R612). -/
  domUp : List Bool := List.replicate 20 false
  /-- 20 domains: lost (20_power_thermal R613). -/
  domLost : List Bool := List.replicate 20 false
  /-- power state 0 ACTIVE, 1 IDLE, 2 NAP, 3 DEEP (20_power_thermal R614). -/
  pstate : Nat := 0
  /-- state being entered (20_power_thermal R616). -/
  target : Nat := 0
  /-- entry in progress (20_power_thermal R616). -/
  entering : Bool := false
  /-- quiescence reached (20_power_thermal R616). -/
  quiescent : Bool := false
  /-- stage of the entry: 0 waiting, 1 quiescent, 2 evacuated (20_power_thermal R616, 20_power_thermal R617). -/
  entryFrom : Nat := 0
  /-- a command woke the module during entry (18_queues R582). -/
  woke : Bool := false
  /-- exit in progress (20_power_thermal R618). -/
  exiting : Bool := false
  /-- governor's slot fraction of each die, 1/64 units (20_power_thermal R619). -/
  slot : List Nat := List.replicate 8 64
  /-- current clamp: 0 off, 1 every f_d 0, 2 at 32/64 (20_power_thermal R621). -/
  clampPh : Nat := 0
  /-- sustained limit engaged (20_power_thermal R621). -/
  sustained : Bool := false
  /-- die hot limit of each die (20_power_thermal R621). -/
  dieHot : List Bool := List.replicate 8 false
  /-- die trip of each die (20_power_thermal R621). -/
  dieTripped : List Bool := List.replicate 8 false
  /-- no healthy sensor remains on the die: 32/64 (20_power_thermal R626). -/
  sensLimit : List Bool := List.replicate 8 false
  /-- POWER_CAP, W (20_power_thermal R620). -/
  powerCap : Nat := 1800
  /-- input 38 to 40 V: cap 1,200 W (20_power_thermal R622). -/
  inputLow : Bool := false
  /-- coolant limit: 0 none, 1 cap 1,200 W, 2 cap 600 W (20_power_thermal R624). -/
  coolant : Nat := 0
  /-- maintenance state: 0 NONE, 1 FLASH_WEAR, 2 SUPPLY, 3 COOLANT (23_management R678, 23_management R680). -/
  maint : Nat := 0
  /-- 48 V within limits, converters on (20_power_thermal R622). -/
  inputOk : Bool := false
  /-- sensors by PLDM sensor ID (20_power_thermal R625, 23_management R678). -/
  sensors : KMap Sensor := []
  /-- last 16 source impedance estimates (20_power_thermal R623). -/
  impEst : List Nat := []
  /-- counters of R628 (20_power_thermal R628). -/
  ctr : KMap Nat := []
  deriving DecidableEq, Repr

/-- The security enclosure (R655 to R675). -/
structure Sagger where
  /-- PUF helper data present and good (22_security R656, 22_security R661). -/
  pufOk : Bool := true
  /-- K_ROOT formed (22_security R655, 22_security R656). -/
  kRoot : Bool := false
  /-- identity and grade records present (22_security R661). -/
  identityOk : Bool := true
  /-- random bytes of the paging key (draw number) (22_security R655). -/
  pageNonce : Nat := 0
  /-- V_i, 64 bytes each, 64 zero bytes where unlisted (22_security R664). -/
  meas : KMap (List Byte) := []
  /-- measurement log: index, event type, digest (22_security R664). -/
  measLog : List (Nat × Nat × List Byte) := []
  /-- ALARM_LEVEL (19_registers R605, 22_security R671). -/
  alarmLevel : Nat := 0
  /-- ALARM_EVENTS (19_registers R605). -/
  alarmEvents : Nat := 0
  /-- a LOCK waits for its turn boundary (22_security R671). -/
  lockDue : Bool := false
  /-- SEC_LOCK (19_registers R595, 22_security R671). -/
  secLock : Bool := false
  /-- level of each alarm source as mapped (22_security R670). -/
  levels : List Nat := [2,2,1,1,2,1]
  /-- outstanding debug challenge (22_security R672, 22_security R674). -/
  challenge : Option (List Byte) := none
  /-- failed debug responses this boot (22_security R674). -/
  debugFails : Nat := 0
  /-- DEBUG_OPEN (19_registers R605, 22_security R673). -/
  debugOpen : Bool := false
  /-- SCOPE unlocked, 0 for none (22_security R673). -/
  debugScope : Nat := 0
  /-- ERASE has zeroised the keys (22_security R671). -/
  erased : Bool := false
  /-- draw number of each sharing domain's salt (13_serving R440). -/
  saltDraw : KMap (Nat) := []
  deriving DecidableEq, Repr

/-- One log record (R682). -/
structure LogRec where
  /-- 64 bits RECNO (23_management R681, 23_management R682). -/
  recno : Nat := 0
  /-- TURN (23_management R682). -/
  turn : Nat := 0
  /-- OFFSET_NS (23_management R682). -/
  off : Nat := 0
  /-- CLASS (23_management R682, 23_management R683). -/
  cls : Nat := 0
  /-- SEV (23_management R682). -/
  sev : Nat := 0
  /-- PART (23_management R682). -/
  part : Nat := 0xFF
  /-- SOURCE (23_management R682). -/
  source : Nat := 0xFFFF
  /-- PAYLOAD, PLEN bytes (23_management R682). -/
  payload : List Byte := []
  deriving DecidableEq, Repr

/-- One updatable firmware component (R662, R686). -/
structure Comp where
  /-- version in slot A, none when invalid (22_security R662, 23_management R686). -/
  slotA : Option Nat := some 1
  /-- version in slot B, none when invalid (22_security R662, 23_management R686). -/
  slotB : Option Nat := some 1
  /-- slot A's signature verifies (22_security R662). -/
  sigA : Bool := true
  /-- slot B's signature verifies (22_security R662). -/
  sigB : Bool := true
  /-- version floor (22_security R661, 22_security R662). -/
  floor : Nat := 0
  /-- version running, 0 when not (19_registers R595, 22_security R662). -/
  running : Nat := 0
  /-- activated and waiting for its reset (23_management R687). -/
  pending : Bool := false
  /-- floor of a package's version record, waiting for READY (23_management R688). -/
  newFloor : Option Nat := none
  deriving DecidableEq, Repr

/-- One retained snapshot (R692 to R694). -/
structure Snap where
  /-- SNAP_NO (23_management R693). -/
  no : Nat := 0
  /-- SOURCE (23_management R693). -/
  source : Nat := 0
  /-- MERGED (23_management R693). -/
  merged : Nat := 0
  /-- TURN (23_management R693). -/
  turn : Nat := 0
  /-- OFFSET_NS (23_management R693). -/
  off : Nat := 0
  /-- PACE (23_management R693). -/
  pace : Nat := 0
  /-- PHASE (23_management R693). -/
  phase : Nat := 0
  /-- PSTATE (23_management R693). -/
  pstate : Nat := 0
  /-- TOD_S (23_management R693). -/
  todS : Nat := 0
  /-- TOD_NS (23_management R693). -/
  todNs : Nat := 0
  /-- MATCH (23_management R693). -/
  matchW : Nat := 0
  /-- queue section: partition x 64 + queue to STATE, SQ_HEAD, CQ_TAIL, STR_WR, IN_FLIGHT (23_management R694). -/
  queues : KMap (List Nat) := []
  /-- tile section: OWNER, TSTATE, REC_INDEX, IMAGE, then the counters (23_management R694). -/
  tiles : KMap (List Nat × List Nat) := []
  /-- dies whose tiles were gated (23_management R693, 23_management R694). -/
  gatedDies : List Nat := []
  deriving DecidableEq, Repr

/-- Askux: the log, updates and the cone (R676 to R695). -/
structure Mgmt where
  /-- records buffered in DA (23_management R684). -/
  logBuf : List LogRec := []
  /-- log ring in flash, oldest first, at most 524,288 (23_management R681). -/
  logFlash : List LogRec := []
  /-- next RECNO (23_management R681). -/
  logNext : Nat := 1
  /-- records of each class since the last second mark (23_management R684). -/
  logCnt : KMap Nat := []
  /-- LOG_DROPPED (23_management R684). -/
  logDropped : Nat := 0
  /-- Askux loader, Askux, hub, wheel controller, flash translation firmware (22_security R662, 23_management R686). -/
  comps : List Comp := List.replicate 5 {}
  /-- MCTP EID assigned (23_management R676). -/
  eid : Nat := 0
  /-- a PLDM event receiver is registered (23_management R680). -/
  receiver : Bool := false
  /-- transmission unit (23_management R677). -/
  mctpUnit : Nat := 64
  /-- I3C static address 0x30 + SLOT_ID (25_module R716). -/
  i3cAddr : Nat := 0x30
  /-- resets of the I3C target logic (25_module R718). -/
  i3cReset : Nat := 0
  /-- CONE_CTRL MATCH_EN (19_registers R606). -/
  matchEn : Bool := false
  /-- CONE_CTRL CONE_OUT_EN (19_registers R606). -/
  coneOutEn : Bool := true
  /-- CONE_CTRL CONE_IN_EN (19_registers R606). -/
  coneInEn : Bool := false
  /-- MATCH_CFG ALL_PART (19_registers R606). -/
  matchAll : Bool := false
  /-- MATCH_CFG PART (19_registers R606). -/
  matchPart : Nat := 0
  /-- MATCH_CFG STATUS (19_registers R606). -/
  matchStatus : Nat := 0
  /-- SNAP_STATUS SOURCE (19_registers R606). -/
  snapSource : Nat := 0
  /-- SNAP_STATUS BUSY (19_registers R606). -/
  snapBusy : Bool := false
  /-- SNAP_STATUS LAST_SNAP (19_registers R606). -/
  lastSnap : Nat := 0
  /-- SNAP_MERGED (19_registers R606). -/
  snapMerged : Nat := 0
  /-- retained snapshots, newest last, at most 16 (23_management R692). -/
  snaps : List Snap := []
  /-- CONE_OUT pulses driven (23_management R690). -/
  conePulses : Nat := 0
  /-- ALERT_N asserted (21_reliability R650, 25_module R712). -/
  alertN : Bool := false
  /-- FM-API, PLDM and plain SPDM are answered: from the mount of a cold start on (24_startup R698). -/
  served : Bool := false
  /-- restarts of Askux (23_management R687). -/
  askuxRestarts : Nat := 0
  /-- PlatformEventMessages sent: sensor ID, state or value (23_management R680). -/
  events : List (Nat × Int) := []
  deriving DecidableEq, Repr

/-- The flash tier (R278 to R283). -/
structure Flash where
  /-- translation metadata mounted (24_startup R696). -/
  mounted : Bool := false
  /-- tier T2 is read-only (08_memory_tiers R282). -/
  readonly : Bool := false
  /-- PAGING_SIZE in force, GiB (19_registers R597, 19_registers R608). -/
  pagingSize : Nat := 2048
  /-- PAGING_SIZE as written (19_registers R597, 19_registers R608). -/
  pagingSizeWr : Nat := 2048
  /-- extent store (08_memory_tiers R246, 08_memory_tiers R247). -/
  extents : KMap Extent := []
  /-- next extent ID to try (18_queues R585). -/
  nextExtent : Nat := 1
  /-- counters of R283 (08_memory_tiers R283). -/
  ctr : KMap Nat := []
  deriving DecidableEq, Repr

/-- The whole block. -/
structure State where
  /-- commands waiting, first in first out. -/
  pending : List Instr := []
  /-- host memory as the module reads and writes it (18_queues R562, 18_queues R565). -/
  hostMem : Mem := []
  /-- the bytes of the DUA range (08_memory_tiers R244). -/
  dev : Mem := []
  /-- tier table (08_memory_tiers R248). -/
  pages : KMap Page := []
  /-- partitions 0 to 15 (16_scheduling R508). -/
  parts : KMap Part := []
  /-- commands fetched and not complete, in fetch order (18_queues R566, 18_queues R577). -/
  inflight : List CmdE := []
  /-- next fetch order number (18_queues R577). -/
  nextTag : Nat := 1
  /-- the wheel (15_wheel R485, 19_registers R602). -/
  wheel : Wheel := {}
  /-- heads 0 and 1 (17_host_link R539). -/
  heads : List Head := [{}, {}]
  /-- HEAD_MODE: two heads (17_host_link R539, 19_registers R608). -/
  headMode : Bool := false
  /-- power (20_power_thermal R612). -/
  power : Power := {}
  /-- flash tier (08_memory_tiers R246). -/
  flash : Flash := {}
  /-- security enclosure (22_security R655). -/
  sagger : Sagger := {}
  /-- management (23_management R676). -/
  mgmt : Mgmt := {}
  /-- vocabularies by handle 0 to 15 (11_text_engine R362, 18_queues R729). -/
  vocabs : KMap Vocab := []
  /-- grammars by handle 0 to 63 (12_constrained_decoding R397, 18_queues R729). -/
  grammars : KMap Grammar := []
  /-- live sessions by ID (13_serving R426). -/
  sessions : KMap Session := []
  /-- next session ID to give (13_serving R427). -/
  nextSess : Nat := 1
  /-- serving batches of the turn (13_serving R448, 16_scheduling R514). -/
  batches : KMap Batch := []
  /-- sessions and costs of the previous turn's batch (15_wheel R504). -/
  prevBatch : List (Nat × Nat) := []
  /-- next batch number (16_scheduling R514). -/
  nextBatch : Nat := 1
  /-- admitted GRAPH_RUNs (06_operations R202). -/
  runs : KMap Run := []
  /-- next run number (06_operations R202). -/
  nextRun : Nat := 1
  /-- tasks waiting or holding a gang (16_scheduling R514). -/
  tasks : KMap Task := []
  /-- next task number (16_scheduling R514). -/
  nextTask : Nat := 1
  /-- CHAINs in progress by command tag (09_vector_search R325). -/
  chains : KMap Chain := []
  /-- tiles 0 to 1,023; an unlisted tile is a fresh one (04_tile R98). -/
  tiles : KMap Tile := []
  /-- retired frames: tier, die, frame (21_reliability R633, 24_startup R699). -/
  retired : List (Nat × Nat × Nat) := []
  /-- corrected errors of the last 24 h, second marks counted at the error last: frames by tier, die, frame, tile words as 3, tile, address, hub SRAM words as 4, 0, address; those logged once more with 8 added to the first (21_reliability R633, 21_reliability R652). -/
  ceCount : List (Nat × Nat × Nat × Nat) := []
  /-- DMn lost or left out (08_memory_tiers R276, 24_startup R699). -/
  stackLost : List Bool := List.replicate 8 false
  /-- DLn lost or left out (21_reliability R641, 24_startup R699). -/
  dieLost : List Bool := List.replicate 8 false
  /-- lanes left of each Renob link, 0 when bypassed (01_architecture R20, 21_reliability R643). -/
  renob : List Nat := List.replicate 18 64
  /-- 4 KiB units of hub SRAM that wait for their reload (21_reliability R635). -/
  sramBad : List Nat := []
  /-- device counters: group 6 (wheel) and group 13 (R653) (15_wheel R506, 21_reliability R653). -/
  dctr : KMap Nat := []
  /-- start-up stage (24_startup R696). -/
  stage : Stage := .off
  /-- READY (19_registers R595). -/
  ready : Bool := false
  /-- DEGRADED (19_registers R595). -/
  degraded : Bool := false
  /-- start-up failed (24_startup R700). -/
  startFail : Bool := false
  /-- boot recovery (22_security R663). -/
  recovery : Bool := false
  /-- SLD_PART0, SLD_PART1 (19_registers R608). -/
  sldPart : List Nat := [0, 1]
  /-- MSI-X vectors raised in this turn: partition, vector (15_wheel R497, 18_queues R573). -/
  vectors : List (Nat × Nat) := []
  /-- vectors due after the last record of the turn (15_wheel R497). -/
  vecDue : List (Nat × Nat) := []
  /-- the last answer put on a link or transport. -/
  reply : Reply := .none
  /-- counter of the model's free values. -/
  fresh : Nat := 0
  deriving DecidableEq, Repr

/-- A partition's fields of the device-global block after reset (16_scheduling R509, 19_registers R609). -/
def PendingRegs.reset (p : Nat) : PendingRegs := { homeDie := p % 8, domain := p }

/-- The 64 queues of a partition after reset: queue 0 has class ADMIN (18_queues R561, R599). -/
def Queue.resetAll : KMap Queue := (List.range 64).map (fun q => (q, { cls := if q = 0 then 0 else 1 }))

/-- Partition p after reset: partition 0 alone is enabled (16_scheduling R509, 19_registers R609). -/
def Part.reset (p : Nat) : Part :=
  { en := p == 0, live := p == 0, wr := PendingRegs.reset p, eff := PendingRegs.reset p, queues := Queue.resetAll }

/-- The block after reset: a cold reset before the start-up sequence has begun (24_startup R696, R704; log 6). -/
def State.reset : State :=
  { parts := (List.range 16).map (fun p => (p, Part.reset p))
    heads := [{}, { sldPart := 1 }]
    headMode := Config.headModeStrap }

end Sys2Proof.Machine
end

