-- ==== Sys2Proof/Machine/Bits.lean ====
section
/-! DEFINITION. Plain operations the whole model rests on: finite maps kept sorted, sparse memories in canonical form,
little-endian byte lists, bit fields of numbers, sorting, CRC-32C. -/

namespace Sys2Proof

/-- The value listed at key `k`. -/
def KMap.find {α : Type} : KMap α → Nat → Option α
  | [], _ => none
  | (j, v) :: t, k => if j = k then some v else KMap.find t k

/-- The value listed at key `k`, or `d`. -/
def KMap.findD {α : Type} (m : KMap α) (k : Nat) (d : α) : α := (KMap.find m k).getD d

/-- The map with `v` at key `k`, keys kept rising. -/
def KMap.put {α : Type} : KMap α → Nat → α → KMap α
  | [], k, v => [(k, v)]
  | (j, w) :: t, k, v => if k < j then (k, v) :: (j, w) :: t else if k = j then (k, v) :: t else (j, w) :: KMap.put t k v

/-- The map without key `k`. -/
def KMap.del {α : Type} (m : KMap α) (k : Nat) : KMap α := m.filter (fun e => e.1 ≠ k)

/-- The map with the value at `k` (where listed) changed by `f`. -/
def KMap.mod {α : Type} (m : KMap α) (k : Nat) (f : α → α) : KMap α := m.map (fun e => if e.1 = k then (k, f e.2) else e)

/-- Every value changed by `f`. -/
def KMap.each {α : Type} (m : KMap α) (f : Nat → α → α) : KMap α := m.map (fun e => (e.1, f e.1 e.2))

/-- The keys. -/
def KMap.keys {α : Type} (m : KMap α) : List Nat := m.map (fun e => e.1)

/-- The lowest key below `bound` that is not listed (18_queues R729). -/
def KMap.free {α : Type} (m : KMap α) (bound : Nat) : Option Nat :=
  (List.range bound).find? (fun k => (KMap.find m k).isNone)

namespace Machine

/-- Bit `i` of `n`. -/
def bit (n i : Nat) : Bool := n.testBit i

/-- Bits `lo` to `lo + w - 1` of `n`. -/
def bits (n lo w : Nat) : Nat := (n >>> lo) % 2 ^ w

/-- A Bool as a bit of weight `2 ^ i`. -/
def flag (b : Bool) (i : Nat) : Nat := if b then 2 ^ i else 0

/-- Ceiling of a quotient. -/
def ceilDiv (a b : Nat) : Nat := (a + b - 1) / b

/-- `a` rounded up to a multiple of `b`. -/
def roundUp (a b : Nat) : Nat := ceilDiv a b * b

/-- A little-endian byte list as a number. -/
def leNat : List Byte → Nat
  | [] => 0
  | b :: t => b.toNat + 256 * leNat t

/-- The `n` low bytes of a number, little-endian. -/
def leBytes : Nat → Nat → List Byte
  | 0, _ => []
  | n + 1, v => BitVec.ofNat 8 v :: leBytes n (v / 256)

/-- `n` zero bytes. -/
def zeros (n : Nat) : List Byte := List.replicate n 0

/-- The little-endian number of `w` bytes at offset `o` of a byte list. -/
def field (bs : List Byte) (o w : Nat) : Nat := leNat ((bs.drop o).take w)

/-- Are the bytes `o` to `o + w - 1` all zero? -/
def zeroAt (bs : List Byte) (o w : Nat) : Bool := ((bs.drop o).take w).all (fun b => b == 0)

/-- A number of `w` bits read as two's complement. -/
def signed (w n : Nat) : Int := if n < 2 ^ (w - 1) then (n : Int) else (n : Int) - (2 ^ w : Nat)

/-- An integer as `w` bits of two's complement. -/
def unsigned (w : Nat) (i : Int) : Nat := (i % (2 ^ w : Nat)).toNat

/-- The list cut into pieces of `n` elements, `k` of them. -/
def pieces {α : Type} (n : Nat) : Nat → List α → List (List α)
  | 0, _ => []
  | k + 1, l => l.take n :: pieces n k (l.drop n)

/-- The whole pieces of `w` bytes of a byte list as numbers. -/
def words (w : Nat) (bs : List Byte) : List Nat := (pieces w (bs.length / w) bs).map leNat

/-- Insert into a sorted list, before the first element that is not less. -/
def insertBy {α : Type} (lt : α → α → Bool) (x : α) : List α → List α
  | [] => [x]
  | y :: t => if lt y x then y :: insertBy lt x t else x :: y :: t

/-- A stable insertion sort. -/
def sortBy {α : Type} (lt : α → α → Bool) : List α → List α
  | [] => []
  | x :: t => insertBy lt x (sortBy lt t)

/-- The first element that is least under `lt`. -/
def leastBy {α : Type} (lt : α → α → Bool) : List α → Option α
  | [] => none
  | x :: t => match leastBy lt t with
    | none => some x
    | some y => if lt y x then some y else some x

/-- Positions of the elements that satisfy `p`. -/
def positions {α : Type} (p : α → Bool) (l : List α) : List Nat :=
  (l.zipIdx.filter (fun e => p e.1)).map (fun e => e.2)

/-- Is a list free of repeats? -/
def distinct : List Nat → Bool
  | [] => true
  | x :: t => !t.contains x && distinct t

/-- The set bits of a bitmap below `n`, ascending. -/
def setBits (n v : Nat) : List Nat := (List.range n).filter (fun i => bit v i)

/-- The bitmap of a list of bit numbers. -/
def bitmap (l : List Nat) : Nat := l.foldl (fun a i => a ||| 2 ^ i) 0

/-- Number of set bits of a number below `2 ^ n`. -/
def popcount (n v : Nat) : Nat := (List.range n).foldl (fun a i => if bit v i then a + 1 else a) 0

/-- Floor of the base-2 logarithm, 0 for 0. -/
def log2 (n : Nat) : Nat := Nat.log2 n

/-- Is `n` a power of 2? -/
def isPow2 (n : Nat) : Bool := n ≠ 0 && n == 2 ^ log2 n

/-- One byte of CRC-32C (reflected polynomial 0x82F63B78; PRESUMED, log 7). -/
def crcByte (c : Nat) (b : Byte) : Nat :=
  (List.range 8).foldl (fun a _ => if a % 2 = 1 then (a / 2) ^^^ 0x82F63B78 else a / 2) (c ^^^ b.toNat)

/-- CRC-32C of a byte list (23_management R682; PRESUMED, log 7). -/
def crc32c (bs : List Byte) : Nat := bs.foldl crcByte 0xFFFFFFFF ^^^ 0xFFFFFFFF

/-- The byte an address holds; an unlisted address reads as zero (logs 3 and 4). -/
def Mem.read : Mem → Nat → Byte
  | [], _ => 0
  | (j, b) :: t, a => if j = a then b else Mem.read t a

/-- The memory with byte `b` at address `a`, in canonical form: writing zero removes the entry. -/
def Mem.write : Mem → Nat → Byte → Mem
  | [], a, b => if b = 0 then [] else [(a, b)]
  | (j, c) :: t, a, b =>
    if a < j then (if b = 0 then (j, c) :: t else (a, b) :: (j, c) :: t)
    else if a = j then (if b = 0 then t else (a, b) :: t)
    else (j, c) :: Mem.write t a b

/-- The `n` bytes from address `a` on. -/
def Mem.readN (m : Mem) (a n : Nat) : List Byte := (List.range n).map (fun i => m.read (a + i))

/-- The memory with a byte list written from address `a` on. -/
def Mem.writeN (m : Mem) (a : Nat) : List Byte → Mem
  | [] => m
  | b :: t => Mem.writeN (m.write a b) (a + 1) t

/-- The memory with the bytes of `lo` to `lo + n - 1` zero. -/
def Mem.clear (m : Mem) (lo n : Nat) : Mem := m.filter (fun c => c.1 < lo || lo + n ≤ c.1)

/-- Canonical form: addresses strictly rising, no listed byte zero. -/
def Mem.wf : Mem → Bool
  | [] => true
  | [c] => c.2 != 0
  | c :: d :: t => c.2 != 0 && decide (c.1 < d.1) && Mem.wf (d :: t)

end Machine

end Sys2Proof
end

