-- ==== Sys2Proof/Machine/Flags.lean ====
section
/-! DEFINITION. The status codes of the master table (18_queues R591) and the counters of every group, each counter numbered
0x100 times its group plus its place in its table (18_queues R586, 23_management R679). -/

namespace Sys2Proof.Machine


/-- SUCCESS (18_queues R591). -/
abbrev Code.success : Nat := 0

/-- COMMAND_INVALID (18_queues R591). -/
abbrev Code.commandInvalid : Nat := 0x0101

/-- FIELD_INVALID (18_queues R591). -/
abbrev Code.fieldInvalid : Nat := 0x0102

/-- RESERVED_NONZERO (18_queues R591). -/
abbrev Code.reservedNonzero : Nat := 0x0103

/-- PB_INVALID (18_queues R591). -/
abbrev Code.pbInvalid : Nat := 0x0104

/-- QUEUE_INVALID (18_queues R591). -/
abbrev Code.queueInvalid : Nat := 0x0105

/-- PRIV_REQUIRED (18_queues R591). -/
abbrev Code.privRequired : Nat := 0x0106

/-- OUTPUT_TOO_SMALL (18_queues R591). -/
abbrev Code.outputTooSmall : Nat := 0x0107

/-- HOST_READ_TIMEOUT (18_queues R591). -/
abbrev Code.hostReadTimeout : Nat := 0x0110

/-- HOST_READ_ERROR (18_queues R591). -/
abbrev Code.hostReadError : Nat := 0x0111

/-- HOST_DATA_POISONED (18_queues R591). -/
abbrev Code.hostDataPoisoned : Nat := 0x0112

/-- FUNCTION_DISABLED (18_queues R591). -/
abbrev Code.functionDisabled : Nat := 0x0120

/-- ABORTED_BY_RESET (18_queues R591). -/
abbrev Code.abortedByReset : Nat := 0x0121

/-- FORMAT_UNSUPPORTED (18_queues R591). -/
abbrev Code.formatUnsupported : Nat := 0x0210

/-- RESERVED_ENCODING (18_queues R591). -/
abbrev Code.reservedEncoding : Nat := 0x0211

/-- CODEBOOK_INVALID (18_queues R591). -/
abbrev Code.codebookInvalid : Nat := 0x0212

/-- SCALE_INVALID (18_queues R591). -/
abbrev Code.scaleInvalid : Nat := 0x0213

/-- THRESHOLD_INVALID (18_queues R591). -/
abbrev Code.thresholdInvalid : Nat := 0x0214

/-- INDEX_OUT_OF_RANGE (18_queues R591). -/
abbrev Code.indexOutOfRange : Nat := 0x0215

/-- DATAFLOW_INVALID (18_queues R591). -/
abbrev Code.dataflowInvalid : Nat := 0x0216

/-- SKEW_REGION_INVALID (18_queues R591). -/
abbrev Code.skewRegionInvalid : Nat := 0x0217

/-- PROLOGUE_UNSUPPORTED (18_queues R591). -/
abbrev Code.prologueUnsupported : Nat := 0x0218

/-- OPCODE_INVALID (18_queues R591). -/
abbrev Code.opcodeInvalid : Nat := 0x0219

/-- SHAPE_INVALID (18_queues R591). -/
abbrev Code.shapeInvalid : Nat := 0x021A

/-- OPERAND_INVALID (18_queues R591). -/
abbrev Code.operandInvalid : Nat := 0x021B

/-- GRAPH_INVALID (18_queues R591). -/
abbrev Code.graphInvalid : Nat := 0x021C

/-- GLAZE_SEGMENT_INVALID (18_queues R591). -/
abbrev Code.glazeSegmentInvalid : Nat := 0x021D

/-- KV_BLOCK_INVALID (18_queues R591). -/
abbrev Code.kvBlockInvalid : Nat := 0x021E

/-- IMAGE_FORMAT_INVALID (18_queues R591). -/
abbrev Code.imageFormatInvalid : Nat := 0x021F

/-- IMAGE_ALREADY_LOADED (18_queues R591). -/
abbrev Code.imageAlreadyLoaded : Nat := 0x0220

/-- IMAGE_IN_USE (18_queues R591). -/
abbrev Code.imageInUse : Nat := 0x0221

/-- IMAGE_NOT_LOADED (18_queues R591). -/
abbrev Code.imageNotLoaded : Nat := 0x0222

/-- IMAGE_LIMIT (18_queues R591). -/
abbrev Code.imageLimit : Nat := 0x0223

/-- ROW_TOO_LONG (18_queues R591). -/
abbrev Code.rowTooLong : Nat := 0x0224

/-- K_INVALID (18_queues R591). -/
abbrev Code.kInvalid : Nat := 0x0225

/-- LIST_INVALID (18_queues R591). -/
abbrev Code.listInvalid : Nat := 0x0226

/-- TABLE_INVALID (18_queues R591). -/
abbrev Code.tableInvalid : Nat := 0x0227

/-- TABLE_LIMIT (18_queues R591). -/
abbrev Code.tableLimit : Nat := 0x0228

/-- TABLE_UPDATE_UNSUPPORTED (18_queues R591). -/
abbrev Code.tableUpdateUnsupported : Nat := 0x0229

/-- GRADIENT_NONFINITE (18_queues R591). -/
abbrev Code.gradientNonfinite : Nat := 0x022A

/-- ROW_SCALE_INVALID (18_queues R591). -/
abbrev Code.rowScaleInvalid : Nat := 0x022B

/-- TABLE_VERSION_BUSY (18_queues R591). -/
abbrev Code.tableVersionBusy : Nat := 0x022C

/-- BAG_INVALID (18_queues R591). -/
abbrev Code.bagInvalid : Nat := 0x022D

/-- TABLE_NOT_STAGED (18_queues R591). -/
abbrev Code.tableNotStaged : Nat := 0x022E

/-- GANG_SIZE_INVALID (18_queues R591). -/
abbrev Code.gangSizeInvalid : Nat := 0x0230

/-- INDEX_INVALID (18_queues R591). -/
abbrev Code.indexInvalid : Nat := 0x0301

/-- INDEX_LIMIT (18_queues R591). -/
abbrev Code.indexLimit : Nat := 0x0302

/-- SLIP_LIST_FULL (18_queues R591). -/
abbrev Code.slipListFull : Nat := 0x0303

/-- ITEM_DUPLICATE (18_queues R591). -/
abbrev Code.itemDuplicate : Nat := 0x0304

/-- SEARCH_PARAM_INVALID (18_queues R591). -/
abbrev Code.searchParamInvalid : Nat := 0x0305

/-- EPOCH_EXHAUSTED (18_queues R591). -/
abbrev Code.epochExhausted : Nat := 0x0306

/-- PASSAGE_INVALID (18_queues R591). -/
abbrev Code.passageInvalid : Nat := 0x0307

/-- PASSAGE_GONE (18_queues R591). -/
abbrev Code.passageGone : Nat := 0x0308

/-- PACK_BUDGET_INVALID (18_queues R591). -/
abbrev Code.packBudgetInvalid : Nat := 0x0309

/-- CHAIN_STAGE_FAILED (18_queues R591). -/
abbrev Code.chainStageFailed : Nat := 0x030A

/-- INDEX_FORMAT_INVALID (18_queues R591). -/
abbrev Code.indexFormatInvalid : Nat := 0x030B

/-- WEDGE_DEFERRED (18_queues R591). -/
abbrev Code.wedgeDeferred : Nat := 0x030C

/-- TEMPLATE_INVALID (18_queues R591). -/
abbrev Code.templateInvalid : Nat := 0x030D

/-- SESSION_INVALID (18_queues R591). -/
abbrev Code.sessionInvalid : Nat := 0x0401

/-- SESSION_LIMIT (18_queues R591). -/
abbrev Code.sessionLimit : Nat := 0x0402

/-- SESSION_BUSY (18_queues R591). -/
abbrev Code.sessionBusy : Nat := 0x0403

/-- CONTEXT_EXCEEDED (18_queues R591). -/
abbrev Code.contextExceeded : Nat := 0x0404

/-- DEADLINE_UNREACHABLE (18_queues R591). -/
abbrev Code.deadlineUnreachable : Nat := 0x0405

/-- DEADLINE_MISSED (18_queues R591). -/
abbrev Code.deadlineMissed : Nat := 0x0406

/-- CANCELLED (18_queues R591). -/
abbrev Code.cancelled : Nat := 0x0407

/-- GLAZE_INVALID (18_queues R591). -/
abbrev Code.glazeInvalid : Nat := 0x0408

/-- GLAZE_LIMIT (18_queues R591). -/
abbrev Code.glazeLimit : Nat := 0x0409

/-- GLAZE_IN_USE (18_queues R591). -/
abbrev Code.glazeInUse : Nat := 0x040A

/-- GLAZE_FORMAT_INVALID (18_queues R591). -/
abbrev Code.glazeFormatInvalid : Nat := 0x040B

/-- SHADOW_INVALID (18_queues R591). -/
abbrev Code.shadowInvalid : Nat := 0x040C

/-- KV_EXHAUSTED (18_queues R591). -/
abbrev Code.kvExhausted : Nat := 0x040D

/-- CLASS_INVALID (18_queues R591). -/
abbrev Code.classInvalid : Nat := 0x040E

/-- SESSION_PARAM_INVALID (18_queues R591). -/
abbrev Code.sessionParamInvalid : Nat := 0x040F

/-- WHEEL_PARAM_INVALID (18_queues R591). -/
abbrev Code.wheelParamInvalid : Nat := 0x0410

/-- EVENT_TIME_PASSED (18_queues R591). -/
abbrev Code.eventTimePassed : Nat := 0x0411

/-- VOCAB_INVALID (18_queues R591). -/
abbrev Code.vocabInvalid : Nat := 0x0501

/-- VOCAB_LIMIT (18_queues R591). -/
abbrev Code.vocabLimit : Nat := 0x0502

/-- INPUT_ILL_FORMED (18_queues R591). -/
abbrev Code.inputIllFormed : Nat := 0x0503

/-- TEXT_CONTEXT_INVALID (18_queues R591). -/
abbrev Code.textContextInvalid : Nat := 0x0504

/-- STOP_STRING_INVALID (18_queues R591). -/
abbrev Code.stopStringInvalid : Nat := 0x0505

/-- BYTE_FALLBACK_ABSENT (18_queues R591). -/
abbrev Code.byteFallbackAbsent : Nat := 0x0506

/-- TOKEN_BUFFER_FULL (18_queues R591). -/
abbrev Code.tokenBufferFull : Nat := 0x0507

/-- VOCAB_IN_USE (18_queues R591). -/
abbrev Code.vocabInUse : Nat := 0x0508

/-- TOKEN_INVALID (18_queues R591). -/
abbrev Code.tokenInvalid : Nat := 0x0509

/-- VOCAB_NOT_LOADED (18_queues R591). -/
abbrev Code.vocabNotLoaded : Nat := 0x050A

/-- GRAMMAR_INVALID (18_queues R591). -/
abbrev Code.grammarInvalid : Nat := 0x050B

/-- GRAMMAR_LIMIT (18_queues R591). -/
abbrev Code.grammarLimit : Nat := 0x050C

/-- GRAMMAR_IN_USE (18_queues R591). -/
abbrev Code.grammarInUse : Nat := 0x050D

/-- GRAMMAR_NOT_LOADED (18_queues R591). -/
abbrev Code.grammarNotLoaded : Nat := 0x050E

/-- GRAMMAR_VOCAB_MISMATCH (18_queues R591). -/
abbrev Code.grammarVocabMismatch : Nat := 0x050F

/-- GRAMMAR_DEAD_END (18_queues R591). -/
abbrev Code.grammarDeadEnd : Nat := 0x0510

/-- GRAMMAR_INCOMPLETE (18_queues R591). -/
abbrev Code.grammarIncomplete : Nat := 0x0511

/-- SAMPLING_INVALID (18_queues R591). -/
abbrev Code.samplingInvalid : Nat := 0x0512

/-- LOGITS_NONFINITE (18_queues R591). -/
abbrev Code.logitsNonfinite : Nat := 0x0513

/-- ADDRESS_NOT_OWNED (18_queues R591). -/
abbrev Code.addressNotOwned : Nat := 0x0601

/-- POOL_EXHAUSTED (18_queues R591). -/
abbrev Code.poolExhausted : Nat := 0x0602

/-- PAGE_MAPPED (18_queues R591). -/
abbrev Code.pageMapped : Nat := 0x0603

/-- TIER_INVALID (18_queues R591). -/
abbrev Code.tierInvalid : Nat := 0x0604

/-- MEDIA_ERROR (18_queues R591). -/
abbrev Code.mediaError : Nat := 0x0605

/-- PAGE_LOST (18_queues R591). -/
abbrev Code.pageLost : Nat := 0x0606

/-- SAVE_AREA_UNAVAILABLE (18_queues R591). -/
abbrev Code.saveAreaUnavailable : Nat := 0x0607

/-- TIER_READONLY (18_queues R591). -/
abbrev Code.tierReadonly : Nat := 0x0608

/-- HDM_RANGE_INVALID (18_queues R591). -/
abbrev Code.hdmRangeInvalid : Nat := 0x0609

/-- EXTENT_INVALID (18_queues R591). -/
abbrev Code.extentInvalid : Nat := 0x060A

/-- PAGE_READONLY (18_queues R591). -/
abbrev Code.pageReadonly : Nat := 0x060B

/-- IMAGE_SIGNATURE_INVALID (18_queues R591). -/
abbrev Code.imageSignatureInvalid : Nat := 0x0701

/-- IMAGE_KEY_INVALID (18_queues R591). -/
abbrev Code.imageKeyInvalid : Nat := 0x0702

/-- SECURITY_LOCKED (18_queues R591). -/
abbrev Code.securityLocked : Nat := 0x0703

/-- MESH_PARTITION_FAULT (18_queues R591). -/
abbrev Code.meshPartitionFault : Nat := 0x0801

/-- FAULT_UNRECOVERED (18_queues R591). -/
abbrev Code.faultUnrecovered : Nat := 0x0802

/-- REFIRE_TRIP (03 R96). -/
abbrev Ctr.refireTrip : Nat := 0x0

/-- REFIRE_TRIP_SAT (03 R96). -/
abbrev Ctr.refireTripSat : Nat := 0x1

/-- REFIRE_TRIP_AMAX (03 R96). -/
abbrev Ctr.refireTripAmax : Nat := 0x2

/-- REFIRE_TRIP_NAN (03 R96). -/
abbrev Ctr.refireTripNan : Nat := 0x3

/-- REFIRE_RUN (03 R96). -/
abbrev Ctr.refireRun : Nat := 0x4

/-- REFIRE_NONE (03 R96). -/
abbrev Ctr.refireNone : Nat := 0x5

/-- REFIRE_CARRY_SEQ (03 R96). -/
abbrev Ctr.refireCarrySeq : Nat := 0x6

/-- REFIRE_WIDE_TRIP (03 R96). -/
abbrev Ctr.refireWideTrip : Nat := 0x7

/-- SHADOW_MISS (03 R96). -/
abbrev Ctr.shadowMiss : Nat := 0x8

/-- STICKY_SET (03 R96). -/
abbrev Ctr.stickySet : Nat := 0x9

/-- STICKY_LAYERS (03 R96). -/
abbrev Ctr.stickyLayers : Nat := 0xA

/-- REFIRE_TILE_US (03 R96). -/
abbrev Ctr.refireTileUs : Nat := 0xB

/-- STALL_T2LAT_EVT (08 R271). -/
abbrev Ctr.stallT2latEvt : Nat := 0x100

/-- STALL_T2LAT_NS (08 R271). -/
abbrev Ctr.stallT2latNs : Nat := 0x101

/-- STALL_T2MED_EVT (08 R271). -/
abbrev Ctr.stallT2medEvt : Nat := 0x102

/-- STALL_T2MED_NS (08 R271). -/
abbrev Ctr.stallT2medNs : Nat := 0x103

/-- STALL_T1BANK_EVT (08 R271). -/
abbrev Ctr.stallT1bankEvt : Nat := 0x104

/-- STALL_T1BANK_NS (08 R271). -/
abbrev Ctr.stallT1bankNs : Nat := 0x105

/-- STALL_REG_EVT (08 R271). -/
abbrev Ctr.stallRegEvt : Nat := 0x106

/-- STALL_REG_NS (08 R271). -/
abbrev Ctr.stallRegNs : Nat := 0x107

/-- STALL_PAR_EVT (08 R271). -/
abbrev Ctr.stallParEvt : Nat := 0x108

/-- STALL_PAR_NS (08 R271). -/
abbrev Ctr.stallParNs : Nat := 0x109

/-- TIER_CARRY_SEQ (08 R271). -/
abbrev Ctr.tierCarrySeq : Nat := 0x10A

/-- PREFETCH_REQ (08 R271). -/
abbrev Ctr.prefetchReq : Nat := 0x10B

/-- PREFETCH_LATE (08 R271). -/
abbrev Ctr.prefetchLate : Nat := 0x10C

/-- PREFETCH_DROP (08 R271). -/
abbrev Ctr.prefetchDrop : Nat := 0x10D

/-- EVICT_T0 (08 R271). -/
abbrev Ctr.evictT0 : Nat := 0x10E

/-- EVICT_T1 (08 R271). -/
abbrev Ctr.evictT1 : Nat := 0x10F

/-- POOL_THRASH (08 R271). -/
abbrev Ctr.poolThrash : Nat := 0x110

/-- MIG_ABANDON (08 R271). -/
abbrev Ctr.migAbandon : Nat := 0x111

/-- PARITY_RECON_PAGES (08 R271). -/
abbrev Ctr.parityReconPages : Nat := 0x112

/-- HOST_POISON_RD (08 R271). -/
abbrev Ctr.hostPoisonRd : Nat := 0x113

/-- HOST_UNMAPPED_WR (08 R271). -/
abbrev Ctr.hostUnmappedWr : Nat := 0x114

/-- HOST_RO_WR (08 R271). -/
abbrev Ctr.hostRoWr : Nat := 0x115

/-- TOK_BYTES_IN (11 R395). -/
abbrev Ctr.tokBytesIn : Nat := 0x200

/-- TOK_TOKENS_OUT (11 R395). -/
abbrev Ctr.tokTokensOut : Nat := 0x201

/-- ILLFORMED_SUB (11 R395). -/
abbrev Ctr.illformedSub : Nat := 0x202

/-- DETOK_TOKENS (11 R395). -/
abbrev Ctr.detokTokens : Nat := 0x203

/-- DETOK_REPLACED (11 R395). -/
abbrev Ctr.detokReplaced : Nat := 0x204

/-- STOP_MATCHES (11 R395). -/
abbrev Ctr.stopMatches : Nat := 0x205

/-- MASKS_BUILT (12 R424). -/
abbrev Ctr.masksBuilt : Nat := 0x300

/-- SHADOW_STEPS (12 R424). -/
abbrev Ctr.shadowSteps : Nat := 0x301

/-- DRAFT_MASKED (12 R424). -/
abbrev Ctr.draftMasked : Nat := 0x302

/-- MASK_WAIT_NS (12 R424). -/
abbrev Ctr.maskWaitNs : Nat := 0x303

/-- GRAMMAR_DEAD_END_CNT (12 R424). -/
abbrev Ctr.grammarDeadEndCnt : Nat := 0x304

/-- GRAMMAR_INCOMPLETE_CNT (12 R424). -/
abbrev Ctr.grammarIncompleteCnt : Nat := 0x305

/-- LOGITS_NONFINITE_CNT (12 R424). -/
abbrev Ctr.logitsNonfiniteCnt : Nat := 0x306

/-- LIVE_SESSIONS (13 R463). -/
abbrev Ctr.liveSessions : Nat := 0x400

/-- PROMPT_TOKENS (13 R463). -/
abbrev Ctr.promptTokens : Nat := 0x401

/-- PREFIX_HIT_TOKENS (13 R463). -/
abbrev Ctr.prefixHitTokens : Nat := 0x402

/-- GEN_TOKENS (13 R463). -/
abbrev Ctr.genTokens : Nat := 0x403

/-- PREFIX_DUP (13 R463). -/
abbrev Ctr.prefixDup : Nat := 0x404

/-- PREFIX_FULL (13 R463). -/
abbrev Ctr.prefixFull : Nat := 0x405

/-- KV_WAIT (13 R463). -/
abbrev Ctr.kvWait : Nat := 0x406

/-- GLAZE_DEFER (13 R463). -/
abbrev Ctr.glazeDefer : Nat := 0x407

/-- DEADLINE_UNREACHABLE_CNT (13 R463). -/
abbrev Ctr.deadlineUnreachableCnt : Nat := 0x408

/-- DEADLINE_MISSED_CNT (13 R463). -/
abbrev Ctr.deadlineMissedCnt : Nat := 0x409

/-- CANCELLED_CNT (13 R463). -/
abbrev Ctr.cancelledCnt : Nat := 0x40A

/-- SPEC_STEPS (14 R481). -/
abbrev Ctr.specSteps : Nat := 0x500

/-- SPEC_PROPOSED (14 R481). -/
abbrev Ctr.specProposed : Nat := 0x501

/-- SPEC_ACCEPTED (14 R481). -/
abbrev Ctr.specAccepted : Nat := 0x502

/-- SPEC_REJECTED (14 R481). -/
abbrev Ctr.specRejected : Nat := 0x503

/-- SPEC_BONUS (14 R481). -/
abbrev Ctr.specBonus : Nat := 0x504

/-- SPEC_CUT (14 R481). -/
abbrev Ctr.specCut : Nat := 0x505

/-- SPEC_TRUNC (14 R481). -/
abbrev Ctr.specTrunc : Nat := 0x506

/-- DRAFT_TILE_US (14 R481). -/
abbrev Ctr.draftTileUs : Nat := 0x507

/-- PACE_LOSS (15 R506). -/
abbrev Ctr.paceLoss : Nat := 0x600

/-- PPS_REJECT (15 R506). -/
abbrev Ctr.ppsReject : Nat := 0x601

/-- HOLDOVER_MS (15 R506). -/
abbrev Ctr.holdoverMs : Nat := 0x602

/-- FREERUN_ENTRIES (15 R506). -/
abbrev Ctr.freerunEntries : Nat := 0x603

/-- SLEW_TURNS (15 R506). -/
abbrev Ctr.slewTurns : Nat := 0x604

/-- TRANSITION_TURNS (15 R506). -/
abbrev Ctr.transitionTurns : Nat := 0x605

/-- BATCH_FALLBACK (15 R506). -/
abbrev Ctr.batchFallback : Nat := 0x606

/-- FAULT_CARRY_SEQ (15 R506). -/
abbrev Ctr.faultCarrySeq : Nat := 0x607

/-- WHEEL_CARRY_SEQ (15 R506). -/
abbrev Ctr.wheelCarrySeq : Nat := 0x608

/-- TILE_US (16 R535). -/
abbrev Ctr.tileUs : Nat := 0x700

/-- PLACE_SCAN (16 R535). -/
abbrev Ctr.placeScan : Nat := 0x701

/-- PLACE_AFFINITY (16 R535). -/
abbrev Ctr.placeAffinity : Nat := 0x702

/-- AFFINITY_WAIT_NS (16 R535). -/
abbrev Ctr.affinityWaitNs : Nat := 0x703

/-- PREEMPT_OUT (16 R535). -/
abbrev Ctr.preemptOut : Nat := 0x704

/-- PREEMPT_IN (16 R535). -/
abbrev Ctr.preemptIn : Nat := 0x705

/-- PREEMPT_BLOCKED (16 R535). -/
abbrev Ctr.preemptBlocked : Nat := 0x706

/-- SAVE_BYTES (16 R535). -/
abbrev Ctr.saveBytes : Nat := 0x707

/-- DISABLE_DROP (16 R535). -/
abbrev Ctr.disableDrop : Nat := 0x708

/-- CMD_FETCHED (18 R590). -/
abbrev Ctr.cmdFetched : Nat := 0x800

/-- CMD_REJECTED (18 R590). -/
abbrev Ctr.cmdRejected : Nat := 0x801

/-- CPL_POSTED (18 R590). -/
abbrev Ctr.cplPosted : Nat := 0x802

/-- DB_IGNORED (18 R590). -/
abbrev Ctr.dbIgnored : Nat := 0x803

/-- FETCH_ERRORS (18 R590). -/
abbrev Ctr.fetchErrors : Nat := 0x804

/-- QUEUE_RESETS (18 R590). -/
abbrev Ctr.queueResets : Nat := 0x805

/-- STREAM_WAIT (18 R590). -/
abbrev Ctr.streamWait : Nat := 0x806

/-- STREAM_BYTES (18 R590). -/
abbrev Ctr.streamBytes : Nat := 0x807

/-- HOST_BYTES_WRITTEN (08 R283). -/
abbrev Ctr.hostBytesWritten : Nat := 0x900

/-- MEDIA_BYTES_WRITTEN (08 R283). -/
abbrev Ctr.mediaBytesWritten : Nat := 0x901

/-- PERCENT_USED (08 R283). -/
abbrev Ctr.percentUsed : Nat := 0x902

/-- SPARE_PERCENT (08 R283). -/
abbrev Ctr.sparePercent : Nat := 0x903

/-- REFRESH_BLOCKS (08 R283). -/
abbrev Ctr.refreshBlocks : Nat := 0x904

/-- PATROL_PASSES (08 R283). -/
abbrev Ctr.patrolPasses : Nat := 0x905

/-- MEDIA_CE (08 R283). -/
abbrev Ctr.mediaCe : Nat := 0x906

/-- MEDIA_UE (08 R283). -/
abbrev Ctr.mediaUe : Nat := 0x907

/-- LINK_RECOVERY (17 R560; kept per head). -/
abbrev Ctr.linkRecovery : Nat := 0xA00

/-- LINK_DOWNTRAIN (17 R560; kept per head). -/
abbrev Ctr.linkDowntrain : Nat := 0xA01

/-- FEC_CORRECTED (17 R560; kept per head). -/
abbrev Ctr.fecCorrected : Nat := 0xA02

/-- FLIT_REPLAY (17 R560; kept per head). -/
abbrev Ctr.flitReplay : Nat := 0xA03

/-- IDE_FAIL (17 R560; kept per head). -/
abbrev Ctr.ideFail : Nat := 0xA04

/-- LINK_LATE_REC (17 R560; kept per head). -/
abbrev Ctr.linkLateRec : Nat := 0xA05

/-- POISON_SENT (17 R560; kept per head). -/
abbrev Ctr.poisonSent : Nat := 0xA06

/-- CLAMP_TRIPS (20 R628). -/
abbrev Ctr.clampTrips : Nat := 0xC00

/-- SUSTAINED_LIMITS (20 R628). -/
abbrev Ctr.sustainedLimits : Nat := 0xC01

/-- DIE_HOT_EVENTS (20 R628). -/
abbrev Ctr.dieHotEvents : Nat := 0xC02

/-- DIE_TRIPS (20 R628). -/
abbrev Ctr.dieTrips : Nat := 0xC03

/-- GOV_WITHHELD_SLOTS (20 R628). -/
abbrev Ctr.govWithheldSlots : Nat := 0xC04

/-- SENSOR_FAULTY (20 R628). -/
abbrev Ctr.sensorFaulty : Nat := 0xC05

/-- SENSOR_STALE (20 R628). -/
abbrev Ctr.sensorStale : Nat := 0xC06

/-- STATE_ENTRIES (20 R628). -/
abbrev Ctr.stateEntries : Nat := 0xC07

/-- DEEP_FALLBACKS (20 R628). -/
abbrev Ctr.deepFallbacks : Nat := 0xC0B

/-- MEM_CE (21 R653). -/
abbrev Ctr.memCe : Nat := 0xD00

/-- MEM_UE (21 R653). -/
abbrev Ctr.memUe : Nat := 0xD01

/-- FRAMES_RETIRED (21 R653). -/
abbrev Ctr.framesRetired : Nat := 0xD02

/-- RESIDUE_TRIPS (21 R653). -/
abbrev Ctr.residueTrips : Nat := 0xD03

/-- KAT_FAILS (21 R653). -/
abbrev Ctr.katFails : Nat := 0xD04

/-- REEXEC_RUN (21 R653). -/
abbrev Ctr.reexecRun : Nat := 0xD05

/-- TILES_QUARANTINED (21 R653). -/
abbrev Ctr.tilesQuarantined : Nat := 0xD06

/-- GANG_FOLDED (21 R653). -/
abbrev Ctr.gangFolded : Nat := 0xD07

/-- DOMAINS_LOST (21 R653). -/
abbrev Ctr.domainsLost : Nat := 0xD08

/-- KV_SEALED (21 R653). -/
abbrev Ctr.kvSealed : Nat := 0xD09

/-- KV_RECOVER_SESSIONS (21 R653). -/
abbrev Ctr.kvRecoverSessions : Nat := 0xD0A

/-- KV_RECOVER_POS (21 R653). -/
abbrev Ctr.kvRecoverPos : Nat := 0xD0B

/-- UNRECOVERED (21 R653). -/
abbrev Ctr.unrecovered : Nat := 0xD0C

/-- GATED_CYCLE_CNT of a tile (04_tile R135, 05_array_dataflow R179). -/
abbrev TileCtr.gatedCycleCnt : Nat := 0

/-- BANK_CONFLICT_CNT of a tile (04_tile R135, 05_array_dataflow R179). -/
abbrev TileCtr.bankConflictCnt : Nat := 1

/-- CONV_SAT_CNT of a tile (04_tile R135, 05_array_dataflow R179). -/
abbrev TileCtr.convSatCnt : Nat := 2

/-- CONV_NAN_CNT of a tile (04_tile R135, 05_array_dataflow R179). -/
abbrev TileCtr.convNanCnt : Nat := 3

/-- RSV_CODE_CNT of a tile (04_tile R135, 05_array_dataflow R179). -/
abbrev TileCtr.rsvCodeCnt : Nat := 4

/-- ECC_CE_CNT of a tile (04_tile R135, 05_array_dataflow R179). -/
abbrev TileCtr.eccCeCnt : Nat := 5

/-- ECC_UE_CNT of a tile (04_tile R135, 05_array_dataflow R179). -/
abbrev TileCtr.eccUeCnt : Nat := 6

/-- VISIT_EVICT_CNT of a tile (04_tile R135, 05_array_dataflow R179). -/
abbrev TileCtr.visitEvictCnt : Nat := 7

/-- XPART_DROP_CNT of a tile (04_tile R135, 05_array_dataflow R179). -/
abbrev TileCtr.xpartDropCnt : Nat := 8

/-- DMA_STALL_CYC of a tile (04_tile R135, 05_array_dataflow R179). -/
abbrev TileCtr.dmaStallCyc : Nat := 9

/-- ARRAY_HOLD_CYC of a tile (04_tile R135, 05_array_dataflow R179). -/
abbrev TileCtr.arrayHoldCyc : Nat := 10

/-- DRAIN_CYC of a tile (04_tile R135, 05_array_dataflow R179). -/
abbrev TileCtr.drainCyc : Nat := 11

/-- STALLED_LOAD_CNT of a tile (04_tile R135, 05_array_dataflow R179). -/
abbrev TileCtr.stalledLoadCnt : Nat := 12

/-- SEARCH_CNT of an index (09_vector_search R329). -/
abbrev IxCtr.searchCnt : Nat := 0

/-- WALK_EXP of an index (09_vector_search R329). -/
abbrev IxCtr.walkExp : Nat := 1

/-- SLIP_FILL of an index (09_vector_search R329). -/
abbrev IxCtr.slipFill : Nat := 2

/-- WEDGE_PARTS of an index (09_vector_search R329). -/
abbrev IxCtr.wedgeParts : Nat := 3

/-- WEDGE_FORCED of an index (09_vector_search R329). -/
abbrev IxCtr.wedgeForced : Nat := 4

/-- WEDGE_DEFER of an index (09_vector_search R329). -/
abbrev IxCtr.wedgeDefer : Nat := 5

/-- WEDGE_BLOCKED of an index (09_vector_search R329). -/
abbrev IxCtr.wedgeBlocked : Nat := 6

/-- TOMB_LIVE of an index (09_vector_search R329). -/
abbrev IxCtr.tombLive : Nat := 7

/-- PASSAGE_GONE_CNT of an index (09_vector_search R329). -/
abbrev IxCtr.passageGoneCnt : Nat := 8

/-- LOOKUP_IDX of a table (10_embedding_tables R360). -/
abbrev TbCtr.lookupIdx : Nat := 0

/-- LOOKUP_UNIQUE of a table (10_embedding_tables R360). -/
abbrev TbCtr.lookupUnique : Nat := 1

/-- UPDATE_ROWS of a table (10_embedding_tables R360). -/
abbrev TbCtr.updateRows : Nat := 2

/-- UPD_NONFINITE of a table (10_embedding_tables R360). -/
abbrev TbCtr.updNonfinite : Nat := 3

/-- UPD_STALE of a table (10_embedding_tables R360). -/
abbrev TbCtr.updStale : Nat := 4

/-- ROW_SCALE_BAD of a table (10_embedding_tables R360). -/
abbrev TbCtr.rowScaleBad : Nat := 5

/-- VERSIONS_PUBLISHED of a table (10_embedding_tables R360). -/
abbrev TbCtr.versionsPublished : Nat := 6

/-- MIG_ROW_REPLAY of a table (10_embedding_tables R360). -/
abbrev TbCtr.migRowReplay : Nat := 7

end Sys2Proof.Machine
end

