-- ==== Sys2Proof/Machine/Operands.lean ====
section
/-! DEFINITION. Command areas and parameter blocks: which opcodes exist, which parameter block each allows, which bits of an
area are reserved, and the fields of each layout (18_queues R565, R583 to R589, R730). -/

namespace Sys2Proof.Machine

/-- Every byte of a field of `w` bytes at offset `o` is used. -/
def used (o w : Nat) : Nat × Nat × Nat := (o, w, 2 ^ (8 * w) - 1)

/-- Layout H with a 16-bit handle, and with a 32-bit session or glaze ID (18_queues R583, R730). -/
def layH16 : List (Nat × Nat × Nat) := [used 0 2]
/-- Layout H with a 32-bit ID (18_queues R583). -/
def layH32 : List (Nat × Nat × Nat) := [used 0 4]
/-- Layout Q with a 16-bit handle (18_queues R583, R730). -/
def layQ16 : List (Nat × Nat × Nat) := [used 0 2, (4, 1, 1), used 8 8, used 16 4]
/-- Layout Q whose whole HANDLE is read: a 32-bit ID, or the zero of IDENTIFY and LINK_QUERY, judged at step 6
(18_queues R583, R730). -/
def layQ32 : List (Nat × Nat × Nat) := [used 0 4, (4, 1, 1), used 8 8, used 16 4]
/-- Layout S, whose SHARED bit is defined for two commands only (18_queues R583, R730). -/
def layS (shared : Bool) : List (Nat × Nat × Nat) :=
  [used 0 1, (1, 1, if shared then 1 else 0), used 2 2, used 4 4, used 8 8, used 16 8, used 24 8, used 32 8]
/-- Layout M; bits 15 to 8 of PGFLAGS are reserved (18_queues R583, 08_memory_tiers R249). -/
def layM : List (Nat × Nat × Nat) :=
  [used 0 8, used 8 4, (12, 2, 0xFF), used 14 1, (15, 1, 1), used 16 8, used 24 8]
/-- Layout E (18_queues R583). -/
def layE : List (Nat × Nat × Nat) := [used 0 8, used 8 8, used 16 8, used 24 8, (32, 1, 1)]
/-- The command area of TOKENISE and DETOKENISE (11_text_engine R381). -/
def layText : List (Nat × Nat × Nat) :=
  [used 0 2, used 2 1, (3, 1, 0x3F), used 4 2, used 8 8, used 16 4, used 20 4, used 24 8]
/-- The command area of EMBED_LOOKUP and EMBED_UPDATE (18_queues R585). -/
def layEmbed : List (Nat × Nat × Nat) :=
  [used 0 2, used 2 1, (3, 1, 3), used 4 4, used 8 8, used 16 4, used 20 4, used 24 8, used 32 8, used 40 4, used 44 1]

/-- The used bits of the command area of each opcode; none for a reserved opcode (18_queues R585). -/
def areaFields : Nat → Option (List (Nat × Nat × Nat))
  | 0x00 => some layQ32
  | 0x01 => some layH16
  | 0x02 => some layQ16
  | 0x03 => some layQ16
  | 0x04 => some [used 0 8, used 8 4, (12, 1, 1)]
  | 0x05 => some layQ16
  | 0x06 => some [used 0 8, used 8 8, used 16 4, (20, 1, 1)]
  | 0x07 => some [used 0 1]
  | 0x0C => some [used 0 6]
  | 0x0D => some layQ32
  | 0x10 => some (layS false)
  | 0x11 => some layH16
  | 0x12 => some [used 0 2]
  | 0x13 => some layQ16
  | 0x30 => some []
  | 0x31 => some []
  | 0x32 => some layH16
  | 0x33 => some [used 0 2, used 4 4, used 8 8, used 16 8, (24, 1, 1)]
  | 0x34 => some [used 0 2, used 4 4, used 8 8, (24, 1, 1)]
  | 0x35 => some [used 0 2, used 2 2, used 4 2, used 6 2, used 8 2, used 10 1, (11, 1, 0xF), used 12 2, used 16 4, used 24 8,
      used 32 8]
  | 0x36 => some [used 0 2, (2, 1, 3), used 4 4, used 8 4]
  | 0x37 => some [used 0 4, (4, 1, 1), used 8 8, used 16 4, used 20 4, used 24 8]
  | 0x38 => some [used 0 2, used 2 2, used 4 2, used 6 2, used 8 8, used 16 4, (20, 1, 1), used 24 8, used 32 8]
  | 0x39 => some [used 0 2, used 2 2, used 4 4, used 8 8, used 16 4, (20, 1, 7), used 24 8, used 32 8, used 40 8]
  | 0x3A => some layQ16
  | 0x3B => some []
  | 0x3C => some layH16
  | 0x40 => some [used 0 8, used 8 2, used 10 1, (11, 1, 0x1F)]
  | 0x41 => some layH16
  | 0x42 => some [used 0 4, used 4 1]
  | 0x43 => some (layS false)
  | 0x44 => some layH16
  | 0x45 => some layH16
  | 0x46 => some layEmbed
  | 0x47 => some layEmbed
  | 0x48 => some [used 0 2, (2, 1, 1), used 8 8, used 16 4, used 24 8]
  | 0x49 => some layQ16
  | 0x50 => some (layS true)
  | 0x51 => some layH16
  | 0x52 => some layQ16
  | 0x53 => some layText
  | 0x54 => some layText
  | 0x55 => some (layS true)
  | 0x56 => some layH16
  | 0x57 => some layQ16
  | 0x58 => some [used 0 2, (2, 1, 1), used 4 4, used 8 8, used 16 8, used 24 4]
  | 0x60 => some [used 0 1]
  | 0x61 => some [used 0 4, (4, 1, 7), used 5 1, used 8 8, used 16 4, used 20 4, used 24 2, used 26 2]
  | 0x62 => some layH32
  | 0x63 => some layH32
  | 0x64 => some layQ32
  | 0x65 => some (layS false)
  | 0x66 => some layH32
  | 0x67 => some layQ32
  | 0x68 => some []
  | 0x69 => some [used 0 4, used 4 4, used 8 8, used 16 8, (24, 1, 1)]
  | 0x6A => some layH32
  | 0x6B => some [used 0 1, used 2 2, used 4 2, (6, 1, 1)]
  | 0x70 => some []
  | 0x80 => some layM
  | 0x81 => some layM
  | 0x82 => some layM
  | 0x83 => some layM
  | 0x84 => some layM
  | 0x85 => some layM
  | 0x86 => some layM
  | 0x87 => some layM
  | 0x88 => some layM
  | 0x89 => some layM
  | 0x8A => some layQ16
  | 0x8B => some layE
  | 0x8C => some layE
  | 0x8D => some layE
  | 0x8E => some layE
  | 0x8F => some layQ16
  | _ => none

/-- The bits that a field list uses, as one number. -/
def maskOf (l : List (Nat × Nat × Nat)) : Nat := l.foldl (fun a f => a ||| (f.2.2 <<< (8 * f.1))) 0

/-- Does a byte list hold zero in every bit that the field list does not use? -/
def resvOk (l : List (Nat × Nat × Nat)) (bs : List Byte) : Bool :=
  leNat bs &&& (maskOf l) == leNat bs

/-- The class of queue an opcode belongs to: 0 ADMIN, 1 WORK (18_queues R561). -/
def opcClass (opc : Nat) : Nat := if opc ≤ 0x0F then 0 else 1

/-- Does the opcode table allow this PB_LEN (18_queues R567 step 3, R585, R589)? -/
def pbLenOk (opc len : Nat) : Bool :=
  match opc with
  | 0x12 => len = 0 ∨ (8 ≤ len ∧ len ≤ 2048 ∧ len % 8 = 0)
  | 0x30 => len = 64
  | 0x31 => len = 64
  | 0x3B => 32 ≤ len ∧ len ≤ 81952 ∧ len % 4 = 0
  | 0x60 => len = 576
  | 0x70 => len = 64
  | _ => len = 0

/-- The reserved fields of a parameter block (18_queues R567 step 5; R205, R427, R587 to R589). -/
def pbResvOk (opc : Nat) (pb : List Byte) : Bool :=
  match opc with
  | 0x12 => (words 8 pb).all (fun e => e < 2 ^ 48)
  | 0x30 => pbIndexOk pb
  | 0x31 => pbIndexOk pb
  | 0x3B => zeroAt pb 2 2 && zeroAt pb 24 8
  | 0x60 => field pb 7 1 < 64 && zeroAt pb 37 3 && zeroAt pb 52 12
  | 0x70 => field pb 17 1 < 16 && field pb 44 1 < 32 && zeroAt pb 46 2 && zeroAt pb 60 4
  | _ => true
where
  /-- INDEX_CREATE and INDEX_LOAD (18_queues R588). -/
  pbIndexOk (pb : List Byte) : Bool := field pb 3 1 < 4 && zeroAt pb 54 2 && zeroAt pb 56 8

/-- Layout H of an area (18_queues R583). -/
def argsH (b : List Byte) : HArgs := { handle := field b 0 4 }
/-- Layout Q of an area (18_queues R583). -/
def argsQ (b : List Byte) : QArgs :=
  { handle := field b 0 4, qflags := field b 4 1, outAddr := field b 8 8, outCap := field b 16 4 }
/-- Layout S of an area (18_queues R583). -/
def argsS (b : List Byte) : SArgs :=
  { src := field b 0 1, lflags := field b 1 1, arg16 := field b 2 2, arg32 := field b 4 4, addr := field b 8 8,
    len := field b 16 8, extent := field b 24 8, arg64 := field b 32 8 }
/-- Layout M of an area (18_queues R583). -/
def argsM (b : List Byte) : MArgs :=
  { dua := field b 0 8, pages := field b 8 4, pgflags := field b 12 2, tier := field b 14 1, mflags := field b 15 1,
    hostAddr := field b 16 8, winOff := field b 24 8 }
/-- Layout E of an area (18_queues R583). -/
def argsE (b : List Byte) : EArgs :=
  { extent := field b 0 8, offset := field b 8 8, len := field b 16 8, addr := field b 24 8, eflags := field b 32 1 }
/-- CONE_PROGRAM (18_queues R585). -/
def argsCone (b : List Byte) : ConeArgs := { turn := field b 0 8, offset := field b 8 4, cancel := field b 12 1 }
/-- LOG_READ (18_queues R585). -/
def argsLog (b : List Byte) : LogArgs :=
  { first := field b 0 8, outAddr := field b 8 8, outCap := field b 16 4, dua := field b 20 1 }
/-- INDEX_CREATE and INDEX_LOAD (18_queues R588). -/
def argsIndex (b : List Byte) : IndexArgs :=
  { codeBits := field b 0 2, npartLog2 := field b 2 1, ixflags := field b 3 1, vocab := field b 4 2, blkPages := field b 6 2,
    centAddr := field b 8 8, extent := field b 16 8, centOff := field b 24 8, blkOff := field b 32 8,
    psgExtent := field b 40 8, pub := field b 48 6 }
/-- INSERT and DELETE (09_vector_search R306). -/
def argsInsert (b : List Byte) : InsertArgs :=
  { index := field b 0 2, cnt := field b 4 4, listAddr := field b 8 8, tokAddr := field b 16 8, lflags := field b 24 1 }
/-- SEARCH (09_vector_search R299). -/
def argsSearch (b : List Byte) : SearchArgs :=
  { index := field b 0 2, nprobe := field b 2 2, k := field b 4 2, ef := field b 6 2, qcnt := field b 8 2,
    attrMask := field b 10 1, flags := field b 11 1, shardTag := field b 12 2, maxVisit := field b 16 4,
    queryAddr := field b 24 8, outAddr := field b 32 8 }
/-- WEDGE (09_vector_search R310). -/
def argsWedge (b : List Byte) : WedgeArgs :=
  { index := field b 0 2, wflags := field b 2 1, partFirst := field b 4 4, partCnt := field b 8 4 }
/-- SHARD_MERGE (18_queues R585). -/
def argsShard (b : List Byte) : ShardArgs :=
  { k := field b 0 4, dua := field b 4 1, inAddr := field b 8 8, inCnt := field b 16 4, inStride := field b 20 4,
    outAddr := field b 24 8 }
/-- RERANK (18_queues R585). -/
def argsRerank (b : List Byte) : RerankArgs :=
  { image := field b 0 2, index := field b 2 2, top := field b 4 2, pairLimit := field b 6 2, qtokAddr := field b 8 8,
    qtokCnt := field b 16 4, dua := field b 20 1, inAddr := field b 24 8, outAddr := field b 32 8 }
/-- PACK (18_queues R585). -/
def argsPack (b : List Byte) : PackArgs :=
  { template := field b 0 2, index := field b 2 2, budget := field b 4 4, qtokAddr := field b 8 8, qtokCnt := field b 16 4,
    flags := field b 20 1, itemAddr := field b 24 8, rrAddr := field b 32 8, outAddr := field b 40 8 }
/-- TABLE_CREATE (18_queues R585). -/
def argsTable (b : List Byte) : TableArgs :=
  { rows := field b 0 8, dim := field b 8 2, rfmt := field b 10 1, flags := field b 11 1 }
/-- TABLE_STAGE (18_queues R585). -/
def argsStage (b : List Byte) : StageArgs := { handle := field b 0 4, mode := field b 4 1 }
/-- EMBED_LOOKUP and EMBED_UPDATE (18_queues R585). -/
def argsEmbed (b : List Byte) : EmbedArgs :=
  { table := field b 0 2, mode := field b 2 1, flags := field b 3 1, bags := field b 4 4, idxAddr := field b 8 8,
    n := field b 16 4, lr := field b 20 4, aux := field b 24 8, outAddr := field b 32 8, eps := field b 40 4,
    fmt := field b 44 1 }
/-- TABLE_READ (18_queues R585). -/
def argsTRead (b : List Byte) : TReadArgs :=
  { table := field b 0 2, dua := field b 2 1, first := field b 8 8, rows := field b 16 4, outAddr := field b 24 8 }
/-- TOKENISE and DETOKENISE (11_text_engine R381, R383). -/
def argsText (b : List Byte) : TextArgs :=
  { vocab := field b 0 2, policy := field b 2 1, tflags := field b 3 1, ctx := field b 4 2, inAddr := field b 8 8,
    inLen := field b 16 4, outCap := field b 20 4, outAddr := field b 24 8 }
/-- GRAMMAR_MASK (18_queues R585). -/
def argsMask (b : List Byte) : MaskArgs :=
  { grammar := field b 0 2, dua := field b 2 1, cnt := field b 4 4, inAddr := field b 8 8, outAddr := field b 16 8,
    outCap := field b 24 4 }
/-- GENERATE (13_serving R430). -/
def argsGen (b : List Byte) : GenArgs :=
  { session := field b 0 4, gflags := field b 4 1, policy := field b 5 1, inAddr := field b 8 8, inLen := field b 16 4,
    maxNew := field b 20 4, firstDl := field b 24 2, endDl := field b 26 2 }
/-- SHADOW_FEED (18_queues R585). -/
def argsFeed (b : List Byte) : FeedArgs :=
  { session := field b 0 4, cnt := field b 4 4, pturn := field b 8 8, addr := field b 16 8, dua := field b 24 1 }
/-- CLASS_SET (18_queues R585). -/
def argsClass (b : List Byte) : ClassArgs :=
  { cls := field b 0 1, weight := field b 2 2, quantum := field b 4 2, setQuantum := field b 6 1 }
/-- CHAIN (18_queues R587). -/
def argsChain (b : List Byte) : ChainArgs :=
  { encImg := field b 0 2, qvocab := field b 2 2, index := field b 4 2, nprobe := field b 6 2, k := field b 8 2,
    ef := field b 10 2, maxVisit := field b 12 4, attrMask := field b 16 1, chflags := field b 17 1, rrImg := field b 18 2,
    rrCnt := field b 20 2, rrTop := field b 22 2, rrPairLimit := field b 24 2, template := field b 26 2,
    budget := field b 28 4, session := field b 32 4, maxNew := field b 36 4, firstDl := field b 40 2, endDl := field b 42 2,
    stageCpl := field b 44 1, policy := field b 45 1, queryAddr := field b 48 8, queryLen := field b 56 4 }
/-- TEMPLATE_LOAD: the five lengths and every whole token ID of the block (18_queues R589). -/
def argsTemplate (b : List Byte) : TemplateArgs :=
  { vocab := field b 0 2, lens := words 4 ((b.drop 4).take 20), toks := words 4 (b.drop 32) }
/-- SESSION_OPEN: STREAMQ of the area and the session descriptor of the block (13_serving R427). -/
def argsOpen (area pb : List Byte) : OpenArgs :=
  { streamQ := field area 0 1, model := field pb 0 2, vocab := field pb 2 2, grammar := field pb 4 2, cls := field pb 6 1,
    sflags := field pb 7 1, glaze := field pb 8 4, maxCtx := field pb 12 4, maxNew := field pb 16 4, temp := field pb 20 4,
    seed := field pb 24 8, draft := field pb 32 2, specMax := field pb 34 1, proposer := field pb 35 1,
    stopCnt := field pb 36 1, stopLen := words 1 ((pb.drop 40).take 8), kvBlocks := field pb 48 4,
    stops := pieces 64 8 (pb.drop 64) }

end Sys2Proof.Machine
end

