-- ==== Sys2Proof/Machine/Ops.lean ====
section
/-! DEFINITION. The shared operations over the state: accessors, counters, the log, vectors, the cone trigger, memory
accesses by DUA and by host address, query records, and the completion of a command. -/

namespace Sys2Proof.Machine

/-! ## Accessors -/

/-- Partition p (16_scheduling R508). -/
def State.part (s : State) (p : Nat) : Part := KMap.findD s.parts p {}

/-- The state with partition p changed; no effect where there is no partition p. -/
def State.modPart (s : State) (p : Nat) (f : Part → Part) : State := { s with parts := KMap.mod s.parts p f }

/-- Queue q of partition p (18_queues R561). -/
def State.queue (s : State) (p q : Nat) : Queue := KMap.findD (s.part p).queues q {}

/-- The state with queue q of partition p changed. -/
def State.modQueue (s : State) (p q : Nat) (f : Queue → Queue) : State :=
  s.modPart p (fun v => { v with queues := KMap.mod v.queues q f })

/-- Head h (17_host_link R539). -/
def State.head (s : State) (h : Nat) : Head := s.heads.getD h {}

/-- The state with head h changed. -/
def State.modHead (s : State) (h : Nat) (f : Head → Head) : State :=
  { s with heads := s.heads.modify h f }

/-- Tile t; an unlisted tile is a fresh one (04_tile R98). -/
def State.tile (s : State) (t : Nat) : Tile := KMap.findD s.tiles t {}

/-- The state with tile t changed. -/
def State.modTile (s : State) (t : Nat) (f : Tile → Tile) : State :=
  { s with tiles := KMap.put s.tiles t (f (s.tile t)) }

/-- Page entry n (08_memory_tiers R248). -/
def State.modPage (s : State) (n : Nat) (f : Page → Page) : State := { s with pages := KMap.mod s.pages n f }

/-- The state with session i changed. -/
def State.modSess (s : State) (i : Nat) (f : Session → Session) : State := { s with sessions := KMap.mod s.sessions i f }

/-- The number of the running turn, 64 bits (15_wheel R492). -/
def State.turn (s : State) : Nat := s.wheel.turn

/-- Length P of a turn in ns (15_wheel R493). -/
def Wheel.period (w : Wheel) : Nat := w.turnPeriod * 250000

/-- Length c of the commit window in ns (15_wheel R493). -/
def Wheel.window (w : Wheel) : Nat := w.commitWin * 50000

/-- A draw of the block's free values (log 9): the value, and the state with the counter advanced. -/
def State.draw (s : State) : Nat × State := (Config.freeNat s.fresh, { s with fresh := s.fresh + 1 })

/-! ## Counters -/

/-- A 64-bit saturating counter raised by n (18_queues R590). -/
def satAdd (a n : Nat) : Nat := min (a + n) (2 ^ 64 - 1)

/-- A counter table with counter c raised by n. -/
def bump (m : KMap Nat) (c n : Nat) : KMap Nat := KMap.put m c (satAdd (KMap.findD m c 0) n)

/-- Counter c of partition p raised by n. -/
def State.count (s : State) (p c n : Nat) : State := s.modPart p (fun v => { v with ctr := bump v.ctr c n })

/-- Device counter c raised by n (15_wheel R506, 21_reliability R653). -/
def State.devCount (s : State) (c n : Nat) : State := { s with dctr := bump s.dctr c n }

/-- Power counter c raised by n (20_power_thermal R628). -/
def State.powCount (s : State) (c n : Nat) : State := { s with power := { s.power with ctr := bump s.power.ctr c n } }

/-- Flash counter c raised by n (08_memory_tiers R283). -/
def State.flashCount (s : State) (c n : Nat) : State := { s with flash := { s.flash with ctr := bump s.flash.ctr c n } }

/-- Counter c of head h raised by n (17_host_link R560). -/
def State.headCount (s : State) (h c n : Nat) : State := s.modHead h (fun v => { v with ctr := bump v.ctr c n })

/-- A 48-bit saturating tile counter raised by n (04_tile R135). -/
def State.tileCount (s : State) (t c n : Nat) : State :=
  s.modTile t (fun v => { v with ctr := KMap.put v.ctr c (min (KMap.findD v.ctr c 0 + n) (2 ^ 48 - 1)) })

/-- The tile that runs a built-in command which holds no task of its own: which one the spec leaves open (06_operations R181; free
value, log 37). -/
def State.builtinTile (s : State) : Nat := Config.freeNat (s.fresh + 2 ^ 63) % 1024

/-- Conversion events of a tile's vector unit counted (02 R63, 04 R135). -/
def State.convEvents (s : State) (tile sat nan : Nat) : State :=
  (s.tileCount tile TileCtr.convSatCnt sat).tileCount tile TileCtr.convNanCnt nan

/-! ## The log (23_management R681 to R684) -/

/-- One record of the log, dropped and counted beyond 1,000 of its class since the last second mark. -/
def State.log (s : State) (cls ev part source : Nat) (payload : List Byte) : State :=
  let m := s.mgmt
  let n := KMap.findD m.logCnt cls 0
  if 1000 ≤ n then { s with mgmt := { m with logDropped := satAdd m.logDropped 1 } }
  else
    { s with mgmt := { m with
        logBuf := m.logBuf ++ [{
          recno := m.logNext, turn := s.turn, off := s.wheel.now, cls := cls,
          sev := Config.logSev cls ev % 4, part := part, source := source, payload := payload }]
        logNext := m.logNext + 1
        logCnt := KMap.put m.logCnt cls (n + 1) } }

/-- A record whose payload is an EVENT with two arguments (23_management R683). -/
def State.logEv (s : State) (cls ev part source arg0 arg1 : Nat) : State :=
  s.log cls ev part source (leBytes 2 ev ++ zeros 2 ++ leBytes 8 arg0 ++ leBytes 8 arg1)

/-- A record of class FAULT. DETAIL of a memory error, compute fault or flash error (KIND 0 to 4, 7) is a syndrome, residue pair or
check word, whose value the spec leaves open: a free value (21_reliability R652; log 10). -/
def State.logFault (s : State) (kind domain tile part outcome seq addr detail : Nat) : State :=
  let detail := if kind ≤ 4 ∨ kind = 7 then s.draw.1 % 2 ^ 64 else detail
  let s := if kind ≤ 4 ∨ kind = 7 then s.draw.2 else s
  s.log 2 kind part tile
    (leBytes 1 kind ++ leBytes 1 domain ++ leBytes 2 tile ++ leBytes 1 part ++ zeros 1 ++ leBytes 2 outcome ++
      leBytes 8 s.turn ++ leBytes 4 s.wheel.now ++ leBytes 4 seq ++ leBytes 8 addr ++ leBytes 8 detail)

/-! ## Vectors (18_queues R573, 15_wheel R497) -/

/-- Are MSI-X and bus mastering of partition p's function enabled (18_queues R573)? -/
def Part.signals (v : Part) : Bool := v.msixEn && v.busMaster

/-- Vector v of partition p raised at once: a partition event or a device event (18_queues R573). -/
def State.raise (s : State) (p v : Nat) : State :=
  if (s.part p).signals && !s.vectors.contains (p, v) then { s with vectors := s.vectors ++ [(p, v)] } else s

/-- Vector v of partition p due after the last record of the turn, at most once (15_wheel R497). -/
def State.due (s : State) (p v : Nat) : State :=
  if s.vecDue.contains (p, v) then s else { s with vecDue := s.vecDue ++ [(p, v)] }

/-! ## PLDM events (23_management R680) -/

/-- A PLDM event of sensor `id`, sent where a receiver is registered (23_management R680). -/
def State.platformEvent (s : State) (id : Nat) (v : Int) : State :=
  if s.mgmt.receiver then { s with mgmt := { s.mgmt with events := s.mgmt.events ++ [(id, v)] } } else s

/-- Is a loss of the module in force: DH, DX or DA lost, or the converters off (21_reliability R650, 20 R622)? -/
def State.moduleLost (s : State) : Bool :=
  !s.power.inputOk || s.power.domLost.getD 16 false || s.power.domLost.getD 17 false || s.power.domLost.getD 19 false

/-! ## The cone (23_management R689 to R695, 19_registers R607) -/

/-- Number of STATE of a queue (19_registers R599). -/
def QState.num : QState → Nat
  | .disabled => 0
  | .enabled => 1
  | .fetchError => 2
  | .resetting => 3
  | .disablePending => 4

/-- The queue section of a snapshot: STATE, SQ_HEAD, CQ_TAIL, STR_WR and IN_FLIGHT, the commands accepted and not complete, of each
queue that is not idle (23_management R694). -/
def State.snapQueues (s : State) : KMap (List Nat) :=
  s.parts.flatMap (fun e => (e.2.queues.filter (fun f => f.2.state ≠ .disabled)).map (fun f =>
    (64 * e.1 + f.1, [f.2.state.num, f.2.sqHead, f.2.cqTail, f.2.strWr,
      (s.inflight.filter (fun c => c.part = e.1 ∧ c.queue = f.1 ∧ c.st = .running)).length])))

/-- Is tile t's DL domain gated or down (20_power_thermal R612, R614, R621)? -/
def State.tileGated (s : State) (t : Nat) : Bool := decide (2 ≤ s.power.pstate) || !s.power.domUp.getD (t / 128) false

/-- OWNER, TSTATE, REC_INDEX, FRONT_ROW, PASS, IMAGE and the states of the DMA contexts of a tile (04_tile R136,
05_array_dataflow R167, 23_management R694). A record is one step, so a tile is latched between records or in a record that it
holds (log 13). -/
def State.snapTile (s : State) (t : Nat) : List Nat :=
  let v := s.tile t
  if s.tileGated t then [0, 4, 0, 0, 0, 0, 0, 0, 0, 0, 0, 0, 0, 0]
  else match KMap.find s.tasks v.task with
    | none => [0xFF, if v.quarantined then 5 else 0, 0xFFFF, v.front, 0, 0] ++ v.dma
    | some k => [k.part, if v.quarantined then 5 else if v.recIdx ≠ 0xFFFF then 2 else 0, v.recIdx, v.front, v.passNo, v.recImage] ++ v.dma

/-- The tile section of a snapshot, for the tiles that are not fresh ones (23_management R694). -/
def State.snapTiles (s : State) : KMap (List Nat × List Nat) :=
  s.tiles.map (fun e => (e.1, s.snapTile e.1,
    if s.tileGated e.1 then [] else (List.range 13).map (fun c => KMap.findD e.2.ctr c 0)))

/-- One trigger of the cone from source `src` (23_management R689 to R692, 19_registers R607). -/
def State.trigger (s : State) (src matchW : Nat) : State :=
  if s.stage ≠ .up ∨ s.sagger.erased ∨ s.moduleLost then s
  else
    let m := { s.mgmt with
      conePulses := s.mgmt.conePulses + (if s.mgmt.coneOutEn then 1 else 0)
      matchEn := s.mgmt.matchEn && src ≠ 2 }
    if m.snapBusy then
      { s with mgmt := { m with
          snapMerged := min (m.snapMerged + 1) (2 ^ 32 - 1)
          snaps := m.snaps.modify (m.snaps.length - 1) (fun p => { p with merged := p.merged + 1 }) } }
    else
      let no := (m.lastSnap + 1) % 2 ^ 16
      let snap : Snap := {
        no := no, source := src, turn := s.turn, off := s.wheel.now, pace := s.wheel.pace,
        phase := if s.wheel.commit then 1 else 0, pstate := s.power.pstate, todS := s.wheel.todS, todNs := s.wheel.todNs,
        matchW := matchW, queues := s.snapQueues, tiles := s.snapTiles, gatedDies := (List.range 8).filter (fun d => s.tileGated (128 * d)) }
      { s with mgmt := { m with
          lastSnap := no, snapSource := src, snapBusy := true, snaps := (m.snaps ++ [snap]).drop (m.snaps.length - 15) } }

/-- The event matcher on a completion of partition p with this status (19_registers R606, 23_management R689). -/
def State.matcher (s : State) (p status : Nat) : State :=
  if s.mgmt.matchEn && (s.mgmt.matchAll || s.mgmt.matchPart == p) && s.mgmt.matchStatus == status && status ≠ 0 then
    s.trigger 2 (status + 2 ^ 16 * p)
  else s

/-! ## Is the module in service? -/

/-- Does an alarm at LOCK or above hold the module, its boundary past (22_security R671)? -/
def State.locked (s : State) : Bool := s.sagger.secLock && !s.sagger.lockDue

/-- Is DA up: Askux, the sagger, the pacing inputs, the turn counter, the sensors (01_architecture R11)? -/
def State.daUp (s : State) : Bool := s.power.inputOk && !s.power.domLost.getD 19 false

/-- Is the flash controller up (01_architecture R11)? -/
def State.flashUp (s : State) : Bool := s.power.inputOk && !s.power.domLost.getD 18 false

/-- May a ring be written: the module serves, no alarm holds it (21_reliability R650, 22_security R671). -/
def State.ringsLive (s : State) : Bool := s.ready && !s.locked && !s.moduleLost && !s.sagger.erased

/-- The image trust list in force: the default list where none was set (22_security R661, R669). -/
def Part.trustList (v : Part) : List (List Byte) := if v.trust = [] then [leBytes 32 Config.releaseRoot] else v.trust

/-- Does partition p's image key pair exist: the partition is enabled and K_ROOT is formed (22_security R658)? -/
def State.partKey (s : State) (p : Nat) : Bool := (s.part p).en && !(s.part p).enPend && s.sagger.kRoot

/-- Does Askux answer: DA is up, and a cold start has come as far as the mount, or the module is in boot recovery (23_management
R676, R677; 24_startup R698)? -/
def State.askuxUp (s : State) : Bool := s.stage ≠ .off && s.daUp && (s.mgmt.served || s.recovery)

/-! ## Bytes by DUA (08_memory_tiers R244, R245, R250, R251) -/

/-- Do bytes `a` to `a + n - 1` lie in partition p's own window of partition space? -/
def inWindow (p a n : Nat) : Bool := a / 2 ^ 43 == p && (n == 0 || (a + n - 1) / 2 ^ 43 == p)

/-- The pages that bytes `a` to `a + n - 1` touch. -/
def pagesOf (a n : Nat) : List Nat :=
  if n = 0 then [] else (List.range ((a + n - 1) / 65536 + 1 - a / 65536)).map (fun i => a / 65536 + i)

/-- Flag i of a page (08_memory_tiers R249). -/
def Page.flag (g : Page) (i : Nat) : Bool := g.flags.getLsbD i
/-- The page with flag i set to b. -/
def Page.setFlag (g : Page) (i : Nat) (b : Bool) : Page :=
  { g with flags := if b then g.flags ||| BitVec.ofNat 16 (2 ^ i) else g.flags &&& ~~~ BitVec.ofNat 16 (2 ^ i) }

/-- Status that stops a read of partition p's bytes, 0 where it may go on (04_tile R123, 08 R245, R276). -/
def State.readErr (s : State) (p a n : Nat) : Nat :=
  if !inWindow p a n || (pagesOf a n).any (fun k => match KMap.find s.pages k with | none => true | some g => g.owner ≠ p)
  then Code.addressNotOwned
  else if (pagesOf a n).any (fun k => match KMap.find s.pages k with | none => false | some g => g.flag 7)
  then Code.pageLost
  else 0

/-- Status that stops a write (08_memory_tiers R251). -/
def State.writeErr (s : State) (p a n : Nat) : Nat :=
  if s.readErr p a n ≠ 0 then s.readErr p a n
  else if (pagesOf a n).any (fun k => match KMap.find s.pages k with | none => false | some g => g.flag 3)
  then Code.pageReadonly
  else 0

/-- AGE of the pages set to the current turn (08_memory_tiers R250). -/
def State.touch (s : State) (ks : List Nat) : State :=
  { s with pages := s.pages.map (fun e => if ks.contains e.1 then (e.1, { e.2 with age := s.turn % 2 ^ 48 }) else e) }

/-- Pages read for partition p: AGE set; a page of a lost stack is read by reconstruction from its group, and the read is held
for that cause (08_memory_tiers R250, R268, R276, R277). -/
def State.readPages (s : State) (p : Nat) (ks : List Nat) : State :=
  let w := s.pages.filter (fun e => ks.contains e.1 && e.2.rebuild)
  let t := s.touch ks
  if w.isEmpty then t
  else (w.foldl (fun (a : State) e => a.count e.2.owner Ctr.parityReconPages 1) t).count p Ctr.stallParEvt 1

/-- The lines of 64 B that bytes `a` to `a + n - 1` touch in page k (08_memory_tiers R262). -/
def linesIn (k a n : Nat) : List Nat :=
  (List.range 1024).filter (fun l => a < k * 65536 + 64 * l + 64 && k * 65536 + 64 * l < a + n)

/-- FRAME of a page whose only copy is in the extent store (08_memory_tiers R248, R249; DESIGN CHOICE, log 38). -/
def extentFrame : Nat := 2 ^ 32 - 1

/-- The state with bytes written by DUA: AGE set, the lines of a migrating page marked dirty, a backing copy no longer
identical (08_memory_tiers R249, R250, R262). -/
def State.devPut (s : State) (a : Nat) (bs : List Byte) : State :=
  let ks := pagesOf a bs.length
  let t := s.touch ks
  { t with
    dev := t.dev.writeN a bs
    pages := t.pages.map (fun e => if ks.contains e.1 then
      (e.1, { e.2.setFlag 6 (e.2.flag 6 && e.2.tier == 2 && e.2.frame ≠ extentFrame) with
        back := none
        dirty := if e.2.mstate = 1 ∨ e.2.mstate = 2 then (e.2.dirty ++ linesIn e.1 a bs.length).dedup else e.2.dirty })
      else e) }

/-- Bytes that a command of partition p names by DUA or by host address: the bytes and the state with AGE set, or the status
that stops the command. -/
def State.readBuf (s : State) (p : Nat) (dua : Bool) (a n : Nat) : Except Nat (List Byte × State) :=
  if dua then
    (if s.readErr p a n = 0 then .ok (s.dev.readN a n, s.readPages p (pagesOf a n)) else .error (s.readErr p a n))
  else .ok (s.hostMem.readN a n, s)

/-- The state with a command's output written by DUA or to host memory, or the status that stops it. -/
def State.writeBuf (s : State) (p : Nat) (dua : Bool) (a : Nat) (bs : List Byte) : Except Nat State :=
  if dua then
    (if s.writeErr p a bs.length = 0 then .ok (s.devPut a bs) else .error (s.writeErr p a bs.length))
  else .ok { s with hostMem := s.hostMem.writeN a bs }

/-- May partition p read `n` bytes of extent `x` from offset `o` (08_memory_tiers R286)? -/
def State.extentOk (s : State) (p x o n : Nat) : Bool :=
  match KMap.find s.flash.extents x with
  | none => false
  | some v => v.owner == p && decide (o + n ≤ v.size)

/-- `n` bytes of extent `x` from offset `o`. -/
def State.extentRead (s : State) (x o n : Nat) : List Byte := (KMap.findD s.flash.extents x {}).data.readN o n

/-- The bytes that layout S names: host memory, DUA or extent (18_queues R583). -/
def State.source (s : State) (p : Nat) (a : SArgs) : Except Nat (List Byte × State) :=
  match a.src with
  | 0 => s.readBuf p false a.addr a.len
  | 1 => s.readBuf p true a.addr a.len
  | 2 => if s.extentOk p a.extent a.addr a.len then .ok (s.extentRead a.extent a.addr a.len, s)
         else .error Code.extentInvalid
  | _ => .error Code.fieldInvalid

/-! ## Commands in flight (18_queues R567 to R573) -/

/-- The state with a command's entry replaced. -/
def State.setCmd (s : State) (e : CmdE) : State :=
  { s with inflight := s.inflight.map (fun c => if c.tag = e.tag then e else c) }

/-- The fetched command of that tag. -/
def State.cmd (s : State) (tag : Nat) : Option CmdE := s.inflight.find? (fun c => c.tag = tag)

/-- May a completion or a record be written to the ring: it is set up and the function's bus mastering is enabled
(16_scheduling R533)? -/
def State.ringOk (s : State) (p q : Nat) : Bool :=
  (s.part p).busMaster && (s.queue p q).state ≠ .disabled

/-- The 32 bytes of a completion entry (18_queues R569). -/
def cplBytes (e : CmdE) (k : Queue) (stage : Option Nat) (status result turn : Nat) : List Byte :=
  leBytes 2 e.cid ++ leBytes 1 e.queue ++
    leBytes 1 (flag k.phase 0 + flag stage.isSome 1 + 4 * (stage.getD 0) + flag (e.woke && stage.isNone) 5) ++
    leBytes 2 status ++ leBytes 2 k.sqHead ++ leBytes 16 result ++ leBytes 6 turn ++ zeros 2

/-- Address of the hub's next completion slot (18_queues R571). -/
def Queue.cplSlot (k : Queue) : Nat := k.cqBase + 32 * k.cqTail

/-- The hub's slot advanced, the phase inverted at the end of the ring (18_queues R571). -/
def Queue.cplNext (k : Queue) : Queue :=
  { k with
    cqTail := if k.cqTail = k.cqSizeM1 then 0 else k.cqTail + 1
    phase := if k.cqTail = k.cqSizeM1 then !k.phase else k.phase }

/-- The state with bytes of host memory written. -/
def State.hostPut (s : State) (a : Nat) (bs : List Byte) : State := { s with hostMem := s.hostMem.writeN a bs }

/-- The completion entry written at the hub's next slot, and the slot advanced (18_queues R569, R571). -/
def State.cplWrite (s : State) (e : CmdE) (stage : Option Nat) (status result : Nat) : State :=
  (s.hostPut (s.queue e.part e.queue).cplSlot (cplBytes e (s.queue e.part e.queue) stage status result s.turn)).modQueue e.part
    e.queue Queue.cplNext

/-- One completion posted: its entry written, counted, the vector due, the matcher told; or counted in DISABLE_DROP, or nothing
once the module is lost or locked (18_queues R569 to R573, 16 R533, 21 R650). -/
def State.post (s : State) (e : CmdE) (stage : Option Nat) (status result : Nat) : State :=
  if !s.ringsLive then s
  else if !s.ringOk e.part e.queue then s.count e.part Ctr.disableDrop 1
  else
    (((s.cplWrite e stage status result).count e.part Ctr.cplPosted 1).due e.part (s.queue e.part e.queue).vector).matcher e.part
      status

/-- The completion slots a queue has free: those a command reserves are taken (18_queues R570). -/
def Queue.freeSlots (k : Queue) : Nat :=
  let size := k.cqSizeM1 + 1
  let posted := (k.cqTail + size - k.cqHeadDb) % size
  size - 1 - posted - k.reserved

/-- A command complete: posted unless QUIET holds back a success, its reservation released, its entry gone
(18_queues R570, R572). -/
def State.done (s : State) (e : CmdE) (status result : Nat) : State :=
  let t := if e.quiet && status = 0 then s else s.post e none status result
  let u := { t with inflight := t.inflight.filter (fun c => c.tag ≠ e.tag) }
  u.modQueue e.part e.queue (fun v => { v with reserved := v.reserved - e.resv })

/-- A command's entry as it stands, `e` where it is gone. -/
def State.entry (s : State) (e : CmdE) : CmdE := (s.cmd e.tag).getD e

/-- One slot that a command reserved given back (18_queues R570). -/
def State.slotBack (s : State) (e : CmdE) : State :=
  (s.setCmd { s.entry e with resv := (s.entry e).resv - 1 }).modQueue e.part e.queue (fun v => { v with reserved := v.reserved - 1 })

/-- A per-stage completion posted, its reservation with it (18_queues R570, R572). -/
def State.stageOver (s : State) (e : CmdE) (n status result : Nat) : State := (s.post e (some n) status result).slotBack e

/-- A command that fails a check: counted, and complete with the failing status (18_queues R567, R568, R590). -/
def State.reject (s : State) (e : CmdE) (status : Nat) : State := (s.count e.part Ctr.cmdRejected 1).done e status 0

/-- The turn whose boundary is the first after now (13_serving R431): turn 0 before the first boundary (15_wheel R492). -/
def State.arrivalTurn (s : State) : Nat := if s.wheel.started then s.turn + 1 else 0

/-- A command that stays unfinished until a later event completes it. -/
def State.keep (s : State) (e : CmdE) : State := s.setCmd { e with st := .running, acceptTurn := s.arrivalTurn }

/-- The status of the first check of a list that fails. -/
def firstBad : List (Bool × Nat) → Option Nat
  | [] => none
  | (bad, c) :: t => if bad then some c else firstBad t

/-- A command whose checks are a list, and what it does when all pass. -/
def State.checked (s : State) (e : CmdE) (checks : List (Bool × Nat)) (f : Unit → State) : State :=
  match firstBad checks with
  | some c => s.reject e c
  | none => f ()

/-- Does this opcode execute in NAP and DEEP without waking the module (18_queues R582)? -/
def napExempt (opc : Nat) : Bool := [0x00, 0x02, 0x06, 0x07, 0x0C, 0x0D].contains opc

/-- The command a row names: fetched, past steps 1 to 5, free to start (18_queues R567, R568, R577). -/
def State.ready? (s : State) (r : Ref) (opc : Nat) : Option CmdE :=
  s.inflight.find? (fun c => c.part = r.part && c.queue = r.queue && c.cid = r.cid && c.opc = opc && c.st == .ready)

/-- Does a command need the flash controller: an extent's, INDEX_LOAD, or a load whose source is an extent (08_memory_tiers
R284, 18_queues R583)? -/
def CmdE.usesFlash (e : CmdE) : Bool :=
  [0x31, 0x8B, 0x8C, 0x8D, 0x8E, 0x8F].contains e.opc ||
    ([0x10, 0x43, 0x50, 0x55, 0x65].contains e.opc && (argsS e.area).src == 2)

/-- May the command execute: its partition or queue is not being disabled (16_scheduling R532; an ADMIN command runs on,
18_queues R581), and the flash controller is up where it is needed (01_architecture R11; log 38)? -/
def State.admits (s : State) (e : CmdE) : Bool :=
  (e.queue == 0 || (!(s.part e.part).disablePending && (s.queue e.part e.queue).state ≠ .disablePending)) &&
    (!e.usesFlash || s.flashUp)

/-- Steps 6 and 7 of the checks and the effect of one command: where the fetched command is there with these fields, it wakes
the module in NAP or DEEP (18_queues R582) or runs. Where it is not there the row has no effect (log 2). -/
def State.command (s : State) (r : Ref) (opc : Nat) (same : CmdE → Bool) (f : State → CmdE → State) :
    Host.Outcome State Fault Refusal :=
  match s.ready? r opc with
  | none => .next s
  | some e =>
    if !same e || !s.admits e || !s.ringsLive then .next s
    else if napExempt opc then .next (f s e)
    else if s.power.entering && decide (2 ≤ s.power.target) then
      let e' := { e with woke := true }
      .next (f ({ s with power := { s.power with woke := true } }.setCmd e') e')
    else if 2 ≤ s.power.pstate then .next { s with power := { s.power with exiting := true } }
    else .next (f s e)

/-! ## Query records (18_queues R584) -/

/-- The items of a query record, each started on an 8-byte boundary. -/
def qItems (items : List (List Byte)) : List Byte :=
  items.foldl (fun a i => a ++ zeros (roundUp a.length 8 - a.length) ++ i) []

/-- A query record: its header, then its items. -/
def qRecord (opc : Nat) (items : List (List Byte)) : List Byte :=
  let body := qItems items
  leBytes 2 opc ++ zeros 2 ++ leBytes 4 (16 + body.length) ++ zeros 8 ++ body

/-- A Q-layout command that answers with these items (18_queues R584). -/
def State.answer (s : State) (e : CmdE) (a : QArgs) (items : List (List Byte)) : State :=
  let bs := qRecord e.opc items
  if a.outCap < bs.length then (s.count e.part Ctr.cmdRejected 1).done e Code.outputTooSmall bs.length
  else match s.writeBuf e.part (bit a.qflags 0) a.outAddr bs with
    | .error c => s.reject e c
    | .ok t => t.done e 0 0

/-- Counters of 8 bytes each, in their order. -/
def ctrBytes (m : KMap Nat) (first n : Nat) : List Byte :=
  (List.range n).flatMap (fun i => leBytes 8 (KMap.findD m (first + i) 0))

end Sys2Proof.Machine
end

