-- ==== Sys2Proof/Machine/Queues.lean ====
section
/-! DEFINITION. Doorbells, descriptor fetch and its checks, parameter blocks, failed host reads, ORDERED, and the reset of a
queue (18_queues R561 to R580). -/

namespace Sys2Proof.Machine

/-! ## Reaching a partition over its head -/

/-- Is IDE active on head h: both streams (17_host_link R550, R551)? -/
def Head.ide (h : Head) : Bool := h.ideIo && h.ideMem

/-- Does the head that partition p is bound to present it (17_host_link R541, R542)? -/
def State.reach (s : State) (p : Nat) : Bool :=
  let h := s.head (s.part p).eff.head
  h.up && (h.mld || h.sldPart == p)

/-- Are accesses to partition p's windows held off: IDE required and not active, or an alarm past its boundary
(17_host_link R551, 22_security R671)? -/
def State.ideBlocked (s : State) (p : Nat) : Bool :=
  (s.part p).eff.ideRequired && !(s.head (s.part p).eff.head).ide

/-- Window offset of partition p's doorbell page (19_registers R601). -/
def Part.dbOffset (v : Part) : Nat := v.dbLo * 2 ^ 16 + v.dbHi * 2 ^ 32

/-! ## Doorbells (18_queues R563, R564) -/

/-- Is a doorbell write ignored: word 0 SQ_TAIL, 1 CQ_HEAD, 2 STR_HEAD, above those a reserved offset (18_queues R564)? -/
def doorbellBad (v : Part) (k : Queue) (word len value : Nat) : Bool :=
  len ≠ 8 || v.disablePending ||
  (match k.state with | .enabled => false | .fetchError => false | _ => true) ||
  (match word with
    | 0 => k.cls = 2 || decide (k.sqSizeM1 < value)
    | 1 => k.cls = 2 || decide (k.cqSizeM1 < value) ||
        decide ((k.cqTail + (k.cqSizeM1 + 1) - k.cqHeadDb) % (k.cqSizeM1 + 1) <
          (value + (k.cqSizeM1 + 1) - k.cqHeadDb) % (k.cqSizeM1 + 1))
    | 2 => k.cls ≠ 2 || value % 16 ≠ 0 || decide (2 ^ k.strLog2 ≤ value)
    | _ => true)

/-- A write to word `word` of queue q's doorbell slot: accepted, or ignored, counted, and logged once per queue and turn
(18_queues R564). -/
def State.doorbell (s : State) (p q word len value : Nat) : State :=
  let k := s.queue p q
  if doorbellBad (s.part p) k word len value then
    let t := s.count p Ctr.dbIgnored 1
    if k.dbLogged then t
    else (t.logEv 5 1 p q (64 * q + 8 * word) 0).modQueue p q (fun v => { v with dbLogged := true })
  else s.modQueue p q (fun v => match word with
    | 0 => { v with sqTailDb := value }
    | 1 => { v with cqHeadDb := value }
    | _ => { v with strHeadDb := value })

/-- A doorbell store that reaches partition p's window; a decoder in Commit Error decodes nothing (17_host_link R545, R546, R551;
22_security R671). -/
def State.ring (s : State) (p q word len value : Nat) : State :=
  if !s.reach p || s.ideBlocked p || s.locked || s.sagger.erased || s.moduleLost || (s.part p).commitErr || decide (64 ≤ q) then s
  else s.doorbell p q word len value

/-- SQ_TAIL (18_queues R564): the host's own stores of the entries, then the doorbell (log 3). -/
def execSqTail (part queue len : Nat) (value : BitVec 64) (stores : List Host.Cell) (s : State) :
    Host.Outcome State Fault Refusal :=
  .next (({ s with hostMem := stores.foldl (fun (m : Mem) (c : Host.Cell) => m.write c.1 c.2) s.hostMem }).ring part queue 0 len value.toNat)

/-- CQ_HEAD (18_queues R564, R571). -/
def execCqHead (part queue len : Nat) (value : BitVec 64) (s : State) : Host.Outcome State Fault Refusal :=
  .next (s.ring part queue 1 len value.toNat)

/-- STR_HEAD (18_queues R564, R575). -/
def execStrHead (part queue len : Nat) (value : BitVec 64) (s : State) : Host.Outcome State Fault Refusal :=
  .next (s.ring part queue 2 len value.toNat)

/-! ## Fetching (18_queues R565 to R570, R577, R578) -/

/-- Does the hub fetch for this queue: ENABLED, its partition enabled and not being disabled, READY, no alarm, a slot waiting
(18_queues R566, R579; 22_security R671; 24_startup R698)? -/
def State.fetches (s : State) (p q : Nat) : Bool :=
  s.ready && !s.sagger.secLock && !s.sagger.erased && !s.moduleLost && (s.part p).en && !(s.part p).disablePending &&
    (s.queue p q).state == .enabled && (s.queue p q).cls ≠ 2 && (s.queue p q).sqHead ≠ (s.queue p q).sqTailDb

/-- A descriptor's 64 bytes in the ring (18_queues R562, R565). -/
def State.descriptor (s : State) (k : Queue) : List Byte :=
  (if k.sqDua then s.dev else s.hostMem).readN (k.sqBase + 64 * k.sqHead) 64

/-- The fetched entry of a descriptor (18_queues R565). -/
def entryOf (tag p q : Nat) (d : List Byte) : CmdE :=
  { tag := tag, part := p, queue := q, cid := field d 2 2, opc := field d 0 1, ordered := bit (field d 1 1) 0,
    quiet := bit (field d 1 1) 1, pbDua := bit (field d 1 1) 2, area := d.drop 16, pbAddr := field d 8 8,
    pbLen := field d 4 4 }

/-- Steps 1 to 3 of the checks: the failing status, or 0 (18_queues R567). -/
def descriptorErr (cls : Nat) (d : List Byte) (e : CmdE) : Nat :=
  match areaFields e.opc with
  | none => Code.commandInvalid
  | some l =>
    if opcClass e.opc ≠ cls then Code.commandInvalid
    else if 8 ≤ field d 1 1 || !resvOk l e.area then Code.reservedNonzero
    else if !pbLenOk e.opc e.pbLen || e.pbAddr % 16 ≠ 0 || (e.pbLen == 0 && e.pbAddr ≠ 0) then Code.pbInvalid
    else 0

/-- The parameter block of a command, or the status that stops its read (18_queues R565, R578). -/
def State.paramBlock (s : State) (e : CmdE) : Except Nat (List Byte × State) := s.readBuf e.part e.pbDua e.pbAddr e.pbLen

/-- Slots a fetched command reserves: one, and one for each stage bit of a CHAIN whose checks and block hold
(18_queues R570). -/
def State.reserves (s : State) (cls : Nat) (d : List Byte) (e : CmdE) : Nat :=
  if e.opc = 0x70 && descriptorErr cls d e = 0 then
    match s.paramBlock e with
    | .ok (pb, _) => 1 + popcount 5 (argsChain pb).stageCpl
    | .error _ => 1
  else 1

/-- Where a command with its block read stands: it waits under ORDERED behind an earlier command of its queue, or may start
(18_queues R568, R577). -/
def State.startSt (s : State) (e : CmdE) : CmdSt :=
  if e.ordered && s.inflight.any (fun c => c.part = e.part && c.queue = e.queue && decide (c.tag < e.tag)) then .ordWait
  else .ready

/-- DESCRIPTOR_FETCH (18_queues R566, R567, R570): the next entry, its reservation, steps 1 to 3. -/
def execDescriptorFetch (part queue : Nat) (s : State) : Host.Outcome State Fault Refusal :=
  let k := s.queue part queue
  let d := s.descriptor k
  let e := entryOf s.nextTag part queue d
  let n := s.reserves k.cls d e
  if !s.fetches part queue || decide (k.freeSlots < n) then .next s
  else
    let e' := { e with resv := n, st := if e.pbLen = 0 then s.startSt e else .pbWait }
    let t := ({ s with nextTag := s.nextTag + 1, inflight := s.inflight ++ [e'] }.count part Ctr.cmdFetched 1).modQueue
      part queue (fun v => { v with
        sqHead := if v.sqHead = v.sqSizeM1 then 0 else v.sqHead + 1
        reserved := v.reserved + n })
    match descriptorErr k.cls d e with
    | 0 => .next t
    | c => .next (t.reject e' c)

/-- The fetched command of a reference that stands at `st`. -/
def State.at? (s : State) (r : Ref) (st : CmdSt) : Option CmdE :=
  s.inflight.find? (fun c => c.part = r.part && c.queue = r.queue && c.cid = r.cid && c.st == st)

/-- PARAMETER_BLOCK_READ: the block, then step 5 (18_queues R567, R578). -/
def execParameterBlockRead (r : Ref) (s : State) : Host.Outcome State Fault Refusal :=
  match s.at? r .pbWait with
  | none => .next s
  | some e => match s.paramBlock e with
    | .error c => .next (s.reject e c)
    | .ok (pb, t) =>
      let e' := { e with pb := pb, st := t.startSt e }
      if pbResvOk e.opc pb then .next (t.setCmd e') else .next (t.reject e' Code.reservedNonzero)

/-- ORDERED_START: every command fetched earlier from the queue has completed (18_queues R577). -/
def execOrderedStart (r : Ref) (s : State) : Host.Outcome State Fault Refusal :=
  match s.at? r .ordWait with
  | none => .next s
  | some e => if s.startSt e == .ready then .next (s.setCmd { e with st := .ready }) else .next s

/-- A failed fetch: FETCH_ERROR, its counter, vector 128, a record of class QUEUE (18_queues R578). -/
def State.fetchFails (s : State) (p q : Nat) : State :=
  if !s.fetches p q then s
  else (((s.modQueue p q (fun v => { v with state := .fetchError })).count p Ctr.fetchErrors 1).raise p 128).logEv 5 2 p q q 0

/-- A host read of a fetch (no CID) or of a command's block or data fails with this status (18_queues R578). -/
def State.readFails (s : State) (p q : Nat) (cid : Option Nat) (status : Nat) : State :=
  match cid with
  | none => s.fetchFails p q
  | some c =>
    match s.inflight.find? (fun e => e.part = p && e.queue = q && e.cid = c && (e.st == .pbWait || e.st == .ready)) with
    | none => s
    | some e => s.reject e status

/-- HOST_READ_TIMEOUT (18_queues R578). -/
def execHostReadTimeout (part queue : Nat) (cid : Option Nat) (s : State) : Host.Outcome State Fault Refusal :=
  .next (s.readFails part queue cid Code.hostReadTimeout)

/-- HOST_READ_ERROR: an Unsupported Request or Completer Abort, or poisoned data (18_queues R578). -/
def execHostReadError (part queue : Nat) (cid : Option Nat) (kind : ReadErr) (s : State) : Host.Outcome State Fault Refusal :=
  .next (s.readFails part queue cid (match kind with
    | .unsupported => Code.hostReadError
    | .abort => Code.hostReadError
    | .poisoned => Code.hostDataPoisoned))

/-! ## Queue reset and the end of a disable (18_queues R580, 16_scheduling R532, R533) -/

/-- The turn that starts at t_b of a reset or disable that arrives now (16_scheduling R532). -/
def State.boundaryAfter (s : State) : Nat := s.turn + (if s.wheel.commit then 2 else 1)

/-- Commands aborted with a status, in fetch order, of those that satisfy `p`. -/
def State.abort (s : State) (p : CmdE → Bool) (status : Nat) : State :=
  (s.inflight.filter p).foldl (fun t e => t.done e status 0) s

/-- Sessions cancelled at the commit before the boundary of turn `tb` (13_serving R456, 18_queues R580). -/
def State.cancelAt (s : State) (p : Nat → Session → Bool) (tb : Nat) : State :=
  { s with sessions := KMap.each s.sessions (fun i v =>
      if p i v then { v with cancelAt := some (min (v.cancelAt.getD (tb - 1)) (tb - 1)) } else v) }

/-- A session that a reset of queue q cancels: a generation of its commands, opened on it, or streaming to it
(18_queues R580). -/
def State.onQueue (s : State) (p q : Nat) (v : Session) : Bool :=
  v.part == p && (v.openQ == q || v.streamQ == q ||
    s.inflight.any (fun e => e.tag = v.genTag && e.part = p && e.queue = q && v.genTag ≠ 0))

/-- QUEUE_RESET (18_queues R580). -/
def execQueueReset (r : Ref) (a : HArgs) (s : State) : Host.Outcome State Fault Refusal :=
  s.command r 0x01 (fun e => argsH e.area == a) (fun s e =>
    let k := s.queue e.part a.handle
    s.checked e
      [(decide (64 ≤ a.handle), Code.fieldInvalid),
       (a.handle == 0 || k.state == .disabled || k.state == .resetting || k.state == .disablePending, Code.queueInvalid)]
      (fun _ =>
        let n := s.inflight.filter (fun c => c.part = e.part && c.queue = a.handle && !(c.st == .running))
        let t := s.abort (fun c => c.part = e.part && c.queue = a.handle && !(c.st == .running)) Code.abortedByReset
        let tb := s.boundaryAfter
        ((t.cancelAt (fun _ v => t.onQueue e.part a.handle v) tb).modQueue e.part a.handle (fun v => { v with
          state := .resetting, tb := tb, ptbReset := e.tag, aborted := n.length })).keep { e with aux := [a.handle] }))

/-- A queue with its offsets at 0 and the next completion PHASE 1 (18_queues R580, 19_registers R600). -/
def Queue.cleared (k : Queue) (st : QState) : Queue :=
  { k with state := st, sqHead := 0, cqTail := 0, strWr := 0, sqTailDb := 0, cqHeadDb := 0, strHeadDb := 0, phase := true,
           reserved := 0, strDirty := false, strStep := 0 }

/-- QUEUE_RESET_DONE (18_queues R580). -/
def execQueueResetDone (part queue : Nat) (s : State) : Host.Outcome State Fault Refusal :=
  let k := s.queue part queue
  if !(k.state == .resetting) || decide (s.turn < k.tb) ||
      s.inflight.any (fun c => c.part = part && c.queue = queue) then .next s
  else
    let t := ((s.modQueue part queue (fun v => { v.cleared .enabled with ptbReset := 0, aborted := 0 })).count
      part Ctr.queueResets 1).raise part 128
    match t.cmd k.ptbReset with
    | none => .next t
    | some e => .next (t.done e 0 k.aborted)

/-- DISABLE_PENDING_CLEAR of a partition, or of one queue (16_scheduling R532, R533). -/
def execDisablePendingClear (part : Nat) (queue : Option Nat) (s : State) : Host.Outcome State Fault Refusal :=
  match queue with
  | none =>
    let v := s.part part
    if !v.disablePending || decide (s.turn < v.tb) || s.inflight.any (fun c => c.part = part) then .next s
    else .next ((s.modPart part (fun w => { w with
      disablePending := false, saveArea := 0
      queues := KMap.each w.queues (fun _ k => { k.cleared .disabled with enable := false }) })).raise part 128)
  | some q =>
    let k := s.queue part q
    if !(k.state == .disablePending) || decide (s.turn < k.tb) ||
        s.inflight.any (fun c => c.part = part && c.queue = q) then .next s
    else .next ((s.modQueue part q (fun w => w.cleared .disabled)).raise part 128)

end Sys2Proof.Machine
end

