-- ==== Sys2Proof/Machine/Gangs.lean ====
section
/-! DEFINITION. Gangs, placement, share accounting, preemption and regulators (16_scheduling R512 to R531, 04_tile R131,
R132, 21_reliability R641). -/

namespace Sys2Proof.Machine

/-! ## Positions (16_scheduling R512, R513, R515, R516) -/

/-- Width of the block that a gang of `g` tiles takes on one die. -/
def gangW (g : Nat) : Nat := 2 ^ ((log2 (min g 128) + 1) / 2)
/-- Its height. -/
def gangH (g : Nat) : Nat := 2 ^ (log2 (min g 128) / 2)

/-- Positions of size `g` on one die. -/
def perDie (g : Nat) : Nat := 128 / min g 128

/-- Positions of size `g` in the module. -/
def positionsIn (g : Nat) : Nat := 1024 / g

/-- The tiles of position `pos` by gang-relative index: positions of up to 128 tiles are numbered die by die
(16_scheduling R512, R513). -/
def posTiles (g pos : Nat) : List Nat :=
  if 128 < g then (List.range g).map (fun k => pos * g + k)
  else
    let w := gangW g
    let h := gangH g
    let q := pos % perDie g
    let col := q % (16 / w) * w
    let row := q / (16 / w) * h
    (List.range g).map (fun k => pos / perDie g * 128 + (row + k / w) * 16 + col + k % w)

/-- Positions in scan order from a home die (16_scheduling R516). -/
def scanOrder (g home : Nat) : List Nat :=
  if 128 < g then (List.range (positionsIn g)).map (fun i => (home / (g / 128) + i) % positionsIn g)
  else (List.range 8).flatMap (fun i => (List.range (perDie g)).map (fun q => (home + i) % 8 * perDie g + q))

/-- Is tile t healthy: not quarantined, its DL domain not lost (21_reliability R638, R641)? -/
def State.healthy (s : State) (t : Nat) : Bool := !(s.tile t).quarantined && !s.dieLost.getD (t / 128) false

/-- Does no task hold tile t? -/
def State.tileFree (s : State) (t : Nat) : Bool := (s.tile t).task == 0

/-- Healthy free tiles outside a position, in the order in which stand-ins are taken for a tile of die `d`: that die first,
then the dies of the scan order (16_scheduling R515). -/
def State.standIns (s : State) (home d : Nat) (out : List Nat) : List Nat :=
  (d :: (List.range 8).map (fun i => (home + i) % 8)).dedup.flatMap (fun e =>
    ((List.range 128).map (fun i => 128 * e + i)).filter (fun t => s.healthy t && s.tileFree t && !out.contains t))

/-- A position's tiles with a stand-in for each quarantined one, none where one lacks (16_scheduling R515). -/
def State.withStandIns (s : State) (home : Nat) (out : List Nat) : List Nat → Option (List Nat)
  | [] => some []
  | t :: rest =>
    if s.healthy t then (s.withStandIns home out rest).map (fun l => t :: l)
    else match (s.standIns home (t / 128) out).head? with
      | none => none
      | some u => (s.withStandIns home (u :: out) rest).map (fun l => u :: l)

/-- The gang of a position, where the position is free (16_scheduling R515). -/
def State.gangAt (s : State) (home g pos : Nat) : Option (List Nat) :=
  let ts := posTiles g pos
  if ts.all s.tileFree then s.withStandIns home ts ts else none

/-- The first free position in scan order with its gang (16_scheduling R516). -/
def State.firstFree (s : State) (home g : Nat) : Option (Nat × List Nat) :=
  (scanOrder g home).findSome? (fun pos => (s.gangAt home g pos).map (fun l => (pos, l)))

/-- Can a gang of `g` tiles still be formed on an empty module (21_reliability R641)? -/
def State.formable (s : State) (g : Nat) : Bool :=
  decide (g ≤ 1024 - ((List.range 1024).filter (fun t => !s.healthy t)).length)

/-- The gang size a task runs on: half, folded, where its own can no longer be formed (21_reliability R641). -/
def State.runSize (s : State) (g : Nat) : Nat := if s.formable g then g else g / 2

/-! ## Shares (16_scheduling R519 to R521) -/

/-- Virtual time v_p (16_scheduling R520). -/
def Part.vtime (v : Part) : Nat := v.usage * 65536 / max v.eff.weight 1

/-- Nanoseconds since the first boundary (15_wheel R490). -/
def Wheel.abs (w : Wheel) : Nat := w.base + w.now

/-- Does partition p have a pending or running task? -/
def State.hasTask (s : State) (p : Nat) : Bool := s.tasks.any (fun e => e.2.part == p)

/-- U_p of a partition that had no task, raised to the smallest virtual time of those that have (16_scheduling R521). -/
def State.raiseShare (s : State) (p : Nat) : State :=
  if s.hasTask p then s
  else match ((s.parts.filter (fun e => s.hasTask e.1)).map (fun e => e.2.vtime)).min? with
    | none => s
    | some v => s.modPart p (fun w => if w.vtime < v then { w with usage := ceilDiv (v * max w.eff.weight 1) 65536 } else w)

/-- A new task waiting for a gang: its number and the state (16_scheduling R514, R521). -/
def State.addTask (s : State) (p : Nat) (work : Work) (g : Nat) : Nat × State :=
  let t := s.raiseShare p
  let k : Task := { part := p, work := work, size := g, since := s.wheel.abs }
  (s.nextTask, { t with tasks := KMap.put t.tasks s.nextTask k, nextTask := s.nextTask + 1 })

/-- Tile-ns charged to partition p, each whole tile-us of its usage counted (16_scheduling R519, R535). -/
def State.charge (s : State) (p tileNs : Nat) : State :=
  (s.modPart p (fun v => { v with usage := (v.usage + tileNs) % 2 ^ 96 })).count p Ctr.tileUs
    (((s.part p).usage + tileNs) / 1000 - (s.part p).usage / 1000)

/-- A tile between two records: none is held on it, its DMA contexts are idle (04_tile R130, R136). -/
def Tile.quiet (v : Tile) : Tile := { v with recIdx := 0xFFFF, recImage := 0, dma := List.replicate 8 0 }

/-- The tiles of a task free again (16_scheduling R517). -/
def State.freeTiles (s : State) (n : Nat) : State :=
  { s with tiles := KMap.each s.tiles (fun _ v => if v.task = n then { v.quiet with task := 0 } else v) }

/-- Tiles on which no record is held any more (04_tile R130). -/
def State.quietTiles (s : State) (tiles : List Nat) : State := tiles.foldl (fun (a : State) t => a.modTile t Tile.quiet) s

/-- Tiles on which record i of an image is held: a transfer context of each waits for a page (04_tile R123, R136; which context it is:
DESIGN CHOICE, log 40). -/
def State.holdTiles (s : State) (tiles : List Nat) (i image : Nat) : State :=
  tiles.foldl (fun (a : State) t => a.modTile t (fun v => { v with
    recIdx := i, recImage := image, dma := 2 :: List.replicate 7 0 })) s

/-- A task gone, its tiles and slots with it (16_scheduling R533). -/
def State.endTask (s : State) (n : Nat) : State :=
  if n = 0 then s else { s.freeTiles n with tasks := KMap.del s.tasks n }

/-- Every task of partition p gone (16_scheduling R533). -/
def State.endTasks (s : State) (p : Nat) : State :=
  (s.tasks.filter (fun e => e.2.part == p)).foldl (fun t e => t.endTask e.1) s

/-- The task that works on a record of a run or on a batch. -/
def State.taskOf (s : State) (w : Work) : Option (Nat × Task) := s.tasks.find? (fun e => e.2.work == w)

/-! ## Placement (16_scheduling R516 to R521) -/

/-- Tiles that partition p holds. -/
def State.tilesHeld (s : State) (p : Nat) : Nat :=
  ((s.tasks.filter (fun e => e.2.part == p)).map (fun e => e.2.tiles.length)).sum

/-- Does a task wait for a gang? -/
def Task.waits (k : Task) : Bool := k.st == .scanning || k.st == .affinity || (k.st == .saved && k.tiles.isEmpty)

/-- May the task be placed at all now: its partition live and below its limit, a serving batch in the compute window
(16_scheduling R516, R518). -/
def State.placeable (s : State) (k : Task) : Bool :=
  k.waits && (s.part k.part).live &&
    decide (s.tilesHeld k.part + s.runSize k.size ≤ (s.part k.part).eff.tileLimit) &&
    (match k.work with | .batch _ => !s.wheel.commit | _ => true)

/-- Is the task the head of its affinity queue (16_scheduling R517)? -/
def State.leadsQueue (s : State) (n : Nat) (k : Task) : Bool :=
  !s.tasks.any (fun e => e.2.st == .affinity && e.2.size == k.size && e.2.pos == k.pos &&
    (decide (e.2.joined < k.joined) || (e.2.joined == k.joined && decide (e.1 < n))))

/-- The position and gang a waiting task would take now: its queue's own, or the first free one (16_scheduling R516,
R517). -/
def State.wanted (s : State) (n : Nat) (k : Task) : Option (Nat × List Nat) :=
  if !s.placeable k then none
  else
    let home := (s.part k.part).eff.homeDie
    if k.st == .affinity then
      (if s.leadsQueue n k then (s.gangAt home (s.runSize k.size) k.pos).map (fun l => (k.pos, l)) else none)
    else s.firstFree home (s.runSize k.size)

/-- Does task (m, j) come before task (n, k) at the same tiles: heads of affinity queues first, then by virtual time, lower
partition, saved tasks first (16_scheduling R517, R520, R525)? -/
def State.goesBefore (s : State) (j k : Task) : Bool :=
  let key := fun (x : Task) => [if x.st == TaskSt.affinity then 0 else 1, (s.part x.part).vtime, x.part, if x.st == TaskSt.saved then 0 else 1]
  decide (key j < key k)

/-- Does the arbiter grant the task this gang (16_scheduling R517, R520)? -/
def State.granted (s : State) (n : Nat) (k : Task) (gang : List Nat) : Bool :=
  !s.tasks.any (fun e => e.1 ≠ n && e.2.waits && s.goesBefore e.2 k &&
    (match s.wanted e.1 e.2 with
      | none => false
      | some (_, l) => l.any gang.contains))

/-- A gang assigned to a task: tiles last held by another partition zero themselves first, free registers are not trusted
(04_tile R132, 05_array_dataflow R166, 16_scheduling R516). -/
def State.assign (s : State) (n : Nat) (k : Task) (pos : Nat) (gang : List Nat) : State :=
  let t := gang.foldl (fun (a : State) i => a.modTile i (fun v => { v with
    task := n
    zeroing := v.zeroing || (v.lastOwner.isSome && v.lastOwner ≠ some k.part)
    untrusted := v.untrusted || v.lastOwner ≠ some k.part || k.st == TaskSt.saved
    lastOwner := some k.part })) s
  let folded := gang.length < k.size
  let u := { t with tasks := KMap.put t.tasks n { k with
    st := if k.st == TaskSt.saved then .restoring else .placed, pos := pos, tiles := gang, folded := folded } }
  let w := if folded then u.devCount Ctr.gangFolded 1 else u
  if k.st == .affinity then
    (w.count k.part Ctr.placeAffinity 1).count k.part Ctr.affinityWaitNs (s.wheel.abs - k.joined)
  else w.count k.part Ctr.placeScan 1

/-- TASK_PLACE (16_scheduling R516, R517): a task takes the position it waits for, where the arbiter grants it. In IDLE the first
placement makes the module leave; none is made in NAP, DEEP or while one of them is entered (20_power_thermal R614, R616). -/
def execTaskPlace (task : Nat) (s : State) : Host.Outcome State Fault Refusal :=
  match KMap.find s.tasks task with
  | none => .next s
  | some k =>
    if s.stage ≠ .up || s.moduleLost || decide (2 ≤ s.power.pstate) || (s.power.entering && decide (2 ≤ s.power.target)) then .next s
    else match s.wanted task k with
      | none => .next s
      | some (pos, gang) =>
        if !s.granted task k gang then .next s
        else if s.power.pstate = 1 || s.power.exiting then .next { s with power := { s.power with exiting := true } }
        else .next (s.assign task k pos gang)

/-- Bytes that the dies of a position hold of a task's inputs. -/
def posBytes (g pos : Nat) (onDie : List Nat) : Nat := ((posTiles g pos).map (fun t => t / 128)).dedup.foldl (fun a d => a + onDie.getD d 0) 0

/-- AFFINITY_QUEUE_JOIN: WAIT_BUDGET is over; the task waits for the position whose dies hold most of its inputs, unless its partition
is at its TILE_LIMIT (16_scheduling R516). -/
def execAffinityQueueJoin (task : Nat) (bytesOnDie : List Nat) (s : State) : Host.Outcome State Fault Refusal :=
  match KMap.find s.tasks task with
  | none => .next s
  | some k =>
    let g := s.runSize k.size
    if !(k.st == .scanning) || decide ((s.part k.part).eff.tileLimit < s.tilesHeld k.part + g) then .next s
    else
      let order := scanOrder g (s.part k.part).eff.homeDie
      let best := leastBy (fun (a b : Nat × Nat) => decide (b.2 < a.2)) (order.map (fun p => (p, posBytes g p bytesOnDie)))
      .next { s with tasks := KMap.put s.tasks task { k with
        st := .affinity, pos := (best.map Prod.fst).getD 0, joined := s.wheel.abs } }

/-- Has the work of a task that holds tiles ended, so that it releases them (16_scheduling R514, R518, R525)? -/
def State.workEnded (s : State) (k : Task) : Bool :=
  match k.work with
  | .batch b => s.wheel.commit || (KMap.find s.batches b).isNone
  | .record r i => match KMap.find s.runs r with
      | none => true
      | some v => v.stopped || (KMap.find v.status i).isSome || v.skipped.contains i
  | .stage tag => (s.cmd tag).isNone

/-- TILE_RELEASE: the task's tiles are free and its partition is charged; a task that has been saved waits on, any other is
gone (16_scheduling R517, R519, R525). -/
def execTileRelease (task heldNs : Nat) (s : State) : Host.Outcome State Fault Refusal :=
  match KMap.find s.tasks task with
  | none => .next s
  | some k =>
    if k.tiles.isEmpty || !((k.st == .placed && s.workEnded k) || k.st == .saved) then .next s
    else
      let t := (s.charge k.part (k.tiles.length * heldNs)).freeTiles task
      if k.st == .saved then .next { t with tasks := KMap.put t.tasks task { k with tiles := [], since := s.wheel.abs } }
      else .next (t.endTask task)

/-- TILE_ZEROING: scratchpad, accumulator memory and vector registers of the tile are zero (04_tile R132). -/
def execTileZeroing (tile : Nat) (s : State) : Host.Outcome State Fault Refusal :=
  if (s.tile tile).zeroing then
    .next (s.modTile tile (fun v => { v with
      scratch := [], acc := [], vregs := none, zeroing := false, untrusted := true }))
  else .next s

/-- May a task's records issue: it holds its gang and no tile of it is zeroing (04_tile R132)? -/
def State.taskReady (s : State) (k : Task) : Bool := k.st == .placed && !k.tiles.any (fun t => (s.tile t).zeroing)

/-! ## Preemption (16_scheduling R523 to R528) -/

/-- The task at another stage with these tiles. -/
def State.modTaskSt (s : State) (n : Nat) (st : TaskSt) (tiles : List Nat) : State :=
  { s with tasks := KMap.mod s.tasks n (fun v => { v with st := st, tiles := tiles }) }

/-- A task told to stop and save; one whose restore has not ended still has its slots, one that saves already goes on; a serving batch is
withheld for the turn instead, one whose turn has ended gives its gang up by itself (16_scheduling R518, R525, R535). -/
def State.preempt (s : State) (n : Nat) (k : Task) : State :=
  match k.work with
  | .batch _ => if s.workEnded k then s else ((s.freeTiles n).modTaskSt n .scanning []).count k.part Ctr.preemptOut 1
  | _ => match k.st with
    | .placed => (s.modTaskSt n .saving k.tiles).count k.part Ctr.preemptOut 1
    | .restoring => (s.modTaskSt n .saved k.tiles).count k.part Ctr.preemptOut 1
    | _ => s

/-- May every tile of a position be taken for partition q: free, or held by a partition of higher virtual time
(16_scheduling R524)? -/
def State.victimPos (s : State) (q g pos : Nat) : Bool :=
  (posTiles g pos).all (fun t => match KMap.find s.tasks (s.tile t).task with
    | none => true
    | some k => decide ((s.part q).vtime < (s.part k.part).vtime))

/-- The preemption of a turn boundary: for the longest-waiting task over its partition's bound, where a running task belongs
to a partition of higher virtual time (16_scheduling R523, R524, R534). -/
def State.preemption (s : State) : State :=
  let late := s.tasks.filter (fun e => e.2.waits && (s.part e.2.part).live &&
    decide ((s.part e.2.part).eff.preemptBound * s.wheel.period < s.wheel.abs - e.2.since) &&
    s.tasks.any (fun f => !f.2.tiles.isEmpty && decide ((s.part e.2.part).vtime < (s.part f.2.part).vtime)))
  match leastBy (fun (a b : Nat × Task) => decide (a.2.since < b.2.since)) late with
  | none => s
  | some (_, k) =>
    let g := s.runSize k.size
    match (scanOrder g (s.part k.part).eff.homeDie).find? (s.victimPos k.part g) with
    | none => s.count k.part Ctr.preemptBlocked 1
    | some pos =>
      let vs := s.tasks.filter (fun e => e.2.tiles.any (posTiles g pos).contains)
      (vs.foldl (fun t e => t.preempt e.1 e.2) s).count k.part Ctr.preemptIn 1

/-- Every task that holds tiles preempted, for the entry into NAP or DEEP (20_power_thermal R616). -/
def State.preemptAll (s : State) : State :=
  (s.tasks.filter (fun e => e.2.st == .placed && !e.2.tiles.isEmpty)).foldl (fun t e => t.preempt e.1 e.2) s

/-- Bytes that a save moves for one tile (04_tile R131). -/
def saveBytes : Nat := 4718592

/-- SAVE_COMPLETE: each tile's memories stand in the slot of its gang-relative index (04_tile R131, 16_scheduling R526,
R527). -/
def execSaveComplete (task : Nat) (s : State) : Host.Outcome State Fault Refusal :=
  match KMap.find s.tasks task with
  | none => .next s
  | some k =>
    if !(k.st == .saving) then .next s
    else .next ({ s with tasks := KMap.put s.tasks task { k with
      st := .saved, slots := k.tiles.map (fun t => ((s.tile t).scratch, (s.tile t).acc)) } }.count k.part Ctr.saveBytes
        (saveBytes * k.tiles.length))

/-- RESTORE_COMPLETE: each tile holds the memories of the slot of its gang-relative index; the slots are free; the first pass
takes a stalled load (16_scheduling R528). -/
def execRestoreComplete (task : Nat) (s : State) : Host.Outcome State Fault Refusal :=
  match KMap.find s.tasks task with
  | none => .next s
  | some k =>
    if !(k.st == .restoring) || k.tiles.any (fun t => (s.tile t).zeroing) then .next s
    else
      let t := (k.tiles.zip k.slots).foldl (fun (a : State) e => a.modTile e.1 (fun v => { v with
        scratch := e.2.1, acc := e.2.2, untrusted := true })) s
      .next { t with tasks := KMap.put t.tasks task { k with st := .placed, slots := [] } }

/-! ## Regulators (16_scheduling R530, R531) -/

/-- The two ends of Renob link `n`, HD as 8: the links in the order of R20's table and of `n` there (01_architecture R20; the
numbering is DESIGN CHOICE, log 40). -/
def linkEnds (n : Nat) : Option (Nat × Nat) :=
  if n < 6 then some (n + n / 3, n + n / 3 + 1)
  else if n < 10 then some (n - 6, n - 2)
  else if n < 18 then some (n - 10, 8)
  else none

/-- The number of the link between two dies. -/
def linkOf (a b : Nat) : Option Nat :=
  (List.range 18).find? (fun n => linkEnds n == some (a, b) || linkEnds n == some (b, a))

/-- The dies a packet passes from die `a` to die `b`: along gx to the column of `b`, then along gy; HD is 8 and is linked to
every die (01_architecture R20 to R22). -/
def diePath (a b : Nat) : List Nat :=
  if a = b then [a]
  else if a = 8 ∨ b = 8 then [a, b]
  else
    let row := 4 * (a / 4)
    let ca := a % 4
    let cb := b % 4
    let along := if ca ≤ cb then (List.range (cb - ca + 1)).map (fun i => row + ca + i)
      else (List.range (ca - cb + 1)).map (fun i => row + ca - i)
    if a / 4 = b / 4 then along else along ++ [b]

/-- Renob crossings from die `a` to die `b`: one for each link, two for one that has failed completely (01_architecture R22;
16_scheduling R530; 21_reliability R643). -/
def State.crossings (s : State) (a b : Nat) : Nat :=
  let l := diePath a b
  ((l.zip (l.drop 1)).map (fun e => match linkOf e.1 e.2 with
    | none => 0
    | some n => if s.renob.getD n 0 = 0 then 2 else 1)).sum

/-- REGULATOR_PIECE: the bucket of a path fills by `refill` up to BURST; a piece of at most 64 KiB and BURST starts only when
the bucket holds its bytes, and drains them; else the transfer holds (08_memory_tiers R268). REG_D2D is charged for every link
that a packet between the two dies crosses. -/
def execRegulatorPiece (part : Nat) (path : RegPath) (bytes refill : Nat) (s : State) : Host.Outcome State Fault Refusal :=
  let v := s.part part
  let reg := path.reg
  let burst := 1024 * v.eff.burst.getD reg 0
  if 6 ≤ reg || v.eff.rate.getD reg 0 = 0 then .next s
  else
    let have' := min (v.bucket.getD reg 0 + refill) burst
    let n := min (if reg = 5 then bytes * s.crossings path.dies.1 path.dies.2 else bytes) (min 65536 burst)
    if have' < n then
      .next ((s.modPart part (fun w => { w with bucket := w.bucket.set reg have' })).count part Ctr.stallRegEvt 1)
    else .next (s.modPart part (fun w => { w with bucket := w.bucket.set reg (have' - n) }))

end Sys2Proof.Machine
end

