-- ==== Sys2Proof/Machine/Pages.lean ====
section
/-! DEFINITION. Tiers, frames, parity groups and mirrors, the pool, eviction, migration, host-mapped pages and the memory
commands (08_memory_tiers). A page's bytes are held by DUA, so moving a page between frames changes its entry only (log 4). -/

namespace Sys2Proof.Machine

/-! ## Frames (08_memory_tiers R246, R252 to R255) -/

/-- Bytes of usable flash: 28 TB or 14 TB by ordering code (19_registers R595). -/
def flashBytes : Nat := (if Config.isF14 then 14 else 28) * 10 ^ 12

/-- Frames of one die or stack, or of the paging area (08_memory_tiers R246). -/
def State.framesPer (s : State) (tier : Nat) : Nat :=
  match tier with
  | 0 => 122880
  | 1 => 1572864
  | _ => s.flash.pagingSize * 2 ^ 30 / 65536

/-- The dies or stacks of a tier that survive; the paging area is one (08_memory_tiers R246, R276). -/
def State.dies (s : State) (tier : Nat) : List Nat :=
  if tier < 2 then (List.range 8).filter (fun d => !s.stackLost.getD d false) else [0]

/-- Frames of a tier on surviving dies or stacks (19_registers R595). -/
def State.frames (s : State) (tier : Nat) : Nat := (s.dies tier).length * s.framesPer tier

/-- A place for a page: tier, die or stack, frame, stack of the mirror. -/
structure Spot where
  tier : Nat
  die : Nat
  frame : Nat
  mirror : Nat
  deriving DecidableEq, Repr

/-- Must a page be mirrored where it goes: it is mirrored already, or host-mapped without PARITY (08_memory_tiers R254,
R272)? -/
def Page.mirrored (g : Page) : Bool := g.flag 5 || (g.flag 1 && !g.flag 2)

/-- Is frame f of a die held by a page, a mirror, the destination of a migration or its mirror, a page's BACKED copy, or out of use
(08_memory_tiers R249, R254, R262)? -/
def State.held (s : State) (tier die f : Nat) : Bool :=
  s.pages.any (fun e =>
    (e.2.tier == tier && e.2.frame == f && (e.2.die == die || (e.2.flag 5 && e.2.mirrorDie == die && tier ≠ 2))) ||
    (e.2.flag 4 && e.2.dstTier == tier && e.2.dstFrame == f &&
      (e.2.dstDie == die || (e.2.mirrored && e.2.dstMirror == die && tier ≠ 2))) ||
    (tier == 2 && e.2.flag 6 && e.2.back == some f)) ||
  s.retired.contains (tier, die, f)

/-- Is frame f of a die the parity frame of its group: of a PARITY page's place, or of the place that one is migrating to
(08_memory_tiers R252, R253)? -/
def State.parityFrame (s : State) (tier die f : Nat) : Bool :=
  decide (tier < 2) && die == f % 8 && s.pages.any (fun e => e.2.flag 2 &&
    ((e.2.tier == tier && e.2.frame == f) || (e.2.flag 4 && e.2.dstTier == tier && e.2.dstFrame == f)))

/-- May a page stand at a place: its frame and its mirror free, a PARITY page never in the parity member's frame and its
group's parity frame free or already one (08_memory_tiers R253, R254)? -/
def State.spotOk (s : State) (parity mirror : Bool) (x : Spot) : Bool :=
  (s.dies x.tier).contains x.die && decide (x.frame < s.framesPer x.tier) && !s.held x.tier x.die x.frame &&
    !s.parityFrame x.tier x.die x.frame &&
    (x.tier == 2 || !parity ||
      (x.die ≠ x.frame % 8 && (s.dies x.tier).contains (x.frame % 8) && !s.held x.tier (x.frame % 8) x.frame)) &&
    (x.tier == 2 || !mirror ||
      (x.mirror ≠ x.die && (s.dies x.tier).contains x.mirror && !s.held x.tier x.mirror x.frame &&
        !s.parityFrame x.tier x.mirror x.frame))

/-- Frames worth trying on one die before one must be legal (log 10). -/
def State.tries (s : State) (tier : Nat) : Nat :=
  min (s.framesPer tier) (4 * (s.pages.length + s.retired.length) + 16)

/-- The least legal place in a tier. -/
def State.leastSpot (s : State) (tier : Nat) (parity mirror : Bool) : Option Spot :=
  (List.range (s.tries tier)).findSome? (fun f => (s.dies tier).findSome? (fun d =>
    (if mirror then s.dies tier else [0]).findSome? (fun m =>
      if s.spotOk parity mirror ⟨tier, d, f, m⟩ then some ⟨tier, d, f, m⟩ else none)))

/-- The least legal place on one die or stack of a tier. -/
def State.leastSpotOn (s : State) (tier die : Nat) (parity mirror : Bool) : Option Spot :=
  (List.range (s.tries tier)).findSome? (fun f => (if mirror then s.dies tier else [0]).findSome? (fun m =>
    if s.spotOk parity mirror ⟨tier, die, f, m⟩ then some ⟨tier, die, f, m⟩ else none))

/-- The place that the block takes where several are legal: a free choice (log 10). -/
def State.pickSpot (s : State) (tier : Nat) (parity mirror : Bool) : Option Spot :=
  let c := Config.freeNat s.fresh
  let x : Spot := ⟨tier, c % 8, c / 8 % s.framesPer tier, c / 8 / s.framesPer tier % 8⟩
  (s.leastSpot tier parity mirror).map (fun d => if s.spotOk parity mirror x then x else d)

/-- Is e the lowest PARITY page of its group, the one that the group's parity frame counts against (log 10)? -/
def State.leadsGroup (s : State) (e : Nat × Page) : Bool :=
  e.2.flag 2 && decide (e.2.tier < 2) &&
    !s.pages.any (fun o => decide (o.1 < e.1) && o.2.flag 2 && o.2.tier == e.2.tier && o.2.frame == e.2.frame)

/-- Frames of a tier that partition p holds, mirror and parity frames and the frames of BACKED copies included (08_memory_tiers R249,
R255). -/
def State.framesOf (s : State) (p tier : Nat) : Nat :=
  ((s.pages.filter (fun e => e.2.owner == p && e.2.tier == tier)).map (fun e =>
    1 + (if e.2.flag 5 && tier ≠ 2 then 1 else 0) + (if s.leadsGroup e then 1 else 0))).sum +
  (if tier = 2 then (s.pages.filter (fun e => e.2.owner == p && decide (e.2.tier < 2) && e.2.flag 6 && e.2.back.isSome)).length else 0)

/-- Frames of a tier in use by all, save areas included (08_memory_tiers R255, R260). -/
def State.framesUsed (s : State) (tier : Nat) : Nat :=
  ((List.range 16).map (fun p => s.framesOf p tier)).sum +
    (if tier = 1 then (s.parts.map (fun e => 144 * e.2.saveArea)).sum else 0)

/-- Frames that one page takes. -/
def frameNeed (parity mirror : Bool) : Nat := 1 + (if parity then 1 else 0) + (if mirror then 1 else 0)

/-- MAX of partition p in a tier; the paging area has none (08_memory_tiers R255). -/
def State.maxOf (s : State) (p tier : Nat) : Nat :=
  match tier with
  | 0 => (s.part p).eff.t0Max
  | 1 => (s.part p).eff.t1Max
  | _ => s.framesPer 2

/-- MIN of partition p in a tier. -/
def State.minOf (s : State) (p tier : Nat) : Nat :=
  match tier with
  | 0 => (s.part p).eff.t0Min
  | 1 => (s.part p).eff.t1Min
  | _ => 0

/-- Pages freed: their entries and their bytes gone. -/
def State.freePages (s : State) (k n : Nat) : State :=
  { s with
    pages := s.pages.filter (fun e => decide (e.1 < k) || decide (k + n ≤ e.1))
    dev := s.dev.clear (65536 * k) (65536 * n) }

/-- The pages of a CHAIN's intermediate results freed (01_architecture R28). -/
def State.chainPages (s : State) (c : Chain) : State :=
  c.results.foldl (fun (a : State) e => a.freePages e.2.1 (ceilDiv e.2.2 65536)) s

/-! ## Blocks of KV pools (13_serving R434, R435, R438) -/

/-- The pages of block b: BB bytes of it in each attention layer's region (06_operations R197, 13_serving R434). -/
def KvPool.pagesOf (v : KvPool) (b : Nat) : List Nat :=
  v.regions.flatMap (fun r => Sys2Proof.Machine.pagesOf (65536 * r.2.1 + b * r.2.2) r.2.2)

/-- Block b gone from its pool; the pages that no other block of the pool lies on are freed (13_serving R434). -/
def State.dropBlock (s : State) (p h b : Nat) : State :=
  match KMap.find (s.part p).kv h with
  | none => s
  | some v =>
    let rest := KMap.del v.blocks b
    let kept := rest.flatMap (fun e => v.pagesOf e.1)
    let t := s.modPart p (fun w => { w with kv := KMap.put w.kv h { v with blocks := rest } })
    ((v.pagesOf b).filter (fun k => !kept.contains k)).foldl (fun (a : State) k => a.freePages k 1) t

/-- The cached blocks of no reference that lie on page k (13_serving R438). -/
def State.cachedOn (s : State) (k : Nat) : List (Nat × Nat × Nat) :=
  s.parts.flatMap (fun e => e.2.kv.flatMap (fun f =>
    (f.2.blocks.filter (fun b => b.2.refs == 0 && (f.2.pagesOf b.1).contains k)).map (fun b => (e.1, f.1, b.1))))

/-! ## Eviction (08_memory_tiers R257 to R259) -/

/-- What wants a frame (08_memory_tiers R257, R259). -/
inductive Want where
  | alloc
  | prefetch
  | demand
  deriving DecidableEq, Repr

/-- Is page k one of image i of partition p? -/
def State.inImage (s : State) (p i k : Nat) : Bool :=
  match KMap.find (s.part p).images i with
  | none => false
  | some im => decide (im.pageBase ≤ k) && decide (k < im.pageBase + im.pageCnt)

/-- Does a batch that has not ended read page k: one of its image, or of a KV block of a member (08_memory_tiers R259, R284)? -/
def State.batchReads (s : State) (k : Nat) : Bool :=
  s.batches.any (fun b => !b.2.done && !b.2.carried && (s.inImage b.2.part b.2.image k ||
    b.2.members.any (fun m => match KMap.find s.sessions m with
      | none => false
      | some v => v.blocks.any (fun r => match KMap.find (s.part r.1).kv r.2.1 with
        | none => false
        | some w => (w.regions.flatMap (fun g => pagesOf (65536 * g.2.1 + r.2.2 * g.2.2) g.2.2)).contains k))))

/-- Does a record that is running, or admitted in the running turn, read page k: one that a record is held for, one of an image, a
binding or a KV block of a run or batch that has not ended (08_memory_tiers R259; DESIGN CHOICE of what counts as read, log 38)? -/
def State.inUse (s : State) (k : Nat) : Bool :=
  s.runs.any (fun r => r.2.held.any (fun h => h.2.contains k) || s.inImage r.2.part r.2.image k || r.2.binds.any (fun b => b / 65536 == k)) ||
    s.batchReads k

/-- May page e leave its tier for a frame that partition p wants (08_memory_tiers R257, R259, R282)? -/
def State.evictable (s : State) (tier p : Nat) (why : Want) (e : Nat × Page) : Bool :=
  e.2.tier == tier && !e.2.flag 0 && !e.2.flag 1 && !e.2.flag 4 && !e.2.rebuild &&
    (e.2.owner == p || decide (s.minOf e.2.owner tier < s.framesOf e.2.owner tier)) &&
    (why ≠ .prefetch || decide (e.2.age < s.turn % 2 ^ 48)) &&
    (why ≠ .demand || decide (e.2.age < s.turn % 2 ^ 48) || !s.inUse e.1) &&
    (tier ≠ 1 || e.2.flag 6 || !s.flash.readonly)

/-- The page that leaves first: smallest AGE, then lowest page number (08_memory_tiers R257). -/
def State.victim (s : State) (tier p : Nat) (why : Want) : Option (Nat × Page) :=
  leastBy (fun a b => decide (a.2.age < b.2.age) || (a.2.age == b.2.age && decide (a.1 < b.1)))
    (s.pages.filter (s.evictable tier p why))

/-- Page k set at a place. The frame of the paging area that it leaves goes on holding its BACKED copy (08_memory_tiers R249; DESIGN
CHOICE, log 38). -/
def Page.at (g : Page) (x : Spot) : Page :=
  { g with
    tier := x.tier, die := x.die, frame := x.frame, mirrorDie := x.mirror
    back := if x.tier = 2 then none else if g.tier = 2 && g.flag 6 then (if g.frame = extentFrame then none else some g.frame) else g.back }

/-- Page k at its BACKED copy: that frame of the paging area, or none of it where the extent store holds the copy (08_memory_tiers
R249, R258, R276). -/
def Page.dropped (g : Page) : Page := { g with tier := 2, die := 0, frame := g.back.getD extentFrame, back := none }

/-- Page k copied to a place by an engine: its AGE is the running turn (08_memory_tiers R250; log 36). -/
def State.copied (s : State) (g : Page) (x : Spot) : Page := { g.at x with age := s.turn % 2 ^ 48 }

/-- A frame of the paging area for a page that is written there: a free one, else that of a BACKED copy whose page stands higher, the
page of smallest AGE first; which copy goes the spec leaves open (DESIGN CHOICE, log 38). -/
def State.pageOutSpot (s : State) : Option (Spot × State) :=
  match s.pickSpot 2 false false with
  | some x => some (x, { s with fresh := s.fresh + 1 })
  | none =>
    (leastBy (fun (a b : Nat × Page) => decide (a.2.age < b.2.age) || (a.2.age == b.2.age && decide (a.1 < b.1)))
      (s.pages.filter (fun e => decide (e.2.tier < 2) && e.2.flag 6 && e.2.back.isSome))).map (fun e =>
        (⟨2, 0, e.2.back.getD 0, 0⟩, s.modPage e.1 (fun g => { g.setFlag 6 false with back := none })))

/-- A page written to the paging area, counted (08_memory_tiers R283). -/
def State.pageOut (s : State) : State := (s.flashCount Ctr.hostBytesWritten 65536).flashCount Ctr.mediaBytesWritten 65536

/-- One T1 page evicted: cached KV blocks of no reference on it are dropped instead; else dropped when BACKED, else written to
the paging area (08_memory_tiers R258, 13_serving R438). -/
def State.evictT1 (s : State) (e : Nat × Page) : Option State :=
  let d := (s.cachedOn e.1).foldl (fun (a : State) b => a.dropBlock b.1 b.2.1 b.2.2) s
  if (KMap.find d.pages e.1).isNone then some d
  else if e.2.flag 6 then some ((d.modPage e.1 Page.dropped).count e.2.owner Ctr.evictT1 1)
  else d.pageOutSpot.map (fun x =>
    ((x.2.modPage e.1 (fun g => (x.2.copied g x.1).setFlag 6 true)).count e.2.owner Ctr.evictT1 1).pageOut)

/-- Room in T1 for a page with these flags: T1 pages leave until a place is legal. -/
def State.roomT1 : Nat → State → Nat → Bool → Bool → Want → Option State
  | 0, _, _, _, _, _ => none
  | n + 1, s, p, parity, mirror, why =>
    if s.framesUsed 1 + frameNeed parity mirror ≤ s.frames 1 ∧ (s.leastSpot 1 parity mirror).isSome then some s
    else match s.victim 1 p why with
      | none => none
      | some e => (s.evictT1 e).bind (fun t => t.roomT1 n p parity mirror why)

/-- One T0 page moved to a place in T1, room made for it (08_memory_tiers R258; 20_power_thermal R617). -/
def State.toT1 (s : State) (e : Nat × Page) (why : Want) : Option State :=
  (s.roomT1 (s.pages.length + 1) e.2.owner (e.2.flag 2) (e.2.flag 5) why).bind (fun t =>
    (t.pickSpot 1 (e.2.flag 2) (e.2.flag 5)).map (fun x =>
      { t with fresh := t.fresh + 1 }.modPage e.1 (fun g => t.copied g x)))

/-- One T0 page evicted to T1 (08_memory_tiers R258). -/
def State.evictT0 (s : State) (e : Nat × Page) (why : Want) : Option State :=
  (s.toT1 e why).map (fun t => t.count e.2.owner Ctr.evictT0 1)

/-- Room in T0 for a page with these flags. -/
def State.roomT0 : Nat → State → Nat → Bool → Bool → Want → Option State
  | 0, _, _, _, _, _ => none
  | n + 1, s, p, parity, mirror, why =>
    if (s.leastSpot 0 parity mirror).isSome then some s
    else match s.victim 0 p why with
      | none => none
      | some e => (s.evictT0 e why).bind (fun t => t.roomT0 n p parity mirror why)

/-- A place in one tier, evicting as the pool allows (08_memory_tiers R256, R257, R282). -/
def State.placeIn (s : State) (p tier : Nat) (parity mirror : Bool) (why : Want) : Option (State × Spot) :=
  if s.maxOf p tier < s.framesOf p tier + frameNeed (parity && decide (tier < 2)) (mirror && decide (tier < 2)) then none
  else
    (match tier with
      | 0 => s.roomT0 (s.pages.length + 1) p parity mirror why
      | 1 => s.roomT1 (s.pages.length + 1) p parity mirror why
      | _ => if s.flash.readonly then none else some s).bind (fun t =>
        if tier < 2 then (t.pickSpot tier parity mirror).map (fun x => ({ t with fresh := t.fresh + 1 }, x))
        else t.pageOutSpot.map (fun (x : Spot × State) => (x.2, x.1)))

/-- A place in the wanted tier or the next lower one that has room (08_memory_tiers R256). -/
def State.place (s : State) (p tier : Nat) (parity mirror mayT2 : Bool) (why : Want) : Option (State × Spot) :=
  ([0, 1, 2].filter (fun t => decide (tier ≤ t) && (mayT2 || decide (t < 2)))).findSome?
    (fun t => s.placeIn p t parity mirror why)

/-! ## Allocation and freeing (08_memory_tiers R244, R256, R284) -/

/-- The DUA regions that KV pools reserve: first page, pages (13_serving R434). -/
def State.kvRegions (s : State) : List (Nat × Nat) :=
  s.parts.flatMap (fun e => e.2.kv.flatMap (fun f => f.2.regions.map (fun r => (r.2.1, ceilDiv (f.2.nblk * r.2.2) 65536))))

/-- Is page number k free, all of `n` from it: no page, no reserved region? -/
def State.duaFree (s : State) (k n : Nat) : Bool :=
  !s.pages.any (fun e => decide (k ≤ e.1) && decide (e.1 < k + n)) &&
    !s.kvRegions.any (fun r => decide (r.1 < k + n) && decide (k < r.1 + r.2))

/-- The base page of `n` free pages in a window of 2 ^ 27 pages that starts at `lo`: a free choice among the free ones
(log 10). -/
def State.duaBase (s : State) (lo n : Nat) : Option Nat :=
  let ends := lo :: (s.pages.map (fun (e : Nat × Page) => e.1 + 1) ++ s.kvRegions.map (fun (r : Nat × Nat) => r.1 + r.2)).filter (fun k =>
    decide (lo ≤ k) && decide (k < lo + 2 ^ 27))
  let ok := fun k => decide (k + n ≤ lo + 2 ^ 27) && s.duaFree k n
  let c := lo + Config.freeNat s.fresh % 2 ^ 27
  (ends.find? ok).map (fun d => if ok c then c else d)

/-- One page allocated at page number k. -/
def State.allocPage (s : State) (p k tier : Nat) (flags : BitVec 16) : Option State :=
  (s.place p tier (flags.getLsbD 2) (flags.getLsbD 5) (!flags.getLsbD 0 && !flags.getLsbD 1) .alloc).map (fun r =>
    let g : Page := { owner := p, flags := flags, age := s.turn % 2 ^ 48, tierPref := tier, pinCmd := flags.getLsbD 0 }
    { r.1 with pages := KMap.put r.1.pages k (g.at r.2) })

/-- Consecutive pages allocated from page k on. -/
def State.allocRun : Nat → State → Nat → Nat → Nat → BitVec 16 → Option State
  | 0, s, _, _, _, _ => some s
  | n + 1, s, p, k, tier, flags => (s.allocPage p k tier flags).bind (fun t => t.allocRun n p (k + 1) tier flags)

/-- `n` pages allocated in partition p's window: the base page and the state. -/
def State.alloc (s : State) (p n tier : Nat) (flags : BitVec 16) : Option (Nat × State) :=
  (s.duaBase (p * 2 ^ 27) n).bind (fun k =>
    ({ s with fresh := s.fresh + 1 }.allocRun n p k tier flags).map (fun t => (k, t)))

/-- The host may set PINNED, PARITY, READONLY and MIRROR; the other flags are the module's own (log 10). -/
def hostFlags (f : Nat) : BitVec 16 := BitVec.ofNat 16 f &&& 0x2D#16

/-- Do the pages of an M-layout command lie page-aligned in the partition's window, one or more, all allocated to it? -/
def State.pagesErr (s : State) (p : Nat) (a : MArgs) : Nat :=
  if a.dua % 65536 ≠ 0 ∨ a.pages = 0 then Code.fieldInvalid else s.readErr p a.dua (65536 * a.pages)

/-- The page numbers of an M-layout command. -/
def pageNums (a : MArgs) : List Nat := (List.range a.pages).map (fun i => a.dua / 65536 + i)

/-- Does some page of an M-layout command satisfy `p`? -/
def State.anyPage (s : State) (a : MArgs) (p : Page → Bool) : Bool :=
  (pageNums a).any (fun k => match KMap.find s.pages k with | none => false | some g => p g)

/-- A 16-byte tier table entry; TIER 3 where not allocated (08_memory_tiers R248). -/
def tierEntry : Option Page → List Byte
  | none => leBytes 1 3 ++ zeros 15
  | some g => leBytes 1 (g.tier + 4 * (if g.tier = 2 then 0 else g.die)) ++ leBytes 1 g.owner ++ leBytes 2 g.flags.toNat ++
      leBytes 4 g.frame ++ leBytes 6 g.age ++ leBytes 1 g.mstate ++
      leBytes 1 ((if g.flag 5 then g.mirrorDie else 0) + 8 * g.tierPref)

/-! ## Migration (08_memory_tiers R261 to R266) -/

/-- The tier a page leaves T2 for (08_memory_tiers R209, R272). -/
def Page.raiseTier (g : Page) : Nat := if g.tierPref = 2 then 1 else g.tierPref

/-- Page k queued toward a tier for a command; a prefetch that asked for it keeps its deadline. -/
def State.queueMove (s : State) (k tier tag : Nat) : State :=
  s.modPage k (fun g => { g with
    queued := true, wantTier := tier, moveTag := tag, deadline := if g.asked then g.deadline else (s.turn, s.wheel.now) })

/-- Is a page on its way for a command: it is being copied, or queued toward a tier where it does not stand? -/
def Page.onWay (g : Page) : Bool := !g.flag 7 && (g.flag 4 || (g.queued && g.moveTag ≠ 0 && g.tier ≠ g.wantTier))

/-- A PAGE_MOVE, PAGE_PIN or HDM_MAP over: with a status of 0 PAGE_PIN pins and the mapping holds; with another an HDM_MAP's
mapping is taken back (08_memory_tiers R272, R280, R284, R286). -/
def State.endMove (s : State) (e : CmdE) (status : Nat) : State :=
  let ok := status = 0
  let page := fun (k : Nat) (g : Page) =>
    let h := if g.moveTag = e.tag then { g with queued := false, moveTag := 0 } else g
    if !e.aux.contains k then h
    else if e.opc = 0x83 && ok then { h.setFlag 0 true with pinCmd := true }
    else if e.opc = 0x85 && !ok then (if h.pinCmd then h.setFlag 1 false else (h.setFlag 1 false).setFlag 0 false)
    else h
  let maps := fun (l : List HdmMap) => if ok then l.map (fun m => if m.tag = e.tag then { m with tag := 0 } else m)
    else l.filter (fun m => m.tag ≠ e.tag)
  (({ s with pages := KMap.each s.pages page }).modPart e.part (fun v => { v with maps := maps v.maps })).done e status 0

/-- Commands that wait on pages: PAGE_MOVE, PAGE_PIN and HDM_MAP complete, oldest first, once none of their pages is on its
way, nor for HDM_MAP still to be mirrored; with PAGE_LOST where one was lost on the way (08_memory_tiers R272, R276, R284, R285). -/
def State.settle (s : State) : State :=
  let on := fun (t : State) (q : Page → Bool) (k : Nat) => match KMap.find t.pages k with | none => false | some g => q g
  (s.inflight.filter (fun e => e.st == .running && [0x82, 0x83, 0x85].contains e.opc)).foldl (fun (t : State) e =>
    if e.aux.any (on t (fun g => g.onWay || (e.opc == 0x85 && g.remirror && !g.flag 2 && !g.flag 7 && decide (g.tier < 2)))) then t
    else t.endMove e (if e.aux.any (on t (fun g => g.flag 7)) then Code.pageLost else 0)) s

/-- The AGE of a page that arrives: the running turn, or the next one where the batch it was fetched for has been carried
(08_memory_tiers R250, R267). -/
def State.arrivalAge (s : State) (g : Page) : Nat :=
  let carried := match KMap.find s.batches g.forBatch with | none => false | some v => v.carried
  (if carried then s.turn + 1 else s.turn) % 2 ^ 48

/-- Can the copy of page k at a mirror stand there: another surviving die or stack than the page's, its frame free
(08_memory_tiers R254)? -/
def State.mirrorOk (s : State) (k : Nat) (x : Spot) : Bool :=
  let t := { s with pages := KMap.del s.pages k }
  x.mirror ≠ x.die && (t.dies x.tier).contains x.mirror && !t.held x.tier x.mirror x.frame && !t.parityFrame x.tier x.mirror x.frame

/-- Page k stands at its new place: the source is free; a page to be mirrored whose mirror has no frame there gets one later
(R254, R276); it goes on where this is not the tier it is wanted in; a page that a
prefetch asked for and that comes past its deadline is counted; the commands that wait may be complete (08_memory_tiers R262,
R265 to R267). -/
def State.arrive (s : State) (k : Nat) (g : Page) (x : Spot) : State :=
  let late := g.asked && (decide (g.deadline.1 < s.turn) || (g.deadline.1 == s.turn && decide (g.deadline.2 < s.wheel.now)))
  let stay := g.queued && g.wantTier ≠ x.tier
  let h := (({ g with
    dirty := [], rounds := 0, mstate := 0, demand := false, queued := stay, age := s.arrivalAge g
    asked := g.asked && stay, moveTag := if stay then g.moveTag else 0, forBatch := if stay then g.forBatch else 0 }).at
      x).setFlag 4 false
  let t := { s with pages := KMap.put s.pages k (
    if !g.mirrored || decide (2 ≤ x.tier) then h
    else if s.mirrorOk k x then { h.setFlag 5 true with remirror := false }
    else { h.setFlag 5 false with remirror := true }) }
  (if late && !stay then t.count g.owner Ctr.prefetchLate 1 else t).settle

/-- Do the migration engines and tier T1 stand still: the module is in NAP or DEEP, or on its way there and quiescent
(20_power_thermal R612, R614, R616, R617; log 38)? -/
def State.asleep (s : State) : Bool := decide (2 ≤ s.power.pstate) || (s.power.entering && s.power.quiescent)

/-- May engine n (a die's engine, or 8 for the flash path) move page e next: a PINNED page only for a command that waits for it or a
hold (08_memory_tiers R249, R261)? -/
def engineTakes (n : Nat) (e : Nat × Page) : Bool :=
  e.2.queued && !(e.2.flag 0 && e.2.moveTag == 0 && !e.2.demand) && !e.2.flag 4 && !e.2.flag 7 && !e.2.rebuild && e.2.tier ≠ e.2.wantTier &&
    (if n = 8 then e.2.tier == 2 || (e.2.tier == 1 && e.2.wantTier == 2)
     else (e.2.tier == 1 && e.2.wantTier == 0) || (e.2.tier == 0 && e.2.die == n))

/-- T1 pages of the running turn that a demand fetch has evicted between two states, counted (08_memory_tiers R259). -/
def State.thrash (t s : State) (g : Page) : State :=
  if !g.demand then t
  else t.count g.owner Ctr.poolThrash (s.pages.filter (fun e => e.2.tier == 1 && e.2.age == s.turn % 2 ^ 48 &&
    (match KMap.find t.pages e.1 with | none => false | some h => h.tier == 2))).length

/-- Those of a list of pages that are in tier T2, which no tile can read (08_memory_tiers R259). -/
def State.inT2 (s : State) (ks : List Nat) : List Nat :=
  (s.pages.filter (fun e => ks.contains e.1 && e.2.tier == 2)).map (fun e => e.1)

/-- A page in tier T2 fetched on demand, for a batch where it has a number; a fetch under way is taken over
(08_memory_tiers R259, R267). -/
def State.fetch (s : State) (b k : Nat) : State :=
  s.modPage k (fun g =>
    let h := { g with demand := true, forBatch := if b = 0 then g.forBatch else b }
    if g.queued then h else { h with queued := true, wantTier := g.raiseTier, moveTag := 0, deadline := (s.turn, s.wheel.now) })

/-- The demand fetches for those of a list of pages that are in tier T2; none where every page is at hand
(08_memory_tiers R259, R268). -/
def State.demand (s : State) (b : Nat) (ks : List Nat) : Option State :=
  if (s.inT2 ks).isEmpty then none else some ((s.inT2 ks).foldl (fun (t : State) k => t.fetch b k) s)

/-- The pages of the `n` bytes at a DUA that a tile's record of partition p reads or writes: those of a buffer named by DUA that the
partition may read (08_memory_tiers R259, R268). -/
def State.duaPages (s : State) (p : Nat) (dua : Bool) (a n : Nat) : List Nat :=
  if dua && s.readErr p a n == 0 then pagesOf a n else []

/-- A command held for those of its pages that are in tier T2: one event of T2 latency per hold (08_memory_tiers R268, R270,
R271). -/
def State.hold (s : State) (e : CmdE) (ks : List Nat) : Option State :=
  (s.demand 0 ks).map (fun t =>
    (if e.wait = [] then t.count e.part Ctr.stallT2latEvt 1 else t).setCmd { e with wait := s.inT2 ks })

/-- Is page k of a row or state plane of an UPDATABLE table, and of which (10_embedding_tables R356)? -/
def State.tablePage (s : State) (k : Nat) : Option (Nat × Nat) :=
  s.parts.findSome? (fun e => e.2.tables.findSome? (fun t =>
    if t.2.updatable && (t.2.cur :: (t.2.staged.toList ++ t.2.retiring)).any (fun v =>
      (decide (v.rowBase ≤ k) && decide (k < v.rowBase + v.rowPages)) || (decide (v.stBase ≤ k) && decide (k < v.stBase + v.stPages)))
    then some (e.1, t.1) else none))

/-- The place that an engine copies a page to: a die's engine reaches tier T0 frames of its own die only (08_memory_tiers R261). -/
def State.engineSpot (s : State) (engine : Nat) (g : Page) (x : Spot) : Option Spot :=
  if engine = 8 || x.tier ≠ 0 || x.die == engine then some x
  else if s.spotOk (g.flag 2) g.mirrored { x with die := engine } then some { x with die := engine }
  else s.leastSpotOn 0 engine (g.flag 2) g.mirrored

/-- MIGRATION_START: an engine takes the page of its queue with the earliest deadline, then the lowest number; a prefetch
that finds no room is dropped; a die's engine whose own die has none leaves the page to another (08_memory_tiers R258, R261, R262,
R266). Asleep, or with the entry into sleep quiescent, no engine runs (20_power_thermal R612, R614, R617; log 38). -/
def execMigrationStart (engine : Nat) (s : State) : Host.Outcome State Fault Refusal :=
  match leastBy (fun a b => decide (a.2.deadline.1 < b.2.deadline.1) ||
      (a.2.deadline.1 == b.2.deadline.1 && (decide (a.2.deadline.2 < b.2.deadline.2) ||
        (a.2.deadline.2 == b.2.deadline.2 && decide (a.1 < b.1))))) (s.pages.filter (engineTakes engine)) with
  | none => .next s
  | some (k, g) =>
    let tier := if g.tier = 1 then g.wantTier else 1
    if s.asleep || (engine = 8 && !s.flashUp) then .next s else match s.placeIn g.owner tier (g.flag 2) g.mirrored (if g.demand then .demand else if g.moveTag = 0 then .prefetch else .alloc) with
    | none =>
      if g.moveTag = 0 && !g.demand then .next ((s.modPage k (fun v => { v with queued := false, asked := false })).count g.owner Ctr.prefetchDrop 1)
      else .next s
    | some (t, y) => match t.engineSpot engine g y with
      | none => .next s
      | some x => .next ((t.thrash s g).modPage k (fun v => ({ v with
          mstate := 1, age := s.turn % 2 ^ 48, dstTier := x.tier, dstDie := x.die, dstFrame := x.frame, dstMirror := x.mirror, dirty := [], rounds := 0 }).setFlag 4 true))

/-- The destination of a migration as a place, the frame of its mirror with it (08_memory_tiers R254, R262). -/
def Page.dstSpot (g : Page) : Spot := ⟨g.dstTier, g.dstDie, g.dstFrame, g.dstMirror⟩

/-- A migration given up: the destination is free, the page stays at its source (08_memory_tiers R262). -/
def State.abandon (s : State) (k : Nat) (g : Page) : State :=
  ((s.modPage k (fun v => ({ v with
    mstate := 0, dirty := [], rounds := 0, queued := v.queued && v.moveTag ≠ 0, asked := v.asked && v.moveTag ≠ 0 }).setFlag 4
      false)).count g.owner Ctr.migAbandon 1).settle

/-- MIGRATION_SWITCH: the copy of a page has ended; dirty lines are copied again in at most 4 rounds, then the entry names the
destination; or the move is abandoned (08_memory_tiers R262, R263). -/
def execMigrationSwitch (page : Nat) (destOk : Bool) (s : State) : Host.Outcome State Fault Refusal :=
  match KMap.find s.pages page with
  | none => .next s
  | some g =>
    if !(g.mstate == 1 || g.mstate == 2) || g.tier == 2 || s.asleep || (g.dstTier == 2 && !s.flashUp) then .next s
    else if !destOk then .next (s.abandon page g)
    else if g.dirty ≠ [] && (s.tablePage page).isSome then
      -- rows of an UPDATABLE table: one recopy, each logged row again whole (10_embedding_tables R356, R357)
      (match s.tablePage page with
        | none => .next s
        | some (p, h) => .next ((s.modPage page (fun v => { v with mstate := 2, dirty := [], rounds := v.rounds + 1 })).modPart p
            (fun v => { v with tables := KMap.mod v.tables h (fun t => { t with ctr := bump t.ctr TbCtr.migRowReplay g.dirty.length }) })))
    else if g.dirty ≠ [] then
      (if 4 ≤ g.rounds then .next (s.abandon page g)
       else .next (s.modPage page (fun v => { v with mstate := 2, dirty := [], rounds := v.rounds + 1 })))
    else
      .next ((if g.dstTier = 2 then s.pageOut else s).arrive page (if g.dstTier = 2 then g.setFlag 6 true else g) g.dstSpot)

/-- A page group requested for batch b: AGE set, and a migration queued for each page below its TIER_PREF tier that is not PINNED
(08_memory_tiers R249, R264 to R267). -/
def State.prefetch (s : State) (p b : Nat) (ks : List Nat) (dl : Nat × Nat) : State :=
  ks.foldl (fun t k => match KMap.find t.pages k with
    | none => t
    | some g =>
      if g.tier ≤ g.tierPref || g.queued || g.flag 0 then t.touch [k]
      else ((t.touch [k]).modPage k (fun v => { v with
        queued := true, wantTier := g.tierPref, moveTag := 0, deadline := dl, asked := true, forBatch := b })).count p Ctr.prefetchReq 1) s

/-! ## A lost stack (08_memory_tiers R276, R277) -/

/-- Page e after die or stack n is lost. -/
def Page.stackLost (g : Page) (n : Nat) : Page :=
  if 2 ≤ g.tier then g
  else if g.die = n then
    (if g.flag 2 then { g with rebuild := true }
     else if g.flag 5 then { g.setFlag 5 false with die := g.mirrorDie, remirror := true }
     else if g.flag 6 then g.dropped
     else g.setFlag 7 true)
  else if g.flag 5 && g.mirrorDie = n then { g.setFlag 5 false with remirror := true }
  else g

/-- PARITY_REBUILD: a page of a lost stack rebuilt into a free frame of a surviving die and served without parity; pinned
host-mapped READONLY pages go first; a member of a group that has lost its parity frame goes to another group
(08_memory_tiers R276; log 30). -/
def execParityRebuild (page : Nat) (s : State) : Host.Outcome State Fault Refusal :=
  let first := fun (g : Page) => g.flag 0 && g.flag 1 && g.flag 3
  match KMap.find s.pages page with
  | none => .next s
  | some g =>
    if !g.rebuild then
      -- a group whose parity frame is lost: its members are rebuilt into groups that have theirs
      (if !(g.flag 2 && decide (g.tier < 2) && !g.flag 4 && s.stackLost.getD (g.frame % 8) false) then .next s
       else match s.pickSpot g.tier true (g.flag 5) with
        | none => .next s
        | some x => .next ({ s with fresh := s.fresh + 1 }.modPage page (fun v => s.copied v x)))
    else if !first g && s.pages.any (fun e => e.2.rebuild && first e.2) then .next s
    else match s.pickSpot g.tier false (g.flag 5) with
      | none => .next s
      | some x => .next (({ s with fresh := s.fresh + 1 }.modPage page (fun v =>
          (s.copied { v with rebuild := false, remirror := v.remirror || (v.flag 1 && !v.flag 5) } x).setFlag 2 false)).count
            g.owner Ctr.parityReconPages 1)

/-- MIRROR_REBUILD: a new mirror of a page on a third stack (08_memory_tiers R276). -/
def execMirrorRebuild (page : Nat) (s : State) : Host.Outcome State Fault Refusal :=
  match KMap.find s.pages page with
  | none => .next s
  | some g =>
    if !g.remirror || g.flag 7 then .next s
    else match (s.dies g.tier).find? (fun m => m ≠ g.die && !s.held g.tier m g.frame && !s.parityFrame g.tier m g.frame) with
      | none => match s.placeIn g.owner g.tier (g.flag 2) true .alloc with
        | none => .next s
        | some (t, x) => .next (t.modPage page (fun v => (t.copied { v with remirror := false } x).setFlag 5 true)).settle
      | some m => .next (s.modPage page (fun v => ({ v with
          remirror := false, mirrorDie := m, age := s.turn % 2 ^ 48 }).setFlag 5 true)).settle

/-! ## Page commands (08_memory_tiers R272 to R275, R284, R285) -/

/-- PAGE_ALLOC (08_memory_tiers R256, R284, R285). -/
def execPageAlloc (r : Ref) (a : MArgs) (s : State) : Host.Outcome State Fault Refusal :=
  s.command r 0x80 (fun e => argsM e.area == a) (fun s e =>
    s.checked e
      [(a.pages == 0 || decide (3 ≤ a.tier), Code.fieldInvalid),
       (bit a.pgflags 2 && !bit a.pgflags 3, Code.tierInvalid)]
      (fun _ => match s.alloc e.part a.pages a.tier (hostFlags a.pgflags) with
        | none => s.reject e Code.poolExhausted
        | some (k, t) => t.done e 0 (65536 * k)))

/-- PAGE_FREE: the pages wait for their admitted readers (08_memory_tiers R273, R284). -/
def execPageFree (r : Ref) (a : MArgs) (s : State) : Host.Outcome State Fault Refusal :=
  s.command r 0x81 (fun e => argsM e.area == a) (fun s e =>
    let c := s.pagesErr e.part a
    s.checked e
      [(c ≠ 0 && c ≠ Code.pageLost, c), (s.anyPage a (fun g => g.flag 1), Code.pageMapped)]
      (fun _ => s.keep { e with aux := (pageNums a) }))

/-- PAGE_FREE_COMPLETE: no run admitted before the command is left, and no batch that reads a page of it (08_memory_tiers R284). -/
def execPageFreeComplete (r : Ref) (s : State) : Host.Outcome State Fault Refusal :=
  match s.at? r .running with
  | none => .next s
  | some e =>
    if e.opc ≠ 0x81 || s.runs.any (fun x => x.2.part = e.part && decide (x.2.tag < e.tag)) || e.aux.any s.batchReads then .next s
    else .next (((e.aux.foldl (fun t k => t.freePages k 1) s)).done e 0 0)

/-- The pages of a command queued toward a tier, and the command kept until they have arrived; complete at once where none
has to move. -/
def State.moveAll (s : State) (e : CmdE) (ks : List Nat) (need : Page → Bool) (tier : Page → Nat) : State :=
  let t := ks.foldl (fun t k => match KMap.find t.pages k with
    | none => t
    | some g => if need g then t.queueMove k (tier g) e.tag else t) s
  (t.keep { e with aux := ks }).settle

/-- Does a page not stand in a tier, or is it on its way from it (08_memory_tiers R284, R285)? -/
def Page.leaves (g : Page) (tier : Nat) : Bool := g.tier ≠ tier || g.flag 4 || (g.queued && g.wantTier ≠ tier)

/-- Does a page stand in tier T2, or is it on its way there (08_memory_tiers R272, R284, R285)? -/
def Page.toT2 (g : Page) : Bool := g.tier == 2 || (g.flag 4 && g.dstTier == 2) || (g.queued && g.wantTier == 2)

/-- PAGE_MOVE (08_memory_tiers R273, R284, R285). -/
def execPageMove (r : Ref) (a : MArgs) (s : State) : Host.Outcome State Fault Refusal :=
  s.command r 0x82 (fun e => argsM e.area == a) (fun s e =>
    let c := s.pagesErr e.part a
    s.checked e
      [(decide (3 ≤ a.tier), Code.fieldInvalid), (c ≠ 0, c),
       (a.tier == 2 && s.anyPage a (fun g => g.flag 0 || g.flag 1), Code.tierInvalid),
       (a.tier == 2 && s.flash.readonly && s.anyPage a (fun g => g.tier ≠ 2 && !g.flag 6), Code.tierReadonly)]
      (fun _ => s.moveAll e (pageNums a) (fun g => g.leaves a.tier) (fun _ => a.tier)))

/-- PAGE_PIN (08_memory_tiers R284, R285). -/
def execPagePin (r : Ref) (a : MArgs) (s : State) : Host.Outcome State Fault Refusal :=
  s.command r 0x83 (fun e => argsM e.area == a) (fun s e =>
    let c := s.pagesErr e.part a
    s.checked e [(c ≠ 0, c)] (fun _ => s.moveAll e (pageNums a) Page.toT2 Page.raiseTier))

/-- PAGE_UNPIN (08_memory_tiers R284). -/
def execPageUnpin (r : Ref) (a : MArgs) (s : State) : Host.Outcome State Fault Refusal :=
  s.command r 0x84 (fun e => argsM e.area == a) (fun s e =>
    let c := s.pagesErr e.part a
    s.checked e [(c ≠ 0, c)] (fun _ =>
      ((pageNums a).foldl (fun t k => t.modPage k (fun g =>
        if g.flag 1 then { g with pinCmd := false } else { g.setFlag 0 false with pinCmd := false })) s).done e 0 0))

/-- Do two ranges of window offsets meet? -/
def meets (a n b m : Nat) : Bool := decide (a < b + m) && decide (b < a + n)

/-- Does the doorbell page lie wholly in the HDM window (19_registers R601)? -/
def Part.dbInWindow (v : Part) : Bool := decide (v.dbOffset + 65536 ≤ v.eff.hdmSize * 2 ^ 28)

/-- Window range refused for a mapping (08_memory_tiers R286, 17_host_link R546). -/
def Part.rangeBad (v : Part) (off pages : Nat) : Bool :=
  off % 65536 ≠ 0 || decide (v.eff.hdmSize * 2 ^ 28 < off + 65536 * pages) || meets off (65536 * pages) v.dbOffset 65536 ||
    v.maps.any (fun m => meets off (65536 * pages) m.off (65536 * m.pages))

/-- A page mapped: HOSTMAP and PINNED, and a mirror where it carries no PARITY and is resident; none where no stack has
room (08_memory_tiers R272). -/
def State.mapPage (s : State) (k : Nat) : Option State :=
  match KMap.find s.pages k with
  | none => none
  | some g =>
    let h := (g.setFlag 1 true).setFlag 0 true
    if g.flag 2 || g.flag 5 || g.tier == 2 then some { s with pages := KMap.put s.pages k h }
    else match (s.dies g.tier).find? (fun m => m ≠ g.die && !s.held g.tier m g.frame && !s.parityFrame g.tier m g.frame) with
      | some m => if s.maxOf g.owner g.tier ≤ s.framesOf g.owner g.tier then none
        else some { s with pages := KMap.put s.pages k ({ h with mirrorDie := m }.setFlag 5 true) }
      | none => (s.placeIn g.owner g.tier false true .alloc).map (fun r =>
          { r.1 with pages := KMap.put r.1.pages k ((h.at r.2).setFlag 5 true) })

/-- HDM_MAP (08_memory_tiers R272, R273, R286; 13 R468). -/
def execHdmMap (r : Ref) (a : MArgs) (s : State) : Host.Outcome State Fault Refusal :=
  s.command r 0x85 (fun e => argsM e.area == a) (fun s e =>
    let c := s.pagesErr e.part a
    s.checked e
      [(decide (3 ≤ a.tier), Code.fieldInvalid), (c ≠ 0, c),
       (a.tier == 2 || s.anyPage a (fun g => g.poolKv), Code.tierInvalid),
       ((s.part e.part).rangeBad a.winOff a.pages, Code.hdmRangeInvalid)]
      (fun _ => match (pageNums a).foldl (fun o k => o.bind (fun t => t.mapPage k)) (some s) with
        | none => s.reject e Code.poolExhausted
        | some t =>
          let m : HdmMap := { off := a.winOff, page := a.dua / 65536, pages := a.pages, tag := e.tag }
          (t.modPart e.part (fun v => { v with maps := v.maps ++ [m] })).moveAll e (pageNums a) Page.toT2 Page.raiseTier))

/-- A mapping with the pages from `k` to `k + n - 1` taken out. -/
def HdmMap.without (m : HdmMap) (k n : Nat) : List HdmMap :=
  ([{ m with pages := min m.pages (k - m.page) },
    { m with off := m.off + 65536 * (k + n - m.page), page := m.page + (k + n - m.page), pages := m.pages - (k + n - m.page) }]
    : List HdmMap).filter (fun x => 0 < x.pages)

/-- HDM_UNMAP (08_memory_tiers R275). -/
def execHdmUnmap (r : Ref) (a : MArgs) (s : State) : Host.Outcome State Fault Refusal :=
  s.command r 0x86 (fun e => argsM e.area == a) (fun s e =>
    let c := s.pagesErr e.part a
    s.checked e [(c ≠ 0 && c ≠ Code.pageLost, c)] (fun _ =>
      let t := (pageNums a).foldl (fun t k => t.modPage k (fun g =>
        if g.pinCmd then g.setFlag 1 false else (g.setFlag 1 false).setFlag 0 false)) s
      (t.modPart e.part (fun v => { v with
        maps := v.maps.flatMap (fun m => m.without (a.dua / 65536) a.pages) })).done e 0 0))

/-- READONLY pages rewritten whole: the new contents go to a fresh frame (08_memory_tiers R251). -/
def State.rewrite (s : State) (ks : List Nat) : Option State :=
  ks.foldl (fun o k => o.bind (fun t => match KMap.find t.pages k with
    | none => some t
    | some g => if !g.flag 3 then some t
      else (t.placeIn g.owner g.tier (g.flag 2) (g.flag 5) .alloc).map (fun r =>
        (if g.tier = 2 then r.1.pageOut else r.1).modPage k (fun v => ({ v with back := none }.setFlag 6 (decide (g.tier = 2))).at r.2)))) (some s)

/-- PAGE_WRITE (08_memory_tiers R251, R284). -/
def execPageWrite (r : Ref) (a : MArgs) (s : State) : Host.Outcome State Fault Refusal :=
  s.command r 0x87 (fun e => argsM e.area == a) (fun s e =>
    let c := s.pagesErr e.part a
    s.checked e [(c ≠ 0, c)] (fun _ =>
      match s.readBuf e.part (bit a.mflags 0) a.hostAddr (65536 * a.pages) with
      | .error c => s.reject e c
      | .ok (bs, t) => match t.rewrite (pageNums a) with
        | none => s.reject e Code.poolExhausted
        | some u => (u.devPut a.dua bs).done e 0 0))

/-- PAGE_READ (08_memory_tiers R284). -/
def execPageRead (r : Ref) (a : MArgs) (s : State) : Host.Outcome State Fault Refusal :=
  s.command r 0x88 (fun e => argsM e.area == a) (fun s e =>
    let c := s.pagesErr e.part a
    s.checked e [(c ≠ 0, c)] (fun _ =>
      match (s.readPages e.part (pageNums a)).writeBuf e.part (bit a.mflags 0) a.hostAddr (s.dev.readN a.dua (65536 * a.pages)) with
      | .error c => s.reject e c
      | .ok t => t.done e 0 0))

/-- TIER_QUERY: the entry of each page of the range, in the partition's own window (08_memory_tiers R248, R284). -/
def execTierQuery (r : Ref) (a : MArgs) (s : State) : Host.Outcome State Fault Refusal :=
  s.command r 0x89 (fun e => argsM e.area == a) (fun s e =>
    s.checked e
      [(a.dua % 65536 ≠ 0 || a.pages == 0, Code.fieldInvalid),
       (!inWindow e.part a.dua (65536 * a.pages), Code.addressNotOwned)]
      (fun _ => match s.writeBuf e.part (bit a.mflags 0) a.hostAddr
          ((pageNums a).flatMap (fun k => tierEntry (KMap.find s.pages k))) with
        | .error c => s.reject e c
        | .ok t => t.done e 0 0))

/-- POOL_STATS: T0, T1 and T2 frames in use by the partition, then the counters of R271 (08_memory_tiers R284). -/
def execPoolStats (r : Ref) (a : QArgs) (s : State) : Host.Outcome State Fault Refusal :=
  s.command r 0x8A (fun e => argsQ e.area == a) (fun s e =>
    s.answer e a [(List.range 3).flatMap (fun t => leBytes 4 (s.framesOf e.part t)),
      ctrBytes (s.part e.part).ctr 0x100 22])

/-! ## Extents and flash (08_memory_tiers R278 to R284) -/

/-- Bytes of extents in use. -/
def State.extentBytes (s : State) : Nat := (s.flash.extents.map (fun e => e.2.size)).sum

/-- EXTENT_CREATE: an extent of LEN bytes where the extent store has room; its ID is a free choice (log 10). -/
def execExtentCreate (r : Ref) (a : EArgs) (s : State) : Host.Outcome State Fault Refusal :=
  s.command r 0x8B (fun e => argsE e.area == a) (fun s e =>
    let c := Config.freeNat s.fresh % 2 ^ 64
    let id := if (KMap.find s.flash.extents c).isNone then c else s.flash.nextExtent
    s.checked e
      [(decide (flashBytes < s.extentBytes + s.flash.pagingSizeWr * 2 ^ 30 + a.len), Code.poolExhausted)]
      (fun _ => ({ s with
        fresh := s.fresh + 1
        flash := { s.flash with
          extents := KMap.put s.flash.extents id { owner := e.part, size := a.len }
          nextExtent := max s.flash.nextExtent (id + 1) } }).done e 0 id))

/-- EXTENT_WRITE: complete only on durable commit (08_memory_tiers R281, R282, R284). -/
def execExtentWrite (r : Ref) (a : EArgs) (s : State) : Host.Outcome State Fault Refusal :=
  s.command r 0x8C (fun e => argsE e.area == a) (fun s e =>
    s.checked e
      [(!s.extentOk e.part a.extent a.offset a.len, Code.extentInvalid), (s.flash.readonly, Code.tierReadonly)]
      (fun _ => match s.readBuf e.part (bit a.eflags 0) a.addr a.len with
        | .error c => s.reject e c
        | .ok (bs, t) => ({ t with flash := { t.flash with
            extents := KMap.mod t.flash.extents a.extent (fun v => { v with pend := v.pend ++ [(e.tag, a.offset, bs)] })
            } }).keep e))

/-- EXTENT_COMMIT: the first write of an extent that waits is durable, and its command complete (08_memory_tiers R281). -/
def execExtentCommit (extent : Nat) (s : State) : Host.Outcome State Fault Refusal :=
  match KMap.find s.flash.extents extent with
  | none => .next s
  | some v => if !s.flashUp then .next s else match v.pend with
    | [] => .next s
    | (tag, o, bs) :: rest =>
      let t := (({ s with flash := { s.flash with
        extents := KMap.put s.flash.extents extent { v with pend := rest, data := v.data.writeN o bs } } }).flashCount
          Ctr.hostBytesWritten bs.length).flashCount Ctr.mediaBytesWritten bs.length
      match t.cmd tag with
      | none => .next t
      | some e => .next (t.done e 0 0)

/-- EXTENT_READ (08_memory_tiers R284). -/
def execExtentRead (r : Ref) (a : EArgs) (s : State) : Host.Outcome State Fault Refusal :=
  s.command r 0x8D (fun e => argsE e.area == a) (fun s e =>
    s.checked e [(!s.extentOk e.part a.extent a.offset a.len, Code.extentInvalid)] (fun _ =>
      match s.writeBuf e.part (bit a.eflags 0) a.addr (s.extentRead a.extent a.offset a.len) with
      | .error c => s.reject e c
      | .ok t => t.done e 0 0))

/-- EXTENT_DELETE (08_memory_tiers R284). -/
def execExtentDelete (r : Ref) (a : EArgs) (s : State) : Host.Outcome State Fault Refusal :=
  s.command r 0x8E (fun e => argsE e.area == a) (fun s e =>
    s.checked e [(!s.extentOk e.part a.extent 0 0, Code.extentInvalid)] (fun _ =>
      ({ s with flash := { s.flash with extents := KMap.del s.flash.extents a.extent } }).done e 0 0))

/-- The flash counters, PERCENT_USED among them: what HOST_BYTES_WRITTEN has consumed of the rated 25.6 PB or 12.8 PB, at most 255
(00_scope R2; 08_memory_tiers R282, R283). -/
def State.flashCtrs (s : State) : KMap Nat :=
  let rated := (if Config.isF14 then 128 else 256) * 10 ^ 14
  KMap.put s.flash.ctr Ctr.percentUsed (min 255 (100 * KMap.findD s.flash.ctr Ctr.hostBytesWritten 0 / rated))

/-- FLASH_HEALTH: the counters of R283 (08_memory_tiers R283, R284). -/
def execFlashHealth (r : Ref) (a : QArgs) (s : State) : Host.Outcome State Fault Refusal :=
  s.command r 0x8F (fun e => argsQ e.area == a) (fun s e => s.answer e a [ctrBytes s.flashCtrs 0x900 8])

/-- FLASH_REFRESH: blocks refreshed and the bytes that relocation wrote (08_memory_tiers R279, R283). -/
def execFlashRefresh (blocks mediaBytes : Nat) (s : State) : Host.Outcome State Fault Refusal :=
  if !s.flashUp then .next s
  else .next ((s.flashCount Ctr.refreshBlocks blocks).flashCount Ctr.mediaBytesWritten mediaBytes)

/-- PATROL_READ: patrol reads of written blocks; a pass that completes counts (08_memory_tiers R279, R283). -/
def execPatrolRead (passDone : Bool) (s : State) : Host.Outcome State Fault Refusal :=
  .next (if passDone && s.flashUp then s.flashCount Ctr.patrolPasses 1 else s)

/-- A maintenance state raised; once raised it stays until cold reset (23_management R680, R683). -/
def State.maintain (s : State) (m : Nat) : State :=
  if s.power.maint ≠ 0 then s
  else
    let t := { s with power := { s.power with maint := m } }
    (t.platformEvent 260 (m : Int)).logEv 9 m 0xFF 260 0 0

/-- TIER_READONLY: the share of spare blocks; below 2 % tier T2 becomes read-only and a maintenance alarm is raised
(08_memory_tiers R282, R283). -/
def execTierReadonly (spare : Nat) (s : State) : Host.Outcome State Fault Refusal :=
  let t := { s with flash := { s.flash with ctr := KMap.put s.flash.ctr Ctr.sparePercent spare } }
  if spare < 2 then .next (({ t with flash := { t.flash with readonly := true } }).maintain 1) else .next t

end Sys2Proof.Machine
end

