-- ==== Sys2Proof/Machine/Kv.lean ====
section
/-! DEFINITION. KV pools, block tables, the prefix index and the recovery of KV from the journal (13_serving R434 to R442,
21_reliability R644 to R648). What a KV row holds is written and read through bindings of the hub and is not kept (log 11). -/

namespace Sys2Proof.Machine

/-! ## Pools (13_serving R434, 06_operations R197, R198) -/

/-- The attention layers of an image with the bytes BB of one block in each (06 R197, R198). -/
def Image.kvLayers (i : Image) : List (Nat × Nat) :=
  (i.recs.filter (fun b => field b 0 1 == 0x03)).foldl (fun (a : List (Nat × Nat)) b =>
    let l := field b 2 2
    let bb := 64 * field b 113 1 * 64 * 2 ^ field b 114 1 * (if field b 115 1 % 16 = 1 then 2 else 1)
    if a.any (fun e => e.1 == l) then a else a ++ [(l, bb)]) []

/-- Pages of one block over all attention layers. -/
def Image.kvPages (i : Image) : Nat := (i.kvLayers.map (fun e => ceilDiv e.2 65536)).sum

/-- Partition p's pool for image h, reserved where it is not there: KV_BLOCKS blocks, or as many as T1 MAX allows for 0; none
where the regions do not fit in the partition's window (13_serving R427, R434). -/
def State.openPool (s : State) (p h kvBlocks : Nat) (i : Image) : Option State :=
  if (KMap.find (s.part p).kv h).isSome then some s
  else
    let n := if kvBlocks = 0 then s.maxOf p 1 / max i.kvPages 1 else kvBlocks
    let put := fun (a : State) (v : KvPool) => a.modPart p (fun w => { w with kv := KMap.put w.kv h v })
    i.kvLayers.foldl (fun (o : Option State) e => o.bind (fun (a : State) =>
      (a.duaBase (p * 2 ^ 27) (ceilDiv (n * e.2) 65536)).map (fun k =>
        let v := KMap.findD (a.part p).kv h {}
        put { a with fresh := a.fresh + 1 } { v with regions := v.regions ++ [(e.1, k, e.2)] })))
      (some (put s { nblk := n, blkPages := i.kvPages }))

/-- A block by partition, image handle and number. -/
abbrev BlkRef := Nat × Nat × Nat

/-- The block of a reference. -/
def State.kvBlk (s : State) (r : BlkRef) : Option KvBlk := (KMap.find (s.part r.1).kv r.2.1).bind (fun v => KMap.find v.blocks r.2.2)

/-- The state with a block changed. -/
def State.modBlk (s : State) (r : BlkRef) (f : KvBlk → KvBlk) : State :=
  s.modPart r.1 (fun w => { w with kv := KMap.mod w.kv r.2.1 (fun v => { v with blocks := KMap.mod v.blocks r.2.2 f }) })

/-- The pages of a block. -/
def State.blkPages (s : State) (r : BlkRef) : List Nat :=
  match KMap.find (s.part r.1).kv r.2.1 with
  | none => []
  | some v => v.pagesOf r.2.2

/-- The pages of a block that belong to attention layer l. -/
def State.blkLayerPages (s : State) (l : Nat) (r : BlkRef) : List Nat :=
  match KMap.find (s.part r.1).kv r.2.1 with
  | none => []
  | some v => { v with regions := v.regions.filter (fun e => e.1 == l) }.pagesOf r.2.2

/-- The KV pages that a record of layer l reads for sessions of one image (13_serving R438; 08_memory_tiers R250, R268). -/
def State.kvRead (s : State) (members : List Nat) (l : Nat) : List Nat :=
  (members.flatMap (fun m => match KMap.find s.sessions m with
    | none => []
    | some v => v.blocks.flatMap (s.blkLayerPages l))).dedup

/-- AGE of a block: the largest AGE of its pages. -/
def State.blkAge (s : State) (r : BlkRef) : Nat :=
  ((s.blkPages r).map (fun k => match KMap.find s.pages k with | none => 0 | some g => g.age)).foldl max 0

/-- The cached blocks of no reference of partitions that satisfy `q` (13_serving R437). -/
def State.cached (s : State) (q : Nat → Nat → Bool) : List BlkRef :=
  s.parts.flatMap (fun e => e.2.kv.flatMap (fun f =>
    if q e.1 f.1 then (f.2.blocks.filter (fun b => b.2.refs == 0)).map (fun b => (e.1, f.1, b.1)) else []))

/-- The one of a list of blocks with the smallest AGE. -/
def State.oldest (s : State) (l : List BlkRef) : Option BlkRef := leastBy (fun (a b : BlkRef) => decide (s.blkAge a < s.blkAge b)) l

/-- A KV page at page number k: on stack `st` where the partition's T1 limits allow it, else wherever an allocation of R256 puts
it (21_reliability R644; log 10). -/
def State.kvPage (s : State) (p k st : Nat) : Option State :=
  let mark := fun (a : State) => a.modPage k (fun g => { g with poolKv := true })
  let ok := fun (f : Nat) => s.spotOk true false ⟨1, st, f, 0⟩
  let c := Config.freeNat s.fresh % s.framesPer 1
  let here := if s.maxOf p 1 < s.framesOf p 1 + 1 || s.frames 1 < s.framesUsed 1 + 1 then none
    else if ok c then some c else (List.range (s.tries 1)).find? ok
  match here with
  | some f =>
    let g : Page := { owner := p, age := s.turn % 2 ^ 48, tierPref := 1, poolKv := true }
    some { s with pages := KMap.put s.pages k (g.at ⟨1, st, f, 0⟩), fresh := s.fresh + 1 }
  | none => (s.allocPage p k 1 0).map mark

/-- The pages of a block allocated, those another block of the pool already lies on as they are. -/
def State.kvPagesAt (s : State) (p st : Nat) (ks : List Nat) : Option State :=
  ks.foldl (fun (o : Option State) k => o.bind (fun (a : State) =>
    if (KMap.find a.pages k).isSome then some a else a.kvPage p k st)) (some s)

/-- A new private block, at the lowest free number; cached blocks of no reference are dropped in ascending AGE while there is
no number or no page for it (13_serving R437). -/
def State.takeBlock : Nat → State → Nat → Nat → Nat → State × Option BlkRef
  | 0, s, _, _, _ => (s, none)
  | n + 1, s, p, h, st =>
    match KMap.find (s.part p).kv h with
    | none => (s, none)
    | some v =>
      let b := ((List.range (v.blocks.length + 1)).find? (fun i => (KMap.find v.blocks i).isNone)).getD 0
      let again := fun (l : List BlkRef) => match s.oldest l with
        | none => (s, none)
        | some r => (s.dropBlock r.1 r.2.1 r.2.2).takeBlock n p h st
      if v.nblk ≤ b then again (s.cached (fun i j => i == p && j == h))
      else match s.kvPagesAt p st (v.pagesOf b) with
        | none => again (s.cached (fun i _ => i == p))
        | some t =>
          (t.modPart p (fun w => { w with kv := KMap.put w.kv h { v with blocks := KMap.put v.blocks b { refs := 1, stack := st } } }),
            some (p, h, b))

/-- A reference given up: a block that none holds and the prefix index does not list is freed (13_serving R434, R435,
R457). -/
def State.unref (s : State) (r : BlkRef) : State :=
  match s.kvBlk r with
  | none => s
  | some b =>
    if b.refs ≤ 1 && b.hash.isNone then s.dropBlock r.1 r.2.1 r.2.2 else s.modBlk r (fun c => { c with refs := c.refs - 1 })

/-- References given up one after another. -/
def State.unrefAll (s : State) (l : List BlkRef) : State := l.foldl State.unref s

/-- `n` new blocks; none where one of them cannot be had, those taken then returned. -/
def State.takeBlocks (s : State) (p h st : Nat) : Nat → State × Option (List BlkRef)
  | 0 => (s, some [])
  | n + 1 =>
    let r := s.takeBlocks p h st n
    match r.2 with
    | none => r
    | some l => match r.1.takeBlock ((r.1.cached (fun i _ => i == p)).length + 1) p h st with
      | (t, some b) => (t, some (l ++ [b]))
      | (t, none) => (t.unrefAll l, none)

/-! ## Prefix hashes (13_serving R439 to R442) -/

/-- The salt of a sharing domain: 16 bytes of a draw (13_serving R440; log 10). -/
def State.salt (s : State) (dom : Nat) : List Byte := leBytes 16 (Config.freeNat (KMap.findD s.sagger.saltDraw dom 0))

/-- The hash of one block (13_serving R439). -/
def kvHash (model vocabId glaze : Nat) (salt : List Byte) (parent : Nat) (toks : List Nat) : Nat :=
  leNat (Config.shake256 (leBytes 16 parent ++ leBytes 16 model ++ leBytes 16 vocabId ++ leBytes 4 glaze ++ salt ++
    toks.flatMap (leBytes 4)) 16)

/-- The hashes of the first n blocks of a context, each over its parent's. -/
def kvHashes (model vocabId glaze : Nat) (salt : List Byte) (toks : List Nat) (n : Nat) : List Nat :=
  (List.range n).foldl (fun (a : List Nat) i =>
    a ++ [kvHash model vocabId glaze salt (a.getLast?.getD 0) ((toks.drop (32 * i)).take 32)]) []

/-- The hashes of a session's context for its target (glaze in) or its draft image (glaze 0) (13_serving R439, 14 R472). -/
def State.sessHashes (s : State) (v : Session) (image glaze n : Nat) (toks : List Nat) : List Nat :=
  kvHashes (KMap.findD (s.part v.part).images image {}).modelId (KMap.findD s.vocabs v.vocab {}).vocabId glaze
    (s.salt (s.part v.part).eff.domain) toks n

/-- The block that a domain's index lists under a hash (13_serving R440, R441). -/
def State.indexed (s : State) (dom hash : Nat) : Option BlkRef :=
  s.parts.findSome? (fun e => e.2.kv.findSome? (fun f =>
    (f.2.blocks.find? (fun b => b.2.hash == some hash && b.2.dom == dom)).map (fun b => (e.1, f.1, b.1))))

/-- Entries of the prefix index in the module (13_serving R442). -/
def State.indexSize (s : State) : Nat :=
  (s.parts.map (fun e => (e.2.kv.map (fun f => (f.2.blocks.filter (fun b => b.2.hash.isSome)).length)).sum)).sum

/-- The hits of a lookup, in order, up to the first miss; each adds a reference (13_serving R441). -/
def State.lookupHits (s : State) (dom : Nat) : List Nat → State × List BlkRef
  | [] => (s, [])
  | h :: t => match s.indexed dom h with
    | none => (s, [])
    | some r =>
      let u := (s.modBlk r (fun b => { b with refs := b.refs + 1 })).lookupHits dom t
      (u.1, r :: u.2)

/-- A table with the blocks from `full` up to `last` looked up: the table, and how many hits (13_serving R441). -/
def State.lookupTable (s : State) (v : Session) (image glaze : Nat) (toks : List Nat) (table : List BlkRef) (full last : Nat) :
    State × List BlkRef × Nat :=
  let hs := (s.sessHashes v image glaze last toks).drop full
  let r := s.lookupHits (s.part v.part).eff.domain hs
  if r.2.isEmpty then (s, table, 0)
  else (r.1.unrefAll (table.drop full), table.take full ++ r.2, r.2.length)

/-- The index makes room for one entry: none where it is full and every listed block is referenced (13_serving R442). -/
def State.indexRoom (s : State) : Option State :=
  if s.indexSize < 4194304 then some s
  else (s.oldest (s.cached (fun _ _ => true))).map (fun r => s.dropBlock r.1 r.2.1 r.2.2)

/-- A full block inserted under its hash (13_serving R442). -/
def State.insertHash (s : State) (p : Nat) (r : BlkRef) (hash : Nat) : State :=
  let dom := (s.part p).eff.domain
  match s.indexed dom hash with
  | some q => if q = r then s else s.count p Ctr.prefixDup 1
  | none =>
    if ((s.kvBlk r).bind KvBlk.hash).isSome then s
    else match s.indexRoom with
      | none => s.count p Ctr.prefixFull 1
      | some t => t.modBlk r (fun b => { b with hash := some hash, dom := dom })

/-- A full block sealed: its pages READONLY (21_reliability R645). -/
def State.sealBlock (s : State) (r : BlkRef) : State :=
  match s.kvBlk r with
  | none => s
  | some b =>
    if b.sealed then s
    else ((s.blkPages r).foldl (fun (a : State) k => a.modPage k (fun g => g.setFlag 3 true))
      (s.modBlk r (fun c => { c with sealed := true }))).devCount Ctr.kvSealed 1

/-- Blocks sealed at the last commit get PARITY, page by page where the group's parity frame is to be had (21_reliability R645,
08_memory_tiers R252 to R254; log 10). -/
def State.parityBlock (s : State) (r : BlkRef) : State :=
  let t := (s.blkPages r).foldl (fun (a : State) k => match KMap.find a.pages k with
    | none => a
    | some g =>
      let own := (a.dies g.tier).contains (g.frame % 8) && g.die ≠ g.frame % 8 && decide (g.tier < 2) &&
        (!a.held g.tier (g.frame % 8) g.frame)
      if own then a.modPage k (fun x => x.setFlag 2 true) else a) s
  t.modBlk r (fun b => { b with parity := (t.blkPages r).all (fun k => match KMap.find t.pages k with
    | none => false
    | some g => g.flag 2) })

/-- PARITY of every sealed block that lacks it. -/
def State.parityDue (s : State) : State :=
  (s.parts.flatMap (fun e => e.2.kv.flatMap (fun f =>
    (f.2.blocks.filter (fun b => b.2.sealed && !b.2.parity)).map (fun b => (e.1, f.1, b.1))))).foldl State.parityBlock s

/-- New full blocks `from'` to `upto - 1` of a table: each inserted unless NO_SHARE, and sealed (13_serving R442,
21_reliability R645). -/
def State.fillBlocks (s : State) (v : Session) (image glaze : Nat) (toks : List Nat) (table : List BlkRef) (from' upto : Nat) : State :=
  let hs := s.sessHashes v image glaze upto toks
  ((List.range upto).drop from').foldl (fun (a : State) i => match table[i]? with
    | none => a
    | some r =>
      let b := if v.sflags.getLsbD 5 then a else a.insertHash v.part r (hs.getD i 0)
      b.sealBlock r) s

/-! ## The end of a session's KV (13_serving R434, R457) -/

/-- A pool that no session names is freed, unless another partition's session holds a block of it (13_serving R434). -/
def State.sweepPool (s : State) (p h : Nat) : State :=
  match KMap.find (s.part p).kv h with
  | none => s
  | some v =>
    if s.sessions.any (fun e => e.2.part == p && (e.2.image == h || e.2.draft == h)) || v.blocks.any (fun b => b.2.refs ≠ 0) then s
    else (v.blocks.foldl (fun (a : State) b => a.dropBlock p h b.1) s).modPart p (fun w => { w with kv := KMap.del w.kv h })

/-- A session gone, its references given up (13_serving R429, R457). -/
def State.freeSession (s : State) (i : Nat) : State :=
  match KMap.find s.sessions i with
  | none => s
  | some v =>
    let t := ({ s with sessions := KMap.del s.sessions i }.unrefAll v.blocks).unrefAll v.draftBlocks
    (t.sweepPool v.part v.image).sweepPool v.part v.draft

/-! ## Recovery (21_reliability R647, R648) -/

/-- A table cut at its first block that satisfies `lost`; the lost blocks leave the prefix index. -/
def State.cutTable (s : State) (lost : BlkRef → Bool) (l : List BlkRef) : State × List BlkRef :=
  let keep := l.takeWhile (fun r => !lost r)
  let gone := l.drop keep.length
  let t := (gone.filter lost).foldl (fun (a : State) r => a.modBlk r (fun b => { b with hash := none })) s
  (t.unrefAll gone, keep)

/-- A session whose KV in lost blocks is to be recomputed: its table is cut, its sequence leaves the turn's step; a running one
is a recovering session (21_reliability R647). -/
def State.cutSession (s : State) (lost : BlkRef → Bool) (i : Nat) : State :=
  match KMap.find s.sessions i with
  | none => s
  | some v =>
    if !v.blocks.any lost && !v.draftBlocks.any lost then s
    else
      let a := s.cutTable lost v.blocks
      let b := a.1.cutTable lost v.draftBlocks
      let n := if v.blocks.any lost then 32 * a.2.length else v.kvLen
      let run := v.st == .running && v.blocks.any lost
      let t := b.1.modSess i (fun w => { w with
        blocks := a.2, draftBlocks := b.2, kvLen := min w.kvLen n, draftKv := min w.draftKv (32 * b.2.length)
        recovering := w.recovering || run })
      let out := KMap.each t.batches (fun _ (x : Batch) => { x with members := x.members.filter (fun m => m ≠ i) })
      let u := if v.blocks.any lost then { t with batches := out } else t
      if v.blocks.any lost && !v.recovering then u.devCount Ctr.kvRecoverSessions 1 else u

/-- Blocks lost: cached ones of no reference dropped, sessions cut (13_serving R438, 21_reliability R647). -/
def State.loseBlocks (s : State) (lost : BlkRef → Bool) : State :=
  let t := ((s.cached (fun _ _ => true)).filter lost).foldl (fun (a : State) r => a.dropBlock r.1 r.2.1 r.2.2) s
  (KMap.keys t.sessions).foldl (fun (a : State) i => a.cutSession lost i) t

end Sys2Proof.Machine
end

