-- ==== Sys2Proof/Machine/Registers.lean ====
section
/-! DEFINITION. BAR0: what each register reads as, how a write is held, checked, refused or applied (19_registers). -/

namespace Sys2Proof.Machine

/-! ## What the registers read as -/

/-- The identity block, one 32-bit register at offset `o` (19_registers R595). -/
def State.identReg (s : State) (p o : Nat) : Nat :=
  let v := s.part p
  let h := s.head v.eff.head
  match o with
  | 0x00 => 0x0968 * 2 ^ 16 + Config.step.toNat * 2 ^ 8 + (if Config.isF14 then 1 else 0)
  | 0x04 => (s.mgmt.comps.getD 2 {}).running
  | 0x08 => p + 16 * v.wr.head + flag (h.up && h.mld) 5
  | 0x0C => flag s.ready 0 + flag s.sagger.secLock 1 + flag s.degraded 2
  | 0x10 => (if Config.isF14 then 14 else 28) * 2 ^ 16 + (1024 - (s.tiles.filter (fun t => t.2.quarantined)).length)
  | 0x14 => s.frames 0
  | 0x18 => s.frames 1
  | 0x1C => 2048 * 2 ^ 16 + 8192
  | 0x20 => Config.serial.toNat % 2 ^ 32
  | 0x24 => Config.serial.toNat / 2 ^ 32
  | 0x28 => flag v.refuseValid 31 + v.refuseCause * 2 ^ 20 + v.refuseOff
  | 0x2C => v.refuseCnt
  | _ => 0

/-- The queue set-up slot of queue k (19_registers R599). -/
def Queue.reg (k : Queue) (o : Nat) : Nat :=
  match o with
  | 0x00 => flag k.enable 31 + k.state.num * 2 ^ 28 + flag k.priv 23 + flag k.sqDua 22 + k.cls * 2 ^ 20 +
      k.strLog2 * 2 ^ 15 + k.vector
  | 0x04 => k.cqSizeM1 * 2 ^ 16 + k.sqSizeM1
  | 0x08 => k.sqBase % 2 ^ 32
  | 0x0C => k.sqBase / 2 ^ 32
  | 0x10 => k.cqBase % 2 ^ 32
  | 0x14 => k.cqBase / 2 ^ 32
  | 0x18 => k.sqHead * 2 ^ 16 + k.cqTail
  | 0x1C => k.strWr
  | _ => 0

/-- The wheel block as partition p reads it (19_registers R602, 15_wheel R506). -/
def State.wheelReg (s : State) (p o : Nat) : Nat :=
  let w := s.wheel
  match o with
  | 0x00 => w.pace + flag w.ref25 2 + flag w.slewing 3 + flag w.cfgPend 4 + flag w.refPresent 5
  | 0x04 => if w.refPresent then unsigned 32 w.refPpb else 0
  | 0x08 => unsigned 32 w.phaseErr
  | 0x0C => w.holdMs % 2 ^ 32
  | 0x10 => w.turnPeriodWr
  | 0x14 => w.commitWinWr
  | 0x18 => w.batchDlWr
  | 0x20 => w.turn % 2 ^ 32
  | 0x24 => w.turn / 2 ^ 32
  | 0x28 => w.lastTodS % 2 ^ 32
  | 0x2C => w.lastTodS / 2 ^ 32
  | 0x30 => w.todNs
  | _ =>
    if 0x100 ≤ o ∧ o < 0x148 then
      let i := (o - 0x100) / 8
      let c := KMap.findD (if i < 7 then s.dctr else (s.part p).ctr) (0x600 + i) 0
      if o % 8 = 0 then c % 2 ^ 32 else c / 2 ^ 32
    else 0

/-- The partition slot of partition v (19_registers R609). -/
def Part.slotReg (v : Part) (o : Nat) : Nat :=
  match o with
  | 0x00 => flag v.en 31 + flag v.disablePending 30 + flag v.wr.ideRequired 29 + v.wr.head * 2 ^ 28 + v.wr.domain * 2 ^ 24 +
      v.wr.homeDie * 2 ^ 20 + v.wr.preemptBound
  | 0x04 => v.wr.weight * 2 ^ 16 + v.wr.tileLimit
  | 0x08 => v.wr.waitBudget
  | 0x0C => v.enFail
  | 0x10 => v.wr.hdmSize
  | 0x18 => v.wr.t0Min
  | 0x1C => v.wr.t0Max
  | 0x20 => v.wr.t1Min
  | 0x24 => v.wr.t1Max
  | 0x28 => v.usage % 2 ^ 32
  | 0x2C => v.usage / 2 ^ 32 % 2 ^ 32
  | 0x30 => v.usage / 2 ^ 64
  | _ =>
    if 0x40 ≤ o ∧ o < 0x70 then
      (if o % 8 = 0 then v.wr.rate else v.wr.burst).getD ((o - 0x40) / 8) 0
    else 0

/-- The 32-bit value of the register at a BAR0 offset as partition p reads it; an unlisted offset reads as zero
(19_registers R592, R593). -/
def State.barRead (s : State) (p off : Nat) : Nat :=
  let v := s.part p
  let m := s.mgmt
  if off < 0x1000 then s.identReg p off
  else if off < 0x2000 then (s.queue p ((off - 0x1000) / 64)).reg (off % 64)
  else if off = 0x2000 then v.dbLo * 2 ^ 16
  else if off = 0x2004 then v.dbHi
  else if off = 0x2008 then flag v.dbInWindow 0
  else if 0x4000 ≤ off ∧ off < 0x8000 then s.wheelReg p (off - 0x4000)
  else if off = 0x8000 then v.stickyN
  else if off = 0x8004 then s.framesOf p 0
  else if off = 0x8008 then s.framesOf p 1
  else if off = 0x800C then s.framesOf p 2
  else if off = 0x8010 then v.eff.t0Max
  else if off = 0x8014 then v.eff.t1Max
  else if off = 0xC000 then
    s.sagger.alarmLevel + flag (s.head v.eff.head).ide 2 + flag v.wr.ideRequired 3 + flag (s.partKey p) 4 +
      flag s.sagger.debugOpen 5 + flag (s.parts.any (fun e => e.2.eff.head == v.eff.head && e.2.spdmState == 5)) 6
  else if off = 0xC004 then s.sagger.alarmEvents
  else if off = 0xC008 then s.sagger.measLog.length
  else if off = 0x10000 then flag m.coneInEn 0 + flag m.coneOutEn 1 + flag m.matchEn 2
  else if off = 0x10008 then m.matchStatus + m.matchPart * 2 ^ 16 + flag m.matchAll 20
  else if off = 0x1000C then m.lastSnap + flag m.snapBusy 16 + m.snapSource * 2 ^ 17
  else if off = 0x10010 then m.snapMerged
  else if p ≠ 0 then 0
  else if off = 0x20000 then
    flag (s.parts.any (fun e => e.2.cfgPend)) 0 + flag s.headMode 1 + flag (s.head 0).mld 2 + flag (s.head 1).mld 3
  else if off = 0x20004 then s.flash.pagingSizeWr
  else if off = 0x20008 then s.sldPart.getD 0 0 + 16 * s.sldPart.getD 1 0
  else if 0x21000 ≤ off ∧ off < 0x22000 then (s.part ((off - 0x21000) / 256)).slotReg (off % 256)
  else 0

/-! ## Writes: access, hold, refusal (19_registers R593, R594) -/

/-- The RSV bits of a listed register; none for an unlisted offset (19_registers R592, R594). -/
def rsvMask (off : Nat) : Option Nat :=
  if off < 0x1000 then match off with
    | 0x00 => some 0xF0
    | 0x04 => some 0
    | 0x08 => some 0xFFFFFFC0
    | 0x0C => some 0xFFFFFFF8
    | 0x10 => some 0xF800
    | 0x14 => some 0
    | 0x18 => some 0
    | 0x1C => some 0xF0000000
    | 0x20 => some 0
    | 0x24 => some 0
    | 0x28 => some 0x70000000
    | 0x2C => some 0
    | _ => none
  else if off < 0x2000 then some (match off % 64 with
    | 0x00 => 0x0F007F80
    | 0x1C => 0xF0000000
    | o => if 0x20 ≤ o then 0xFFFFFFFF else 0)
  else if 0x4000 ≤ off ∧ off < 0x8000 then match off - 0x4000 with
    | 0x00 => some 0xFFFFFFC0
    | 0x04 => some 0
    | 0x08 => some 0
    | 0x0C => some 0
    | 0x10 => some 0xFFFFFE00
    | 0x14 => some 0xFFFFFFC0
    | 0x18 => some 0xFFFFFC00
    | 0x20 => some 0
    | 0x24 => some 0
    | 0x28 => some 0
    | 0x2C => some 0xFFFF0000
    | 0x30 => some 0xC0000000
    | o => if 0x100 ≤ o ∧ o < 0x148 then some 0 else none
  else if 0x21000 ≤ off ∧ off < 0x22000 then match off % 256 with
    | 0x00 => some 0x008FFF00
    | 0x04 => some 0xF800
    | 0x08 => some 0xFFFFFC00
    | 0x0C => some 0xFFFF0000
    | 0x10 => some 0xFFFF0000
    | o => if (0x18 ≤ o ∧ o < 0x34) then some 0 else if 0x40 ≤ o ∧ o < 0x70 then some 0xFFFF0000 else none
  else match off with
    | 0x2000 => some 0xFFFF
    | 0x2004 => some 0xFFFFF800
    | 0x2008 => some 0xFFFFFFFE
    | 0x8000 => some 0xFFFF0000
    | 0x8004 => some 0
    | 0x8008 => some 0
    | 0x800C => some 0
    | 0x8010 => some 0
    | 0x8014 => some 0
    | 0xC000 => some 0xFFFFFF80
    | 0xC004 => some 0
    | 0xC008 => some 0
    | 0x10000 => some 0xFFFFFFF8
    | 0x10004 => some 0xFFFFFFFE
    | 0x10008 => some 0xFFE00000
    | 0x1000C => some 0xFFF00000
    | 0x10010 => some 0
    | 0x20000 => some 0xFFFFFFF0
    | 0x20004 => some 0
    | 0x20008 => some 0xFFFFFF00
    | _ => none

/-- Is this offset the low half of a writable 64-bit quantity: SQ_BASE or CQ_BASE (19_registers R593, R599)? -/
def isLowHalf (off : Nat) : Bool :=
  decide (0x1000 ≤ off) && decide (off < 0x2000) && (off % 64 == 0x08 || off % 64 == 0x10)

/-- A refused write of partition p: REFUSE_LOG and REFUSE_CNT (19_registers R594, R595). -/
def State.refuse (s : State) (p cause off : Nat) : State :=
  s.modPart p (fun v => { v with
    refuseValid := true, refuseCause := cause, refuseOff := off, refuseCnt := min (v.refuseCnt + 1) (2 ^ 32 - 1) })

/-- The registers of one write: offset and 32-bit value of each (19_registers R593). -/
abbrev RegWrites := List (Nat × Nat)

/-- The value written at an offset, or the value there. -/
def newReg (ws : RegWrites) (off cur : Nat) : Nat := (KMap.find ws off).getD cur

/-! ## Queue set-up (19_registers R599, R600) -/

/-- The queue slot that starts at offset `b` with the written fields. -/
def Queue.written (k : Queue) (q b : Nat) (ws : RegWrites) : Queue :=
  let c := newReg ws b (k.reg 0)
  let z := newReg ws (b + 4) (k.reg 4)
  { k with
    enable := bit c 31, priv := bit c 23, sqDua := bit c 22, cls := if q = 0 then 0 else bits c 20 2,
    strLog2 := bits c 15 5, vector := bits c 0 7, cqSizeM1 := bits z 16 16, sqSizeM1 := bits z 0 16,
    sqBase := newReg ws (b + 8) (k.reg 8) + 2 ^ 32 * newReg ws (b + 12) (k.reg 12),
    cqBase := newReg ws (b + 16) (k.reg 16) + 2 ^ 32 * newReg ws (b + 20) (k.reg 20) }

/-- Does a submission ring that is named by DUA lie in host-mapped pages of the partition (18_queues R562)? -/
def State.ringMapped (s : State) (p : Nat) (k : Queue) : Bool :=
  !k.sqDua || k.cls == 2 || (inWindow p k.sqBase (64 * (k.sqSizeM1 + 1)) &&
    (pagesOf k.sqBase (64 * (k.sqSizeM1 + 1))).all (fun n => match KMap.find s.pages n with
      | none => false
      | some g => g.owner == p && g.flag 1))

/-- Cause of refusal of a queue slot write, 0 where it stands: `inWindow` says that the doorbell page lies in the window,
`mapped` that a ring named by DUA is mapped (19_registers R600, R611, 18_queues R562). -/
def Queue.refusal (k n : Queue) (p q : Nat) (inWindow mapped : Bool) : Nat :=
  if k.state ≠ .disabled ∧ { n with enable := k.enable } ≠ k then 3
  else if n.enable ∧ !k.enable ∧ k.state ≠ .disabled then 3
  else if !n.enable ∧ k.state = .resetting then 3
  else if n.priv ∧ p ≠ 0 then 9
  else if (n.cls = 0 ∧ q ≠ 0) ∨ n.cls = 3 then 1
  else if n.strLog2 < 20 ∨ 28 < n.strLog2 then 1
  else if n.sqBase % 4096 ≠ 0 ∨ n.cqBase % (if n.cls = 2 then 16 else 4096) ≠ 0 then 1
  else if n.enable ∧ !k.enable ∧ !inWindow then 8
  else if n.enable ∧ !k.enable ∧ n.cls ≠ 2 ∧ (n.sqSizeM1 = 0 ∨ n.cqSizeM1 = 0) then 1
  else if n.enable ∧ !k.enable ∧ !mapped then 1
  else 0

/-- Has queue q work in flight: a command not complete, or a session opened on it (16_scheduling R532, R533)? -/
def State.queueBusy (s : State) (p q : Nat) : Bool :=
  s.inflight.any (fun c => c.part = p && c.queue = q) || s.sessions.any (fun v => v.2.part = p && v.2.openQ = q)

/-- A write to the slot of queue q (19_registers R600, 16_scheduling R532, R533). -/
def State.writeQueue (s : State) (p q b : Nat) (ws : RegWrites) (off : Nat) : State :=
  let k := s.queue p q
  let n := k.written q b ws
  match k.refusal n p q (s.part p).dbInWindow (s.ringMapped p n) with
  | 0 =>
    if n.enable && !k.enable then s.modQueue p q (fun _ => n.cleared .enabled)
    else if !n.enable && k.enable then
      (if s.queueBusy p q then
        (s.cancelAt (fun _ v => v.part = p && v.openQ = q) s.boundaryAfter).modQueue p q (fun _ =>
          { n with state := .disablePending, tb := s.boundaryAfter })
       else s.modQueue p q (fun _ => { n with state := .disabled }))
    else s.modQueue p q (fun _ => n)
  | c => s.refuse p c off

/-! ## Doorbell page location, wheel, tier and pool, cone (19_registers R601 to R607) -/

/-- A write to the doorbell page location (19_registers R601). -/
def State.writeDoorbell (s : State) (p : Nat) (ws : RegWrites) (off : Nat) : State :=
  let v := s.part p
  let n := { v with
    dbLo := newReg ws 0x2000 (v.dbLo * 2 ^ 16) / 2 ^ 16
    dbHi := newReg ws 0x2004 v.dbHi }
  if ws.isEmpty then s
  else if v.queues.any (fun k => k.2.state ≠ .disabled) then s.refuse p 3 off
  else if v.maps.any (fun m => meets n.dbOffset 65536 m.off (65536 * m.pages)) then s.refuse p 8 off
  else s.modPart p (fun _ => n)

/-- A write to the wheel block (19_registers R602, R603; 15_wheel R493). -/
def State.writeWheel (s : State) (p : Nat) (ws : RegWrites) (off : Nat) : State :=
  let w := s.wheel
  let t := newReg ws 0x4010 w.turnPeriodWr
  let c := newReg ws 0x4014 w.commitWinWr
  let d := newReg ws 0x4018 w.batchDlWr
  if t < 8 ∨ 400 < t ∨ c < 5 ∨ 40 < c ∨ d < 50 ∨ 1000 < d then s.refuse p 1 off
  else if t * 125 < c * 50 then s.refuse p 10 off
  else if ws.any (fun e => e.1 = 0x4010 || e.1 = 0x4014 || e.1 = 0x4018) then
    { s with wheel := { w with turnPeriodWr := t, commitWinWr := c, batchDlWr := d, cfgPend := true } }
  else s

/-- A write to REFIRE_STICKY_N (19_registers R604, 03_narrow_arithmetic R81). -/
def State.writeTier (s : State) (p : Nat) (ws : RegWrites) (off : Nat) : State :=
  let n := newReg ws 0x8000 (s.part p).stickyN
  if (n = 0 ∨ 1000 < n) ∧ n ≠ 0xFFFF then s.refuse p 1 off else s.modPart p (fun v => { v with stickyN := n })

/-- A write to the snapshots and cone block (19_registers R606, R607). -/
def State.writeCone (s : State) (p : Nat) (ws : RegWrites) (off : Nat) : State :=
  let m := s.mgmt
  let c := newReg ws 0x10000 (s.barRead 0 0x10000)
  let f := newReg ws 0x10008 (s.barRead 0 0x10008)
  let own := ws.any (fun e => e.1 = 0x10000 || e.1 = 0x10008)
  if own ∧ p ≠ 0 then s.refuse p 4 off
  else if ws.any (fun e => e.1 = 0x10008) ∧ f % 2 ^ 16 = 0 then s.refuse p 1 off
  else
    let t := if own then { s with mgmt := { m with
      coneInEn := bit c 0, coneOutEn := bit c 1, matchEn := bit c 2, matchStatus := bits f 0 16, matchPart := bits f 16 4,
      matchAll := bit f 20 } } else s
    if bit (newReg ws 0x10004 0) 0 then t.trigger 1 0 else t

/-! ## Device-global block (19_registers R608 to R610) -/

/-- A write to the registers at the start of the block (19_registers R608). -/
def State.writeGlobal (s : State) (ws : RegWrites) (off : Nat) : State :=
  let g := newReg ws 0x20004 s.flash.pagingSizeWr
  let d := newReg ws 0x20008 (s.barRead 0 0x20008)
  if ws.any (fun e => e.1 = 0x20004) && decide (flashBytes < g * 2 ^ 30 + s.extentBytes) then s.refuse 0 1 off
  else { s with flash := { s.flash with pagingSizeWr := g }, sldPart := [bits d 0 4, bits d 4 4] }

/-- The written fields of a partition slot at offset `b` (19_registers R609). -/
def Part.slotWritten (v : Part) (b : Nat) (ws : RegWrites) : PendingRegs :=
  let r := fun o => newReg ws (b + o) (v.slotReg o)
  { weight := bits (r 4) 16 16, tileLimit := bits (r 4) 0 11, waitBudget := r 8, preemptBound := bits (r 0) 0 8,
    homeDie := bits (r 0) 20 3, domain := bits (r 0) 24 4, head := bits (r 0) 28 1, ideRequired := bit (r 0) 29,
    hdmSize := r 0x10, t0Min := r 0x18, t0Max := r 0x1C, t1Min := r 0x20, t1Max := r 0x24,
    rate := (List.range 6).map (fun i => r (0x40 + 8 * i)), burst := (List.range 6).map (fun i => r (0x44 + 8 * i)) }

/-- Step 1 of the checks of a partition slot (19_registers R609, R610). -/
def PendingRegs.inRange (n : PendingRegs) : Bool :=
  decide (1 ≤ n.preemptBound ∧ 1 ≤ n.weight ∧ 1 ≤ n.tileLimit ∧ n.tileLimit ≤ 1024 ∧ n.waitBudget ≤ 1000 ∧
    n.hdmSize ≤ 32768 ∧ n.t0Min ≤ 983040 ∧ n.t0Max ≤ 983040 ∧ n.t1Min ≤ 12582912 ∧ n.t1Max ≤ 12582912)

/-- Sum of a MIN over all partitions, with partition p's at `n`. -/
def State.sumMin (s : State) (p n : Nat) (f : PendingRegs → Nat) : Nat :=
  ((s.parts.filter (fun e => e.1 ≠ p)).map (fun e => f e.2.wr)).sum + n

/-- Frames of a tier that are free or freeable by eviction (19_registers R610 step 6). -/
def State.freeable (s : State) (tier p : Nat) : Nat :=
  s.frames tier - s.framesUsed tier + (s.pages.filter (s.evictable tier p .alloc)).length

/-- Frames outside every partition's MIN that a save area may be drawn from (08_memory_tiers R260). -/
def State.saveFree (s : State) (p t1Min : Nat) : Nat :=
  min (s.freeable 1 p) (s.frames 1 - s.sumMin p t1Min (fun r => r.t1Min) - (s.parts.map (fun e => 144 * e.2.saveArea)).sum)

/-- Cause of refusal of a partition slot write before step 6, 0 where it stands (19_registers R610). -/
def State.slotRefusal (s : State) (p : Nat) (n : PendingRegs) (en : Bool) : Nat :=
  let v := s.part p
  if !n.inRange then 1
  else if (p = 0 ∧ !en) ∨ (n.head = 1 ∧ en ∧ !s.headMode) ∨ (en ∧ !v.en ∧ v.disablePending) then 9
  else if v.en ∧ (n.head ≠ v.wr.head ∨ n.hdmSize ≠ v.wr.hdmSize) then 2
  else if n.t0Max < n.t0Min ∨ n.t1Max < n.t1Min ∨ s.frames 0 < s.sumMin p n.t0Min (fun r => r.t0Min) ∨
    s.frames 1 < s.sumMin p n.t1Min (fun r => r.t1Min) then 5
  else if (n.rate.zip n.burst).any (fun e => (e.1 == 0) ≠ (e.2 == 0)) then 7
  else 0

/-- A partition disabled: DISABLE_PENDING, t_b; a set not yet in force is cancelled with its reservation (19_registers R610,
16_scheduling R532). -/
def State.disablePart (s : State) (p : Nat) : State :=
  let v := s.part p
  if v.enPend then s.modPart p (fun w => { w with en := false, enPend := false, saveArea := 0, cfgPend := true })
  else s.modPart p (fun w => { w with en := false, disablePending := true, tb := s.boundaryAfter })

/-- A write to the slot of partition p (19_registers R609 to R611, 16_scheduling R510, R511). -/
def State.writeSlot (s : State) (p b : Nat) (ws : RegWrites) (off : Nat) : State :=
  let v := s.part p
  let n := v.slotWritten b ws
  let en := bit (newReg ws b (v.slotReg 0)) 31
  match s.slotRefusal p n en with
  | 0 =>
    let rise := en && !v.en
    let slots := if rise then n.tileLimit else if v.en && decide (v.saveArea < n.tileLimit) then n.tileLimit - v.saveArea else 0
    if (rise || decide (0 < slots)) && (decide (s.freeable 0 p < n.t0Min) || decide (s.freeable 1 p < n.t1Min)) then
      (s.refuse 0 5 off).modPart p (fun w => { w with enFail := Code.poolExhausted })
    else if decide (s.saveFree p n.t1Min < 144 * slots) then
      (s.refuse 0 6 off).modPart p (fun w => { w with enFail := Code.saveAreaUnavailable })
    else
      let t := s.modPart p (fun w => { w with
        wr := n, cfgPend := w.cfgPend || rise || decide (n ≠ w.wr), saveArea := w.saveArea + slots, en := w.en || rise, enPend := w.enPend || rise })
      if !en && v.en then t.disablePart p else t
  | c => s.refuse 0 c off

/-! ## One BAR0 write -/

/-- The registers of a write that takes effect now, and the offset its refusal would record; none while a low half is held
(19_registers R593, R594). -/
def regWrites (held : Option (Nat × Nat)) (off size value : Nat) : Option (RegWrites × Nat) :=
  if size = 8 then some ([(off, value % 2 ^ 32), (off + 4, value / 2 ^ 32 % 2 ^ 32)], off)
  else if isLowHalf off then none
  else
    let o := if 4 ≤ off ∧ isLowHalf (off - 4) then off - 4 else off
    match held with
    | some (l, w) => if off = l + 4 ∧ isLowHalf l then some ([(l, w), (off, value % 2 ^ 32)], o) else some ([(off, value % 2 ^ 32)], o)
    | none => some ([(off, value % 2 ^ 32)], o)

/-- The listed registers of a write, checked and applied by their block (19_registers R592 to R611). -/
def State.applyWrite (s : State) (p : Nat) (ws : RegWrites) (off : Nat) : State :=
  let l := ws.filter (fun e => (rsvMask e.1).isSome)
  if l.isEmpty then s
  else if p ≠ 0 ∧ (0x20000 ≤ off ∨ (0x4000 ≤ off ∧ off < 0x8000)) then s.refuse p 4 off
  else if l.any (fun e => e.2 &&& (rsvMask e.1).getD 0 ≠ 0) then s.refuse p 1 off
  else if off < 0x1000 then
    (if bit (newReg l 0x28 0) 31 then
      s.modPart p (fun v => { v with refuseValid := false, refuseCause := 0, refuseOff := 0 })
     else s)
  else if off < 0x2000 then
    s.writeQueue p ((off - 0x1000) / 64) (off / 64 * 64) l off
  else if off < 0x4000 then s.writeDoorbell p (l.filter (fun e => e.1 ≠ 0x2008)) off
  else if off < 0x8000 then s.writeWheel p l off
  else if off < 0xC000 then s.writeTier p l off
  else if off < 0x10000 then s
  else if off < 0x20000 then s.writeCone p l off
  else if off < 0x21000 then s.writeGlobal l off
  else s.writeSlot ((off - 0x21000) / 256) (off / 256 * 256) l off

/-- Is an access one that BAR0 answers: 4 bytes aligned, or 8 bytes aligned (19_registers R593)? -/
def accessOk (off size : Nat) : Bool := (size == 4 && off % 4 == 0) || (size == 8 && off % 8 == 0)

/-- One BAR0 write by partition p's function (19_registers R593, R594; 17_host_link R551). -/
def State.barWrite (s : State) (p off size value : Nat) : State :=
  if !s.reach p || s.ideBlocked p || !accessOk off size then s
  else
    let v := s.part p
    match regWrites v.heldLow off size value with
    | none => s.modPart p (fun w => { w with heldLow := some (off, value % 2 ^ 32) })
    | some (ws, o) => (s.modPart p (fun w => { w with heldLow := none })).applyWrite p ws o

/-- REGISTER_WRITE (19_registers R594). -/
def execRegisterWrite (part offset size : Nat) (value : BitVec 64) (s : State) : Host.Outcome State Fault Refusal :=
  .next (s.barWrite part offset size value.toNat)

/-- REFUSE_LOG_CLEAR: a write to REFUSE_LOG (19_registers R595). -/
def execRefuseLogClear (part : Nat) (value : Word) (s : State) : Host.Outcome State Fault Refusal :=
  .next (s.barWrite part 0x28 4 value.toNat)

/-- QUEUE_ENABLE: a write to the first register of queue q's slot with ENABLE 1 (19_registers R600). -/
def execQueueEnable (part queue : Nat) (value : Word) (s : State) : Host.Outcome State Fault Refusal :=
  .next (if value.getLsbD 31 && decide (queue < 64) then s.barWrite part (0x1000 + 64 * queue) 4 value.toNat else s)

/-- QUEUE_DISABLE: a write to the first register of queue q's slot with ENABLE 0 (19_registers R600, 16_scheduling R532). -/
def execQueueDisable (part queue : Nat) (value : Word) (s : State) : Host.Outcome State Fault Refusal :=
  .next (if !value.getLsbD 31 && decide (queue < 64) then s.barWrite part (0x1000 + 64 * queue) 4 value.toNat else s)

/-- PARTITION_ENABLE: a write to the first register of a partition slot with EN 1 (19_registers R610). -/
def execPartitionEnable (part slot : Nat) (value : Word) (s : State) : Host.Outcome State Fault Refusal :=
  .next (if value.getLsbD 31 && decide (slot < 16) then s.barWrite part (0x21000 + 256 * slot) 4 value.toNat else s)

/-- PARTITION_DISABLE: a write to the first register of a partition slot with EN 0 (16_scheduling R532). -/
def execPartitionDisable (part slot : Nat) (value : Word) (s : State) : Host.Outcome State Fault Refusal :=
  .next (if !value.getLsbD 31 && decide (slot < 16) then s.barWrite part (0x21000 + 256 * slot) 4 value.toNat else s)

/-- CONE_FIRE: a write to CONE_FIRE (19_registers R606, 23_management R689). -/
def execConeFire (part : Nat) (value : Word) (s : State) : Host.Outcome State Fault Refusal :=
  .next (s.barWrite part 0x10004 4 value.toNat)

end Sys2Proof.Machine
end

