-- ==== Sys2Proof/Machine/Link.lean ====
section
/-! DEFINITION. The host link: training and lanes of a head, the HDM window, IDE, the mailbox of a logical device and the
fabric manager's commands (17_host_link R538 to R560, 08_memory_tiers R272 to R275). -/

namespace Sys2Proof.Machine

/-! ## Training, lanes and recovery (17_host_link R538 to R542, R554 to R558) -/

/-- Is head h there: head 1 only in two-head mode (17_host_link R539)? -/
def State.headUsed (s : State) (h : Nat) : Bool := h == 0 || (h == 1 && s.headMode)

/-- Lanes of head h: all 16, or 8 from lane 8h (17_host_link R539). -/
def State.headLanes (s : State) (h : Nat) : List Nat :=
  if s.headMode then (List.range 8).map (fun i => 8 * h + i) else List.range 16

/-- Lane figures keyed by lane (17_host_link R554, R555). -/
def State.laneMap (s : State) (h : Nat) (figures : List (List Nat)) : KMap (List Nat) := (s.headLanes h).zip figures

/-- LINK_TRAINING: the head reaches L0 at a rate and width that both partners support, or stays in Detect; its mode and the
partition it presents are latched (17_host_link R538, R542, R554, R558). -/
def execLinkTraining (head : Nat) (a : TrainArgs) (s : State) : Host.Outcome State Fault Refusal :=
  if !s.headUsed head || (s.head head).perst || s.moduleLost then .next s
  else if !a.ok || decide (2 < a.rate) || !([1, 2, 4, 8, 16].contains a.width) || decide ((s.headLanes head).length < a.width) then
    .next (s.modHead head (fun v => { v with up := false }))
  else
    let full := (s.headLanes head).length
    let t := s.modHead head (fun v => { v with
      up := true, mld := a.mld, rate := a.rate, width := a.width
      flit256 := a.rate = 2 || (a.rate = 1 && a.flit256), latOpt := a.rate = 2 && a.latOpt
      speedDeg := a.rate = 0, widthDeg := decide (a.width < full), partner := a.partner, recoveries := 0, laneFail := []
      lanes := s.laneMap head a.lanes, inRecovery := false, sldPart := s.sldPart.getD head 0 })
    let u := if a.rate = 0 then t.logEv 6 1 0xFF head 0 0 else t
    .next (if a.width < full then u.logEv 6 2 0xFF head 0 0 else u)

/-- The largest width of 8, 4, 2 or 1 lanes whose run, from the head's lane 0 or from its highest lane, holds no excluded
lane; 0 where none is left (17_host_link R556). -/
def State.runWidth (s : State) (h : Nat) (fail : List Nat) : Nat :=
  let ls := s.headLanes h
  (([8, 4, 2, 1].find? (fun w =>
    !(ls.take w).any fail.contains || !(ls.drop (ls.length - w)).any fail.contains))).getD 0

/-- LANE_EXCLUDED: the head enters recovery and goes on at a narrower width (17_host_link R556, R560). -/
def execLaneExcluded (head lane : Nat) (s : State) : Host.Outcome State Fault Refusal :=
  let h := s.head head
  if !h.up || !(s.headLanes head).contains lane || h.laneFail.contains lane then .next s
  else
    let fail := h.laneFail ++ [lane]
    let w := s.runWidth head fail
    let t := ((s.modHead head (fun v => { v with
      laneFail := fail, width := min v.width w, widthDeg := true, recoveries := v.recoveries + 1, inRecovery := true
      up := decide (0 < w) })).headCount head Ctr.linkRecovery 1).logEv 6 2 0xFF head (bitmap fail) 0
    .next (if w < h.width then t.headCount head Ctr.linkDowntrain 1 else t)

/-- LINK_RECOVERY: the head is back in L0; flits replayed, late records and flits that FEC has corrected since the last one are
counted, lanes measured (17_host_link R554, R557, R560). -/
def execLinkRecovery (head : Nat) (flits : FlitCounts) (lateRecs : Nat) (lanes : List (List Nat)) (s : State) :
    Host.Outcome State Fault Refusal :=
  let h := s.head head
  if !h.up then .next s
  else
    let t := if h.inRecovery then s
      else (s.modHead head (fun v => { v with recoveries := v.recoveries + 1 })).headCount head Ctr.linkRecovery 1
    .next (((t.modHead head (fun v => { v with inRecovery := false, lanes := s.laneMap head lanes })).headCount head
      Ctr.flitReplay flits.replayed).headCount head Ctr.linkLateRec lateRecs |>.headCount head Ctr.fecCorrected flits.corrected)

/-- IDE_FAILURE: the streams are insecure until the host keys them again (17_host_link R551). -/
def execIdeFailure (head : Nat) (s : State) : Host.Outcome State Fault Refusal :=
  let h := s.head head
  if !(h.ideIo || h.ideMem) then .next s
  else .next (((s.modHead head (fun v => { v with ideIo := false, ideMem := false })).headCount head Ctr.ideFail 1).logEv 1 4
    0xFF head head 0)

/-- VIRAL: the partitions bound to the head are disabled (17_host_link R559). -/
def execViral (head : Nat) (s : State) : Host.Outcome State Fault Refusal :=
  if !(s.head head).up then .next s
  else .next (((s.parts.filter (fun e => e.2.en && e.2.eff.head == head)).foldl (fun t e => t.disablePart e.1) s).logEv 6 3
    0xFF head head 0)

/-! ## The HDM window (08_memory_tiers R272 to R275, 17_host_link R545, R546, R549, R551) -/

/-- A host access that reaches partition p's window; a decoder in Commit Error decodes nothing (17_host_link R545). -/
def State.windowReached (s : State) (p : Nat) : Bool := s.reach p && !(s.part p).commitErr && !s.moduleLost

/-- Is the window closed: IDE required and not active, or an alarm holds the module (17_host_link R551,
22_security R671)? -/
def State.windowClosed (s : State) (p : Nat) : Bool := s.ideBlocked p || s.locked || s.sagger.erased

/-- The mapping that covers a window offset, complete (08_memory_tiers R272). -/
def Part.mapAt (v : Part) (o : Nat) : Option HdmMap :=
  v.maps.find? (fun m => decide (m.off ≤ o) && decide (o < m.off + 65536 * m.pages) && m.tag == 0)

/-- Device address of a window offset of partition p, none where unmapped. -/
def Part.windowDua (v : Part) (o : Nat) : Option Nat := (v.mapAt o).map (fun m => 65536 * m.page + (o - m.off))

/-- Some event of kind `k` of the HDM window: counted, and logged once in each turn (08_memory_tiers R274). -/
def State.memEvent (s : State) (p k o : Nat) (c : Option Nat) : State :=
  let t := match c with | some i => s.count p i 1 | none => s
  if t.parts.any (fun e => e.2.memLog.contains k) then t
  else (t.logEv 3 k p p o 0).modPart p (fun v => { v with memLog := v.memLog ++ [k] })

/-- An answer with poison (17_host_link R560). -/
def State.poisoned (s : State) (p : Nat) : State :=
  { s.headCount (s.part p).eff.head Ctr.poisonSent 1 with reply := .poison }

/-- The word of a doorbell page at offset `d`: the last accepted value, or zero (18_queues R563, R564). -/
def State.doorbellWord (s : State) (p d : Nat) : Nat :=
  let k := s.queue p (d / 64)
  if 4096 ≤ d then 0
  else match d % 64 / 8 with
    | 0 => k.sqTailDb
    | 1 => k.cqHeadDb
    | 2 => k.strHeadDb
    | _ => 0

/-- CXL_MEM_READ of `len` bytes at a window offset (08_memory_tiers R274, 17_host_link R546, R549). -/
def execCxlMemRead (part offset len : Nat) (s : State) : Host.Outcome State Fault Refusal :=
  let v := s.part part
  if !s.windowReached part || len = 0 || decide (v.eff.hdmSize * 2 ^ 28 < offset + len) then .next { s with reply := .none }
  else if s.windowClosed part then .next (s.poisoned part)
  else if v.dbInWindow && decide (v.dbOffset ≤ offset) && decide (offset + len ≤ v.dbOffset + 65536) then
    let d := offset - v.dbOffset
    .next { s with reply := .data ((List.range len).map (fun i => BitVec.ofNat 8 (s.doorbellWord part (d + i) >>> (8 * ((d + i) % 8))))) }
  else match v.windowDua offset, v.windowDua (offset + len - 1) with
    | some a, some b =>
      let ks := (pagesOf a 1 ++ pagesOf b 1).dedup
      let gone := fun (d : Nat) => match KMap.find s.pages (d / 65536) with | none => true | some g => g.flag 7
      if ks.any (fun k => gone (65536 * k)) then
        let offs := (((if gone a then [offset] else []) ++ (if gone b then [offset + len - 1] else [])).map (fun o =>
          o / 65536 * 65536)).dedup
        .next (((s.poisoned part).memEvent part 1 offset none).modPart part (fun w => { w with
          poison := (w.poison ++ offs).dedup, events := w.events ++ offs }))
      else .next { s.readPages part ks with
        reply := .data ((List.range len).map (fun i => match v.windowDua (offset + i) with | none => 0 | some d => s.dev.read d)) }
    | _, _ => .next ((s.poisoned part).memEvent part 1 offset (some Ctr.hostPoisonRd))

/-- CXL_MEM_WRITE at a window offset: a doorbell, a mapped page, or discarded (08_memory_tiers R254, R274; 17_host_link R546,
R548). -/
def execCxlMemWrite (part offset : Nat) (data : List Byte) (s : State) : Host.Outcome State Fault Refusal :=
  let v := s.part part
  let len := data.length
  if !s.windowReached part || len = 0 || decide (v.eff.hdmSize * 2 ^ 28 < offset + len) || s.windowClosed part then .next s
  else if v.dbInWindow && decide (v.dbOffset ≤ offset) && decide (offset + len ≤ v.dbOffset + 65536) then
    let d := offset - v.dbOffset
    if 4096 ≤ d || d % 8 ≠ 0 then .next (s.doorbell part (d % 4096 / 64) 3 len (leNat data))
    else .next (s.doorbell part (d / 64) (d % 64 / 8) len (leNat data))
  else match v.windowDua offset, v.windowDua (offset + len - 1) with
    | some a, some b =>
      let page := fun (x : Nat) => KMap.find s.pages (x / 65536)
      let any := fun (f : Page → Bool) => [a, b].any (fun x => match page x with | none => true | some g => f g)
      if any (fun g => g.flag 3) then .next (s.memEvent part 3 offset (some Ctr.hostRoWr))
      else if any (fun g => g.flag 7) then .next s
      else .next (((List.range len).zip data).foldl (fun (t : State) e =>
        match v.windowDua (offset + e.1) with
        | none => t
        | some d => t.devPut d [e.2]) s)
    | _, _ => .next (s.memEvent part 2 offset (some Ctr.hostUnmappedWr))

/-- HDM_DECODER_COMMIT: ways other than 1 set Commit Error (17_host_link R545). -/
def execHdmDecoderCommit (part ways : Nat) (s : State) : Host.Outcome State Fault Refusal :=
  if !s.reach part then .next s
  else .next (s.modPart part (fun v => { v with decoder := ways == 1, commitErr := ways ≠ 1 }))

/-! ## The primary mailbox of a logical device (17_host_link R544) -/

/-- CXL return codes as the model numbers them: the spec names them (log 14). -/
def retUnsupported : Nat := 1
/-- Invalid Input (17_host_link R559; log 14). -/
def retInvalid : Nat := 2
/-- A write refused (17_host_link R552; log 14). -/
def retRefused : Nat := 3

/-- A mailbox command of partition p answered by `f`; nothing where its BAR2 does not answer (17_host_link R542, R551). -/
def State.mailbox (s : State) (p : Nat) (f : Unit → State) : Host.Outcome State Fault Refusal :=
  if !s.reach p || s.moduleLost then .next { s with reply := .none }
  else if s.ideBlocked p then .next { s with reply := .allOnes }
  else .next (f ())

/-- An answer that another standard lays out: numbers of the block's own state and the standard's bytes (log 14). -/
def State.answers (s : State) (kind : Nat) (nums : List Nat) : State :=
  { s with reply := .answer kind nums (Config.standardAnswer kind nums) }

/-- IDENTIFY_MEMORY_DEVICE. -/
def execIdentifyMemoryDevice (part : Nat) (s : State) : Host.Outcome State Fault Refusal :=
  s.mailbox part (fun _ => s.answers 0x4000 [part, (s.part part).eff.hdmSize])
/-- GET_SUPPORTED_LOGS. -/
def execGetSupportedLogs (part : Nat) (s : State) : Host.Outcome State Fault Refusal :=
  s.mailbox part (fun _ => s.answers 0x0400 [part])
/-- GET_LOG: the Command Effects Log. -/
def execGetLog (part : Nat) (s : State) : Host.Outcome State Fault Refusal :=
  s.mailbox part (fun _ => s.answers 0x0401 [part])
/-- GET_EVENT_RECORDS (17_host_link R549). -/
def execGetEventRecords (part : Nat) (s : State) : Host.Outcome State Fault Refusal :=
  s.mailbox part (fun _ => s.answers 0x0100 (s.part part).events)
/-- CLEAR_EVENT_RECORDS. -/
def execClearEventRecords (part : Nat) (s : State) : Host.Outcome State Fault Refusal :=
  s.mailbox part (fun _ => (s.modPart part (fun v => { v with events := [] })).answers 0x0101 [part])
/-- GET_HEALTH_INFO. -/
def execGetHealthInfo (part : Nat) (s : State) : Host.Outcome State Fault Refusal :=
  s.mailbox part (fun _ => s.answers 0x4200 [part, s.power.maint, if s.degraded then 1 else 0])
/-- GET_POISON_LIST (17_host_link R549). -/
def execGetPoisonList (part : Nat) (s : State) : Host.Outcome State Fault Refusal :=
  s.mailbox part (fun _ => s.answers 0x4300 (s.part part).poison)
/-- MAILBOX_UNSUPPORTED: any other mailbox command (17_host_link R544). -/
def execMailboxUnsupported (part opcode : Nat) (s : State) : Host.Outcome State Fault Refusal :=
  s.mailbox part (fun _ => if [0x4000, 0x0400, 0x0401, 0x0100, 0x0101, 0x4200, 0x4300].contains opcode then s
    else { s with reply := .code retUnsupported })

/-! ## Fabric manager commands (17_host_link R552, R553) -/

/-- Is the FM-API served: Askux answers, not in boot recovery, the module is not lost (17_host_link R552; 23_management R677;
24_startup R698, R700)? -/
def State.fmServed (s : State) : Bool := s.askuxUp && !s.recovery && !s.moduleLost

/-- An FM-API command answered by `f`. -/
def State.fm (s : State) (f : Unit → State) : Host.Outcome State Fault Refusal :=
  if s.fmServed then .next (f ()) else .next { s with reply := .none }

/-- A command that names a logical device other than the one an SLD-mode head presents (17_host_link R559). -/
def State.fmNames (s : State) (p : Nat) : Bool :=
  let h := s.head (s.part p).eff.head
  decide (p < 16) && (!h.up || h.mld || h.sldPart == p)

/-- Raw bandwidth of a head at its current width, bytes/s (17_host_link R538, R553). -/
def Head.raw (h : Head) : Nat :=
  h.width * (match h.rate with | 0 => 2000000000 | 1 => 4000000000 | _ => 8000000000)

/-- Unloaded read and write latency in ns of a page in tier T0 and in tier T1 (17_host_link R547). -/
def windowLatency (tier : Nat) : Nat × Nat := (if tier = 0 then 330 else 410, 300)

/-- What the DSLBIS entries of partition p's CDAT advertise for its whole window: read and write latency in ns, read and write
bandwidth in bytes/s (17_host_link R543, R547). The host reads them through DOE, for which the table has no row. -/
def State.dslbis (s : State) (p : Nat) : List Nat :=
  let bw := (s.head (s.part p).eff.head).raw * 9 / 10
  [(windowLatency 1).1, (windowLatency 1).2, bw, bw]

/-- FM_IDENTIFY. -/
def execFmIdentify (s : State) : Host.Outcome State Fault Refusal := s.fm (fun _ => s.answers 0x0001 [])
/-- GET_LD_INFO: the memory of tiers T0 and T1 in bytes (which memory is meant: DESIGN CHOICE, log 14), and the LD count, 16. -/
def execGetLdInfo (s : State) : Host.Outcome State Fault Refusal :=
  s.fm (fun _ => s.answers 0x5400 [65536 * (8 * s.framesPer 0 + 8 * s.framesPer 1), 16])
/-- GET_LD_ALLOCATIONS: HDM_SIZE of each partition in 256 MiB units. -/
def execGetLdAllocations (s : State) : Host.Outcome State Fault Refusal :=
  s.fm (fun _ => s.answers 0x5401 ((List.range 16).map (fun p => (s.part p).wr.hdmSize)))

/-- SET_LD_ALLOCATIONS: refused whole for a partition whose EN is 1 (17_host_link R552). -/
def execSetLdAllocations (first : Nat) (sizes : List Nat) (s : State) : Host.Outcome State Fault Refusal :=
  s.fm (fun _ =>
    let named := (List.range sizes.length).map (fun i => first + i)
    if !named.all s.fmNames || sizes.any (fun z => decide (32768 < z)) then { s with reply := .code retInvalid }
    else if named.any (fun p => (s.part p).en || (s.part p).enPend) then { s with reply := .code retRefused }
    else ((named.zip sizes).foldl (fun (t : State) e => t.modPart e.1 (fun v => { v with
      wr := { v.wr with hdmSize := e.2 }, cfgPend := true })) s).answers 0x5402 sizes)

/-- GET_QOS_CONTROL of a head. -/
def execGetQosControl (head : Nat) (s : State) : Host.Outcome State Fault Refusal :=
  s.fm (fun _ => s.answers 0x5403 [(s.head head).qosOn, (s.head head).qosThr])
/-- SET_QOS_CONTROL: egress congestion reporting and thresholds. -/
def execSetQosControl (head control thresholds : Nat) (s : State) : Host.Outcome State Fault Refusal :=
  s.fm (fun _ =>
    if !s.headUsed head then { s with reply := .code retInvalid }
    else (s.modHead head (fun v => { v with qosOn := control, qosThr := thresholds })).answers 0x5404 [control, thresholds])
/-- GET_QOS_STATUS: backpressure average of a head, a free value (17_host_link R552; log 9). -/
def execGetQosStatus (head : Nat) (s : State) : Host.Outcome State Fault Refusal :=
  s.fm (fun _ =>
    if !s.headUsed head then { s with reply := .code retInvalid }
    else { s with fresh := s.fresh + 1 }.answers 0x5405 [Config.freeNat s.fresh])

/-- Fractions of the FM-API's bandwidth fields in 1/256 (log 19). -/
def fracOf (x whole : Nat) : Nat := if whole = 0 then 0 else min 256 (x * 256 / whole)

/-- GET_QOS_ALLOCATED_BW of regulator 3 or 4 (REG_HOST_RD, REG_HOST_WR): RATE as a fraction of the head's raw bandwidth. -/
def execGetQosAllocatedBw (reg : Nat) (s : State) : Host.Outcome State Fault Refusal :=
  s.fm (fun _ =>
    if reg ≠ 3 ∧ reg ≠ 4 then { s with reply := .code retInvalid }
    else s.answers 0x5406 ((List.range 16).map (fun p =>
      fracOf ((s.part p).wr.rate.getD reg 0 * 250000000) (s.head (s.part p).wr.head).raw)))

/-- A host regulator of some partitions written: RATE or BURST of a partition zero without the other is refused
(16_scheduling R531, 17_host_link R553). -/
def State.setRegs (s : State) (op reg first : Nat) (vals : List Nat) (f : Part → Nat → PendingRegs) : State :=
  let named := (List.range vals.length).map (fun i => first + i)
  if (reg ≠ 3 ∧ reg ≠ 4) ∨ !named.all s.fmNames ∨ vals.any (fun x => decide (256 < x)) then { s with reply := .code retInvalid }
  else if (named.zip vals).any (fun e =>
      let n := f (s.part e.1) e.2
      (n.rate.getD reg 0 == 0) ≠ (n.burst.getD reg 0 == 0)) then { s with reply := .code retRefused }
  else ((named.zip vals).foldl (fun (t : State) e => t.modPart e.1 (fun v => { v with
    wr := f v e.2, cfgPend := true })) s).answers op vals

/-- SET_QOS_ALLOCATED_BW: a fraction of the head's raw bandwidth, rounded down to 250 MB/s (17_host_link R553). -/
def execSetQosAllocatedBw (reg first : Nat) (fractions : List Nat) (s : State) : Host.Outcome State Fault Refusal :=
  s.fm (fun _ => s.setRegs 0x5407 reg first fractions (fun v x =>
    { v.wr with rate := v.wr.rate.set reg (x * (s.head v.wr.head).raw / 256 / 250000000) }))

/-- Bytes of half a millisecond of a head's traffic. -/
def Head.halfMs (h : Head) : Nat := h.raw / 2000

/-- GET_QOS_BW_LIMIT: BURST as a fraction of half a millisecond of traffic, at most 1 (17_host_link R553). -/
def execGetQosBwLimit (reg : Nat) (s : State) : Host.Outcome State Fault Refusal :=
  s.fm (fun _ =>
    if reg ≠ 3 ∧ reg ≠ 4 then { s with reply := .code retInvalid }
    else s.answers 0x5408 ((List.range 16).map (fun p =>
      fracOf ((s.part p).wr.burst.getD reg 0 * 1024) (s.head (s.part p).wr.head).halfMs)))

/-- SET_QOS_BW_LIMIT (17_host_link R553). -/
def execSetQosBwLimit (reg first : Nat) (fractions : List Nat) (s : State) : Host.Outcome State Fault Refusal :=
  s.fm (fun _ => s.setRegs 0x5409 reg first fractions (fun v x =>
    let n := min 65535 (x * (s.head v.wr.head).halfMs / 256 / 1024)
    { v.wr with burst := v.wr.burst.set reg (if x = 0 then 0 else max 1 n) }))

/-- GET_MULTI_HEADED_INFO: head count and the binding of each partition (17_host_link R541). -/
def execGetMultiHeadedInfo (s : State) : Host.Outcome State Fault Refusal :=
  s.fm (fun _ => s.answers 0x5500 ((if s.headMode then 2 else 1) :: (List.range 16).map (fun p => (s.part p).eff.head)))

/-- GET_HEAD_INFO: mode, rate, width and flit mode of each head (17_host_link R542, R552). -/
def execGetHeadInfo (s : State) : Host.Outcome State Fault Refusal :=
  s.fm (fun _ => s.answers 0x5501 (((if s.headMode then [0, 1] else [0]) : List Nat).flatMap (fun h =>
    [flag (s.head h).mld 0, (s.head h).rate, (s.head h).width, flag (s.head h).flit256 0])))

end Sys2Proof.Machine
end

