-- ==== Sys2Proof/Machine/System.lean ====
section
/-! DEFINITION. The ADMIN commands, the log and the cone (18_queues R585, R586; 23_management; 15_wheel R490, R500, R502;
17_host_link R555; 20_power_thermal R616). -/

namespace Sys2Proof.Machine

/-! ## Queries -/

/-- The item of IDENTIFY: the identity block as partition p reads it (19_registers R595). -/
def State.identItems (s : State) (p : Nat) : List (List Byte) :=
  [(List.range 12).flatMap (fun i => leBytes 4 (s.identReg p (4 * i)))]

/-- IDENTIFY (18_queues R585, R730; 19_registers R595). -/
def execIdentify (r : Ref) (a : QArgs) (s : State) : Host.Outcome State Fault Refusal :=
  s.command r 0x00 (fun e => argsQ e.area == a) (fun s e =>
    s.checked e [(a.handle ≠ 0, Code.fieldInvalid)] (fun _ =>
      s.answer e a (s.identItems e.part)))

/-- How many counters a COUNTER_QUERY group has (18_queues R586). -/
def groupSize : Nat → Nat
  | 0 => 12
  | 1 => 22
  | 2 => 6
  | 3 => 7
  | 4 => 11
  | 5 => 8
  | 6 => 9
  | 7 => 9
  | 8 => 8
  | _ => 0

/-- The value of a counter as partition p reads it: two are levels, seven of group 6 are the device's (03 R96, 13 R463,
15_wheel R506). -/
def State.ctrVal (s : State) (p c : Nat) : Nat :=
  if c = Ctr.stickyLayers then ((s.part p).images.map (fun i => i.2.sticky.length)).sum
  else if c = Ctr.liveSessions then (s.sessions.filter (fun v => v.2.part = p)).length
  else if 0x600 ≤ c ∧ c < 0x607 then KMap.findD s.dctr c 0
  else KMap.findD (s.part p).ctr c 0

/-- The item of COUNTER_QUERY: the counters of group g in order (18_queues R586). -/
def State.ctrItems (s : State) (p g : Nat) : List (List Byte) :=
  [(List.range (groupSize g)).flatMap (fun i => leBytes 8 (s.ctrVal p (0x100 * g + i)))]

/-- COUNTER_QUERY (18_queues R586). -/
def execCounterQuery (r : Ref) (a : QArgs) (s : State) : Host.Outcome State Fault Refusal :=
  s.command r 0x02 (fun e => argsQ e.area == a) (fun s e =>
    s.checked e [(decide (8 < a.handle), Code.fieldInvalid)] (fun _ =>
      s.answer e a (s.ctrItems e.part a.handle)))

/-- The items of DIAG_QUERY for tile t (18_queues R585, log 18). -/
def State.diagItems (s : State) (t : Nat) : List (List Byte) :=
  [ctrBytes (s.tile t).ctr 0 13, leBytes 1 (flag (s.tile t).quarantined 0)]

/-- DIAG_QUERY: the counters of a tile and whether it is quarantined, in one byte (18_queues R585, log 18). -/
def execDiagQuery (r : Ref) (a : QArgs) (s : State) : Host.Outcome State Fault Refusal :=
  s.command r 0x03 (fun e => argsQ e.area == a) (fun s e =>
    s.checked e [(decide (1023 < a.handle), Code.fieldInvalid), (e.part ≠ 0, Code.privRequired)] (fun _ =>
      s.answer e a (s.diagItems a.handle)))

/-- The figures of one lane in the link record (17_host_link R555). -/
def Head.laneBytes (h : Head) (i : Nat) : List Byte :=
  match KMap.find h.lanes i with
  | none => zeros 8
  | some l => leBytes 1 (l.getD 0 0) ++ leBytes 1 (l.getD 1 0) ++ leBytes 2 (l.getD 2 0) ++ leBytes 2 (l.getD 3 0) ++
      leBytes 2 (l.getD 4 0)

/-- The items of LINK_QUERY for head n: its record, then its counters (17_host_link R555, R560). -/
def State.linkItems (s : State) (n : Nat) : List (List Byte) :=
  let h := s.head n
  [leBytes 1 n ++ leBytes 1 h.rate ++ leBytes 1 h.width ++
    leBytes 1 (flag h.mld 0 + flag h.flit256 1 + flag h.latOpt 2 + flag h.speedDeg 3 + flag h.widthDeg 4 + flag h.ide 5) ++
    leBytes 4 h.partner ++ leBytes 4 h.recoveries ++ leBytes 4 (bitmap h.laneFail) ++ zeros 16 ++
    (List.range 16).flatMap h.laneBytes,
   ctrBytes h.ctr 0xA00 7 ++ zeros 8]

/-- LINK_QUERY: the record of the partition's head, then its counters (17_host_link R555, R560). -/
def execLinkQuery (r : Ref) (a : QArgs) (s : State) : Host.Outcome State Fault Refusal :=
  s.command r 0x0D (fun e => argsQ e.area == a) (fun s e =>
    s.checked e [(a.handle ≠ 0, Code.fieldInvalid)] (fun _ =>
      s.answer e a (s.linkItems (s.part e.part).eff.head)))

/-! ## The cone (23_management R689 to R695) -/

/-- CONE_PROGRAM: a turn slot armed or, with CANCEL, disarmed (15_wheel R500, R502; 23_management R691). -/
def execConeProgram (r : Ref) (a : ConeArgs) (s : State) : Host.Outcome State Fault Refusal :=
  s.command r 0x04 (fun e => argsCone e.area == a) (fun s e =>
    let slots := (s.part e.part).cone
    let hit := (slots.find? (fun c => c.2 == (a.turn, a.offset))).map (fun c => c.1)
    if bit a.cancel 0 then
      match hit with
      | none => s.reject e Code.fieldInvalid
      | some n => (s.modPart e.part (fun v => { v with cone := KMap.del v.cone n })).done e 0 n
    else
      s.checked e
        [(decide (s.wheel.period ≤ a.offset), Code.fieldInvalid),
         (decide (a.turn < s.turn) || (a.turn == s.turn && decide (a.offset < s.wheel.now)), Code.eventTimePassed)]
        (fun _ => match KMap.free slots 4 with
          | none => s.reject e Code.fieldInvalid
          | some n => (s.modPart e.part (fun v => { v with cone := KMap.put v.cone n (a.turn, a.offset) })).done e 0 n))

/-- PROGRAMMED_TRIGGER: an armed slot's turn has come; the slot disarms as it fires (23_management R689, R691). -/
def execProgrammedTrigger (part slot : Nat) (s : State) : Host.Outcome State Fault Refusal :=
  match KMap.find (s.part part).cone slot with
  | none => .next s
  | some (t, o) =>
    if t ≠ s.turn then .next s
    else
      let u := { s with wheel := { s.wheel with now := max s.wheel.now o } }
      .next ((u.modPart part (fun v => { v with cone := KMap.del v.cone slot })).trigger 3 0)

/-- CONE_IN: a rising edge whose pulse is 10 ns or longer, with CONE_IN_EN set (23_management R689, 25_module R718). -/
def execConeIn (widthNs : Nat) (s : State) : Host.Outcome State Fault Refusal :=
  .next (if s.mgmt.coneInEn && decide (10 ≤ widthNs) then s.trigger 0 0 else s)

/-- SNAPSHOT_STORE: the snapshot is stored and BUSY clears (23_management R683, R692). -/
def execSnapshotStore (s : State) : Host.Outcome State Fault Refusal :=
  .next (if s.mgmt.snapBusy then
    ({ s with mgmt := { s.mgmt with snapBusy := false } }).logEv 10 1 0xFF 0xFFFF s.mgmt.lastSnap s.mgmt.snapSource
  else s)

/-- The 64-byte header of a snapshot (23_management R693). -/
def Snap.header (n : Snap) (p : Nat) : List Byte :=
  leBytes 2 n.no ++ leBytes 1 n.source ++ leBytes 1 (flag (!n.gatedDies.isEmpty) 0 + flag (p ≠ 0) 1) ++ leBytes 4 n.merged ++
    leBytes 8 n.turn ++ leBytes 4 n.off ++ leBytes 1 n.pace ++ leBytes 1 n.phase ++ leBytes 1 n.pstate ++ zeros 1 ++
    leBytes 8 n.todS ++ leBytes 4 n.todNs ++ leBytes 4 n.matchW ++ zeros 24

/-- One queue entry of a snapshot as partition p receives it (23_management R694, R695). -/
def Snap.queueEntry (n : Snap) (p i : Nat) : List Byte :=
  match KMap.find n.queues i with
  | none => zeros 16
  | some l => if p ≠ 0 ∧ i / 64 ≠ p then zeros 16 else
      leBytes 1 (l.getD 0 0) ++ zeros 1 ++ leBytes 2 (l.getD 1 0) ++ leBytes 2 (l.getD 2 0) ++ zeros 2 ++
        leBytes 4 (l.getD 3 0) ++ leBytes 4 (l.getD 4 0)

/-- One tile entry of a snapshot as partition p receives it; VC_OCC is zero, since no packet is under way between two steps (log
40; 23_management R694, R695). -/
def Snap.tileEntry (n : Snap) (p t : Nat) : List Byte :=
  let none' := if n.gatedDies.contains (t / 128) then [0, 4] else [0xFF, 0, 0xFFFF, 64]
  let x := KMap.findD n.tiles t (none', [])
  let at' := fun i => x.1.getD i 0
  if p ≠ 0 ∧ (at' 0 ≠ p ∨ at' 1 = 4) then leBytes 2 t ++ zeros 254
  else leBytes 2 t ++ leBytes 1 (at' 0) ++ leBytes 1 (at' 1) ++ leBytes 2 (at' 2) ++ leBytes 1 (at' 3) ++ zeros 1 ++ leBytes 4 (at' 4) ++
    leBytes 2 (at' 5) ++ zeros 2 ++ (List.range 8).flatMap (fun i => leBytes 1 (at' (6 + i))) ++ zeros 16 ++
    (List.range 13).flatMap (fun c => leBytes 8 (x.2.getD c 0)) ++ zeros 112

/-- The item of SNAPSHOT_READ as partition p receives it (23_management R693 to R695). -/
def Snap.items (n : Snap) (p : Nat) : List (List Byte) :=
  [n.header p ++ (List.range 1024).flatMap (n.queueEntry p) ++ (List.range 1024).flatMap (n.tileEntry p)]

/-- The snapshot a number names, stored (23_management R692, R693). -/
def State.snap? (s : State) (no : Nat) : Option Snap :=
  s.mgmt.snaps.find? (fun n => n.no = no && !(s.mgmt.snapBusy && n.no == s.mgmt.lastSnap))

/-- SNAPSHOT_READ (23_management R693 to R695). -/
def execSnapshotRead (r : Ref) (a : QArgs) (s : State) : Host.Outcome State Fault Refusal :=
  s.command r 0x05 (fun e => argsQ e.area == a) (fun s e =>
    match s.snap? a.handle with
    | none => s.reject e Code.fieldInvalid
    | some n => s.answer e a (n.items e.part))

/-! ## The log (23_management R681 to R685) -/

/-- The 128 bytes of a log record (23_management R682). -/
def LogRec.bytes (l : LogRec) : List Byte :=
  let head := leBytes 8 l.recno ++ leBytes 8 l.turn ++ leBytes 4 l.off ++ leBytes 1 l.cls ++ leBytes 1 l.sev ++
    leBytes 1 l.part ++ leBytes 1 l.payload.length ++ leBytes 2 l.source ++ zeros 2
  let body := l.payload ++ zeros (96 - l.payload.length)
  head ++ leBytes 4 (crc32c (head ++ body)) ++ body

/-- Records examined from the first on: the bytes written and the RECNO after the last record examined
(23_management R685). -/
def logWalk (p : Nat) : List LogRec → Nat → Nat → List Byte × Nat
  | [], _, next => ([], next)
  | l :: t, room, next =>
    if p = 0 ∨ l.part = p then
      (if room = 0 then ([], next)
       else let w := logWalk p t (room - 1) (l.recno + 1); (l.bytes ++ w.1, w.2))
    else logWalk p t room (l.recno + 1)

/-- LOG_READ (23_management R685). -/
def execLogRead (r : Ref) (a : LogArgs) (s : State) : Host.Outcome State Fault Refusal :=
  s.command r 0x06 (fun e => argsLog e.area == a) (fun s e =>
    if a.outCap < 128 then (s.count e.part Ctr.cmdRejected 1).done e Code.outputTooSmall 128
    else
      let recs := (s.mgmt.logFlash ++ s.mgmt.logBuf).filter (fun l => a.first ≤ l.recno)
      match recs with
      | [] => s.done e 0 s.mgmt.logNext
      | l :: _ =>
        let w := logWalk e.part recs (a.outCap / 128) l.recno
        match s.writeBuf e.part (bit a.dua 0) a.outAddr w.1 with
        | .error c => s.reject e c
        | .ok t => t.done e 0 w.2)

/-- LOG_FLUSH: buffered records go to the ring of 524,288 records in flash (23_management R681, R684). -/
def execLogFlush (s : State) : Host.Outcome State Fault Refusal :=
  let l := s.mgmt.logFlash ++ s.mgmt.logBuf
  if !s.daUp || !s.flashUp then .next s
  else .next { s with mgmt := { s.mgmt with logFlash := l.drop (l.length - 524288), logBuf := [] } }

/-! ## TIME_SET and POWER_SET -/

/-- TIME_SET (15_wheel R490). -/
def execTimeSet (r : Ref) (seconds : Nat) (s : State) : Host.Outcome State Fault Refusal :=
  s.command r 0x0C (fun e => field e.area 0 6 == seconds) (fun s e =>
    s.checked e [(e.part ≠ 0, Code.wheelParamInvalid)] (fun _ =>
      ({ s with wheel := { s.wheel with
        timeSet := s.wheel.timeSet ++ [(seconds, e.tag, s.wheel.base + s.wheel.now)] } }).keep e))

/-- POWER_SET: complete at once where the module is in that state; else it starts the entry or the exit and completes when the
state is reached (20_power_thermal R614, R616, R627). -/
def execPowerSet (r : Ref) (state : Nat) (s : State) : Host.Outcome State Fault Refusal :=
  s.command r 0x07 (fun e => field e.area 0 1 == state) (fun s e =>
    let w := s.power
    s.checked e [(decide (3 < state), Code.fieldInvalid), (e.part ≠ 0, Code.privRequired)] (fun _ =>
      let t := s.keep { e with aux := [state] }
      if w.entering then
        (if state = 0 then { t with power := { w with woke := true } }
         else if state = w.target then t
         else { t with power := { w with target := state, quiescent := w.quiescent && decide (2 ≤ state), entryFrom := 0 } })
      else if w.pstate = state then s.done e 0 state
      else if state = 0 ∨ (state = 1 ∧ 2 ≤ w.pstate) then { t with power := { w with exiting := true } }
      else { t with power := { w with entering := true, target := state, quiescent := false, entryFrom := 0 } }))

end Sys2Proof.Machine
end

