-- ==== Sys2Proof/Machine/Power.lean ====
section
/-! DEFINITION. Power states, the issue-slot governor and its hardware limits, supply, coolant and sensors (20_power_thermal
R612 to R628). Sensor values are thousandths of the sensor's unit: mV, mA, mW, micro-ohms, thousandths of a degree, mL/min. -/

namespace Sys2Proof.Machine

/-! ## Power states (20_power_thermal R614 to R618) -/

/-- POWER_SETs that wait for state `x` complete with it (20_power_thermal R616). -/
def State.powerDone (s : State) (x : Nat) : State :=
  (s.inflight.filter (fun e => e.opc = 0x07 && e.st == .running && e.aux == [x])).foldl (fun t e => t.done e 0 x) s

/-- The module in power state `x`: counted, reported as sensor 256 (20_power_thermal R628, 23_management R678). -/
def State.enterState (s : State) (x : Nat) : State :=
  (({ s with power := { s.power with pstate := x } }.powCount (Ctr.stateEntries + x) 1).platformEvent 256 (x : Int)).powerDone x

/-- QUIESCENCE: no task holds a tile, so the entry into NAP or DEEP goes on (20_power_thermal R616). -/
def execQuiescence (s : State) : Host.Outcome State Fault Refusal :=
  let w := s.power
  if !w.entering || decide (w.target < 2) || w.quiescent || s.tasks.any (fun e => !e.2.tiles.isEmpty) then .next s
  else .next { s with power := { w with quiescent := true, entryFrom := 1 } }

/-- Every T0 page moved to T1, one after the other; none where T1 cannot take one (20_power_thermal R617). -/
def State.evacuate : List (Nat × Page) → State → State × Bool
  | [], s => (s, true)
  | e :: rest, s => match s.toT1 e .alloc with
    | some t => State.evacuate rest t
    | none => let r := State.evacuate rest s; (r.1, false)

/-- The moves under way where the engines go on to empty tier T0: a copy into it is given up, one out of it ends (20_power_thermal R617;
08_memory_tiers R262; log 38). -/
def State.endMoves (s : State) : State :=
  s.pages.foldl (fun (a : State) e => match KMap.find a.pages e.1 with
    | none => a
    | some g =>
      if !g.flag 4 then a
      else if g.dstTier = 0 then a.abandon e.1 g
      else if g.tier = 0 then a.arrive e.1 g g.dstSpot
      else a) s

/-- T0_EVACUATION: moves under way end, every page leaves T0, or the rest stays and the request falls back to NAP (20_power_thermal R617). -/
def execT0Evacuation (s : State) : Host.Outcome State Fault Refusal :=
  let w := s.power
  if !w.entering || w.target ≠ 3 || !w.quiescent || w.entryFrom = 2 then .next s
  else
    let m := s.endMoves
    let r := State.evacuate (m.pages.filter (fun e => e.2.tier == 0)) m
    if r.2 then .next { r.1 with power := { r.1.power with entryFrom := 2 } }
    else
      let t := { r.1 with
        power := { r.1.power with target := 2, entryFrom := 2 }
        inflight := r.1.inflight.map (fun (e : CmdE) => if e.opc = 0x07 && e.st == CmdSt.running && e.aux == [3] then { e with aux := [2] } else e) }
      .next ((t.powCount Ctr.deepFallbacks 1).logEv 7 6 0xFF 256 2 0)

/-- The domains that are up in power state `x`: DL is gated in NAP and DEEP, DM in DEEP; a lost one stays down
(20_power_thermal R612). -/
def domainsUp (x : Nat) (lost : List Bool) : List Bool :=
  (List.range 20).map (fun d => !lost.getD d false && !(decide (2 ≤ x) && decide (d < 8)) &&
    !(decide (x = 3) && decide (8 ≤ d) && decide (d < 16)))

/-- Tiles that hold nothing, to be zeroed and loaded afresh (20_power_thermal R614, R618). -/
def State.emptyTiles (s : State) : State :=
  { s with tiles := KMap.each s.tiles (fun _ v => { v.quiet with
      scratch := [], acc := [], vregs := none, act := {}, nxt := none, lastOwner := none, zeroing := false, untrusted := true }) }

/-- POWER_STATE_ENTRY: the entry latency is over; the POWER_SET completes; a command that came during the entry makes the
module leave (20_power_thermal R615, 18_queues R582). -/
def execPowerStateEntry (s : State) : Host.Outcome State Fault Refusal :=
  let w := s.power
  if !w.entering || (decide (2 ≤ w.target) && !w.quiescent) || (decide (w.target = 3) && w.entryFrom ≠ 2) then .next s
  else
    let t := { s with power := { w with
      entering := false, quiescent := false, entryFrom := 0, woke := false, exiting := w.woke
      domUp := domainsUp w.target w.domLost } }
    .next ((if 2 ≤ w.target then t.emptyTiles else t).enterState w.target)

/-- POWER_STATE_EXIT: the gated domains are up, tiles zeroed, the module is ACTIVE; after NAP or DEEP no batch is released before
the next boundary; a POWER_SET to IDLE that waited goes on from there (20_power_thermal R618). -/
def execPowerStateExit (s : State) : Host.Outcome State Fault Refusal :=
  let w := s.power
  if !w.exiting || w.entering then .next s
  else
    let t := { s with power := { w with exiting := false, domUp := domainsUp 0 w.domLost } }
    let u := (if 2 ≤ w.pstate then { t.emptyTiles with wheel := { t.wheel with released := true } } else t).enterState 0
    if u.inflight.any (fun e => e.opc = 0x07 && e.st == .running && e.aux == [1]) then
      .next { u with power := { u.power with entering := true, target := 1 } }
    else .next u

/-! ## Slots (20_power_thermal R619 to R621) -/

/-- Effective fraction of die d in 1/64: the lowest of the governor's and of each limit in force (20_power_thermal R621,
R626). -/
def Power.fraction (w : Power) (d : Nat) : Nat :=
  ((w.slot.getD d 64 :: (if w.clampPh = 1 then [0] else if w.clampPh = 2 then [32] else [])) ++
    (if w.sustained then [48] else []) ++ (if w.dieHot.getD d false then [16] else []) ++
    (if w.sensLimit.getD d false then [32] else [])).foldl min 64

/-- POWER_CAP in effect, W (20_power_thermal R620, R622, R624). -/
def Power.cap (w : Power) : Nat :=
  min w.powerCap (min (if w.inputLow then 1200 else 1800) (if w.coolant = 2 then 600 else if w.coolant = 1 then 1200 else 1800))

/-- Slots withheld on each die hold the arrays of its powered tiles, an ACLK each (05 R163; 20_power_thermal R619). -/
def State.withhold (s : State) (withheld : List Nat) : State :=
  (withheld.take 8).zipIdx.foldl (fun (a : State) e =>
    if e.1 = 0 || a.tileGated (128 * e.2) then a
    else (List.range 128).foldl (fun (b : State) i => b.tileCount (128 * e.2 + i) TileCtr.arrayHoldCyc e.1) a) s

/-- GOVERNOR_STEP: firmware's fractions, each 1/64 to 64/64, and the slots that each die has withheld since the last step
(05 R163; 20_power_thermal R619, R620, R628; log 12). -/
def execGovernorStep (fractions withheld : List Nat) (s : State) : Host.Outcome State Fault Refusal :=
  .next (({ s with power := { s.power with
    slot := (List.range 8).map (fun d => min 64 (max 1 (fractions.getD d (s.power.slot.getD d 64)))) } }.withhold withheld).powCount
      Ctr.govWithheldSlots (withheld.take 8).sum)

/-- CURRENT_CLAMP: every fraction is 0 (20_power_thermal R621). -/
def execCurrentClamp (s : State) : Host.Outcome State Fault Refusal :=
  if s.power.clampPh = 1 then .next s
  else .next ({ s with power := { s.power with clampPh := 1 } }.powCount Ctr.clampTrips 1)

/-- CLAMP_HOLD_END: then 32/64 (20_power_thermal R621). -/
def execClampHoldEnd (s : State) : Host.Outcome State Fault Refusal :=
  if s.power.clampPh = 1 then .next { s with power := { s.power with clampPh := 2 } } else .next s

/-- CLAMP_RELEASE: the governor resumes (20_power_thermal R621). -/
def execClampRelease (s : State) : Host.Outcome State Fault Refusal :=
  if s.power.clampPh = 2 then .next { s with power := { s.power with clampPh := 0 } } else .next s

/-- SUSTAINED_LIMIT (20_power_thermal R621). -/
def execSustainedLimit (s : State) : Host.Outcome State Fault Refusal :=
  if s.power.sustained then .next s
  else .next ({ s with power := { s.power with sustained := true } }.powCount Ctr.sustainedLimits 1)

/-- SUSTAINED_LIMIT_RELEASE (20_power_thermal R621). -/
def execSustainedLimitRelease (s : State) : Host.Outcome State Fault Refusal :=
  .next { s with power := { s.power with sustained := false } }

/-- DIE_HOT: the temperatures of a compute die's sensors; 110 degrees on one engages the limit, all below 100 release it
(20_power_thermal R621). -/
def execDieHot (die : Nat) (temps : List Int) (s : State) : Host.Outcome State Fault Refusal :=
  let hot := s.power.dieHot.getD die false
  if 8 ≤ die then .next s
  else if temps.any (fun t => decide (110000 ≤ t)) then
    (if hot then .next s
     else .next ({ s with power := { s.power with dieHot := s.power.dieHot.set die true } }.powCount Ctr.dieHotEvents 1))
  else if temps.all (fun t => decide (t < 100000)) then
    .next { s with power := { s.power with dieHot := s.power.dieHot.set die false } }
  else .next s

/-! ## Supply (20_power_thermal R622, 21_reliability R650) -/

/-- INPUT_LOW: 38 to 40 V for more than 1 ms, or its end (20_power_thermal R622). -/
def execInputLow (low : Bool) (s : State) : Host.Outcome State Fault Refusal :=
  let t := { s with power := { s.power with inputLow := low } }
  if low && !s.power.inputLow then .next (t.logEv 7 1 0xFF 1 1 0) else .next t

/-- The converters off: every domain down, ALERT_N asserted, buffered records on hold-up in flash (20_power_thermal R622,
21_reliability R650, 23_management R684). -/
def State.convertersOff (s : State) : State :=
  { s with
    power := { s.power with inputOk := false }
    mgmt := { s.mgmt with
      alertN := true
      logFlash := (s.mgmt.logFlash ++ s.mgmt.logBuf).drop (s.mgmt.logFlash.length + s.mgmt.logBuf.length - 524288)
      logBuf := [] } }

/-- INPUT_LOSS (20_power_thermal R622). -/
def execInputLoss (s : State) : Host.Outcome State Fault Refusal := .next s.convertersOff

/-- INPUT_OVERVOLTAGE (20_power_thermal R622). -/
def execInputOvervoltage (s : State) : Host.Outcome State Fault Refusal := .next s.convertersOff

/-! ## Sensors (20_power_thermal R623 to R626, 23_management R678, R680) -/

/-- Range of the sensor with a PLDM ID (20_power_thermal R625). -/
def sensorRange (id : Nat) : Option (Int × Int) :=
  if id = 1 ∨ id = 5 then some (0, 75000)
  else if id = 2 then some (0, 60000)
  else if id = 3 then some (0, 4500000)
  else if id = 4 then some (0, 200000)
  else if 16 ≤ id ∧ id < 36 then some (0, 1500)
  else if 48 ≤ id ∧ id < 56 then some (0, 1600000)
  else if 56 ≤ id ∧ id < 68 then some (0, 400000)
  else if 80 ≤ id ∧ id < 176 then some (-40000, 150000)
  else if id = 192 ∨ id = 193 then some (0, 100000)
  else if id = 194 then some (0, 10000)
  else if id = 208 then some (-1000000, 1000000)
  else if id = 209 then some (-100000, 100000)
  else none

/-- Nominal voltage of a domain, mV (20_power_thermal R612). -/
def nominal (d : Nat) : Int :=
  if d < 8 then 700 else if d < 16 then 750 else if d = 16 then 850 else if d = 17 then 750 else if d = 18 then 1200 else 800

/-- Upper and lower thresholds of a sensor (23_management R678). -/
def thresholds (id : Nat) : List Int × List Int :=
  if id = 1 then ([62000], [40000, 38000, 30000])
  else if id = 4 then ([40000], [])
  else if 16 ≤ id ∧ id < 36 then
    let v := nominal (id - 16)
    ([v * 104 / 100, v * 105 / 100], [v * 96 / 100, v * 95 / 100])
  else if 80 ≤ id ∧ id < 176 then ([100000, 110000, 120000], [])
  else if id = 192 then ([45000, 50000], [])
  else if id = 194 then ([], [2000, 1000])
  else ([], [])

/-- How many thresholds of each side a value has crossed. -/
def crossed (id : Nat) (v : Int) : Nat × Nat :=
  (((thresholds id).1.filter (fun t => decide (t < v))).length, ((thresholds id).2.filter (fun t => decide (v < t))).length)

/-- The sensor of an ID. -/
def State.sensor (s : State) (id : Nat) : Sensor := KMap.findD s.power.sensors id {}

/-- Neither FAULTY nor STALE and sampled. -/
def Sensor.healthy (v : Sensor) : Bool := !v.faulty && !v.stale && v.filt.isSome

/-- The sensor IDs of the die that a temperature sensor lies on (23_management R678). -/
def dieSensors (id : Nat) : List Nat :=
  if id < 160 then (List.range 10).map (fun i => (id - 80) / 10 * 10 + 80 + i)
  else if id < 168 then (List.range 8).map (fun i => 160 + i)
  else [id]

/-- Sum of the domains' powers, in thousandths of a milliwatt (mV times mA). -/
def State.domainPower (s : State) : Int :=
  ((List.range 20).map (fun d => (s.sensor (16 + d)).value * (s.sensor (48 + d)).value)).sum

/-- The substitute of a sensor that is FAULTY or STALE, none where the last accepted value stays (20_power_thermal R626; an
input voltage is replaced by the nominal 48 V that the substitute current is taken at, log 8). -/
def State.substitute (s : State) (id : Nat) : Option Int :=
  if id = 1 then some 48000
  else if id = 2 then some (s.domainPower * 115 / 100 / 48000)
  else if 80 ≤ id ∧ id < 176 then
    (((dieSensors id).filter (fun i => i ≠ id && (s.sensor i).healthy)).map (fun i => (s.sensor i).value)).max?.map (· + 10000)
  else if id = 192 then some 45000
  else if id = 194 then some 2000
  else none

/-- The value in use of a sensor: its substitute while it is FAULTY or STALE (20_power_thermal R626). -/
def State.reading (s : State) (id : Nat) : Int :=
  let v := s.sensor id
  if v.faulty || v.stale then (s.substitute id).getD v.value else v.value

/-- The sensor with its value: its filter's, or its substitute (20_power_thermal R626). -/
def State.setSensor (s : State) (id : Nat) (v : Sensor) : State :=
  let x := if v.faulty || v.stale then (s.substitute id).getD v.value else v.filt.getD v.value
  let t := { s with power := { s.power with sensors := KMap.put s.power.sensors id { v with value := x } } }
  let u := if v.filt.isSome && crossed id x ≠ crossed id (s.sensor id).value then t.platformEvent id x else t
  if 80 ≤ id ∧ id < 160 then
    let none' := !(dieSensors id).any (fun i => (u.sensor i).healthy) &&
      (dieSensors id).any (fun i => (u.sensor i).faulty || (u.sensor i).stale)
    { u with power := { u.power with sensLimit := u.power.sensLimit.set ((id - 80) / 10) none' } }
  else u

/-- Does the outlet stand more than 15 degrees above the inlet at a flow of 2.0 L/min or more (20_power_thermal R624)? -/
def State.coolantRise (s : State) : Bool :=
  (s.sensor 192).filt.isSome && (s.sensor 193).filt.isSome && (s.sensor 194).filt.isSome &&
    decide (15000 < (s.sensor 193).value - (s.sensor 192).value) && decide (2000 ≤ (s.sensor 194).value)

/-- The coolant limit of the values in use, after those of `old`; a lost flow or inlet reading stands at the first row's limit; a
condition that begins is logged once (20_power_thermal R624, R626; log 31). -/
def State.coolantLimit (old s : State) : State :=
  let inlet := s.sensor 192
  let flow := s.sensor 194
  let known := fun (v : Sensor) => v.filt.isSome
  let lost := fun (v : Sensor) => v.faulty || v.stale
  let two := (known inlet && decide (50000 < inlet.value)) || decide (10 ≤ flow.low)
  let one := two || (known inlet && decide (45000 < inlet.value)) || (known flow && decide (flow.value < 2000)) ||
    lost inlet || lost flow
  let c := if two then 2 else if one then 1 else 0
  let t := { s with power := { s.power with coolant := c } }
  let u := if s.power.coolant < c then t.logEv 7 3 0xFF 194 c 0 else t
  let w := if c = 2 && s.power.coolant ≠ 2 then u.maintain 3 else u
  if s.coolantRise && !old.coolantRise then w.logEv 7 3 0xFF 193 193 0 else w

/-- The middle one of three, or the newest of fewer. -/
def median3 : List Int → Int
  | [a, b, c] => max (min a b) (min (max a b) c)
  | [] => 0
  | x :: t => (x :: t).getLast?.getD 0

/-- What the module does with a new value of its own loops, after the values of `old`: source impedance that rises above 40 milliohms
raises the supply alarm, the coolant sensors set the coolant limit (20_power_thermal R622, R624; log 31). -/
def State.sensorActs (old s : State) (id : Nat) : State :=
  if id = 4 then
    (if 40000 < (s.sensor 4).value ∧ ¬ 40000 < (old.sensor 4).value then (s.logEv 7 2 0xFF 4 4 0).maintain 2 else s)
  else if id = 192 ∨ id = 193 ∨ id = 194 then old.coolantLimit s
  else s

/-- SENSOR_SAMPLE: a sample outside its range is discarded, three in a row mark the sensor FAULTY; an accepted one passes the
median and the filter, sixteen in a row recover the sensor (20_power_thermal R626). Source impedance reports the median of the
last 16 estimates (R623). -/
def execSensorSample (sensor : Nat) (value : Int) (s : State) : Host.Outcome State Fault Refusal :=
  if !s.daUp then .next s
  else match sensorRange sensor with
  | none => .next s
  | some (lo, hi) =>
    let v := s.sensor sensor
    if value < lo ∨ hi < value then
      let n := v.discards + 1
      let t := s.setSensor sensor { v with discards := n, good := 0, faulty := v.faulty || decide (3 ≤ n) }
      if v.faulty || decide (n < 3) then .next t
      else .next (s.sensorActs ((t.powCount Ctr.sensorFaulty 1).logEv 7 4 0xFF sensor sensor 0) sensor)
    else
      let recent := (v.recent ++ [value]).drop (v.recent.length - 2)
      let est := (s.power.impEst ++ [value.toNat]).drop (s.power.impEst.length - 15)
      let filt := if sensor = 4 then (((sortBy (fun (a b : Nat) => decide (a < b)) est).getD (est.length / 2) 0 : Nat) : Int)
        else Config.filterStep v.filt (median3 recent)
      let bad := v.faulty || v.stale
      let good := if bad then v.good + 1 else 0
      let back := bad && decide (16 ≤ good)
      let w : Sensor := { v with
        filt := some filt, recent := recent, discards := 0, good := if back then 0 else good
        faulty := v.faulty && !back, stale := v.stale && !back
        low := if sensor = 194 && decide (filt < 1000) then v.low + 1 else 0 }
      let t := if sensor = 4 then { s with power := { s.power with impEst := est } } else s
      .next (s.sensorActs (t.setSensor sensor w) sensor)

/-- SENSOR_STALE: no accepted sample for 10 sample periods (20_power_thermal R626). -/
def execSensorStale (sensor : Nat) (s : State) : Host.Outcome State Fault Refusal :=
  let v := s.sensor sensor
  if (sensorRange sensor).isNone || v.stale || !s.daUp then .next s
  else .next (s.sensorActs (((s.setSensor sensor { v with stale := true, good := 0 }).powCount Ctr.sensorStale 1).logEv 7 5 0xFF sensor
    sensor 0) sensor)

end Sys2Proof.Machine
end

