-- ==== Sys2Proof/Machine/Security.lean ====
section
/-! DEFINITION. The sagger: measurements, alarms, debug unlock, SPDM, IDE keys, the trust list and partition keys
(22_security R655 to R675, 17_host_link R550). Cryptographic functions are uninterpreted (log 7). -/

namespace Sys2Proof.Machine

/-! ## Measurements (22_security R664, R665) -/

/-- V_i of a measurement index. -/
def Sagger.value (g : Sagger) (i : Nat) : List Byte := KMap.findD g.meas i (zeros 64)

/-- An entry of the measurement log: V_i takes the digest in. -/
def State.measure (s : State) (i event : Nat) (digest : List Byte) : State :=
  { s with sagger := { s.sagger with
      meas := KMap.put s.sagger.meas i (Config.shake256 (s.sagger.value i ++ digest) 64)
      measLog := s.sagger.measLog ++ [(i, event, digest)] } }

/-! ## Alarms (22_security R670, R671) -/

/-- Number of an alarm source in the table's order. -/
def alarmNum : AlarmSource → Nat
  | .lidMesh => 0
  | .tamperLoop => 1
  | .voltageGlitch => 2
  | .clockGlitch => 3
  | .temperatureGlitch => 4
  | .debugFailure => 5

/-- Every secured SPDM session ended (22_security R671, R673). -/
def State.endSpdm (s : State) : State :=
  { s with parts := KMap.each s.parts (fun _ v => { v with spdm := none, spdmState := min v.spdmState 3, spdmUpd := 0 }) }

/-- ERASE: keys, helper data and configuration records zeroised, ALERT_N asserted (22_security R671). -/
def State.erase (s : State) : State :=
  let t := s.endSpdm
  { t with
    sagger := { t.sagger with pufOk := false, kRoot := false, secLock := true, lockDue := false, erased := true, challenge := none }
    mgmt := { t.mgmt with alertN := true }
    heads := t.heads.map (fun (h : Head) => { h with ideIo := false, ideMem := false })
    parts := KMap.each t.parts (fun _ v => { v with genP := 0, trust := [], trustCnt := 0 }) }

/-- An alarm at a level: logged, counted, and its action taken (22_security R671). -/
def State.alarmAt (s : State) (src level : Nat) : State :=
  let t := { s with sagger := { s.sagger with
    alarmLevel := max s.sagger.alarmLevel level, alarmEvents := min (s.sagger.alarmEvents + 1) (2 ^ 32 - 1) } }.logEv 1 1 0xFF
      258 (src + 256 * level) 0
  let u := if s.sagger.alarmLevel < level then t.platformEvent 258 (level : Int) else t
  if level = 3 then u.erase
  else if level = 2 && !u.sagger.secLock then { u with sagger := { u.sagger with secLock := true, lockDue := true } }
  else u

/-- ALARM: a source trips, at its mapped level, or at ERASE on its second trip within 1 s (22_security R670, R671). -/
def execAlarm (source : AlarmSource) (within1s : Bool) (s : State) : Host.Outcome State Fault Refusal :=
  if s.stage = .off || !s.daUp then .next s
  else .next (s.alarmAt (alarmNum source) (if within1s then 3 else s.sagger.levels.getD (alarmNum source) 1))

/-! ## Debug unlock (22_security R672 to R674) -/

/-- Is debug refused: an alarm at LOCK or above, three failed responses, or no DA (22_security R671, R674)? -/
def State.debugRefused (s : State) : Bool :=
  s.stage = .off || decide (2 ≤ s.sagger.alarmLevel) || decide (3 ≤ s.sagger.debugFails)

/-- The tag that binds a challenge to the module (22_security R672). -/
def debugTag (c : List Byte) : List Byte := Config.kmac256 Config.debugKey c [] 32

/-- DEBUG_CHALLENGE: a fresh 32-byte challenge, read out with its tag (22_security R672). -/
def execDebugChallenge (s : State) : Host.Outcome State Fault Refusal :=
  if s.debugRefused then .next { s with reply := .drop }
  else
    let c := leBytes 32 (Config.freeNat s.fresh)
    .next { s with
      fresh := s.fresh + 1, sagger := { s.sagger with challenge := some c }, reply := .data (c ++ debugTag c) }

/-- The unlock of a SCOPE (22_security R673). -/
def State.unlock (s : State) (scope : Nat) : State :=
  let t := ({ s with sagger := { s.sagger with
    debugOpen := true, debugScope := max s.sagger.debugScope scope } }.measure 8 1 (Config.componentDigest 8 scope)).logEv 1 5
      0xFF 0 scope 0
  let u := if 2 ≤ scope then t.endSpdm else t
  if scope = 3 then
    { u with
      sagger := { u.sagger with kRoot := false }
      heads := u.heads.map (fun (h : Head) => { h with ideIo := false, ideMem := false }) }
  else u

/-- DEBUG_RESPONSE: each challenge is good for one; the third failure raises the debug alarm (22_security R672 to R674). -/
def execDebugResponse (scope : Nat) (signature : List Byte) (s : State) : Host.Outcome State Fault Refusal :=
  match s.sagger.challenge with
  | none => .next s
  | some c =>
    let t := { s with sagger := { s.sagger with challenge := none } }
    if s.debugRefused then .next t
    else if decide (1 ≤ scope ∧ scope ≤ 3) &&
        Config.mlDsaVerify (leBytes 8 Config.serial.toNat ++ c ++ leBytes 1 scope ++ debugTag c) signature 3 [] then
      .next (t.unlock scope)
    else
      let u := { t with sagger := { t.sagger with debugFails := t.sagger.debugFails + 1 } }
      if u.sagger.debugFails = 3 then .next (u.alarmAt 5 (u.sagger.levels.getD 5 1)) else .next u

/-! ## SPDM (22_security R666 to R668) -/

/-- Is plain SPDM answered on partition p's function: flash mounted, not in boot recovery, its head up (22_security R663, R666;
24_startup R696)? -/
def State.spdmServed (s : State) (p : Nat) : Bool :=
  s.reach p && !s.recovery && !s.moduleLost && s.flash.mounted && decide (p < 16)

/-- An SPDM ERROR response (22_security R667; log 14). -/
def State.spdmError (s : State) (code : Nat) : State := { s with reply := .answer 0x7F [code] [] }

/-- SPDM InvalidRequest (22_security R667). -/
def invalidRequest : Nat := 1

/-- An SPDM request that needs the handshake at step `n` or later. -/
def State.spdm (s : State) (p n : Nat) (f : Part → State) : Host.Outcome State Fault Refusal :=
  if !s.spdmServed p then .next { s with reply := .none }
  else if (s.part p).spdmState < n then .next (s.spdmError invalidRequest)
  else .next (f (s.part p))

/-- A request answered with numbers and bytes. -/
def State.spdmAnswer (s : State) (kind : Nat) (nums : List Nat) (bs : List Byte) : State :=
  { s with reply := .answer kind nums bs }

/-- GET_VERSION: 1.3 only; the handshake begins again (22_security R666). -/
def execGetVersion (part : Nat) (s : State) : Host.Outcome State Fault Refusal :=
  s.spdm part 0 (fun v => (s.modPart part (fun w => { w with spdmState := if v.spdm.isSome then v.spdmState else 1 })).spdmAnswer
    0x04 [0x13] [])

/-- GET_CAPABILITIES (22_security R666). -/
def execGetCapabilities (part : Nat) (s : State) : Host.Outcome State Fault Refusal :=
  s.spdm part 1 (fun v => (s.modPart part (fun w => { w with spdmState := max v.spdmState 2 })).spdmAnswer 0x61 []
    (Config.standardAnswer 0x61 []))

/-- NEGOTIATE_ALGORITHMS: exactly ML-DSA-65, SHAKE256, ML-KEM-768 and AES-256-GCM (22_security R667). -/
def execNegotiateAlgorithms (part : Nat) (offersAll : Bool) (s : State) : Host.Outcome State Fault Refusal :=
  s.spdm part 2 (fun v =>
    if !offersAll then s.spdmError invalidRequest
    else (s.modPart part (fun w => { w with spdmState := max v.spdmState 3 })).spdmAnswer 0x63 [0x9601, 0x9602, 0x9603] [])

/-- The certificate of a slot of partition p: 0 the identity chain, 1 the partition certificate (22_security R658, R666). -/
def State.slotCert (s : State) (p slot : Nat) : Option (List Byte) :=
  match slot with
  | 0 => some (Config.certificate 0 p (s.part p).genP)
  | 1 => if s.partKey p then some (Config.certificate 1 p (s.part p).genP) else none
  | _ => none

/-- GET_DIGESTS (22_security R666). -/
def execGetDigests (part : Nat) (s : State) : Host.Outcome State Fault Refusal :=
  s.spdm part 3 (fun _ => s.spdmAnswer 0x01 [if s.partKey part then 3 else 1]
    (([0, 1].filterMap (s.slotCert part)).flatMap (fun c => Config.shake256 c 64)))

/-- GET_CERTIFICATE (22_security R666). -/
def execGetCertificate (part slot : Nat) (s : State) : Host.Outcome State Fault Refusal :=
  s.spdm part 3 (fun _ => match s.slotCert part slot with
    | none => s.spdmError invalidRequest
    | some c => s.spdmAnswer 0x02 [slot] c)

/-- Is identity signing refused (22_security R673)? -/
def State.noSigning (s : State) : Bool := decide (2 ≤ s.sagger.debugScope) || !s.sagger.kRoot

/-- CHALLENGE: a signature by the identity key (22_security R657, R666). -/
def execChallenge (part : Nat) (nonce : List Byte) (s : State) : Host.Outcome State Fault Refusal :=
  s.spdm part 3 (fun _ =>
    if s.noSigning then s.spdmError invalidRequest else s.spdmAnswer 0x03 [] (Config.mlDsaSign nonce))

/-- GET_MEASUREMENTS: V_i of an index of the table, 16 + p on partition p's function only (22_security R665, R666). -/
def execGetMeasurements (part index : Nat) (signed : Bool) (s : State) : Host.Outcome State Fault Refusal :=
  s.spdm part 3 (fun _ =>
    if !(decide (1 ≤ index ∧ index ≤ 8) || index == 16 + part) || (signed && s.noSigning) then s.spdmError invalidRequest
    else s.spdmAnswer 0x60 [index] (s.sagger.value index ++ (if signed then Config.mlDsaSign (s.sagger.value index) else [])))

/-- KEY_EXCHANGE: one session per function; the secret is the ML-KEM-768 shared secret (22_security R666, R667). -/
def execKeyExchange (part : Nat) (encapKey : List Byte) (s : State) : Host.Outcome State Fault Refusal :=
  s.spdm part 3 (fun v =>
    if v.spdm.isSome || encapKey.length ≠ 1184 || s.noSigning || s.locked || s.sagger.erased then s.spdmError invalidRequest
    else
      let r := Config.mlKemEncaps encapKey s.fresh
      (({ s with fresh := s.fresh + 1 }).modPart part (fun w => { w with spdm := some r.2, spdmState := 4, spdmUpd := 0 })).spdmAnswer
        0x64 [] (r.1 ++ Config.mlDsaSign r.1))

/-- FINISH: the session is secured; a failed one is dropped (22_security R666). -/
def execFinish (part : Nat) (ok : Bool) (s : State) : Host.Outcome State Fault Refusal :=
  s.spdm part 4 (fun v =>
    if v.spdmState ≠ 4 then s.spdmError invalidRequest
    else if ok then (s.modPart part (fun w => { w with spdmState := 5 })).spdmAnswer 0x65 [] []
    else (s.modPart part (fun w => { w with spdm := none, spdmState := 3 })).spdmError invalidRequest)

/-- END_SESSION (22_security R666). -/
def execEndSession (part : Nat) (s : State) : Host.Outcome State Fault Refusal :=
  s.spdm part 5 (fun _ => (s.modPart part (fun w => { w with spdm := none, spdmState := 3, spdmUpd := 0 })).spdmAnswer 0x6C [] [])

/-- HEARTBEAT (22_security R666). -/
def execHeartbeat (part : Nat) (s : State) : Host.Outcome State Fault Refusal :=
  s.spdm part 5 (fun _ => s.spdmAnswer 0x68 [] [])

/-- KEY_UPDATE (22_security R666). -/
def execKeyUpdate (part : Nat) (s : State) : Host.Outcome State Fault Refusal :=
  s.spdm part 5 (fun _ => (s.modPart part (fun w => { w with spdmUpd := w.spdmUpd + 1 })).spdmAnswer 0x69 [] [])

/-- IDE_KM over the secured session: the stream of CXL.io or of CXL.mem of the partition's head is active
(17_host_link R550; 22_security R673). -/
def execIdeKm (part : Nat) (memStream skid : Bool) (s : State) : Host.Outcome State Fault Refusal :=
  s.spdm part 5 (fun v =>
    if s.sagger.debugScope = 3 then s.spdmError invalidRequest
    else (s.modHead v.eff.head (fun h => { h with
      ideIo := h.ideIo || !memStream, ideMem := h.ideMem || memStream, skid := if memStream then skid else h.skid })).spdmAnswer
        0x7E [] [])

/-! ## Vendor requests (22_security R668, R669) -/

/-- TRUST_GET: the list and TRUST_CNT (22_security R668, R669). -/
def execTrustGet (part : Nat) (s : State) : Host.Outcome State Fault Refusal :=
  s.spdm part 5 (fun v => s.spdmAnswer 0x7E [1, v.trustCnt, v.trustList.length] v.trustList.flatten)

/-- TRUST_SET: 1 to 8 hashes, the value TRUST_CNT + 1, signed by a key of the current list (22_security R669). -/
def execTrustSet (part cnt : Nat) (list : List (List Byte)) (signature : List Byte) (s : State) :
    Host.Outcome State Fault Refusal :=
  s.spdm part 5 (fun v =>
    if list = [] || decide (8 < list.length) || !list.all (fun h => h.length = 32) || cnt ≠ v.trustCnt + 1 ||
        !Config.mlDsaVerify (leBytes 8 Config.serial.toNat ++ leBytes 1 part ++ leBytes 4 cnt ++ list.flatten) signature 2 v.trustList
    then s.spdmError invalidRequest
    else (s.modPart part (fun w => { w with trust := list, trustCnt := cnt })).spdmAnswer 0x7E [2, cnt] [])

/-- KEY_ROTATE: GEN_p one higher; refused while an encrypted image is loaded in the partition (22_security R658, R668). -/
def execKeyRotate (part : Nat) (s : State) : Host.Outcome State Fault Refusal :=
  s.spdm part 5 (fun v =>
    if v.images.any (fun e => e.2.encrypted) then s.spdmError invalidRequest
    else (s.modPart part (fun w => { w with genP := (w.genP + 1) % 2 ^ 32 })).spdmAnswer 0x7E [3, v.genP + 1] [])

end Sys2Proof.Machine
end

