-- ==== Sys2Proof/Machine/Startup.lean ====
section
/-! DEFINITION. Start-up and reset: the cold start and its stages, PERST_N, function-level reset (24_startup R696 to R706,
22_security R655, R656, R661 to R663, 19_registers R598). -/

namespace Sys2Proof.Machine

/-! ## What a reset leaves (24_startup R702, R704) -/

/-- Partitions after a reset of the module: the configuration records stay (22_security R661). -/
def State.partsReset (s : State) : KMap Part :=
  (List.range 16).map (fun p => (p, { Part.reset p with
    genP := (s.part p).genP, trust := (s.part p).trust, trustCnt := (s.part p).trustCnt
    busMaster := (s.part p).busMaster, msixEn := (s.part p).msixEn }))

/-- The flash tier after a reset: extents and its counters stay, PAGING_SIZE as written is in force, the metadata is not
mounted (08_memory_tiers R247, 19_registers R597). -/
def Flash.reset (f : Flash) : Flash :=
  { f with mounted := false, pagingSize := f.pagingSizeWr, extents := KMap.each f.extents (fun _ x => { x with pend := [] }) }

/-- Firmware components of which those that `f` names have not run (22_security R662). -/
def stopComps (f : Nat → Bool) (l : List Comp) : List Comp := l.zipIdx.map (fun e => if f e.2 then { e.1 with running := 0 } else e.1)

/-- The block as 48 V is applied: what the boot region, the extent store and the log in flash hold has stayed
(24_startup R696, R704; 23_management R681). -/
def State.cold (s : State) : State :=
  { State.reset with
    pending := s.pending, hostMem := s.hostMem, fresh := s.fresh + 1, stage := .verify
    parts := s.partsReset, flash := s.flash.reset, headMode := s.headMode
    power := { inputOk := true, domUp := (List.range 20).map (fun d => d == 19) }
    sagger := { pufOk := s.sagger.pufOk, identityOk := s.sagger.identityOk, pageNonce := Config.freeNat s.fresh,
                kRoot := s.sagger.pufOk && s.sagger.identityOk }
    recovery := !(s.sagger.pufOk && s.sagger.identityOk)
    mgmt := { logFlash := s.mgmt.logFlash, logNext := s.mgmt.logNext
              comps := stopComps (fun _ => true) (s.mgmt.comps.map (fun c => { c with pending := false }))
              i3cAddr := 0x30 + Config.slotId.toNat } }

/-- COLD_START: 48 V applied. K_ROOT is rebuilt, the wheel is in ACQUIRE, boot ROM and records are measured; a broken lid mesh
or tamper loop is an alarm before READY (22_security R655, R656, R665, R670, R675; 24_startup R696, R699). -/
def execColdStart (meshOk loopOk : Bool) (s : State) : Host.Outcome State Fault Refusal :=
  if s.stage ≠ .off && s.power.inputOk then .next s
  else
    let t := (s.cold.measure 1 0 (Config.componentDigest 1 0)).measure 7 0 (Config.componentDigest 7 0)
    let t := if t.recovery then t.logFault 5 0xFF 0xFFFF 0xFF 5 0 0 0 else t
    let u := if meshOk then t else t.alarmAt 0 (t.sagger.levels.getD 0 2)
    .next (if loopOk then u else u.alarmAt 1 (u.sagger.levels.getD 1 2))

/-- The version that a component runs: slot A where it verifies at or above the floor, else slot B; and the slot
(22_security R662). -/
def Comp.boots (c : Comp) : Option (Nat × Nat) :=
  let ok := fun (slot : Option Nat) (sig : Bool) => match slot with
    | none => none
    | some v => if sig && decide (c.floor ≤ v) then some v else none
  match ok c.slotA c.sigA with
  | some v => some (v, 0)
  | none => (ok c.slotB c.sigB).map (fun v => (v, 1))

/-- FIRMWARE_VERIFY: Askux loader and Askux firmware, then with every domain raised hub, wheel controller and flash translation
firmware; a component that fails in both slots leaves the module in boot recovery (22_security R662 to R664; 24_startup R696,
R699). -/
def execFirmwareVerify (component : Nat) (s : State) : Host.Outcome State Fault Refusal :=
  let cs := s.mgmt.comps
  let c := cs.getD component {}
  if s.stage ≠ .verify || s.recovery || decide (5 ≤ component) || c.running ≠ 0 ||
      (List.range (min component 2)).any (fun i => (cs.getD i {}).running = 0) then .next s
  else match c.boots with
    | none => .next ({ s with recovery := true }.logFault 5 0xFF 0xFFFF 0xFF 5 0 component 0)
    | some (v, slot) =>
      let t := s.measure (2 + component) 0 (Config.componentDigest component v)
      let cs' := cs.set component { c with running := v, pending := false }
      let u := ({ t with mgmt := { t.mgmt with comps := cs' } }.logEv 0 1 0xFF component (component + 256 * slot) 0)
      let u := if slot = 1 then u.logEv 1 2 0xFF component component 0 else u
      let raised := cs'.all (fun c => decide (c.running ≠ 0))
      .next { u with
        stage := if raised then .mount else .verify
        power := if 2 ≤ component then { u.power with domUp := domainsUp 0 u.power.domLost } else u.power }

/-- FTL_MOUNT: the extent store is readable, SPDM, PLDM and the FM-API are answered (24_startup R696, R698). -/
def execFtlMount (s : State) : Host.Outcome State Fault Refusal :=
  if s.stage ≠ .mount then .next s
  else .next { s with stage := .hbm, flash := { s.flash with mounted := true }, mgmt := { s.mgmt with served := true } }

/-- A domain left out at start-up: a stack or a die, counted and logged (24_startup R699; 21_reliability R652, R653). -/
def State.leaveOut (s : State) (d : Nat) : State :=
  let t := { s with
    power := { s.power with domLost := s.power.domLost.set d true, domUp := s.power.domUp.set d false }
    stackLost := if 8 ≤ d then s.stackLost.set (d - 8) true else s.stackLost
    dieLost := if d < 8 then s.dieLost.set d true else s.dieLost }
  (t.devCount Ctr.domainsLost 1).logFault 5 d 0xFFFF 0xFF 5 0 0 0

/-- HBM_TRAINING: the stacks that failed are left out (24_startup R699). -/
def execHbmTraining (failed : List Nat) (s : State) : Host.Outcome State Fault Refusal :=
  if s.stage ≠ .hbm then .next s
  else .next { (failed.filter (fun d => decide (d < 8))).dedup.foldl (fun (t : State) d => t.leaveOut (8 + d)) s with stage := .march }

/-- A frame out of use until cold reset (21_reliability R633). -/
def State.retire (s : State) (tier die f : Nat) : State :=
  if s.retired.contains (tier, die, f) then s
  else ({ s with retired := s.retired ++ [(tier, die, f)] }.devCount Ctr.framesRetired 1).logFault 8 (8 + die) 0xFFFF 0xFF 0 0 f 0

/-- T0_MARCH: failing frames retired; a die with more than 1 % of them left out (24_startup R699). -/
def execT0March (failed : List (Nat × Nat)) (s : State) : Host.Outcome State Fault Refusal :=
  if s.stage ≠ .march then .next s
  else
    let l := failed.dedup
    let t := l.foldl (fun (t : State) e => t.retire 0 e.1 e.2) s
    let bad := (List.range 8).filter (fun d => !s.stackLost.getD d false && decide (1228 < (l.filter (fun e => e.1 = d)).length))
    .next { bad.foldl (fun (t : State) d => t.leaveOut (8 + d)) t with stage := .bist }

/-- DEGRADED set, reported as sensor 259 in service (19_registers R595, 23_management R678, R680). -/
def State.degrade (s : State) : State :=
  if s.degraded then s else
    let t := { s with degraded := true }
    if s.ready then t.platformEvent 259 2 else t

/-- Tiles quarantined: those that were not are counted (21_reliability R638, R653). -/
def State.quarantine (s : State) (ts : List Nat) : State :=
  let new := ts.filter (fun t => !(s.tile t).quarantined)
  let t := (new.foldl (fun (a : State) t => a.modTile t (fun v => { v with quarantined := true })) s).devCount Ctr.tilesQuarantined
    new.length
  if new.isEmpty then t else t.degrade

/-- TILE_BIST: failing tiles quarantined; a die with more than 16 of them, or a rail fault, left out (24_startup R699). A die
that tripped is retested only with its sensors below 90 degrees (20_power_thermal R621). -/
def execTileBist (failed : List Nat) (railFault : List Nat) (s : State) : Host.Outcome State Fault Refusal :=
  if s.stage ≠ .bist then .next s
  else
    let ts := (failed.filter (fun t => decide (t < 1024))).dedup
    let bad := (List.range 8).filter (fun d => railFault.contains d || s.power.dieTripped.getD d false ||
      decide (16 < (ts.filter (fun t => t / 128 = d)).length))
    let t := ts.foldl (fun (a : State) t => a.logFault 3 (t / 128) t 0xFF 5 0 0 0) (s.quarantine ts)
    let u := bad.foldl (fun (a : State) d => (a.leaveOut d).quarantine ((List.range 128).map (fun i => 128 * d + i))) t
    .next { u with stage := .wait }

/-- Version records of activated components written once all have run (23_management R688). -/
def State.writeFloors (s : State) : State :=
  let cs := s.mgmt.comps
  if cs.any (fun c => c.pending) || !cs.any (fun c => c.newFloor.isSome) then s
  else
    let t := { s with mgmt := { s.mgmt with comps := cs.map (fun (c : Comp) => { c with
      floor := max c.floor (c.newFloor.getD c.floor), newFloor := none }) } }
    (cs.filterMap (fun c => c.newFloor.filter (fun f => decide (c.floor < f)))).foldl (fun (a : State) f => a.logEv 8 4 0xFF 0 f 0) t

/-- READY: tier tables, pools and save areas are built; READY, with DEGRADED where one DLn or one DMn at most is left out, else
the start fails (24_startup R700). -/
def execReady (hubOk : Bool) (s : State) : Host.Outcome State Fault Refusal :=
  if s.stage ≠ .wait then .next s
  else
    let n := fun (l : List Bool) => (l.filter (fun b => b)).length
    if !hubOk || decide (1 < n s.dieLost) || decide (1 < n s.stackLost) then
      .next ({ s with stage := .failed, startFail := true, mgmt := { s.mgmt with alertN := true } }.logFault 5 0xFF 0xFFFF 0xFF 5
        0 0 0)
    else
      let t := { s with
        stage := .up, ready := true
        degraded := s.degraded || s.dieLost.any (fun b => b) || s.stackLost.any (fun b => b)
        parts := KMap.each s.parts (fun _ v => if v.en then { v with saveArea := v.eff.tileLimit } else v) }
      .next (((t.enterState 0).logEv 0 2 0xFF 0 0 0).writeFloors.platformEvent 259 (if t.degraded then 2 else 1))

/-! ## PERST_N (17_host_link R540, 24_startup R697, R701, R702, R705) -/

/-- The block held by a PERST_N reset: DA, the wheel and the log run on, every other domain is down (24_startup R702, R704). -/
def State.warm (s : State) : State :=
  let cool := fun (d : Nat) => (List.range 10).all (fun i => decide (s.reading (80 + 10 * d + i) < 90000))
  { State.reset with
    pending := s.pending, hostMem := s.hostMem, fresh := s.fresh + 1, stage := .held, wheel := s.wheel, heads := s.heads
    headMode := s.headMode, parts := s.partsReset, flash := s.flash.reset, retired := s.retired, ceCount := s.ceCount
    dctr := s.dctr, reply := s.reply
    power := { ctr := s.power.ctr, inputOk := s.power.inputOk, powerCap := s.power.powerCap, sensors := s.power.sensors
               inputLow := s.power.inputLow, coolant := s.power.coolant, maint := s.power.maint, impEst := s.power.impEst
               domUp := (List.range 20).map (fun d => d == 19)
               domLost := (List.range 20).map (fun d => decide (16 ≤ d) && s.power.domLost.getD d false)
               dieTripped := s.power.dieTripped.zipIdx.map (fun e => e.1 && !cool e.2) }
    sagger := { s.sagger with pageNonce := Config.freeNat s.fresh }
    mgmt := { s.mgmt with
      comps := stopComps (fun i => decide (2 ≤ i)) s.mgmt.comps
      matchEn := false, coneOutEn := true, coneInEn := false, matchAll := false, matchPart := 0, matchStatus := 0
      snapSource := 0, snapBusy := false, lastSnap := 0, snapMerged := 0, snaps := [] } }

/-- PERST_ASSERT: 10 us or longer resets the head's link; with every head in use asserted the module is reset
(17_host_link R540, 24_startup R702). -/
def execPerstAssert (head us : Nat) (s : State) : Host.Outcome State Fault Refusal :=
  if !s.headUsed head || decide (us < 10) || s.stage = .off || (s.head head).perst then .next s
  else
    let t := s.modHead head (fun h => { h with perst := true, up := false, ideIo := false, ideMem := false, inRecovery := false })
    if (t.head 0).perst && (!t.headMode || (t.head 1).perst) && t.power.inputOk && !t.startFail then .next t.warm else .next t

/-- What a function-level reset leaves of a partition (19_registers R598, 24_startup R704, R705). -/
def Part.flr (v : Part) : Part :=
  { en := v.en, enPend := v.enPend, live := v.live, disablePending := v.disablePending, tb := v.tb, enFail := v.enFail
    cfgPend := v.cfgPend, wr := v.wr, eff := v.eff, usage := v.usage, saveArea := v.saveArea, busMaster := v.busMaster
    msixEn := v.msixEn, queues := Queue.resetAll, bucket := v.bucket, cone := v.cone, genP := v.genP, trust := v.trust
    trustCnt := v.trustCnt, spdm := v.spdm, spdmState := v.spdmState, spdmUpd := v.spdmUpd, poison := v.poison
    events := v.events, decoder := v.decoder, commitErr := v.commitErr }

/-- A function-level reset of partition p: its work stops, everything it loaded is freed, nothing is written
(24_startup R704, R705; 13_serving R461). -/
def State.flr (s : State) (p : Nat) : State :=
  let own := (s.sessions.filter (fun e => e.2.part == p)).map Prod.fst
  let t := ((own.foldl State.freeSession s).loseBlocks (fun r => r.1 == p)).endTasks p
  let ks := (t.pages.filter (fun e => e.2.owner == p)).map (fun e => e.1)
  let u := (ks.foldl (fun (a : State) k => a.freePages k 1) t).modPart p Part.flr
  { u with
    inflight := u.inflight.filter (fun e => e.part ≠ p)
    sessions := u.sessions.filter (fun e => e.2.part ≠ p)
    batches := u.batches.filter (fun e => e.2.part ≠ p)
    runs := u.runs.filter (fun e => e.2.part ≠ p)
    chains := u.chains.filter (fun e => e.2.part ≠ p)
    vocabs := u.vocabs.filter (fun e => e.2.owner ≠ p)
    grammars := u.grammars.filter (fun e => e.2.owner ≠ p)
    prevBatch := u.prevBatch.filter (fun e => (KMap.find u.sessions e.1).isSome)
    flash := { u.flash with extents := KMap.each u.flash.extents (fun _ x => if x.owner = p then { x with pend := [] } else x) }
    vecDue := u.vecDue.filter (fun e => e.1 ≠ p) }

/-- FUNCTION_LEVEL_RESET (24_startup R705). -/
def execFunctionLevelReset (part : Nat) (s : State) : Host.Outcome State Fault Refusal :=
  if s.reach part && decide (part < 16) then .next (s.flr part) else .next s

/-- PERST_DEASSERT: the head may train; after a reset of the module start-up resumes at the third row once every head in use is
out of reset; in two-head mode one head alone resets the partitions bound to it. HEAD_MODE is sampled with head 0
(17_host_link R539, 24_startup R697, R701, R702, R705). -/
def execPerstDeassert (head : Nat) (s : State) : Host.Outcome State Fault Refusal :=
  let s := if head = 0 && !(s.head 1).up && (s.stage == .verify || s.stage == .mount) then
    { s with headMode := Config.headModeStrap } else s
  if !s.headUsed head || !(s.head head).perst || s.stage = .off then .next s
  else
    let t := s.modHead head (fun h => { h with perst := false })
    if t.stage = .held then
      (if !(t.head 0).perst && (!t.headMode || !(t.head 1).perst) then .next { t with stage := .verify } else .next t)
    else if t.headMode && t.stage = .up then
      .next ((t.parts.filter (fun e => e.2.eff.head == head)).foldl (fun (a : State) e => a.flr e.1) t)
    else .next t

end Sys2Proof.Machine
end

