-- ==== Sys2Proof/Machine/Errors.lean ====
section
/-! DEFINITION. Memory errors: what a corrected and an uncorrectable word of a frame, of a tile or of hub SRAM does, wherever it is met
(04_tile R133; 08_memory_tiers R252; 21_reliability R632 to R635). -/

namespace Sys2Proof.Machine

/-- Is a stack lost, or is it stack n, which is being lost? -/
def State.lostWith (s : State) (n d : Nat) : Bool := d == n || s.stackLost.getD d false

/-- Can page g not be had from its parity group once stack n is lost: its parity frame is lost, or another PARITY page of its
group (08_memory_tiers R252, R276)? -/
def State.groupBroken (s : State) (n : Nat) (g : Page) : Bool :=
  s.lostWith n (g.frame % 8) || s.pages.any (fun o =>
    o.2.flag 2 && o.2.tier == g.tier && o.2.frame == g.frame && o.2.die ≠ g.die && s.lostWith n o.2.die)

/-- The page that holds a frame, in its own copy or its mirror (08_memory_tiers R254). -/
def State.pageAt (s : State) (tier die f : Nat) : Option (Nat × Page) :=
  s.pages.find? (fun e => e.2.tier == tier && e.2.frame == f && (e.2.die == die || (e.2.flag 5 && e.2.mirrorDie == die)))

/-- The page of a retired frame moved to another frame, where one is to be had (21_reliability R633; log 10). -/
def State.moveOff (s : State) (tier die f : Nat) : State :=
  match s.pageAt tier die f with
  | none => s
  | some (k, g) => match s.placeIn g.owner tier (g.flag 2) (g.flag 5) .alloc with
    | none => s
    | some (t, x) => t.modPage k (fun v => t.copied v x)

/-- A corrected error of a place noted: how many of the last 24 h it has, whether it is to be logged (once in 24 h), and the state.
Tile words and words of hub SRAM stand in the list as kinds 3 and 4 beside tiers 0 and 1, what was logged 8 higher
(21_reliability R633, R652). -/
def State.noteCe (s : State) (kind die a : Nat) : Nat × Bool × State :=
  let now := s.wheel.marks
  let recent := s.ceCount.filter (fun e => decide (now < e.2.2.2 + 86400))
  let of := fun (k : Nat) => recent.filter (fun e => e.1 == k && e.2.1 == die && e.2.2.1 == a)
  let due := (of (kind + 8)).isEmpty
  ((of kind).length, due,
    { s with ceCount := recent ++ (kind, die, a, now) :: (if due then [(kind + 8, die, a, now)] else []) })

/-- A corrected error of a frame: counted, logged once in 24 h; the sixteenth in 24 h retires the frame (21_reliability R633,
R652). -/
def State.frameCe (s : State) (tier die f : Nat) : State :=
  let x := s.noteCe tier die f
  let t := x.2.2.devCount Ctr.memCe 1
  let u := if x.2.1 then t.logFault 0 (8 + die) 0xFFFF 0xFF 0 0 f 0 else t
  if 15 ≤ x.1 then (u.retire tier die f).moveOff tier die f else u

/-- A corrected error of a word of a tile: counted, logged once in 24 h (04_tile R133; 21_reliability R633, R652). -/
def State.tileWordCe (s : State) (t a : Nat) : State :=
  let x := s.noteCe 3 t a
  let u := (x.2.2.tileCount t TileCtr.eccCeCnt 1).devCount Ctr.memCe 1
  if x.2.1 then u.logFault 0 (t / 128) t 0xFF 0 0 a 0 else u

/-- A corrected error of a word of hub SRAM: counted, logged once in 24 h (21_reliability R633, R652). -/
def State.hubWordCe (s : State) (a : Nat) : State :=
  let x := s.noteCe 4 0 a
  let u := x.2.2.devCount Ctr.memCe 1
  if x.2.1 then u.logFault 0 17 0xFFFF 0xFF 0 0 a 0 else u

/-- An uncorrectable error of a frame: rebuilt from parity or mirror, reloaded from T2, recomputed, or LOST; a copy of a page that
loses its source is given up (08_memory_tiers R262, R276; 21_reliability R634, R652). -/
def State.frameUe (s : State) (tier die f : Nat) : State :=
  let t := s.devCount Ctr.memUe 1
  let note := fun (a : State) (p outcome : Nat) => a.logFault 1 (8 + die) 0xFFFF p outcome 0 f 0
  let still := fun (k : Nat) (g : Page) => if g.flag 4 then t.abandon k g else t
  match t.pageAt tier die f with
  | none => note t 0xFF 3
  | some (k, g) =>
    if g.flag 2 && !g.rebuild && !t.groupBroken g.die g then note (t.count g.owner Ctr.parityReconPages 1) g.owner 3
    else if g.flag 5 then note t g.owner 3
    else if g.flag 6 then note ((still k g).modPage k Page.dropped) g.owner 3
    else if g.poolKv then note (t.loseBlocks (fun r => (t.blkPages r).contains k)) g.owner 4
    else note ((still k g).modPage k (fun v => v.setFlag 7 true)).settle g.owner 5

/-- A corrected word met in a memory (04_tile R133; 21_reliability R633). -/
def State.corrected (s : State) (g : Region) : State :=
  match g with
  | .tileWord t a => if decide (1024 ≤ t) || s.tileGated t || !s.healthy t then s else s.tileWordCe t a
  | .frame tier die f => if decide (2 ≤ tier) || !(s.dies tier).contains die || decide (s.framesPer tier ≤ f) then s else s.frameCe tier die f
  | .hubSram a => if 2 ^ 29 ≤ a then s else s.hubWordCe a

/-- An uncorrectable word met in a frame (21_reliability R634). -/
def State.brokenFrame (s : State) (g : Region) : State :=
  match g with
  | .frame tier die f => if decide (2 ≤ tier) || !(s.dies tier).contains die || decide (s.framesPer tier ≤ f) then s else s.frameUe tier die f
  | _ => s

end Sys2Proof.Machine
end

