-- ==== Sys2Proof/Machine/Formats.lean ====
section
/-! DEFINITION. Number formats: the twelve FMT codes, their values, exact dyadic arithmetic with one rounding, FP32 sums
whose order is free, conversions, block scales and stochastic rounding (02_number_formats R31 to R69). -/

namespace Sys2Proof.Machine

/-- A value: NaN, an infinity, or (-1)^neg × m × 2^e, a zero keeping its sign (02 R33, R36). -/
inductive Num where
  | nan
  | inf (neg : Bool)
  | fin (neg : Bool) (m : Nat) (e : Int)
  deriving DecidableEq, Repr

/-- A floating format: exponent and fraction widths, bias, has it infinities and NaN codes, code of the largest finite
magnitude, canonical NaN (02 R33). -/
structure FFmt where
  eb : Nat
  mb : Nat
  bias : Nat
  ieee : Bool
  maxCode : Nat
  nanCode : Nat
  deriving DecidableEq, Repr

/-- FP32 (02 R33). -/
def fp32 : FFmt := ⟨8, 23, 127, true, 0x7F7FFFFF, 0x7FC00000⟩
/-- BF16. -/
def bf16 : FFmt := ⟨8, 7, 127, true, 0x7F7F, 0x7FC0⟩
/-- FP16. -/
def fp16 : FFmt := ⟨5, 10, 15, true, 0x7BFF, 0x7E00⟩
/-- FP8E4: no infinities, one NaN. -/
def fp8e4 : FFmt := ⟨4, 3, 7, false, 0x7E, 0x7F⟩
/-- FP8E5. -/
def fp8e5 : FFmt := ⟨5, 2, 15, true, 0x7B, 0x7E⟩
/-- FP4: neither infinities nor NaN. -/
def fp4 : FFmt := ⟨2, 1, 1, false, 7, 0⟩

/-- The sign bit of a code. -/
def FFmt.signBit (f : FFmt) : Nat := 2 ^ (f.eb + f.mb)

/-- The value of a code (02 R33, R34, R37). -/
def FFmt.decode (f : FFmt) (c : Nat) : Num :=
  let neg := bit c (f.eb + f.mb)
  let e := bits c f.mb f.eb
  let m := c % 2 ^ f.mb
  if f.ieee && e == 2 ^ f.eb - 1 then (if m = 0 then .inf neg else .nan)
  else if f == fp8e4 && c % 128 == 0x7F then .nan
  else if e = 0 then .fin neg m (1 - (f.bias : Int) - f.mb)
  else .fin neg (2 ^ f.mb + m) ((e : Int) - f.bias - f.mb)

/-- m × 2^(-d) rounded to the nearest integer, ties to even. -/
def shiftRne (m d : Nat) : Nat :=
  let q := m / 2 ^ d
  let r := m % 2 ^ d
  if d = 0 then m
  else if 2 ^ (d - 1) < r || (r == 2 ^ (d - 1) && q % 2 == 1) then q + 1 else q

/-- m × 2^e as an integer, rounded to the nearest, ties to even. -/
def roundInt (m : Nat) (e : Int) : Nat := if 0 ≤ e then m * 2 ^ e.toNat else shiftRne m (-e).toNat

/-- Exponent of the last place of a magnitude in a format, its subnormal spacing at least (02 R33, R59). -/
def FFmt.ulp (f : FFmt) (m : Nat) (e : Int) : Int :=
  max ((log2 m : Int) + e) (1 - (f.bias : Int)) - f.mb

/-- The code that a count of last places stands for; codes above the largest finite one go on (02 R59 step 3). -/
def FFmt.codeOf (f : FFmt) (q : Nat) (u : Int) : Nat := (u - (1 - (f.bias : Int) - f.mb)).toNat * 2 ^ f.mb + q

/-- The magnitude m × 2^e rounded to nearest even with unbounded exponent, as a code (02 R59 step 3). -/
def FFmt.round (f : FFmt) (m : Nat) (e : Int) : Nat :=
  if m = 0 then 0 else f.codeOf (roundInt m (e - f.ulp m e)) (f.ulp m e)

/-- The magnitude rounded stochastically with 16 random bits (02 R65). -/
def FFmt.roundSr (f : FFmt) (m : Nat) (e : Int) (r : Nat) : Nat :=
  if m = 0 then 0
  else
    let u := f.ulp m e
    let d := u - e
    if d ≤ 0 then f.codeOf (m * 2 ^ (-d).toNat) u
    else
      let q := m / 2 ^ d.toNat
      let part := m % 2 ^ d.toNat * 65536 / 2 ^ d.toNat
      f.codeOf (if r % 65536 < part then q + 1 else q) u

/-- A conversion's result: the code, whether it counts as saturated, whether it is a NaN event (02 R61, R62). -/
structure Conv where
  code : Nat
  sat : Bool := false
  nan : Bool := false
  deriving DecidableEq, Repr

/-- The sign bit added to a magnitude's code. -/
def FFmt.withSign (f : FFmt) (neg : Bool) (c : Nat) : Nat := if neg then c + f.signBit else c

/-- A value placed in a floating target, `sr` the random bits of stochastic rounding. Under SR step 3 is the stochastic
rounding, so step 4 and the count of saturations look at its result (02 R59, R61, R62, R64). -/
def FFmt.convert (f : FFmt) (sr : Option Nat) : Num → Conv
  | .nan => { code := f.nanCode, nan := f == fp4 }
  | .inf neg =>
    if f.ieee then { code := f.withSign neg (2 ^ (f.eb + f.mb) - 2 ^ f.mb) }
    else { code := f.withSign neg f.maxCode, sat := true }
  | .fin neg m e =>
    let c := match sr with
      | none => f.round m e
      | some r => f.roundSr m e r
    { code := f.withSign neg (min c f.maxCode), sat := decide (f.maxCode < c) }

/-- An integer of w bits, two's complement, from a value (02 R59). -/
def convInt (w : Nat) : Num → Conv
  | .nan => { code := 0, nan := true }
  | .inf neg => { code := if neg then 2 ^ (w - 1) else 2 ^ (w - 1) - 1, sat := true }
  | .fin neg m e =>
    let q := roundInt m e
    let top := if neg then 2 ^ (w - 1) else 2 ^ (w - 1) - 1
    let v := min q top
    { code := if neg then (2 ^ w - v) % 2 ^ w else v, sat := decide (top < q) }

/-- A T2 code from a value (02 R39, R59). -/
def convT2 : Num → Conv
  | .nan => { code := 0, nan := true }
  | .inf neg => { code := if neg then 3 else 1, sat := true }
  | .fin neg m e =>
    let q := roundInt m e
    { code := if q = 0 then 0 else if neg then 3 else 1, sat := decide (1 < q) }

/-- A B1 bit from a value: the sign rule (02 R41, R59). -/
def convB1 : Num → Conv
  | .nan => { code := 1, nan := true }
  | .inf neg => { code := if neg then 0 else 1, sat := true }
  | .fin neg m _ => { code := if neg && m ≠ 0 then 0 else 1 }

/-! ## FMT codes (02 R31) -/

/-- Bits of an element. -/
def fmtBits : Nat → Nat
  | 0x0 => 32
  | 0x1 => 16
  | 0x2 => 16
  | 0x3 => 8
  | 0x4 => 8
  | 0x5 => 8
  | 0x6 => 4
  | 0x7 => 4
  | 0x8 => 4
  | 0x9 => 8
  | 0xA => 2
  | _ => 1

/-- Is the format of integer class (02 R31)? -/
def fmtInt (f : Nat) : Bool := f == 5 || f == 7 || f == 0xA || f == 0xB

/-- Is an operand of this format, with its BLK flag, blocked (02 R31, R52)? BLK on a format that is not blockable has no effect
(DESIGN CHOICE, log 37). -/
def fmtBlocked (f : Nat) (blk : Bool) : Bool := f == 6 || f == 7 || f == 8 || f == 0xA || ((f == 3 || f == 4) && blk)

/-- An integer as a value. -/
def Num.ofInt (i : Int) : Num := .fin (decide (i < 0)) i.natAbs 0

/-- The value of a code before its scales; a codebook code stands for its entry (02 R33 to R41, R54, R59). -/
def fmtValue (f c : Nat) (book : Nat → Nat) : Num :=
  match f with
  | 0x0 => fp32.decode c
  | 0x1 => bf16.decode c
  | 0x2 => fp16.decode c
  | 0x3 => fp8e4.decode c
  | 0x4 => fp8e5.decode c
  | 0x5 => .ofInt (signed 8 c)
  | 0x6 => fp4.decode c
  | 0x7 => .ofInt (signed 4 c)
  | 0x8 => bf16.decode (book c)
  | 0x9 => bf16.decode (book c)
  | 0xA => if c = 1 then .ofInt 1 else if c = 3 then .ofInt (-1) else .ofInt 0
  | _ => .ofInt (if c = 1 then 1 else -1)

/-- A weight as the array holds it: CB8 is decoded to FP8E4 as it is loaded, every other format is kept (02 R47). -/
def cellValue (f : Nat) (x : Num) : Num := if f = 9 then fp8e4.decode (fp8e4.convert none x).code else x

/-- Is a code of a format a NaN (02 R33)? -/
def fmtIsNan (f c : Nat) : Bool := decide (f < 5) && fmtValue f c (fun _ => 0) == .nan

/-- A value placed in a target format (02 R59, R64). -/
def fmtConvert (f : Nat) (sr : Option Nat) (x : Num) : Conv :=
  match f with
  | 0x0 => fp32.convert none x
  | 0x1 => bf16.convert none x
  | 0x2 => fp16.convert none x
  | 0x3 => fp8e4.convert sr x
  | 0x4 => fp8e5.convert sr x
  | 0x5 => convInt 8 x
  | 0x6 => fp4.convert sr x
  | 0x7 => convInt 4 x
  | 0xA => convT2 x
  | _ => convB1 x

/-! ## FP32 arithmetic (02 R34 to R36, R51) -/

/-- A value rounded to FP32, an overflow giving an infinity. -/
def f32 : Num → Num
  | .fin neg m e =>
    let c := fp32.round m e
    if fp32.maxCode < c then .inf neg else fp32.decode (fp32.withSign neg c)
  | x => x

/-- The code of an FP32 value. -/
def f32Code (x : Num) : Nat :=
  match x with
  | .nan => fp32.nanCode
  | .inf neg => fp32.withSign neg 0x7F800000
  | .fin neg m e => fp32.withSign neg (min (fp32.round m e) 0x7F800000)

/-- The value with its sign changed. -/
def Num.neg : Num → Num
  | .nan => .nan
  | .inf b => .inf !b
  | .fin b m e => .fin (!b) m e

/-- The magnitude. -/
def Num.abs : Num → Num
  | .nan => .nan
  | .inf _ => .inf false
  | .fin _ m e => .fin false m e

/-- Exact product (02 R36). -/
def Num.mul : Num → Num → Num
  | .nan, _ => .nan
  | _, .nan => .nan
  | .inf a, .inf b => .inf (a != b)
  | .inf a, .fin b m _ => if m = 0 then .nan else .inf (a != b)
  | .fin a m _, .inf b => if m = 0 then .nan else .inf (a != b)
  | .fin a m e, .fin b n f => .fin (a != b) (m * n) (e + f)

/-- Numerator of a finite value over 2^g, g not above its exponent. -/
def scaled (neg : Bool) (m : Nat) (e g : Int) : Int :=
  let v : Int := ((m * 2 ^ (e - g).toNat : Nat) : Int)
  if neg then -v else v

/-- Exact sum; +0 where both operands cancel or one is +0 (02 R36). -/
def Num.add : Num → Num → Num
  | .nan, _ => .nan
  | _, .nan => .nan
  | .inf a, .inf b => if a = b then .inf a else .nan
  | .inf a, _ => .inf a
  | _, .inf b => .inf b
  | .fin a m e, .fin b n f =>
    let g := min e f
    let v := scaled a m e g + scaled b n f g
    if v = 0 then .fin (a && b) 0 0 else .fin (decide (v < 0)) v.natAbs g

/-- a < b among numbers; false where either is NaN. -/
def Num.lt : Num → Num → Bool
  | .nan, _ => false
  | _, .nan => false
  | .inf a, .inf b => a && !b
  | .inf a, _ => a
  | _, .inf b => !b
  | .fin a m e, .fin b n f => decide (scaled a m e (min e f) < scaled b n f (min e f))

/-- Are two values equal as numbers? -/
def Num.eqv (a b : Num) : Bool := a ≠ .nan && b ≠ .nan && !a.lt b && !b.lt a

/-- The larger of two values, NaN taken as absent. -/
def Num.max (a b : Num) : Num := if a = .nan then b else if b = .nan then a else if a.lt b then b else a

/-- Quotient with enough places for one correct rounding to FP32, the rest of it told by a last sticky bit (02 R36). -/
def Num.div : Num → Num → Num
  | .nan, _ => .nan
  | _, .nan => .nan
  | .inf _, .inf _ => .nan
  | .inf a, .fin b _ _ => .inf (a != b)
  | .fin a _ _, .inf b => .fin (a != b) 0 0
  | .fin a m e, .fin b n f =>
    if n = 0 then (if m = 0 then .nan else .inf (a != b))
    else
      let k := 64 + log2 n
      let q := m * 2 ^ k / n
      let sticky := if m * 2 ^ k % n = 0 then 0 else 1
      .fin (a != b) (2 * q + sticky) (e - f - k - 1)

/-- FP32 sum, product, quotient. -/
def add32 (a b : Num) : Num := f32 (a.add b)
def mul32 (a b : Num) : Num := f32 (a.mul b)
def div32 (a b : Num) : Num := f32 (a.div b)

/-- A list summed in an order that the block leaves open: draw `c` names the pair that is added next (02 R51, R57, R67). -/
def sumFree {α : Type} (add : α → α → α) (zero : α) (c : Nat) : Nat → List α → α
  | 0, l => l.foldl add zero
  | _, [] => zero
  | _, [x] => x
  | n + 1, l =>
    let i := Config.sumOrder c l.length % l.length
    let x := l.getD i zero
    let rest := l.eraseIdx i
    let j := Config.sumOrder c l.length / l.length % rest.length
    sumFree add zero c n (rest.set j (add x (rest.getD j zero)))

/-- FP32 sum of a list (02 R51). -/
def sum32 (c : Nat) (l : List Num) : Num := sumFree add32 (.fin false 0 0) c l.length l

/-- INT32 addition that saturates, counting each saturation (02 R50). -/
def addSat (a b : Int × Nat) : Int × Nat :=
  let v := a.1 + b.1
  if v < -(2 ^ 31 : Int) then (-(2 ^ 31 : Int), a.2 + b.2 + 1)
  else if (2 ^ 31 : Int) - 1 < v then ((2 ^ 31 : Int) - 1, a.2 + b.2 + 1)
  else (v, a.2 + b.2)

/-- INT32 sum of a list with the saturating additions counted (02 R50, R67). -/
def sumInt (c : Nat) (l : List Int) : Int × Nat := sumFree addSat (0, 0) c l.length (l.map (fun i => (i, 0)))

/-- The sums of the passes of `kp` reduction elements each, exact: 512 products of 8-bit operands stay far below 2^31
(02 R50, 04_tile R107, 05_array_dataflow R148). -/
def passSums (kp : Nat) : Nat → List Int → List Int
  | 0, _ => []
  | _, [] => []
  | n + 1, l => (l.take kp).sum :: passSums kp n (l.drop kp)

/-- The integer that a value of integer class holds. -/
def Num.toInt : Num → Int
  | .fin neg m e => if neg then -(roundInt m e : Int) else (roundInt m e : Int)
  | _ => 0

/-! ## Packing and planes (02 R42, R43, R45, R53; 06_operations R185) -/

/-- Bytes of a packed row of `n` elements of `w` bits (02 R43). -/
def rowBytes (w n : Nat) : Nat := ceilDiv (w * n) 8

/-- Code of element i of a packed row (02 R42). -/
def codeAt (w : Nat) (row : List Byte) (i : Nat) : Nat := bits (leNat row) (w * i) w

/-- The bytes of a packed row of codes (02 R42, R43). -/
def packRow (w : Nat) (codes : List Nat) : List Byte :=
  leBytes (rowBytes w codes.length) (codes.zipIdx.foldl (fun a e => a + (e.1 % 2 ^ w) * 2 ^ (w * e.2)) 0)

/-- Offsets of the planes of an operand from its code plane on: first-level scales, second-level scales, codebook, end
(06_operations R185). -/
structure Planes where
  s1 : Nat
  s2 : Nat
  book : Nat
  size : Nat
  deriving DecidableEq, Repr

/-- The planes of an operand of `rows` rows of `k` elements. -/
def planes (f : Nat) (blk : Bool) (k rows : Nat) : Planes :=
  let codes := rowBytes (fmtBits f) k * rows
  let blocked := fmtBlocked f blk
  let s1 := roundUp codes 256
  let end1 := if blocked then s1 + rows * ceilDiv k 32 else codes
  let s2 := roundUp end1 256
  let end2 := if blocked then s2 + 4 * rows * ceilDiv k 8192 else end1
  let book := roundUp end2 256
  let slice := if f = 8 then 32 else 512
  let size := if f = 8 || f = 9 then book + slice * ceilDiv rows 64 else end2
  { s1 := s1, s2 := s2, book := book, size := size }

/-- Is a first-level scale byte invalid (02 R56)? -/
def scaleBad (b : Nat) : Bool := decide (0x80 ≤ b) || b == 0x7F

/-- An operand read: its codes and values row by row before the scales, its scales as bits and as values, and what was met in
reading. -/
structure Tensor where
  codes : List (List Nat)
  raw1 : List (List Nat)
  raw2 : List (List Nat)
  books : List (List Num)
  vals : List (List Num)
  s1 : List (List Num)
  s2 : List (List Num)
  blocked : Bool
  reserved : Nat
  badScale : Bool
  deriving DecidableEq, Repr

/-- The values of an operand's bytes (02 R40, R45, R53 to R56). -/
def readTensor (f : Nat) (blk : Bool) (k rows : Nat) (bs : List Byte) : Tensor :=
  let w := fmtBits f
  let p := planes f blk k rows
  let blocked := fmtBlocked f blk
  let codes := (List.range rows).map (fun n =>
    let row := (bs.drop (n * rowBytes w k)).take (rowBytes w k)
    (List.range k).map (codeAt w row))
  let slice := if f = 8 then 32 else 512
  let book := fun n c => field bs (p.book + n / 64 * slice + 2 * c) 2
  let s1b := if blocked then (List.range rows).map (fun n => (List.range (ceilDiv k 32)).map (fun b =>
    field bs (p.s1 + n * ceilDiv k 32 + b) 1)) else []
  let s2b := if blocked then (List.range rows).map (fun n => (List.range (ceilDiv k 8192)).map (fun g =>
    field bs (p.s2 + 4 * (n * ceilDiv k 8192 + g)) 4)) else []
  { codes := codes
    raw1 := s1b
    raw2 := s2b
    books := if f = 8 then (List.range (ceilDiv rows 64)).map (fun j => (List.range 16).map (fun c => bf16.decode (book (64 * j) c))) else []
    vals := codes.zipIdx.map (fun e => e.1.zipIdx.map (fun c =>
      if blocked && (s1b.getD e.2 []).getD (c.2 / 32) 1 == 0 then Num.fin false 0 0 else fmtValue f c.1 (book e.2)))
    s1 := s1b.map (fun r => r.map (fun b => if scaleBad b then Num.nan else fp8e4.decode b))
    s2 := s2b.map (fun r => r.map fp32.decode)
    blocked := blocked
    reserved := if f = 0xA then (codes.map (fun r => r.countP (fun c => c == 2))).sum else 0
    badScale := s1b.any (fun r => r.any scaleBad) }

/-- 1.0 -/
def one : Num := .fin false 1 0

/-- Entry c of the codebook of slice j (02 R44, R45). -/
def Tensor.book (t : Tensor) (j c : Nat) : Num := (t.books.getD j []).getD c (.fin false 0 0)

/-- First-level scale of block b of row n, 1.0 where the operand is not blocked (02 R57). -/
def Tensor.scale1 (t : Tensor) (n b : Nat) : Num := if t.blocked then (t.s1.getD n []).getD b one else one
/-- Second-level scale of group g of row n. -/
def Tensor.scale2 (t : Tensor) (n g : Nat) : Num := if t.blocked then (t.s2.getD n []).getD g one else one

/-- The real values of a tensor's row: code value × scales; every element of a block with scale byte 0x00 is 0 (02 R54,
R56). -/
def Tensor.row (t : Tensor) (n : Nat) : List Num :=
  (t.vals.getD n []).zipIdx.map (fun e =>
    if (t.scale1 n (e.2 / 32)).eqv (.fin false 0 0) then .fin false 0 0
    else (e.1.mul (t.scale2 n (e.2 / 8192))).mul (t.scale1 n (e.2 / 32)))

/-! ## One output of a matrix product (02 R49, R57) -/

/-- Products of the elements of two rows over a range of k. -/
def prods (w a : List Num) (lo n : Nat) : List Num :=
  (((w.drop lo).take n).zip ((a.drop lo).take n)).map (fun e => e.1.mul e.2)

/-- The sum of exact products, each addition rounding to FP32 (02 R51, R57; 05_array_dataflow R143). -/
def sumProds (c : Nat) (ps : List Num) : Num := f32 (sum32 c (.fin false 0 0 :: ps))

/-- The terms that an unblocked or blocked product adds to its accumulator entry: the products themselves, or one scaled sum for
each scale group. A block sum of 4-bit and narrower integers or FP4 on both sides is exact (02 R57). -/
def dotTerms (exact : Bool) (w a : Tensor) (n m k c : Nat) : List Num :=
  let wr := w.vals.getD n []
  let ar := a.vals.getD m []
  if !w.blocked && !a.blocked then prods wr ar 0 k
  else
    let group := fun g =>
      sum32 (c + g) (Num.fin false 0 0 :: (List.range 256).filterMap (fun i =>
        let b := 256 * g + i
        if k ≤ 32 * b then none
        else
          let ps := prods wr ar (32 * b) 32
          let p := if exact then f32 (ps.foldl Num.add (.fin false 0 0)) else sumProds (c + b) ps
          some (mul32 p (mul32 (w.scale1 n b) (a.scale1 m b)))))
    (List.range (ceilDiv k 8192)).map (fun g => mul32 (group g) (mul32 (w.scale2 n g) (a.scale2 m g)))

/-- The FP32 sum of two rows, with the accumulator's earlier value among its terms (02 R57). -/
def dotFloat (exact : Bool) (w a : Tensor) (n m k c : Nat) (start : Num) : Num :=
  sumProds c (start :: dotTerms exact w a n m k c)

/-! ## Scales chosen by QUANT (02 R58) -/

/-- Qmax of a target (02 R58). -/
def qmax : Nat → Nat
  | 0x6 => 6
  | 0x7 => 7
  | 0xA => 1
  | 0x3 => 448
  | _ => 57344

/-- The largest finite magnitude of a list, 0 where none. -/
def amax (l : List Num) : Num :=
  l.foldl (fun a x => match x with
    | .fin _ m e => a.max (.fin false m e)
    | _ => a) (.fin false 0 0)

/-- The smallest FP8E4 value not below a magnitude (02 R58). -/
def roundUpE4 (x : Num) : Nat :=
  match (List.range 0x7E).find? (fun c => !(fp8e4.decode (c + 1)).lt x) with
  | some c => c + 1
  | none => 0x7E

/-- A row quantised to a blocked target: its codes with their events, its first-level bytes, its second-level codes
(02 R58). -/
def quantRow (f : Nat) (sr : Nat → Option Nat) (row : List Num) : List Conv × List Nat × List Nat :=
  let q : Num := .fin false (qmax f) 0
  let s2 := (pieces 8192 (ceilDiv row.length 8192) row).map (fun g =>
    let a := amax g
    if a.eqv (.fin false 0 0) then one else div32 a ((Num.fin false 448 0).mul q))
  let s1 := (pieces 32 (ceilDiv row.length 32) row).zipIdx.map (fun e =>
    let a := amax e.1
    if a.eqv (.fin false 0 0) && e.1.all (fun x => match x with | .fin _ _ _ => true | _ => false) then 0
    else if a.eqv (.fin false 0 0) then 0x38
    else roundUpE4 (a.div ((s2.getD (e.2 / 256) one).mul q)))
  let cs := row.zipIdx.map (fun (e : Num × Nat) =>
    let b := s1.getD (e.2 / 32) 0
    if b = 0 then ({ code := 0 } : Conv)
    else fmtConvert f (sr e.2) (div32 e.1 ((fp8e4.decode b).mul (s2.getD (e.2 / 8192) one))))
  (cs, s1, s2.map f32Code)

/-- The planes of an output of `rows` in a target format, each with its offset, and the events of its conversions. The bytes
between the planes are not written (02 R53, 06_operations R185; DESIGN CHOICE, log 37). -/
def writeTensor (f : Nat) (blk : Bool) (sr : Nat → Option Nat) (k : Nat) (rows : List (List Num)) :
    List (Nat × List Byte) × List Conv :=
  let w := fmtBits f
  let p := planes f blk k rows.length
  if fmtBlocked f blk then
    let qs := rows.zipIdx.map (fun e => quantRow f (fun i => sr (e.2 * k + i)) e.1)
    ([(0, qs.flatMap (fun q => packRow w (q.1.map Conv.code))),
      (p.s1, qs.flatMap (fun q => q.2.1.map (fun b => BitVec.ofNat 8 b))),
      (p.s2, qs.flatMap (fun q => q.2.2.flatMap (leBytes 4)))], qs.flatMap (fun q => q.1))
  else
    let cs := rows.zipIdx.map (fun e => e.1.zipIdx.map (fun x => fmtConvert f (sr (e.2 * k + x.2)) x.1))
    ([(0, cs.flatMap (fun r => packRow w (r.map Conv.code)))], cs.flatMap id)

/-- The bytes of an output that is not blocked: one plane of packed rows (02 R43). -/
def plainBytes (f k : Nat) (rows : List (List Num)) : List Byte :=
  ((writeTensor f false (fun _ => none) k rows).1.map Prod.snd).flatMap id

end Sys2Proof.Machine
end

