-- ==== Sys2Proof/Machine/Approx.lean ====
section
/-! DEFINITION. The vector unit's operations (04_tile R114 to R116): the approximations with their special values and error bounds,
the FP32 and INT32 operations of the lanes, and the addresses of a strided transfer (R119). -/

namespace Sys2Proof.Machine

/-! ## Exact references, in 128 places after the point -/

/-- ln 2 times 2^128, from ln 2 = 2 artanh(1/3). -/
def ln2Fix : Nat :=
  2 * ((List.range 48).map (fun k => 2 ^ 144 / ((2 * k + 1) * 3 ^ (2 * k + 1)))).sum / 2 ^ 16

/-- e^(r / 2^128) times 2^128 for r below 2^128: 48 terms of its series. -/
def expFix (r : Nat) : Nat :=
  ((List.range 48).foldl (fun (a : Nat × Nat) k => (a.1 + a.2, a.2 * r / ((k + 1) * 2 ^ 128))) (0, 2 ^ 128)).1

/-- ln of m / 2^(log2 m) times 2^128: twice the series of artanh. -/
def lnFix (m : Nat) : Nat :=
  let one' := 2 ^ 128
  let x := m * one' / 2 ^ log2 m
  let t := (x - one') * one' / (x + one')
  2 * ((List.range 96).foldl (fun (a : Nat × Nat) k => (a.1 + a.2 / (2 * k + 1), a.2 * t / one' * t / one')) (0, t)).1

/-- Integer square root by bits from bit n - 1 down. -/
def isqrt : Nat → Nat → Nat → Nat
  | 0, _, r => r
  | n + 1, v, r => isqrt n v (if (r + 2 ^ n) * (r + 2 ^ n) ≤ v then r + 2 ^ n else r)

/-- A finite value times 2^128, rounded down. -/
def fix128 (neg : Bool) (m : Nat) (e : Int) : Int :=
  let v : Int := if 0 ≤ e + 128 then (m * 2 ^ (e + 128).toNat : Nat) else (m / 2 ^ (-(e + 128)).toNat : Nat)
  if neg then -v else v

/-- e^(x / 2^128) as a dyadic value. -/
def expRef (x : Int) : Num :=
  let n := x / (ln2Fix : Int)
  .fin false (expFix (x - n * (ln2Fix : Int)).toNat) (n - 128)

/-- ln of m × 2^e times 2^128. -/
def lnRef (m : Nat) (e : Int) : Int := (lnFix m : Int) + (((log2 m : Nat) : Int) + e) * (ln2Fix : Int)

/-- A value of so many 2^-128. -/
def ofFix (v : Int) : Num := .fin (decide (v < 0)) v.natAbs (-128)

/-! ## The approximations (04_tile R116) -/

/-- The value that the part returns where its candidate lies within a tolerance of the exact value; which bits it returns within its
bound nothing says, so outside it the correctly rounded value stands (R116, log 8). -/
def within (cand exact tol : Num) : Num :=
  if cand = .nan || tol.lt (cand.add exact.neg).abs then f32 exact else cand

/-- n units in the last place of a value in FP32. -/
def ulps (n : Nat) : Num → Num
  | .fin _ m e => .fin false n (fp32.ulp m e)
  | _ => .fin false 0 0

/-- A candidate's bits as a value. -/
def candidate (f : Word → Word) (x : Num) : Num := fp32.decode (f (BitVec.ofNat 32 (f32Code x))).toNat

/-- Is a magnitude normal in FP32? -/
def normal32 : Num → Bool
  | .fin _ m e => !(Num.fin false m e).lt (.fin false 1 (-126))
  | _ => false

/-- An exponential with exact value `y`: 2 ulp where the result is normal, overflow to +∞ (R116). -/
def expLike (cand y : Num) : Num :=
  if f32 y = .inf false then .inf false else if normal32 y then within cand y (ulps 2 y) else cand

/-- EXP (R116). Beyond ±1,024 the result has overflowed or is below every subnormal. -/
def expNum (x : Num) : Num :=
  match x with
  | .nan => .nan
  | .inf neg => if neg then .fin false 0 0 else .inf false
  | .fin neg m e =>
    if (Num.fin false 1024 0).lt (.fin false m e) then (if neg then candidate Config.expBits x else .inf false)
    else expLike (candidate Config.expBits x) (expRef (fix128 neg m e))

/-- EXP2 (R116). -/
def exp2Num (x : Num) : Num :=
  match x with
  | .nan => .nan
  | .inf neg => if neg then .fin false 0 0 else .inf false
  | .fin neg m e =>
    if (Num.fin false 1024 0).lt (.fin false m e) then (if neg then candidate Config.exp2Bits x else .inf false)
    else expLike (candidate Config.exp2Bits x) (expRef (fix128 neg m e * (ln2Fix : Int) / 2 ^ 128))

/-- A logarithm with exact value `y`: an absolute error of 2^-22 for inputs in [0.5, 2], else 2 ulp (R116). -/
def logLike (cand x y : Num) : Num :=
  if x.lt (.fin false 1 (-1)) || (Num.fin false 2 0).lt x then within cand y (ulps 2 y) else within cand y (.fin false 1 (-22))

/-- LOG (R116). -/
def logNum (x : Num) : Num :=
  match x with
  | .nan => .nan
  | .inf neg => if neg then .nan else .inf false
  | .fin neg m e =>
    if m = 0 then .inf true
    else if neg then .nan
    else logLike (candidate Config.logBits x) x (ofFix (lnRef m e))

/-- LOG2 (R116). -/
def log2Num (x : Num) : Num :=
  match x with
  | .nan => .nan
  | .inf neg => if neg then .nan else .inf false
  | .fin neg m e =>
    if m = 0 then .inf true
    else if neg then .nan
    else logLike (candidate Config.log2Bits x) x (ofFix (lnRef m e * 2 ^ 128 / (ln2Fix : Int)))

/-- RCP (R116). -/
def rcpNum (x : Num) : Num :=
  match x with
  | .nan => .nan
  | .inf neg => .fin neg 0 0
  | .fin neg m e =>
    if m = 0 then .inf neg
    else
      let y := one.div (.fin neg m e)
      within (candidate Config.rcpBits x) y (ulps 1 y)

/-- RSQRT (R116). -/
def rsqrtNum (x : Num) : Num :=
  match x with
  | .nan => .nan
  | .inf neg => if neg then .nan else .fin false 0 0
  | .fin neg m e =>
    if m = 0 then .inf neg
    else if neg then .nan
    else
      let odd := e % 2 = 1
      let y : Num := .fin false (isqrt 160 (2 ^ 256 / (if odd then 2 * m else m)) 0) ((-256 - (if odd then e - 1 else e)) / 2)
      within (candidate Config.rsqrtBits x) y (ulps 1 y)

/-! ## FP32 and INT32 operations of the lanes (04_tile R115) -/

/-- FP32 difference. -/
def sub32 (a b : Num) : Num := add32 a b.neg

/-- The smaller of two values, NaN taken as absent. -/
def Num.min (a b : Num) : Num := if a = .nan then b else if b = .nan then a else if b.lt a then b else a

/-- An INT32 result: it wraps (R115). -/
def wrap32 (i : Int) : Int := signed 32 (unsigned 32 i)

/-- A two-operand FP32 operation of the lanes: add, subtract, multiply, min, max, compare as 1 or 0 (R115). -/
def laneFp (op : Nat) (a b : Num) : Num :=
  match op with
  | 0 => add32 a b
  | 1 => sub32 a b
  | 2 => mul32 a b
  | 3 => if a = .nan || b = .nan then .nan else a.min b
  | 4 => if a = .nan || b = .nan then .nan else a.max b
  | _ => if a.lt b then one else .fin false 0 0

/-- A two-operand INT32 operation of the lanes: add, subtract, low 32 bits of a product, min, max, compare as 1 or 0, the
shifts, AND, OR, XOR (R115). -/
def laneInt (op : Nat) (a b : Int) : Int :=
  let ua := unsigned 32 a
  let ub := unsigned 32 b
  match op with
  | 0 => wrap32 (a + b)
  | 1 => wrap32 (a - b)
  | 2 => wrap32 (a * b)
  | 3 => if a < b then a else b
  | 4 => if a < b then b else a
  | 5 => if a < b then 1 else 0
  | 6 => signed 32 (ua * 2 ^ (ub % 32) % 2 ^ 32)
  | 7 => signed 32 (ua / 2 ^ (ub % 32))
  | 8 => signed 32 (Nat.land ua ub)
  | 9 => signed 32 (Nat.lor ua ub)
  | _ => signed 32 (Nat.xor ua ub)

/-- A list reduced by sum, max or min in FP32: a sum's additions in an order left open, the network's min and max exact (R51,
R115). -/
def reduceFp (op c : Nat) (l : List Num) : Num :=
  if op = 0 then sum32 c l
  else if l.any (fun x => x = .nan) then .nan
  else match l with
    | [] => .fin false 0 0
    | x :: t => t.foldl (if op = 1 then Num.max else Num.min) x

/-- A list reduced by sum, max or min in INT32, additions wrapping (R115). -/
def reduceInt (op : Nat) (l : List Int) : Int :=
  match l with
  | [] => 0
  | x :: t => t.foldl (laneInt (if op = 0 then 0 else if op = 1 then 4 else 3)) x

/-! ## Transfers (04_tile R119, R120) -/

/-- The addresses of a strided transfer, the last dimension innermost: each dimension a count and a signed stride in bytes (R119). -/
def strided (base : Int) : List (Nat × Int) → List Nat
  | [] => [base.toNat]
  | (n, st) :: t => (List.range n).flatMap (fun i => strided (base + (i : Int) * st) t)

/-- Sort-and-unique: the ascending unique list, its count, and for each input position the place of its index in that list (R120). -/
def sortUnique (l : List Nat) : List Nat × Nat × List Nat :=
  let u := sortBy (fun a b => decide (a < b)) l.dedup
  (u, u.length, l.map (fun i => u.idxOf i))

/-- The results of sort-and-unique as bytes: the unique list of `w` bytes each, the count in 32 bits, the inverse entries in 16
(R120). -/
def sortUniqueBytes (w : Nat) (l : List Nat) : List Byte × List Byte × List Byte :=
  let r := sortUnique l
  (r.1.flatMap (leBytes w), leBytes 4 r.2.1, r.2.2.flatMap (leBytes 2))

/-- Scatter: rows written to rows of a table that an index list names, an index at or above the bound writing nothing; the rows in
the list's order, the last write to a row standing (R119, R122). -/
def scatterRows (bound n : Nat) (idx : List Nat) (rows : List (List Byte)) : List (Nat × List Byte) :=
  (idx.zip rows).filterMap (fun e => if e.1 < bound then some (e.1 * n, e.2) else none)

end Sys2Proof.Machine
end

