-- ==== Sys2Proof/Machine/Select.lean ====
section
/-! DEFINITION. Selection: the result order, result records, TOPK, SORT, ARGMAX and MERGE (07_selection R216 to R241). -/

namespace Sys2Proof.Machine

/-! ## The result order (07_selection R216, R220, R221) -/

/-- One element of a row: its key as a value, KEY as a selection entry holds it, its tag. -/
structure SelEl where
  key : Num
  raw : Nat
  tag : Nat
  deriving DecidableEq, Repr

/-- Bytes of a key of type KTYPE (07 R220). -/
def keyBytes (ktype : Nat) : Nat := if ktype = 1 || ktype = 2 || ktype = 5 then 2 else 4

/-- The value of a key (07 R220). -/
def keyVal (ktype c : Nat) : Num :=
  match ktype with
  | 0 => fp32.decode c
  | 1 => bf16.decode c
  | 2 => fp16.decode c
  | 3 => .ofInt (signed 32 c)
  | _ => .ofInt c

/-- KEY of a selection entry (07 R224). -/
def keyRaw (ktype c : Nat) : Nat :=
  if ktype ≤ 2 then f32Code (keyVal ktype c) else c

/-- Does element a come strictly before b in result order, positions apart (07 R216, 04_tile R117)? -/
def selBefore (desc : Bool) (a b : SelEl) : Bool :=
  if a.key = .nan then b.key = .nan && decide (a.tag < b.tag)
  else if b.key = .nan then true
  else if a.key.lt b.key then !desc
  else if b.key.lt a.key then desc
  else decide (a.tag < b.tag)

/-- Elements in result order; those with equal key and tag keep their input order (07 R216). -/
def selSort (desc : Bool) (l : List SelEl) : List SelEl := sortBy (selBefore desc) l

/-- The elements of one row (07 R220, R221). -/
def rowEls (ktype tagBase : Nat) (codes : List Nat) (tags : Option (List Nat)) : List SelEl :=
  codes.zipIdx.map (fun e =>
    { key := keyVal ktype e.1, raw := keyRaw ktype e.1
      tag := match tags with
        | none => (tagBase + e.2) % 2 ^ 32
        | some t => t.getD e.2 0 })

/-- The elements without NaN keys where DROP_NAN asks for it (07 R218). -/
def dropNan (drop : Bool) (l : List SelEl) : List SelEl := if drop then l.filter (fun e => e.key ≠ .nan) else l

/-! ## Result records (07_selection R223 to R226) -/

/-- A selection entry (07 R224). -/
def selEntry (e : SelEl) : List Byte := leBytes 4 e.raw ++ leBytes 4 e.tag

/-- One entry of an item list (07 R225). -/
structure ItemEl where
  id : Nat
  epoch : Nat
  dist : Nat
  deriving DecidableEq, Repr

/-- An item entry (07 R225). -/
def itemEntry (e : ItemEl) : List Byte := leBytes 8 e.id ++ leBytes 6 e.epoch ++ leBytes 2 e.dist

/-- The ITEM_ID of padding (07 R225). -/
def padId : Nat := 0xFFFFFFFFFFFFFFFF

/-- The stride of a record of `cap` entries of `e` bytes (07 R226). -/
def recStride (e cap : Nat) : Nat := roundUp (32 + e * cap) 32

/-- The header fields of a result record (07 R223). -/
structure RecHdr where
  kcap : Nat
  valid : Nat
  ekind : Nat := 0
  hflags : Nat := 0
  shard : Nat := 0xFFFF
  src : Nat := 1
  inCnt : Nat
  dup : Nat := 0
  epoch : Nat := 0
  deriving DecidableEq, Repr

/-- The 32 bytes of a header (07 R223). -/
def RecHdr.bytes (h : RecHdr) : List Byte :=
  leBytes 4 h.kcap ++ leBytes 4 h.valid ++ leBytes 1 h.ekind ++ leBytes 1 h.hflags ++ leBytes 2 h.shard ++ leBytes 4 h.src ++
    leBytes 4 h.inCnt ++ leBytes 4 h.dup ++ leBytes 8 (h.epoch % 2 ^ 48)

/-- A header read from bytes (07 R223). -/
def readHdr (b : List Byte) : RecHdr :=
  { kcap := field b 0 4, valid := field b 4 4, ekind := field b 8 1, hflags := field b 9 1, shard := field b 10 2
    src := field b 12 4, inCnt := field b 16 4, dup := field b 20 4, epoch := field b 24 6 }

/-- A record's bytes: header, entries, padding entries of 0xFF, filler (07 R224 to R226). -/
def recBytes (h : RecHdr) (size room : Nat) (entries : List (List Byte)) : List Byte :=
  let body := entries.flatMap id ++ List.replicate (size * (h.kcap - entries.length)) 0xFF
  h.bytes ++ body ++ zeros (recStride size room - 32 - body.length)

/-- A record of selection entries. -/
def selRecord (h : RecHdr) (room : Nat) (l : List SelEl) : List Byte := recBytes h 8 room (l.map selEntry)

/-- A record of item entries. -/
def itemRecord (h : RecHdr) (l : List ItemEl) : List Byte := recBytes h 16 h.kcap (l.map itemEntry)

/-! ## TOPK, SORT, ARGMAX (07_selection R227 to R233) -/

/-- The passes of TOPK over one row: the elements taken and the exclusions at pass boundaries (07 R228, R229). -/
def topkPasses (desc : Bool) (cand : List SelEl) (k : Nat) : Nat → Option SelEl → Nat → List SelEl → List SelEl × Nat
  | 0, _, dup, out => (out, dup)
  | n + 1, prev, dup, out =>
    let later := match prev with
      | none => cand
      | some p => cand.filter (selBefore desc p)
    let take := (selSort desc later).take (min 128 (k - out.length))
    match take.getLast? with
    | none => (out, dup)
    | some l =>
      let same := fun (e : SelEl) => !selBefore desc e l && !selBefore desc l e
      let lost := (cand.filter same).length - (take.filter same).length
      topkPasses desc cand k n (some l) (if n = 0 then dup else dup + lost) (out ++ take)

/-- TOPK of one row (07 R227 to R230). -/
def topkRow (desc drop : Bool) (k : Nat) (els : List SelEl) : List Byte :=
  let r := topkPasses desc (dropNan drop els) k (ceilDiv k 128) none 0 []
  selRecord { kcap := k, valid := r.1.length, inCnt := els.length, dup := r.2
              hflags := flag desc 0 + flag (els.any (fun e => e.key = .nan)) 1 } k r.1

/-- SORT of one row: the working space after the entries is not part of the result, its bytes read `work`
(07 R231, R232). -/
def sortRow (desc drop : Bool) (work : List Byte) (els : List SelEl) : List Byte :=
  let r := selSort desc (dropNan drop els)
  let n := els.length
  let b := selRecord { kcap := n, valid := r.length, inCnt := n
                       hflags := flag desc 0 + flag (els.any (fun e => e.key = .nan)) 1 } n r
  (b.take (32 + 8 * n) ++ work ++ zeros (recStride 8 (2 * n))).take (recStride 8 (2 * n))

/-- ARGMAX of one row (07 R233). -/
def argmaxRow (els : List SelEl) : List Byte :=
  match leastBy (selBefore true) els with
  | none => List.replicate 8 0xFF
  | some e => selEntry e

/-! ## MERGE (07_selection R234 to R240) -/

/-- An input record: its header and the entries of its VALID. -/
structure InRec where
  hdr : RecHdr
  bytes : List Byte
  deriving DecidableEq, Repr

/-- The valid item entries of a record. -/
def InRec.items (r : InRec) : List ItemEl :=
  (pieces 16 r.hdr.valid (r.bytes.drop 32)).map (fun b => { id := field b 0 8, epoch := field b 8 6, dist := field b 14 2 })

/-- The valid selection entries of a record; a NaN key is written canonical again (02 R35, 07 R224). -/
def InRec.sels (ktype : Nat) (r : InRec) : List SelEl :=
  (pieces 8 r.hdr.valid (r.bytes.drop 32)).map (fun b =>
    let kt := if ktype ≤ 2 then 0 else ktype
    { key := keyVal kt (field b 0 4), raw := keyRaw kt (field b 0 4), tag := field b 4 4 })

/-- Entry size of an EKIND, none for a reserved one (07 R223). -/
def entryBytes (ekind : Nat) : Option Nat := if ekind = 0 then some 8 else if ekind = 1 then some 16 else none

/-- Does a record's stride differ from the one of its KCAP and entry size (07 R226, R234)? -/
def InRec.strideBad (r : InRec) (stride : Nat) : Bool :=
  match entryBytes r.hdr.ekind with
  | none => false
  | some e => recStride e r.hdr.kcap ≠ stride

/-- Does item a come before b (07 R225)? -/
def itemBefore (a b : ItemEl) : Bool := decide (a.dist < b.dist) || (a.dist == b.dist && decide (a.id < b.id))

/-- Is each entry not before the previous one? -/
def inOrder {α : Type} (lt : α → α → Bool) : List α → Bool
  | [] => true
  | [_] => true
  | a :: b :: t => !lt b a && inOrder lt (b :: t)

/-- Does an input record of item entries pass R235? -/
def InRec.itemsOk (r : InRec) : Bool :=
  decide (r.hdr.valid ≤ r.hdr.kcap) && r.hdr.ekind == 1 &&
    inOrder itemBefore (r.items.filter (fun e => e.id ≠ padId))

/-- Does an input record of selection entries pass R235? -/
def InRec.selsOk (ktype : Nat) (desc : Bool) (r : InRec) : Bool :=
  decide (r.hdr.valid ≤ r.hdr.kcap) && r.hdr.ekind == 0 && bit r.hdr.hflags 0 == desc &&
    inOrder (selBefore desc) (r.sels ktype)

/-- Of the entries of one ITEM_ID, the one kept: largest epoch, then smallest distance (07 R236). -/
def itemKeep (a b : ItemEl) : Bool := decide (b.epoch < a.epoch) || (a.epoch == b.epoch && decide (a.dist < b.dist))

/-- One entry for each ITEM_ID in result order (07 R236). -/
def itemKept (all : List ItemEl) : List ItemEl :=
  sortBy itemBefore ((all.map ItemEl.id).dedup.filterMap (fun i => leastBy itemKeep (all.filter (fun e => e.id == i))))

/-- MERGE of item lists (07 R236, R237). -/
def mergeItems (k : Nat) (ins : List InRec) : List Byte :=
  let all := (ins.flatMap InRec.items).filter (fun e => e.id ≠ padId)
  let kept := itemKept all
  let out := kept.take k
  let epochs := ins.map (fun r => r.hdr.epoch)
  let tags := ins.map (fun r => r.hdr.shard)
  itemRecord
    { kcap := k, valid := out.length, ekind := 1
      hflags := flag (decide (1 < epochs.dedup.length) || ins.any (fun r => bit r.hdr.hflags 2)) 2
      shard := if tags.dedup.length = 1 then tags.headD 0xFFFF else 0xFFFF
      src := ins.length, inCnt := all.length, dup := all.length - kept.length, epoch := (epochs.min?).getD 0 } out

/-- MERGE of selection lists; DROP_NAN leaves NaN keys out, IN_CNT counts them (07 R218, R223, R238). -/
def mergeSels (ktype : Nat) (desc drop : Bool) (k : Nat) (ins : List InRec) : List Byte :=
  let all := ins.flatMap (InRec.sels ktype)
  let used := dropNan drop all
  let kept := selSort desc ((used.map SelEl.tag).dedup.filterMap (fun t => (selSort desc (used.filter (fun e => e.tag == t))).head?))
  let out := kept.take k
  selRecord
    { kcap := k, valid := out.length, src := ins.length, inCnt := all.length, dup := used.length - kept.length
      hflags := flag desc 0 + flag (ins.any (fun r => bit r.hdr.hflags 1)) 1 } k out

end Sys2Proof.Machine
end

