-- ==== Sys2Proof/Machine/Records.lean ====
section
/-! DEFINITION. Operation records: their fields, the checks at issue, and what each operation of the catalogue computes
(06_operations R181 to R200, 05_array_dataflow R142 to R178, 07_selection). A record is one step. The tiles of its gang hold the same
scratchpad bytes; each has its own accumulator memory and array registers (log 13). -/

namespace Sys2Proof.Machine

/-! ## Fields (06_operations R181, R183) -/

/-- An operand descriptor (06 R183). -/
structure Opnd where
  fmt : Nat
  blk : Bool
  sr : Bool
  loc : Nat
  anchor : Bool
  skewed : Bool
  out : Bool
  addr : Nat
  dim0 : Nat
  dim1 : Nat
  rsv : Bool
  deriving DecidableEq, Repr

/-- A scratchpad range of a record: start, length, reserved bits clear (06 R181). -/
structure Range where
  start : Nat
  len : Nat
  rsv : Bool
  deriving DecidableEq, Repr

/-- An operation record (06 R181). -/
structure Rec where
  opc : Nat
  rflags : Nat
  layer : Nat
  mon : Nat
  gangLog2 : Nat
  skewG : Nat
  depCnt : Nat
  deps : List Nat
  rd0 : Range
  rd1 : Range
  wr0 : Range
  opnds : List Opnd
  params : List Byte
  rsv : Bool
  deriving DecidableEq, Repr

/-- The operand descriptor of 16 bytes (06 R183). -/
def opndOf (b : List Byte) : Opnd :=
  let f := field b 0 1
  let g := field b 1 1
  { fmt := f % 16, blk := bit f 4, sr := bit f 5, loc := g % 8, anchor := bit g 3, skewed := bit g 4, out := bit g 5
    addr := field b 2 6, dim0 := field b 8 4, dim1 := field b 12 4, rsv := f < 64 && g < 64 }

/-- A range of 8 bytes (06 R181). -/
def rangeOf (b : List Byte) : Range :=
  { start := field b 0 4 % 2 ^ 22, len := field b 4 4, rsv := field b 0 4 < 2 ^ 22 }

/-- The record of 128 bytes (06 R181). -/
def recOf (b : List Byte) : Rec :=
  { opc := field b 0 1, rflags := field b 1 1, layer := field b 2 2, mon := field b 4 1 % 8, gangLog2 := field b 5 1
    skewG := field b 6 2, depCnt := field b 12 1, deps := (words 2 ((b.drop 16).take 8))
    rd0 := rangeOf ((b.drop 24).take 8), rd1 := rangeOf ((b.drop 32).take 8), wr0 := rangeOf ((b.drop 40).take 8)
    opnds := (pieces 16 4 (b.drop 48)).map opndOf, params := (b.drop 112).take 16
    rsv := field b 1 1 < 32 && field b 4 1 < 8 && zeroAt b 13 3 }

/-- Is the operand present (06 R183)? -/
def Opnd.present (o : Opnd) : Bool := o.dim0 ≠ 0

/-- Operand of a slot; an absent one where the slot does not exist. -/
def Rec.op (r : Rec) (i : Nat) : Opnd := r.opnds.getD i (opndOf [])

/-- Predecessors of a record (06 R181). -/
def Rec.preds (r : Rec) : List Nat := r.deps.take r.depCnt

/-- DF (06 R181). -/
def Rec.df (r : Rec) : Nat := bits r.rflags 3 2

/-- PRO. -/
def Rec.pro (r : Rec) : Bool := bit r.rflags 0

/-- Is DEP_CNT consistent with DEP, each entry below the record's own index (06 R181, R201)? -/
def Rec.depsOk (r : Rec) (idx : Nat) : Bool :=
  decide (r.depCnt ≤ 4) && r.preds.all (fun d => decide (d < idx)) && (r.deps.drop r.depCnt).all (fun d => d == 0xFFFF)

/-- Gang size of a record (06 R181, 16_scheduling R514). -/
def Rec.gang (r : Rec) : Nat := 2 ^ r.gangLog2

/-! ## Formats, shapes, locations (06_operations R187, R188) -/

/-- The opcodes of the catalogue (06 R188). -/
def catalogue : List Nat :=
  [0x00, 0x01, 0x02, 0x03, 0x10, 0x11, 0x12, 0x13, 0x14, 0x18, 0x19, 0x20, 0x21, 0x22, 0x23, 0x28, 0x29, 0x2A, 0x2B, 0x2C,
   0x30, 0x31, 0x32, 0x33]

/-- Operands that an opcode requires (06 R188; those that a rule calls optional apart, log 16). -/
def requires (opc : Nat) : List Nat :=
  match opc with
  | 0x00 => []
  | 0x01 => [0, 1, 3]
  | 0x02 => [0, 1, 2, 3]
  | 0x03 => [0, 1, 2, 3]
  | 0x10 => [0, 1, 2, 3]
  | 0x12 => [0, 1, 3]
  | 0x13 => [0, 1, 3]
  | 0x23 => [0, 3]
  | 0x28 => [0, 1, 3]
  | 0x29 => [0, 1, 3]
  | 0x30 => [0, 1, 2, 3]
  | 0x31 => [0, 1, 2]
  | 0x32 => [0, 1, 3]
  | 0x33 => [0, 1, 2, 3]
  | _ => [0, 3]

/-- Formats an opcode allows for an operand slot (06 R188, 05 R144, 07 R219, 02 R48). Operands for which no list of formats stands
(prologue constants, positions, lists of indices, tables of sequences and segments) may name any code below 0xC (DESIGN CHOICE, log
36). -/
def allowed (opc slot f : Nat) : Bool :=
  match opc, slot with
  | 0x01, 0 => f ≠ 0 && f ≠ 8 && f ≠ 9
  | 0x01, 1 => f ≠ 0
  | 0x01, 3 => f ≠ 8 && f ≠ 9
  | 0x02, 0 => f ≠ 0 && f ≠ 8 && f ≠ 9
  | 0x02, 1 => f ≠ 0
  | 0x02, 3 => f ≠ 8 && f ≠ 9
  | 0x03, 0 => f == 1 || f == 3
  | 0x03, 1 => f == 1 || f == 3 || f == 4
  | 0x03, 3 => f == 1 || f == 0
  | 0x10, _ => f == 1 || f == 0 || f == 3
  | 0x11, _ => f == 1 || f == 0 || f == 3 || f == 4
  | 0x12, 1 => true
  | 0x12, _ => f == 1 || f == 0
  | 0x13, _ => f == 1 || f == 0 || f == 5
  | 0x14, _ => f == 1 || f == 0
  | 0x30, 3 => f == 1 || f == 0
  | 0x31, 2 => f == 1 || f == 0
  | 0x18, 0 => f == 1 || f == 2 || f == 0
  | 0x18, 3 => f == 3 || f == 4 || f == 5 || f == 6 || f == 7 || f == 0xA || f == 0xB
  | 0x19, 0 => f ≠ 0
  | 0x19, 3 => f == 0 || f == 1 || f == 2
  | 0x20, _ => f == 0
  | 0x21, _ => f == 0
  | 0x22, _ => f == 0
  | 0x23, _ => f == 0
  | 0x29, 0 => f == 0 || f == 1 || f == 5
  | 0x29, 3 => f == 0 || f == 1 || f == 5
  | 0x2B, _ => f == 0 || f == 1 || f == 5
  | 0x2C, _ => f == 0 || f == 1 || f == 5
  | 0x30, 0 => f == 1 || f == 0
  | 0x31, 0 => f == 1 || f == 0
  | 0x31, 3 => f == 0
  | 0x28, 3 => f ≠ 8 && f ≠ 9
  | 0x2A, 3 => f ≠ 8 && f ≠ 9
  | 0x32, 0 => f == 0xB
  | 0x32, 1 => f == 0xB
  | 0x32, 3 => f ≠ 8 && f ≠ 9
  | 0x33, 3 => f ≠ 8 && f ≠ 9
  | _, _ => true

/-- Cell modes: reduction elements per cell and lane bytes of a weight × activation pair; T2 or B1 against a wider narrow format is
converted exactly to that format first, CB4 taking an activation of FP4 (05 R142, R143; 03 R72). T2 against B1 runs in the T2 mode
of its wider operand (DEDUCED, log 37). -/
def modeOf (w a : Nat) : Nat × Nat :=
  let tiny := fun f => f == 0xA || f == 0xB
  if w = 1 || w = 2 || a = 1 || a = 2 then (1, 2)
  else
    let a' := if tiny a && (w = 6 || w = 7) then w else if tiny a && w = 8 then 6 else a
    let w' := if tiny w && (a = 6 || a = 7) then a else w
    if (w' = 6 && a' = 6) || (w' = 7 && a' = 7) || (w' = 8 && a' = 6) then (2, 1)
    else if w = 0xB && a = 0xB then (8, 1)
    else if tiny w && tiny a then (4, 1)
    else (1, 1)

/-- Cell mode under a dataflow: OS runs in 8-bit and 16-bit modes only (05 R177). -/
def dfMode (df w a : Nat) : Nat × Nat := if df = 1 then (1, (modeOf w a).2) else modeOf w a

/-- The format of a narrow activation one step wider; its blocked flag (03 R84, R85). -/
def wider (f : Nat) (blk : Bool) : Nat × Bool :=
  match f with
  | 0x6 => (3, true)
  | 0x7 => (5, false)
  | 0xA => (5, false)
  | 0x3 => (1, false)
  | 0x4 => (1, false)
  | 0x5 => (1, false)
  | f => (f, blk)

/-- The operand as a re-fire reads or writes it: a narrow activation one step wider, an anchor as it is (03 R84, R85). -/
def Opnd.widen (wide : Bool) (o : Opnd) : Opnd :=
  if wide && !o.anchor then { o with fmt := (wider o.fmt o.blk).1, blk := (wider o.fmt o.blk).2 } else o

/-- Bytes of an operand's planes (06 R185). -/
def Opnd.size (o : Opnd) : Nat := (planes o.fmt o.blk o.dim0 o.dim1).size

/-- Is an operand of a record an activation of its layer: what the array or the vector unit reads as one, and what they or a QUANT
write; a transfer's operands and the second operand of ELEM are unless they come from bytes of an image or of the pool
(03 R84, R85; DESIGN CHOICE, log 37)? -/
def Rec.activation (r : Rec) (slot : Nat) : Bool :=
  let stored := fun i => (r.opnds.getD i (opndOf [])).loc == 2 || (r.opnds.getD i (opndOf [])).loc == 3
  match r.opc, slot with
  | 0x01, i => i == 0 || i == 3
  | 0x02, i => i == 0 || i == 3
  | 0x03, i => i == 0 || i == 3
  | 0x10, i => i == 0 || i == 3
  | 0x11, i => i == 0 || i == 3
  | 0x12, i => i == 0 || i == 3
  | 0x13, i => i == 0 || i == 3 || (i == 1 && !stored 1)
  | 0x14, i => i == 0 || i == 3
  | 0x18, i => i == 0 || i == 3
  | 0x19, i => i == 0 || i == 3
  | 0x28, i => !stored 0 && (i == 0 || i == 3)
  | 0x2A, i => !stored 0 && (i == 0 || i == 3)
  | _, _ => false

/-- The record as it runs in the wide form of its layer: every narrow activation operand and every output that names one a step
wider (03 R84, R85). -/
def Rec.widen (r : Rec) : Rec := { r with opnds := r.opnds.zipIdx.map (fun e => e.1.widen (r.activation e.2)) }

/-- Step 2: is some operand's format reserved, not allowed, or an SR target not allowed; KTYPE and KVFMT with it
(02 R32, R48, R64; 06 R198; 07 R219)? The formats judged are those the record names, not those of a wide run (03 R85). An SR flag on
slots 0 to 2 has no effect (DESIGN CHOICE, log 37). -/
def Rec.fmtBad (r : Rec) : Bool :=
  (r.opnds.zipIdx.any (fun e => e.1.present && (decide (0xC ≤ e.1.fmt) || !allowed r.opc e.2 e.1.fmt ||
    (e.1.sr && e.2 == 3 && !(e.1.fmt == 3 || e.1.fmt == 4 || e.1.fmt == 6))))) ||
  (0x20 ≤ r.opc && r.opc ≤ 0x23 && decide (5 < field r.params 0 1)) ||
  (r.opc == 3 && (!(field r.params 3 1 == 1 || field r.params 3 1 == 3 || field r.params 3 1 == 4) ||
    field r.params 3 1 ≠ (r.op 1).fmt || (r.op 1).blk))

/-- Step 3 of the selection operations (07 R226, R234, R241); `esize` is the entry size of MERGE's inputs, 0 where it is not known. -/
def Rec.selShape (r : Rec) (esize : Nat) : Nat :=
  let n := (r.op 0).dim0
  let k := field r.params 4 4
  let out := r.op 3
  let cnt := ((r.opnds.take 3).filter Opnd.present).map Opnd.dim1 |>.sum
  let tagBad := (r.op 1).present && ((r.op 1).dim0 ≠ n || (r.op 1).dim1 ≠ (r.op 0).dim1)
  match r.opc with
  | 0x20 =>
    if 2 ^ 24 < n then Code.rowTooLong
    else if k = 0 || decide (4096 < k) then Code.kInvalid
    else if tagBad || out.dim0 ≠ recStride 8 k || out.dim1 ≠ (r.op 0).dim1 then Code.shapeInvalid else 0
  | 0x21 =>
    if 2 ^ 24 < n then Code.rowTooLong
    else if k ≠ 0 || field r.params 1 1 % 4 ≠ 0 then Code.kInvalid
    else 0
  | 0x22 =>
    if 2 ^ 24 < n then Code.rowTooLong
    else if k ≠ 0 then Code.kInvalid
    else if tagBad || out.dim0 ≠ recStride 8 (2 * n) || out.dim1 ≠ (r.op 0).dim1 then Code.shapeInvalid else 0
  | 0x23 =>
    if k = 0 || decide (4096 < k) || decide (1024 < cnt) then Code.kInvalid
    else if (esize ≠ 0 && out.dim0 ≠ recStride esize k) || out.dim1 ≠ 1 ||
        (r.opnds.take 3).any (fun o => o.present && (o.dim0 < 32 || o.dim0 % 32 ≠ 0)) then Code.shapeInvalid else 0
  | _ => 0

/-- Do two dimensions differ, where both operands are there (an absent one is step 4's)? -/
def dimsDiffer (a b : Opnd) (x y : Nat) : Bool := a.present && b.present && x ≠ y

/-- Step 3: the shapes and limits of the catalogue, with those of the DMA transfers it names and the static fields of the table
operations (06 R188, R198, 04 R119, 10 R337, R343). The head dimension of ROPE is DIM0; b of ELEM is of a's shape, one row, or one
element (DESIGN CHOICE, log 37). -/
def Rec.shapeErr (r : Rec) (esize : Nat) : Nat :=
  let a := r.op 0
  let w := r.op 1
  let g := r.op 2
  let o := r.op 3
  let product := decide (2048 < a.dim1) || decide (1048576 < a.dim0) || decide (1048576 < w.dim1) || dimsDiffer w a w.dim0 a.dim0 ||
    dimsDiffer o w o.dim0 w.dim1 || dimsDiffer o a o.dim1 a.dim1
  let bad := match r.opc with
    | 0x00 => r.depCnt == 0 || decide (4 < r.depCnt)
    | 0x01 => product
    | 0x02 => product
    | 0x03 =>
      let h := field r.params 0 1
      let hkv := field r.params 1 1
      h == 0 || decide (128 < h) || hkv == 0 || h % max hkv 1 ≠ 0 || decide (2 < field r.params 2 1) || decide (2048 < a.dim1) ||
        (g.present && ((r.op 2).dim1 == 0 || decide (2048 < (r.op 2).dim1)))
    | 0x10 => decide (65536 < a.dim0)
    | 0x11 => decide (2 ^ 32 ≤ a.dim0 * a.dim1)
    | 0x12 => a.dim0 % 2 ≠ 0 || decide (256 < a.dim0)
    | 0x13 => a.present && w.present && !((w.dim0 == a.dim0 && (w.dim1 == 1 || w.dim1 == a.dim1)) || (w.dim0 == 1 && w.dim1 == 1))
    | 0x14 => decide (262144 < a.dim0)
    | 0x18 => decide (2 ^ 32 ≤ a.dim0 * a.dim1)
    | 0x19 => decide (2 ^ 32 ≤ a.dim0 * a.dim1)
    | 0x28 => decide (65536 < w.dim0) || decide (16384 < rowBytes (fmtBits a.fmt) a.dim0)
    | 0x29 => decide (65536 < w.dim0) || decide (16384 < (if a.fmt = 1 then 2 else 4) * a.dim0)
    | 0x2A => decide (2 ^ 26 < a.size)
    | 0x30 => decide (4096 < a.dim0) || decide (65536 < w.dim0) || decide (1 < field r.params 2 1) || field r.params 4 4 == 0 ||
        decide (65536 < field r.params 4 4) || dimsDiffer o a o.dim0 a.dim0 || (o.present && o.dim1 ≠ field r.params 4 4)
    | 0x31 => decide (4096 < a.dim0) || decide (65536 < w.dim0) || decide (1 < field r.params 2 1) || dimsDiffer g a g.dim0 a.dim0 ||
        dimsDiffer g w g.dim1 w.dim0 || (o.present && o.dim0 ≠ 1)
    | 0x32 => decide (64 < a.dim1) || (a.present && !(a.dim0 == 256 || a.dim0 == 512 || a.dim0 == 1024 || a.dim0 == 2048)) ||
        dimsDiffer w a w.dim0 a.dim0
    | _ => false
  if 0x20 ≤ r.opc && r.opc ≤ 0x23 then r.selShape esize else if bad then Code.shapeInvalid else 0

/-- Bytes that an operand of a record takes at its address, where it differs from its planes: result records and keys
(07 R220, R226), KV pools (06 R197), lists and blocks of a walk (log 37). -/
def Rec.opSize (r : Rec) (i : Nat) : Nat :=
  let o := r.op i
  match r.opc, i with
  | 0x20, 0 => keyBytes (field r.params 0 1) * o.dim0 * o.dim1
  | 0x20, 3 => o.dim0 * o.dim1
  | 0x21, 0 => keyBytes (field r.params 0 1) * o.dim0 * o.dim1
  | 0x21, 3 => 8 * (r.op 0).dim1
  | 0x22, 0 => keyBytes (field r.params 0 1) * o.dim0 * o.dim1
  | 0x22, 3 => o.dim0 * o.dim1
  | 0x23, _ => o.dim0 * o.dim1
  | 0x02, 2 => 16 * o.dim1
  | 0x30, 0 => 0
  | 0x31, 0 => 0
  | 0x31, 3 => 0
  | 0x03, 2 => 16 * o.dim1
  | 0x32, 3 => 2 * (r.op 0).dim1 * (r.op 1).dim1
  | 0x33, 0 => 4 * o.dim0 * o.dim1
  | 0x33, 1 => 256
  | 0x33, 3 => o.dim0 * o.dim1
  | 0x29, 0 => (if o.fmt = 1 then 2 else 4) * o.dim0 * o.dim1
  | 0x29, 3 => (if o.fmt = 1 then 2 else 4) * o.dim0 * o.dim1
  | 0x2B, _ => (if o.fmt = 1 then 2 else 4) * o.dim0 * o.dim1
  | 0x2C, _ => (if o.fmt = 1 then 2 else 4) * o.dim0 * o.dim1
  | _, _ => if o.present then o.size else 0

/-- Does a range lie in the scratchpad of 4 MiB? -/
def Range.inside (g : Range) : Bool := g.len == 0 || decide (g.start + g.len ≤ 2 ^ 22)

/-- Do two byte ranges meet? -/
def overlaps (a n b m : Nat) : Bool := decide (a < b + m) && decide (b < a + n)

/-- Is the record a matrix record (05 R174)? -/
def Rec.matrix (r : Rec) : Bool := r.opc == 1 || r.opc == 2

/-- Where an operand's bytes lie: its space and address, a binding resolved to its DUA where the bases are known (06 R184, R205). -/
def Opnd.place (o : Opnd) (binds : Option (List Nat)) : Nat × Nat :=
  match o.loc, binds with
  | 4, some l => (2, l.getD (o.addr / 2 ^ 40) 0 % 2 ^ 48 + o.addr % 2 ^ 40)
  | n, _ => (n, o.addr)

/-- Step 4: operand locations (06 R187; 07 R222). `binds` are the bases of the bound slots, none where the hub binds them. Only the
array's sums go to accumulator memory: it is read only for the DMA engine and the vector unit stores to the scratchpad (04 R113, R118;
DESIGN CHOICE of the status, log 37). -/
def Rec.locBad (r : Rec) (binds : Option (List Nat)) : Bool :=
  (r.opnds.zipIdx.any (fun e =>
    let n := r.opSize e.2
    e.1.present && (decide (5 ≤ e.1.loc) ||
      (e.1.loc == 0 && decide (2 ^ 22 < e.1.addr + n)) ||
      (e.1.loc == 1 && (decide (2 ^ 19 ≤ e.1.addr) || (e.2 == 3 && !r.matrix))) ||
      (e.1.loc == 4 && (match binds with | none => false | some l => decide (l.length ≤ e.1.addr / 2 ^ 40)))))) ||
  !(([r.rd0, r.rd1, r.wr0] : List Range).all Range.inside) ||
  (requires r.opc).any (fun i => !(r.op i).present) ||
  (r.opc == 1 && r.pro && decide (field r.params 0 1 < 2) && !(r.op 2).present) ||
  (r.opc == 2 && decide (2 ^ 22 < field r.params 4 4 + 2048 * 128 * 4)) ||
  ((r.opc == 0x30 || r.opc == 0x31) && (r.op 0).addr ≠ 0) ||
  (r.opc == 0x31 && ((r.op 3).present ≠ (field r.params 2 1 == 1) || ((r.op 3).present && (r.op 3).addr ≠ 0))) ||
  (0x20 ≤ r.opc && r.opc ≤ 0x23 && (List.range 3).any (fun i => (r.op i).present &&
    ((r.op i).place binds).1 == ((r.op 3).place binds).1 &&
    overlaps ((r.op i).place binds).2 (r.opSize i) ((r.op 3).place binds).2 (r.opSize 3)))

/-- Step 5: dataflow (05 R174 to R178). -/
def Rec.flowBad (r : Rec) (privileged : Bool) : Bool :=
  r.df == 3 || (r.df ≠ 0 && !privileged) || (r.opc == 2 && r.df ≠ 0) ||
    (r.opc == 1 && r.df == 1 && (fmtBlocked (r.op 0).fmt (r.op 0).blk || fmtBlocked (r.op 1).fmt (r.op 1).blk))

/-- The mode of a matrix record, or of a copy's own format (05 R142, R151, R177). -/
def Rec.mode (r : Rec) : Nat × Nat :=
  if r.matrix then dfMode r.df (r.op 1).fmt (r.op 0).fmt else modeOf (r.op 3).fmt (r.op 3).fmt

/-- K per pass (05 R142). -/
def Rec.kPass (r : Rec) : Nat := 64 * r.mode.1

/-- What streams through a skewed region: its rows of one pass and the passes of its chain. Under WS the activation's rows, under IS
the weight's, under OS the reduction index in the place of the rows, for 64 rows of a pass (05 R148, R154, R176, R177). -/
def Rec.stream (r : Rec) : Nat × Nat :=
  let o := if !r.matrix then r.op 3 else if r.df = 2 then r.op 1 else r.op 0
  if r.matrix && r.df = 1 then (o.dim0, ceilDiv o.dim1 64) else (o.dim1, ceilDiv o.dim0 r.kPass)

/-- Step 6: the skewed region (05 R151, R157). A matrix record streams a chain that is longer than its region (R156). -/
def Rec.skewBad (r : Rec) : Bool :=
  let sBeats := 256 / (64 * r.mode.2)
  let st := r.stream
  r.opnds.any (fun o => o.present && o.skewed) &&
    (r.skewG == 0 || decide (2048 < st.1) || decide (r.skewG * 32 * sBeats < 256) ||
      (!(r.matrix && decide (1 < st.2)) && decide (r.skewG < ceilDiv (st.1 + 63) (32 * sBeats))) ||
      r.opnds.any (fun o => o.present && o.skewed && (o.loc ≠ 0 || o.addr % 256 ≠ 0 || decide (2 ^ 22 < o.addr + 8192 * r.skewG))))

/-- Step 7: the prologue (05 R171 to R173). -/
def Rec.proBad (r : Rec) : Bool :=
  r.pro && (!(r.opc == 1) || r.df ≠ 0 || decide (2 < field r.params 0 1) ||
    decide (1 < r.mode.1) || (field r.params 0 1 == 1 && fmtBlocked (r.op 0).fmt (r.op 0).blk))

/-- The checks of a record at issue, in their order: the first failure or 0 (06 R187). A wide run is checked in its wide formats,
but for step 2 (03 R85). -/
def Rec.err (r : Rec) (privileged wide : Bool) (binds : Option (List Nat)) (esize : Nat) : Nat :=
  let x := if wide then r.widen else r
  if !catalogue.contains r.opc then Code.opcodeInvalid
  else if r.fmtBad then Code.formatUnsupported
  else if x.shapeErr esize ≠ 0 then x.shapeErr esize
  else if x.locBad binds then Code.operandInvalid
  else if x.flowBad privileged then Code.dataflowInvalid
  else if x.skewBad then Code.skewRegionInvalid
  else if x.proBad then Code.prologueUnsupported
  else 0

/-! ## The machine a record runs on -/

/-- What a record's gang and its bytes are while it runs: memories, device bytes, what it read and wrote, events. -/
structure Bench where
  part : Nat
  binds : Option (List Nat)
  /-- gang size (06 R181) -/
  gang : Nat
  /-- record index, for the pass tags -/
  idx : Nat := 0
  scratch : Mem
  /-- accumulator memories by gang-relative index -/
  accs : List Mem
  /-- the wide form of a layer (03 R84) -/
  wide : Bool := false
  /-- active and free registers of the tiles before the record, by gang-relative index -/
  arrays : List (PassRegs × Option PassRegs) := []
  /-- tiles whose first pass takes a stalled load, by gang-relative index (05 R165, R166) -/
  stalled : List Bool := []
  /-- the shadow weights' bytes of a re-fire that uses them (03 R86) -/
  shadow : Option (List Byte) := none
  glazes : KMap Glaze
  active : List Nat
  draw : Nat
  reads : List (Nat × Nat) := []
  puts : List (Nat × List Byte) := []
  status : Nat := 0
  sat : Nat := 0
  nan : Nat := 0
  elem : Nat := 0
  amaxObs : Num := .fin false 0 0
  rsv : Nat := 0
  convSat : Nat := 0
  convNan : Nat := 0
  evict : Nat := 0
  /-- gated cells and drain cycles of the tiles, by gang-relative index (05 R170, R179) -/
  gated : List Nat := []
  drained : List Nat := []
  deriving DecidableEq, Repr

/-- Bytes that the spec leaves open, from a draw. -/
def freeBytes (c n : Nat) : List Byte := (List.range n).map (fun i => BitVec.ofNat 8 (Config.freeNat (c + i)))

/-- The DUA of an operand, none where it is no DUA or the hub binds its slot (06 R184, log 11). -/
def Bench.dua (b : Bench) (o : Opnd) : Option Nat :=
  match o.loc with
  | 2 => some (o.addr % 2 ^ 48)
  | 4 => match b.binds with
    | none => none
    | some l => some (l.getD (o.addr / 2 ^ 40) 0 % 2 ^ 48 + o.addr % 2 ^ 40)
  | _ => none

/-- `n` bytes of an operand from offset `off`, and the ranges of DUA read; none where a page stops the read
(04 R123, 06 R191). Accumulator memory is that of the gang's first tile (log 13). -/
def Bench.read (b : Bench) (s : State) (o : Opnd) (off n : Nat) : Except Nat (List Byte × Bench) :=
  match o.loc with
  | 0 => .ok (b.scratch.readN (o.addr + off) n, b)
  | 1 => .ok ((b.accs.headD []).readN (o.addr + off) n, b)
  | _ => match b.dua o with
    | none => .ok (freeBytes (b.draw + 2 ^ 58 + o.addr + off) n, b)
    | some d =>
      if s.readErr b.part (d + off) n = 0 then .ok (s.dev.readN (d + off) n, { b with reads := b.reads ++ [(d + off, n)] })
      else .error (s.readErr b.part (d + off) n)

/-- `n` bytes at a DUA that a table or a list of the record names. -/
def Bench.readDua (b : Bench) (s : State) (d n : Nat) : Except Nat (List Byte × Bench) :=
  if s.readErr b.part d n = 0 then .ok (s.dev.readN d n, { b with reads := b.reads ++ [(d, n)] }) else .error (s.readErr b.part d n)

/-- Bytes written to an operand from offset `off`; none where a page stops the write (04 R123, 08 R251). -/
def Bench.write (b : Bench) (s : State) (o : Opnd) (off : Nat) (bs : List Byte) : Except Nat Bench :=
  match o.loc with
  | 0 => .ok { b with scratch := b.scratch.writeN (o.addr + off) bs }
  | 1 => .ok { b with accs := b.accs.modify 0 (fun m => m.writeN (o.addr + off) bs) }
  | _ => match b.dua o with
    | none => .ok b
    | some d =>
      if s.writeErr b.part (d + off) bs.length = 0 then .ok { b with puts := b.puts ++ [(d + off, bs)] }
      else .error (s.writeErr b.part (d + off) bs.length)

/-- A status of the partial kind noted, the lowest of those met (06 R191). -/
def Bench.note (b : Bench) (bad : Bool) (c : Nat) : Bench :=
  if bad && (b.status == 0 || decide (c < b.status)) then { b with status := c } else b

/-! ## Skewed regions (05_array_dataflow R151 to R156, R176, R177) -/

/-- Byte address of beat t (05 R153). -/
def beatAddr (base g lb t : Nat) : Nat :=
  let bb := 64 * lb
  let sb := 256 / bb
  let r := t % (32 * sb * g)
  base + 256 * (r % 32 + 32 * (r / (32 * sb))) + bb * (r / 32 % sb)

/-- A skewed operand: where its region lies, its groups, lane bytes, elements of a lane, the rows of one pass along the beats, its
element width, and whether the rows are the reduction index (OS). -/
structure Skew where
  base : Nat
  g : Nat
  lb : Nat
  e : Nat
  rows : Nat
  passes : Nat
  w : Nat
  os : Bool
  deriving DecidableEq, Repr

/-- The skewed operand of a record. -/
def Rec.skewOf (r : Rec) (o : Opnd) : Skew :=
  { base := o.addr, g := r.skewG, lb := r.mode.2, e := r.mode.1, rows := r.stream.1, passes := r.stream.2, w := fmtBits o.fmt
    os := r.matrix && r.df == 1 }

/-- Beats that the region holds (05 R153). -/
def Skew.held (k : Skew) : Nat := 32 * (256 / (64 * k.lb)) * k.g

/-- Beats of the whole chain (05 R152, R154). -/
def Skew.beats (k : Skew) : Nat := k.rows * k.passes + 63

/-- Beat, lane and lowest bit of element (m, x) of the operand's rows and innermost elements (05 R152 to R154, R177). -/
def Skew.at (k : Skew) (m x : Nat) : Nat × Nat × Nat :=
  if k.os then (x + m % 64 + m / 64 * k.rows, m % 64, 0)
  else
    let i := x % (64 * k.e) / k.e
    (m + i + x / (64 * k.e) * k.rows, i, k.w * (x % k.e))

/-- Does the chain stream through a shorter region (05 R156)? -/
def Skew.streams (k : Skew) : Bool := decide (k.held < k.beats)

/-- One lane of a beat: the region as it stands; of a chain that streams, bytes that the DMA engine brings from a place no rule
names (05 R156; DESIGN CHOICE, log 37). -/
def Bench.lane (b : Bench) (k : Skew) (t i : Nat) : List Byte :=
  if k.streams then freeBytes (b.draw + 2 ^ 60 + 64 * k.lb * t + k.lb * i) k.lb
  else b.scratch.readN (beatAddr k.base k.g k.lb t + k.lb * i) k.lb

/-- The codes of a skewed operand as a packed code plane (05 R152 to R154). -/
def Bench.unskew (b : Bench) (k : Skew) (rows n : Nat) : List Byte :=
  (List.range rows).flatMap (fun m => packRow k.w ((List.range n).map (fun x =>
    bits (leNat (b.lane k (k.at m x).1 (k.at m x).2.1)) (k.at m x).2.2 k.w)))

/-- The region after a chain has streamed through it: its last beats (05 R156). -/
def Bench.streamed (b : Bench) (k : Skew) : Bench :=
  if !k.streams then b
  else { b with scratch := (List.range k.held).foldl (fun (m : Mem) i =>
    let t := k.beats - k.held + i
    m.writeN (beatAddr k.base k.g k.lb t) ((List.range 64).flatMap (b.lane k t))) b.scratch }

/-- Lanes of padding that a skewed write fills with zero codes: the leading ones of the first pass with HEAD, the trailing ones of the
last with TAIL (05 R152, R154, R155). -/
def padLanes (rows : Nat) (head tail : Bool) : List (Nat × Nat) :=
  (List.range 64).flatMap (fun i =>
    (if head then (List.range i).map (fun t => (t, i)) else []) ++
    (if tail then (List.range (63 - i)).map (fun t => (rows + i + t, i)) else []))

/-- A skewed write of rows of `n` codes, beat by beat, through byte enables (05 R153, R155). -/
def Bench.skew (b : Bench) (k : Skew) (n : Nat) (head tail : Bool) (rows : List (List Nat)) : Bench :=
  let put := fun (m : Mem) (t i : Nat) (bs : List Byte) => m.writeN (beatAddr k.base k.g k.lb t + k.lb * i) bs
  let m1 := (padLanes (k.rows * k.passes) head tail).foldl (fun m p => put m p.1 p.2 (zeros k.lb)) b.scratch
  let lanes := (List.range (ceilDiv n k.e)).flatMap (fun i => rows.zipIdx.map (fun r => (i, r.1, r.2)))
  { b with scratch := lanes.foldl (fun m p =>
      let v := (List.range k.e).foldl (fun acc j => acc + p.2.1.getD (p.1 * k.e + j) 0 * 2 ^ (k.w * j)) 0
      put m (k.at p.2.2 (p.1 * k.e)).1 (k.at p.2.2 (p.1 * k.e)).2.1 (leBytes k.lb v)) m1 }

/-! ## Reading and writing tensors -/

/-- An operand read as a tensor; its reserved codes and invalid scales noted (02 R40, R56; 06 R191). -/
def Bench.tensor (b : Bench) (s : State) (r : Rec) (o : Opnd) : Except Nat (Tensor × Bench) :=
  let p := planes o.fmt o.blk o.dim0 o.dim1
  let raw : Except Nat (List Byte × Bench) :=
    if o.skewed then
      -- the code plane comes from the skewed region, the scale planes follow it (06 R185)
      let codes := b.unskew (r.skewOf o) o.dim1 o.dim0
      .ok (codes ++ b.scratch.readN (o.addr + roundUp (8192 * r.skewG) 256 + codes.length - roundUp codes.length 256)
        (p.size - codes.length), b.streamed (r.skewOf o))
    else b.read s o 0 p.size
  match raw with
  | .error c => .error c
  | .ok (bs, b1) =>
    let t := readTensor o.fmt o.blk o.dim0 o.dim1 bs
    .ok (t, ({ b1 with rsv := b1.rsv + t.reserved }.note (t.reserved ≠ 0) Code.reservedEncoding).note t.badScale
      Code.scaleInvalid)

/-- The random bits of a stochastic rounding, one draw for each element (02 R64 to R66; 03 R85). -/
def Bench.srBits (b : Bench) (o : Opnd) (i : Nat) : Option Nat :=
  if o.sr && (o.fmt == 3 || o.fmt == 4 || o.fmt == 6) then some (Config.freeNat (b.draw + i)) else none

/-- The planes of an output written at their offsets (02 R53, 06 R185). -/
def Bench.writePlanes (s : State) (o : Opnd) : Bench → List (Nat × List Byte) → Except Nat Bench
  | b, [] => .ok b
  | b, p :: t => match b.write s o p.1 p.2 with
    | .error c => .error c
    | .ok x => x.writePlanes s o t

/-- An output written with its conversion events: those of column tails and QUANT feed the monitors, NaN results among them, those of
the vector unit are counted by the tile (02 R59 to R63, 03 R76). -/
def Bench.outTensor (b : Bench) (s : State) (o : Opnd) (rows : List (List Num)) (extraSat : Nat) (monitored : Bool) :
    Except Nat Bench :=
  let w := writeTensor o.fmt o.blk (b.srBits o) o.dim0 rows
  let sat := w.2.countP Conv.sat
  let vals := rows.flatMap id
  let b1 := if monitored then { b with
      sat := b.sat + sat + extraSat, nan := b.nan + w.2.countP (fun c => c.nan || fmtIsNan o.fmt c.code), elem := b.elem + vals.length
      amaxObs := vals.foldl (fun a x => a.max x.abs) b.amaxObs }
    else { b with convSat := b.convSat + sat, convNan := b.convNan + w.2.countP Conv.nan }
  b1.writePlanes s o w.1

/-! ## Passes over the gang (05 R148; 06 R189; 04 R111) -/

/-- How a matrix product lies over its gang: dataflow, mode, K per pass, the outputs that stay in columns and those that stream past
them (exchanged under IS), K, gang size (05 R142, R148, R174, R176). -/
structure Grid where
  df : Nat
  e : Nat
  lb : Nat
  cols : Nat
  rows : Nat
  k : Nat
  g : Nat
  deriving DecidableEq, Repr

/-- The grid of a matrix record. -/
def Rec.grid (r : Rec) (g : Nat) : Grid :=
  let m := (r.op 0).dim1
  let n := (r.op 1).dim1
  { df := r.df, e := r.mode.1, lb := r.mode.2, cols := if r.df = 2 then m else n, rows := if r.df = 2 then n else m
    k := (r.op 0).dim0, g := max g 1 }

/-- Output slices of 64 columns, passes along K of each. -/
def Grid.slices (x : Grid) : Nat := ceilDiv x.cols 64
def Grid.depth (x : Grid) : Nat := if x.df = 1 then 1 else ceilDiv x.k (64 * x.e)

/-- The tile, by gang-relative index, of pass d of slice j: slices are dealt out before K is; a slice of its own tiles where the gang
has more tiles than there are slices (06 R189; which tile takes which slice: DESIGN CHOICE, log 37). -/
def Grid.tileOf (x : Grid) (j d : Nat) : Nat :=
  if x.g ≤ x.slices then j % x.g else j * (x.g / x.slices) + d % (x.g / x.slices)

/-- The passes of one tile in their order: slice and place along K. -/
def Grid.passes (x : Grid) (t : Nat) : List (Nat × Nat) :=
  (List.range x.slices).flatMap (fun j => ((List.range x.depth).filter (fun d => x.tileOf j d == t)).map (fun d => (j, d)))

/-- Tile and byte address of the accumulator entry of the output in column c and row r, from a base: a column's entries are those of
the slices of its tile one after the other, 2,048 in all (04 R111, 06 R189; DESIGN CHOICE, log 13). -/
def Grid.accAt (x : Grid) (base c r : Nat) : Nat × Nat :=
  let j := c / 64
  let q := if x.g ≤ x.slices then j / x.g else 0
  (x.tileOf j 0, (base + ((q * x.rows + r) % 2048 * 64 + c % 64) * 4) % 2 ^ 19)

/-- The accumulator place of output (m, n) (05 R176). -/
def Grid.entry (x : Grid) (base m n : Nat) : Nat × Nat := if x.df = 2 then x.accAt base m n else x.accAt base n m

/-! ## The array's registers and its gated slots (05 R138, R145, R149, R150, R158, R159, R165, R168 to R170, R177) -/

/-- Is element k of row n of a tensor of value zero; is it finite (05 R168, R169)? A place past the operand's end holds an empty
weight or a padding element: zero and finite. -/
def Tensor.zeroAt (t : Tensor) (n k : Nat) : Bool :=
  match (t.vals.getD n [])[k]? with
  | none => true
  | some (.fin _ m _) => m == 0
  | some _ => false
def Tensor.finiteAt (t : Tensor) (n k : Nat) : Bool :=
  match (t.vals.getD n [])[k]? with
  | none => true
  | some (.fin _ _ _) => (match t.scale1 n (k / 32) with | .fin _ _ _ => true | _ => false)
  | some _ => false

/-- Is every product slot of a cell gated, for reduction elements from k on, row n of the stationary operand and row m of the
streaming one (05 R168)? -/
def slotsGated (w a : Tensor) (e n m k : Nat) : Bool :=
  (List.range e).all (fun i => (w.zeroAt n (k + i) && a.finiteAt m (k + i)) || (a.zeroAt m (k + i) && w.finiteAt n (k + i)))

/-- Gated cell-cycles of one pass: every row that streams past, and the 63 beats of padding lanes of each row of cells where the
pass ends a chain of its tile (05 R152, R168, R170). A beat of the 16-bit mode counts four cycles. -/
def Grid.gatedPass (x : Grid) (w a : Tensor) (j d : Nat) (last : Bool) : Nat :=
  let cells := (List.range 64).flatMap (fun i => (List.range 64).map (fun c => (d * 64 * x.e + i * x.e, 64 * j + c)))
  let live := (cells.map (fun z => (List.range x.rows).countP (fun m => slotsGated w a x.e z.2 m z.1))).sum
  let pad := if last then 63 * cells.countP (fun z => (List.range x.e).all (fun i => w.finiteAt z.2 (z.1 + i))) else 0
  (if x.lb = 2 then 4 else 1) * (live + pad)

/-- Gated cell-cycles of one OS pass over the 64 × 64 outputs of slice j and row tile i, the padding of its skewed operands with them
(05 R168, R170, R177). -/
def Grid.gatedOs (x : Grid) (w a : Tensor) (j i : Nat) : Nat :=
  let cells := (List.range 64).flatMap (fun r => (List.range 64).map (fun c => (64 * i + r, 64 * j + c)))
  (if x.lb = 2 then 4 else 1) * ((cells.map (fun z => (List.range x.k).countP (fun k => slotsGated w a 1 z.2 z.1 k))).sum + 63 * 4096)

/-- The register set of one pass (05 R138, R145, R149, R150, R158, R159, R171): the codes of the stationary operand slot by slot,
CB8 codes decoded to FP8E4. -/
def Grid.regs (x : Grid) (idx : Nat) (wo ao : Opnd) (w a : Tensor) (consts : List Nat) (j d no : Nat) : PassRegs :=
  let width := fmtBits wo.fmt
  let code := fun n k =>
    let c := (w.codes.getD n []).getD k 0
    if wo.fmt = 9 then (fp8e4.convert none ((w.vals.getD n []).getD k (.fin false 0 0))).code else c
  let k0 := d * 64 * x.e
  let chans := (List.range 64).filterMap (fun c => if 64 * j + c < x.cols then some (64 * j + c) else none)
  { e := x.e, lane := x.lb, taps := if w.blocked || a.blocked then 32 / x.e else 64, df := x.df, tag := (idx, no)
    cells := (List.range 64).filterMap (fun i => if x.k ≤ k0 + i * x.e then none else some (chans.map (fun n =>
      (List.range x.e).foldl (fun v s => v + (if k0 + i * x.e + s < x.k then code n (k0 + i * x.e + s) else 0) * 2 ^ (width * s)) 0)))
    book := if wo.fmt = 8 then (List.range 16).map (fun c => f32Code (w.book j c) / 65536) else []
    scales := if w.blocked then chans.map (fun n => ((w.raw1.getD n []).drop (k0 / 32)).take (ceilDiv (64 * x.e) 32)) else []
    scales2 := if w.blocked then chans.map (fun n => (w.raw2.getD n []).getD (k0 / 8192) 0) else []
    actScales := if a.blocked then (List.range x.rows).map (fun m =>
      (((a.raw1.getD m []).drop (k0 / 32)).take (ceilDiv (64 * x.e) 32), (a.raw2.getD m []).getD (k0 / 8192) 0)) else []
    consts := (consts.drop k0).take (64 * x.e) }

/-- A tile's register sets after its passes: the last pass is active, the one before it in the registers that are free
(05 R158, R159); after a stalled load they were empty (R165). -/
def afterPasses (stalled : Bool) (old : PassRegs × Option PassRegs) : List PassRegs → PassRegs × Option PassRegs
  | [] => old
  | p :: t => afterPasses false (p, if stalled then none else some old.1) t

/-! ## MATMUL (06 R189, R190; 05 R143 to R147, R171, R172) -/

/-- The activation after its prologue, with the events of its conversions (05 R171, R172). -/
def prologue (op : Nat) (s : Num) (consts : List Num) (fmt : Nat) (sr : Nat → Option Nat) (k : Nat) (rows : List (List Num)) :
    List (List Num) × List Conv :=
  let step := fun (x : Num) (i : Nat) => match op with
    | 0 => mul32 x (consts.getD i .nan)
    | 1 => add32 x (consts.getD i .nan)
    | _ => mul32 x s
  let out := rows.zipIdx.map (fun r => r.1.zipIdx.map (fun x => fmtConvert fmt (sr (r.2 * k + x.2)) (step x.1 x.2)))
  (out.map (fun r => r.map (fun c => fmtValue fmt c.code (fun _ => 0))), out.flatMap id)

/-- A sum of the shared passes: the value before output conversion and the saturating additions; the entry's earlier value is one
of the terms (02 R49, R50, R57; 04 R107). -/
def matSum (int exact : Bool) (kp : Nat) (w a : Tensor) (m n k c start : Nat) : Num × Nat :=
  if int then
    let p := (prods (w.vals.getD n []) (a.vals.getD m []) 0 k).map Num.toInt
    let r := sumInt c (signed 32 start :: passSums kp (ceilDiv k kp) p)
    (.ofInt r.1, r.2)
  else (dotFloat exact w a n m k c (fp32.decode start), 0)

/-- A 32-bit accumulator entry of a sum (04 R111). -/
def accCode (int : Bool) (x : Num) : Nat := if int then unsigned 32 x.toInt else f32Code x

/-- The sums of a matrix product stored in the accumulator memories of the gang's tiles, and converted and written on DRAIN
(06 R190, 04 R109). -/
def Bench.drain (b : Bench) (s : State) (r : Rec) (int : Nat → Bool) (sums : List (List (Num × Nat))) (always : Bool) :
    Except Nat Bench :=
  let o := r.op 3
  let base := if o.loc = 1 then o.addr else 0
  let x := r.grid b.gang
  let cells := sums.zipIdx.flatMap (fun e => e.1.zipIdx.map (fun v => (x.entry base e.2 v.2, accCode (int e.2) v.1.1)))
  let accs := cells.foldl (fun (l : List Mem) e => l.modify e.1.1 (fun m => m.writeN e.1.2 (leBytes 4 e.2))) b.accs
  let sat := (sums.map (fun l => (l.map Prod.snd).sum)).sum
  let b1 := { b with accs := accs }
  if (always || bit (field r.params 1 1) 1) && o.loc ≠ 1 then b1.outTensor s o (sums.map (fun l => l.map Prod.fst)) sat true
  else .ok { b1 with sat := b1.sat + sat }

/-- The stored weights, or the layer's shadow weights in a re-fire that uses them: no rule lays the shadow pages out, so their values
are a free function of the pages' bytes (03 R86; log 16). -/
def Bench.weights (b : Bench) (s : State) (r : Rec) (bytes : List Byte) : Except Nat (Tensor × Bench) :=
  let w := r.op 1
  match b.shadow with
  | none => match b.tensor s r w with
    | .error c => .error c
    | .ok (t, x) => .ok ({ t with vals := t.vals.map (fun l => l.map (cellValue w.fmt)) }, x)
  | some sb =>
    let out := Config.catalogueOut r.opc bytes [sb] (2 * w.dim0 * w.dim1) 0
    .ok (readTensor 1 false w.dim0 w.dim1 out, b)

/-- The matrix operands: activation with the prologue applied, weights, the prologue's constants. Under SR the prologue rounds as the
output operand's flag says, with draws of its own (02 R64, R65; DESIGN CHOICE, log 37). -/
def Bench.matOperands (b : Bench) (s : State) (r : Rec) (bytes : List Byte) : Except Nat (Tensor × Tensor × List Nat × Bench) :=
  let a := r.op 0
  match b.tensor s r a with
  | .error c => .error c
  | .ok (ta, b1) => match b1.weights s r bytes with
    | .error c => .error c
    | .ok (tw, b2) =>
      if !r.pro then .ok (ta, tw, [], b2)
      else
        let k := r.op 2
        match (if k.present then b2.read s k 0 (2 * a.dim0) else .ok ([], b2)) with
        | .error c => .error c
        | .ok (cb, b3) =>
          let p := prologue (field r.params 0 1) (fp32.decode (field r.params 4 4)) ((words 2 cb).map bf16.decode) a.fmt
            (fun i => b3.srBits { r.op 3 with fmt := a.fmt } (2 ^ 61 + i)) a.dim0 ta.vals
          .ok ({ ta with vals := p.1 }, tw, words 2 cb, { b3 with
            convSat := b3.convSat + p.2.countP Conv.sat, convNan := b3.convNan + p.2.countP Conv.nan })

/-- Is the accumulator INT32 (02 R49; 03 R84)? -/
def Bench.intAcc (b : Bench) (r : Rec) : Bool :=
  let w := r.op 1
  let a := r.op 0
  fmtInt w.fmt && fmtInt a.fmt && !fmtBlocked w.fmt w.blk && !fmtBlocked a.fmt a.blk && !b.wide && b.shadow.isNone

/-- Are the block sums exact: FP4, INT4, T2 or B1 on both sides (02 R57)? -/
def Bench.exactSums (b : Bench) (r : Rec) : Bool :=
  let narrow := fun f => f == 6 || f == 7 || decide (10 ≤ f)
  narrow (r.op 1).fmt && narrow (r.op 0).fmt && b.shadow.isNone

/-- What a matrix product leaves in the array of every tile: register sets, gated cycles, the 64 cycles of each OS drain
(05 R158, R159, R170, R177, R179). The operands are exchanged under IS (R176). -/
def Bench.array (b : Bench) (r : Rec) (ta tw : Tensor) (consts : List Nat) : Bench :=
  let x := r.grid b.gang
  let st := if r.df = 2 then ta else tw
  let mv := if r.df = 2 then tw else ta
  let wo := if r.df = 2 then r.op 0 else if b.shadow.isSome then { r.op 1 with fmt := 1 } else r.op 1
  let ao := if r.df = 2 then r.op 1 else r.op 0
  let of := fun t => x.passes t
  { b with
    arrays := b.arrays.zipIdx.map (fun e => if r.df = 1 then e.1 else
      afterPasses (b.stalled.getD e.2 false) e.1 ((of e.2).zipIdx.map (fun p => x.regs b.idx wo ao st mv consts p.1.1 p.1.2 p.2)))
    gated := (List.range x.g).map (fun t => if r.df = 1 then
        ((of t).flatMap (fun p => (List.range (ceilDiv x.rows 64)).map (x.gatedOs st mv p.1))).sum
      else ((of t).zipIdx.map (fun p => x.gatedPass st mv p.1.1 p.1.2 (p.2 + 1 == (of t).length))).sum)
    drained := if r.df = 1 then (List.range x.g).map (fun t => 64 * ceilDiv x.rows 64 * (of t).length) else [] }

/-- The cells of an OS record hold the sums of its last output tile in their two registers together, which half in which the spec
leaves open (05 R177; DESIGN CHOICE, log 37). -/
def Bench.osCells (b : Bench) (r : Rec) (int : Bool) (sums : List (List (Num × Nat))) : Bench :=
  if r.df ≠ 1 then b
  else
    let x := r.grid b.gang
    let half := fun (t h : Nat) =>
      let j := (((x.passes t).map Prod.fst).getLast?).getD 0
      ((sums.drop ((sums.length - 1) / 64 * 64)).take 64).map (fun l => ((l.drop (64 * j)).take 64).map (fun v =>
        accCode int v.1 / 2 ^ (16 * h) % 2 ^ 16))
    let set := fun (t h : Nat) => ({ e := 1, lane := x.lb, df := 1, tag := (b.idx, 0), cells := half t h } : PassRegs)
    { b with arrays := b.arrays.zipIdx.map (fun e => if (x.passes e.2).isEmpty then e.1 else (set e.2 0, some (set e.2 1))) }

/-- MATMUL. -/
def Bench.matmul (b : Bench) (s : State) (r : Rec) (bytes : List Byte) : Except Nat Bench :=
  let o := r.op 3
  match b.matOperands s r bytes with
  | .error c => .error c
  | .ok (ta, tw, cs, b1) =>
    let x := r.grid b.gang
    let base := if o.loc = 1 then o.addr else 0
    let int := b.intAcc r
    let start := fun m n => if bit (field r.params 1 1) 0 then
      leNat ((b.accs.getD (x.entry base m n).1 []).readN (x.entry base m n).2 4) else 0
    let sums := (List.range (r.op 0).dim1).map (fun m => (List.range (r.op 1).dim1).map (fun n =>
      matSum int (b.exactSums r) r.kPass tw ta m n (r.op 0).dim0 (b.draw + 2 ^ 20 * (m * (r.op 1).dim1 + n)) (start m n)))
    ((b1.array r ta tw cs).osCells r int sums).drain s r (fun _ => int) sums false

/-! ## MATMUL_GLAZE (06 R192 to R196) -/

/-- A segment of the segment table (06 R194). -/
structure Seg where
  glaze : Nat
  start : Nat
  cnt : Nat
  rsv : Bool
  deriving DecidableEq, Repr

/-- The segment table (06 R194). -/
def segsOf (bs : List Byte) : List Seg :=
  (pieces 16 (bs.length / 16) bs).map (fun e =>
    { glaze := field e 0 4, start := field e 4 2, cnt := field e 6 2, rsv := zeroAt e 8 8 })

/-- Do segments cover rows from `m` to `top` in order exactly once (06 R194)? -/
def segCover (top : Nat) : Nat → List Seg → Bool
  | m, [] => m == top
  | m, g :: t => g.start == m && g.cnt ≠ 0 && segCover top (m + g.cnt) t

/-- Is a segment table valid (06 R194)? -/
def Bench.segsOk (b : Bench) (rows proj : Nat) (l : List Seg) : Bool :=
  decide (1 ≤ l.length) && decide (l.length ≤ 512) && l.all Seg.rsv && segCover rows 0 l &&
    distinct ((l.map Seg.glaze).filter (fun g => g ≠ 0)) &&
    l.all (fun g => g.glaze == 0 || (b.active.contains g.glaze && match KMap.find b.glazes g.glaze with
      | none => false
      | some z => z.proj.any (fun p => p.1 == proj)))

/-- The low-rank terms of row m for every output channel: α × the sum of each B pass of 64 ranks of round(x · A) · B, the terms that
the column tails add to the entry (02 R57; 04 R107; 06 R192, R193, R195). -/
def glazeRow (f rank dout : Nat) (alpha : Num) (ta am bm : Tensor) (m din c : Nat) : List (List Num) :=
  let mid := (List.range rank).map (fun j =>
    fmtValue f (fmtConvert f none (dotFloat false am ta j m din (c + 2 ^ 20 * j) (.fin false 0 0))).code (fun _ => 0))
  (List.range dout).map (fun n => (List.range (ceilDiv rank 64)).map (fun p =>
    mul32 alpha (sumProds (c + 2 ^ 28 + 2 ^ 10 * n + p) (prods (bm.vals.getD n []) mid (64 * p) 64))))

/-- A plane of `rows` packed rows of `k` elements at a DUA. -/
def Bench.plane (b : Bench) (s : State) (f k rows d : Nat) : Except Nat (Tensor × Bench) :=
  match b.readDua s d (rowBytes (fmtBits f) k * rows) with
  | .error c => .error c
  | .ok (bs, b1) => .ok (readTensor f false k rows bs, b1)

/-- The low-rank terms of every row, segment by segment (06 R192, R195). -/
def Bench.glazeTerms (s : State) (proj : Nat) (ta : Tensor) : Bench → List Seg → Except Nat (List (Nat × List (List Num)) × Bench)
  | b, [] => .ok ([], b)
  | b, g :: rest =>
    match KMap.find b.glazes g.glaze with
    | none => Bench.glazeTerms s proj ta b rest
    | some z => match z.proj.find? (fun p => p.1 == proj) with
      | none => Bench.glazeTerms s proj ta b rest
      | some (_, din, dout, da, db) =>
        match b.plane s z.gfmt din z.rank da with
        | .error c => .error c
        | .ok (am, b1) => match b1.plane s z.gfmt z.rank dout db with
          | .error c => .error c
          | .ok (bm, b2) => match Bench.glazeTerms s proj ta b2 rest with
            | .error c => .error c
            | .ok (l, b3) => .ok ((List.range g.cnt).map (fun i =>
                (g.start + i, glazeRow z.gfmt z.rank dout (fp32.decode z.alpha.toNat) ta am bm (g.start + i) din
                  (b.draw + 2 ^ 56 + 2 ^ 40 * (g.start + i)))) ++ l, b3)

/-- The scratch area of a MATMUL_GLAZE with a glaze: it holds the rounded intermediates in a layout that no rule gives
(06 R194, R195, log 16). -/
def Bench.glazeScratch (b : Bench) (at' : Nat) (segs : List Seg) : Bench :=
  if segs.all (fun g => g.glaze == 0) then b
  else { b with scratch := b.scratch.writeN at' (freeBytes (b.draw + 2 ^ 62) (2048 * 128 * 4)) }

/-- MATMUL_GLAZE: the shared sum and the low-rank terms in one accumulator entry, converted once. A row without a glaze sums as MATMUL
does; an entry with low-rank terms is FP32 (02 R49; 06 R192, R193; DESIGN CHOICE, log 37). -/
def Bench.matmulGlaze (b : Bench) (s : State) (r : Rec) (bytes : List Byte) : Except Nat Bench :=
  let a := r.op 0
  let w := r.op 1
  match b.read s (r.op 2) 0 (16 * (r.op 2).dim1) with
  | .error c => .error c
  | .ok (sb, b0) =>
    let segs := segsOf sb
    if !b.segsOk a.dim1 (field r.params 0 2) segs then .error Code.glazeSegmentInvalid
    else match b0.matOperands s r bytes with
      | .error c => .error c
      | .ok (ta, tw, cs, b1) => match Bench.glazeTerms s (field r.params 0 2) ta b1 segs with
        | .error c => .error c
        | .ok (terms, b2) =>
          let low := fun m => (terms.find? (fun t => t.1 == m)).map Prod.snd
          let int := fun m => b.intAcc r && (low m).isNone
          let sums := (List.range a.dim1).map (fun m => (List.range w.dim1).map (fun n =>
            let c := b.draw + 2 ^ 20 * (m * w.dim1 + n)
            match low m with
            | none => matSum (int m) (b.exactSums r) r.kPass tw ta m n a.dim0 c 0
            | some l => (sumProds c (dotTerms (b.exactSums r) tw ta n m a.dim0 c ++ l.getD n []), 0)))
          ((b2.array r ta tw cs).glazeScratch (field r.params 4 4) segs).drain s r int sums true

/-! ## ATTEND (06 R197 to R199) -/

/-- A sequence entry (06 R198). -/
structure SeqEnt where
  ctx : Nat
  qrow : Nat
  qcnt : Nat
  bt : Nat
  deriving DecidableEq, Repr

/-- The sequence table (06 R198). -/
def seqsOf (bs : List Byte) : List SeqEnt :=
  (pieces 16 (bs.length / 16) bs).map (fun e => { ctx := field e 0 4, qrow := field e 4 2, qcnt := field e 6 2, bt := field e 8 8 })

/-- Is a sequence table valid: lengths in range, query rows within M and disjoint (06 R198)? -/
def seqsOk (rows : Nat) (l : List SeqEnt) : Bool :=
  l.all (fun e => decide (1 ≤ e.ctx) && decide (e.ctx ≤ 131072) && decide (1 ≤ e.qcnt) && decide (e.qcnt ≤ e.ctx) &&
    decide (e.qrow + e.qcnt ≤ rows)) &&
  distinct (l.flatMap (fun e => (List.range e.qcnt).map (fun i => e.qrow + i)))

/-- A list in an order that the block leaves open (06 R199). -/
def freeOrder (c : Nat) : Nat → List Nat → List Nat
  | 0, l => l
  | _, [] => []
  | n + 1, l =>
    let i := Config.sumOrder c l.length % l.length
    l.getD i 0 :: freeOrder c n (l.eraseIdx i)

/-- The running maximum, sum and output of the softmax (06 R199). -/
structure Soft where
  mx : Num := .inf true
  l : Num := .fin false 0 0
  o : List Num
  deriving DecidableEq, Repr

/-- One key position taken in (06 R199). -/
def Soft.take (a : Soft) (x : Num) (v : List Num) : Soft :=
  let mn := if a.mx = .nan ∨ x = .nan then .nan else a.mx.max x
  let f := expNum (sub32 a.mx mn)
  let g := expNum (sub32 x mn)
  { mx := mn, l := add32 (mul32 a.l f) g
    o := (a.o.zip v).map (fun e => add32 (mul32 e.1 f) (mul32 g e.2)) }

/-- One output row of one head (06 R199). -/
def attendHead (scale deq : Num) (q : List Num) (keys vals : Nat → List Num) (p c : Nat) (dh : Nat) : List Num :=
  let blocks := freeOrder c (p / 32 + 1) (List.range (p / 32 + 1))
  let us := blocks.flatMap (fun b => ((List.range 32).map (fun i => 32 * b + i)).filter (fun u => decide (u ≤ p)))
  let r := us.foldl (fun (a : Soft) u =>
    let k := (keys u).map (mul32 deq)
    let x := mul32 scale (sumProds (c + u) (prods q k 0 dh))
    a.take x ((vals u).map (mul32 deq))) { o := List.replicate dh (.fin false 0 0) }
  r.o.map (fun x => div32 x r.l)

/-- ATTEND. -/
def Bench.attend (b : Bench) (s : State) (r : Rec) : Except Nat Bench :=
  let a := r.op 0
  let o := r.op 3
  let h := field r.params 0 1
  let hkv := max (field r.params 1 1) 1
  let dh := 64 * 2 ^ field r.params 2 1
  let kf := field r.params 3 1
  let eb := fmtBits kf / 8
  let bb := 2 * 32 * hkv * dh * eb
  let nblk := field r.params 12 4
  match b.tensor s r a with
  | .error c => .error c
  | .ok (tq, b1) => match b1.read s (r.op 2) 0 (16 * (r.op 2).dim1) with
    | .error c => .error c
    | .ok (sb, b2) =>
      let seqs := seqsOf sb
      if !seqsOk a.dim1 seqs then .error Code.shapeInvalid
      else
        let tables := seqs.map (fun e => (e, words 4 (s.dev.readN e.bt (4 * ceilDiv e.ctx 32))))
        let base := (b.dua (r.op 1)).getD 0
        let ranges := tables.flatMap (fun t => (t.1.bt, 4 * t.2.length) ::
          (t.2.filter (fun k => decide (k < nblk))).map (fun k => (base + k * bb, bb)))
        match ranges.findSome? (fun g => if s.readErr b.part g.1 g.2 = 0 then none else some (s.readErr b.part g.1 g.2)) with
        | some c => .error c
        | none =>
          -- the elements of one head of one token, fetched by a strided transfer (04 R119, 06 R197)
          let elems := fun (t : List Nat) (plane u hk : Nat) =>
            (strided (base + t.getD (u / 32) 0 * bb + plane * (32 * hkv * dh * eb) + (u % 32 * hkv + hk) * dh * eb : Nat)
              [(dh, (eb : Int))]).map (fun d => fmtValue kf (leNat (s.dev.readN d eb)) (fun _ => 0))
          let row := fun (t : SeqEnt × List Nat) (j : Nat) =>
            if t.2.any (fun k => decide (nblk ≤ k)) then List.replicate (h * dh) (Num.fin false 0 0)
            else
              let q := tq.row (t.1.qrow + j)
              (List.range h).flatMap (fun hd =>
                let hk := hd / (h / hkv)
                attendHead (fp32.decode (field r.params 4 4)) (fp32.decode (field r.params 8 4)) ((q.drop (hd * dh)).take dh)
                  (fun u => elems t.2 0 u hk) (fun u => elems t.2 1 u hk)
                  (t.1.ctx - t.1.qcnt + j) (b.draw + 2 ^ 40 * (t.1.qrow + j) + 2 ^ 20 * hd) dh)
          let rb := fmtBits o.fmt / 8 * (h * dh)
          let rows := tables.flatMap (fun t => (List.range t.1.qcnt).map (fun j => (t.1.qrow + j, row t j)))
          let b3 := { b2 with reads := b2.reads ++ ranges }
          -- rows of no sequence are not written
          rows.foldl (fun (x : Except Nat Bench) e => match x with
            | .error c => .error c
            | .ok y => y.outTensor s { o with addr := o.addr + e.1 * rb, dim0 := h * dh, dim1 := 1 } [e.2] 0 true)
            (.ok (b3.note (tables.any (fun t => t.2.any (fun k => decide (nblk ≤ k)))) Code.kvBlockInvalid))

/-! ## Conversions, selection, transfers -/

/-- QUANT and DEQUANT (02 R58 to R63). -/
def Bench.convert (b : Bench) (s : State) (r : Rec) (monitored : Bool) : Except Nat Bench :=
  let a := r.op 0
  let o := r.op 3
  match b.tensor s r a with
  | .error c => .error c
  | .ok (t, b1) => b1.outTensor s { o with dim0 := a.dim0, dim1 := a.dim1 } ((List.range a.dim1).map t.row) 0 monitored

/-- The rows of keys with their tags (07 R220, R221). -/
def Bench.selRows (b : Bench) (s : State) (r : Rec) : Except Nat (List (List SelEl) × Bench) :=
  let kt := field r.params 0 1
  let kb := keyBytes kt
  let a := r.op 0
  match b.read s a 0 (kb * a.dim0 * a.dim1) with
  | .error c => .error c
  | .ok (bs, b1) =>
    let keys := (pieces (kb * a.dim0) a.dim1 bs).map (words kb)
    if (r.op 1).present && r.opc ≠ 0x21 then
      match b1.read s (r.op 1) 0 (4 * a.dim0 * a.dim1) with
      | .error c => .error c
      | .ok (tb, b2) => .ok ((keys.zip ((pieces (4 * a.dim0) a.dim1 tb).map (words 4))).map (fun e =>
          rowEls kt 0 e.1 (some e.2)), b2)
    else .ok (keys.map (fun l => rowEls kt (field r.params 8 4) l none), b1)

/-- TOPK, ARGMAX and SORT (07 R227 to R233). -/
def Bench.select (b : Bench) (s : State) (r : Rec) : Except Nat Bench :=
  let desc := bit (field r.params 1 1) 0
  let drop := bit (field r.params 1 1) 1
  match b.selRows s r with
  | .error c => .error c
  | .ok (rows, b1) =>
    let out := rows.zipIdx.flatMap (fun e => match r.opc with
      | 0x20 => topkRow desc drop (field r.params 4 4) e.1
      | 0x21 => argmaxRow e.1
      | _ => sortRow desc drop (freeBytes (b.draw + 8 * e.2 * e.1.length) (8 * e.1.length)) e.1)
    b1.write s (r.op 3) 0 out

/-- The input records of MERGE's operands (07 R234). -/
def Bench.mergeIns (s : State) : Bench → List Opnd → Except Nat (List InRec × Bench)
  | b, [] => .ok ([], b)
  | b, o :: t =>
    if !o.present then Bench.mergeIns s b t
    else match b.read s o 0 (o.dim0 * o.dim1) with
      | .error c => .error c
      | .ok (bs, b1) => match Bench.mergeIns s b1 t with
        | .error c => .error c
        | .ok (l, b2) => .ok ((pieces o.dim0 o.dim1 bs).map (fun x => { hdr := readHdr x, bytes := x }) ++ l, b2)

/-- EKIND of MERGE: that of its first input, none where it cannot be read. -/
def Bench.mergeKind (b : Bench) (s : State) (r : Rec) : Option Nat :=
  match b.read s (r.op 0) 0 32 with
  | .error _ => none
  | .ok (bs, _) => some (field bs 8 1)

/-- MERGE (07 R234 to R238). An input's DIM0 is the stride of its record's KCAP and entry size (R226, R234). -/
def Bench.merge (b : Bench) (s : State) (r : Rec) : Except Nat Bench :=
  let kt := field r.params 0 1
  let fl := field r.params 1 1
  let k := field r.params 4 4
  match Bench.mergeIns s b (r.opnds.take 3) with
  | .error c => .error c
  | .ok (ins, b1) =>
    if ins.any (fun x => x.strideBad x.bytes.length) then .error Code.shapeInvalid
    else if b.mergeKind s r = some 1 then
      (if ins.all InRec.itemsOk && kt == 0 && fl == 0 && field r.params 8 4 == 0 then b1.write s (r.op 3) 0 (mergeItems k ins)
       else .error Code.listInvalid)
    else if ins.all (InRec.selsOk kt (bit fl 0)) then b1.write s (r.op 3) 0 (mergeSels kt (bit fl 0) (bit fl 1) k ins)
    else .error Code.listInvalid

/-- The indices of a list operand: 32 bits in one row, 64 bits in two (log 16). -/
def Bench.indices (b : Bench) (s : State) (o : Opnd) : Except Nat (List Nat × Bench) :=
  let w := if o.dim1 = 2 then 8 else 4
  match b.read s o 0 (w * o.dim0) with
  | .error c => .error c
  | .ok (bs, b1) => .ok (words w bs, b1)

/-- Rows of a table gathered one by one; an index at or above the bound reads zeros (04 R119, R122). -/
def Bench.gatherRows (s : State) (t : Opnd) (n : Nat) : Bench → List Nat → Except Nat (List Byte × Bench)
  | b, [] => .ok ([], b)
  | b, i :: rest =>
    match (if i < t.dim1 then b.read s t (i * n) n else .ok (zeros n, b.note true Code.indexOutOfRange)) with
    | .error c => .error c
    | .ok (bs, b1) => match Bench.gatherRows s t n b1 rest with
      | .error c => .error c
      | .ok (l, b2) => .ok (bs ++ l, b2)

/-- GATHER (04 R119, R122). -/
def Bench.gather (b : Bench) (s : State) (r : Rec) : Except Nat Bench :=
  let t := r.op 0
  match b.indices s (r.op 1) with
  | .error c => .error c
  | .ok (is, b1) => match Bench.gatherRows s t (rowBytes (fmtBits t.fmt) t.dim0) b1 is with
    | .error c => .error c
    | .ok (bs, b2) => b2.write s (r.op 3) 0 bs

/-- One element added at its destination, and the event of its conversion: FP32; BF16, the exact sum rounded once (DESIGN CHOICE, log
16); INT32, which wraps (04 R115, R121). -/
def addElem (f : Nat) (a b : Nat) : Conv :=
  match f with
  | 0 => { code := f32Code (add32 (fp32.decode a) (fp32.decode b)) }
  | 1 => bf16.convert none ((bf16.decode a).add (bf16.decode b))
  | _ => { code := (a + b) % 2 ^ 32 }

/-- Values added up one by one in an order that the block leaves open, integers in any, and the saturations met (04 R121). -/
def addAll (f c : Nat) (l : List Nat) : Nat × Nat :=
  let order := if f = 5 then List.range l.length else freeOrder c l.length (List.range l.length)
  match order.map (fun i => l.getD i 0) with
  | [] => (0, 0)
  | x :: t => t.foldl (fun (a : Nat × Nat) v => let e := addElem f a.1 v; (e.code, a.2 + flag e.sat 0)) (x, 0)

/-- Bytes of an element that SCATTER_ADD adds. -/
def addBytes (f : Nat) : Nat := if f = 1 then 2 else 4

/-- The table's rows with every addition to each applied, in an order left open (04 R121, R122). -/
def Bench.scatterAdd (b : Bench) (s : State) (r : Rec) : Except Nat Bench :=
  let src := r.op 0
  let t := r.op 3
  let w := addBytes t.fmt
  match b.read s src 0 (w * src.dim0 * src.dim1) with
  | .error c => .error c
  | .ok (rb, b1) => match b1.indices s (r.op 1) with
    | .error c => .error c
    | .ok (is, b2) =>
      let rows := (pieces (w * src.dim0) src.dim1 rb).map (words w)
      let b3 := b2.note (is.any (fun i => decide (t.dim1 ≤ i))) Code.indexOutOfRange
      (is.dedup.filter (fun i => decide (i < t.dim1))).foldl (fun (acc : Except Nat Bench) i =>
        match acc with
        | .error c => .error c
        | .ok x => match x.read s t (i * w * t.dim0) (w * t.dim0) with
          | .error c => .error c
          | .ok (old, y) =>
            let adds := (is.zip rows).filterMap (fun e => if e.1 = i then some e.2 else none)
            let new := (words w old).zipIdx.map (fun e => addAll t.fmt (b.draw + i) (e.1 :: adds.map (fun a => a.getD e.2 0)))
            let z : Bench := { y with convSat := y.convSat + (new.map Prod.snd).sum }
            z.write s t (i * w * t.dim0) (new.flatMap (fun e => leBytes w e.1)))
          (.ok b3)

/-- COPY: the source's bytes, or a skewed write. A skewed write of more than one tile of 64 lanes is so many transfers of the record
(04 R119, 05 R155; DEDUCED, log 37). -/
def Bench.copy (b : Bench) (s : State) (r : Rec) : Except Nat Bench :=
  let a := r.op 0
  let o := r.op 3
  match b.read s a 0 a.size with
  | .error c => .error c
  | .ok (bs, b1) =>
    if o.skewed then
      let w := fmtBits a.fmt
      let rows := (pieces (rowBytes w a.dim0) a.dim1 bs).map (fun row => (List.range a.dim0).map (codeAt w row))
      .ok (b1.skew (r.skewOf { o with fmt := a.fmt }) a.dim0 (bit r.rflags 1) (bit r.rflags 2) rows)
    else b1.write s o 0 bs

/-- What a scan leaves in the array: an IS pass on every tile with up to 64 queries in its cells and the tile's share of the items
streaming past (05 R145, R175, R176; 06 R188). -/
def Bench.hammingArray (b : Bench) (r : Rec) (tq tc : Tensor) : Bench :=
  let per := ceilDiv (r.op 1).dim1 (max b.gang 1)
  let grid : Grid := { df := 2, e := 8, lb := 1, cols := (r.op 0).dim1, rows := per, k := (r.op 0).dim0, g := 1 }
  let share := fun t => { tc with vals := (tc.vals.drop (t * per)).take per }
  { b with
    arrays := b.arrays.zipIdx.map (fun e => afterPasses (b.stalled.getD e.2 false) e.1 ((List.range grid.depth).map (fun d =>
      grid.regs b.idx (r.op 0) (r.op 1) tq tc [] 0 d d)))
    gated := (List.range (max b.gang 1)).map (fun t => ((List.range grid.depth).map (fun d =>
      grid.gatedPass tq (share t) 0 d (d + 1 == grid.depth))).sum) }

/-- HAMMING_SCAN: distances of 16 bits, a row of items for each query (06 R188, log 16). -/
def Bench.hamming (b : Bench) (s : State) (r : Rec) : Except Nat Bench :=
  let q := r.op 0
  let w := r.op 1
  let n := q.dim0 / 8
  match b.read s q 0 (n * q.dim1) with
  | .error c => .error c
  | .ok (qb, b1) => match b1.read s w 0 (n * w.dim1) with
    | .error c => .error c
    | .ok (cb, b2) =>
      let qs := (pieces n q.dim1 qb).map leNat
      let cs := (pieces n w.dim1 cb).map leNat
      (b2.hammingArray r (readTensor 0xB false q.dim0 q.dim1 qb) (readTensor 0xB false q.dim0 w.dim1 cb)).write s (r.op 3) 0
        (qs.flatMap (fun x => cs.flatMap (fun y => leBytes 2 (popcount q.dim0 (x ^^^ y)))))

/-- The values of an operand of the vector unit; its INT32 elements, named by FMT 5 in REDUCE and GANG_REDUCE, take four bytes
(06 R188; log 16). -/
def Bench.vecRows (b : Bench) (s : State) (r : Rec) (o : Opnd) : Except Nat (List (List Num) × Bench) :=
  if o.fmt = 5 && (r.opc == 0x2B || r.opc == 0x2C) then
    match b.read s o 0 (4 * o.dim0 * o.dim1) with
    | .error c => .error c
    | .ok (bs, x) => .ok ((pieces (4 * o.dim0) o.dim1 bs).map (fun l => (words 4 l).map (fun v => .ofInt (signed 32 v))), x)
  else match b.tensor s r o with
    | .error c => .error c
    | .ok (t, x) => .ok ((List.range o.dim1).map t.row, x)

/-- Rows written to an operand of the vector unit (02 R59, R63; 04 R114). -/
def Bench.putRows (b : Bench) (s : State) (r : Rec) (rows : List (List Num)) : Except Nat Bench :=
  let o := r.op 3
  if o.fmt = 5 && (r.opc == 0x2B || r.opc == 0x2C) then
    b.write s o 0 ((rows.flatMap id).flatMap (fun v => leBytes 4 (unsigned 32 v.toInt)))
  else b.outTensor s o rows 0 false

/-- ELEM: one operation of the lanes on every element, b broadcast along DIM1 or a scalar; in INT32 where both are of integer class,
else in FP32 (04 R115; 06 R188; which operation: log 16). -/
def Bench.elemOp (b : Bench) (s : State) (r : Rec) (bytes : List Byte) : Except Nat Bench :=
  match b.vecRows s r (r.op 0) with
  | .error c => .error c
  | .ok (xs, b1) => match (if (r.op 1).present then b1.vecRows s r (r.op 1) else .ok ([], b1)) with
    | .error c => .error c
    | .ok (ys, b2) =>
      let op := Config.vectorOp r.opc bytes
      let at' := fun (i j : Nat) => (ys.getD (if (r.op 1).dim1 = 1 then 0 else i) []).getD (if (r.op 1).dim0 = 1 then 0 else j)
        (.fin false 0 0)
      let int := fmtInt (r.op 0).fmt && fmtInt (r.op 1).fmt
      b2.putRows s r (xs.zipIdx.map (fun e => e.1.zipIdx.map (fun x =>
        if int then Num.ofInt (laneInt (op % 11) x.1.toInt (at' e.2 x.2).toInt) else laneFp (op % 6) x.1 (at' e.2 x.2))))

/-- REDUCE: sum, max or min along DIM0 where the output's DIM0 is 1, else along DIM1 (04 R115; 06 R188; which of the three: log 16). -/
def Bench.reduceOp (b : Bench) (s : State) (r : Rec) (bytes : List Byte) : Except Nat Bench :=
  match b.vecRows s r (r.op 0) with
  | .error c => .error c
  | .ok (xs, b1) =>
    let op := Config.vectorOp r.opc bytes % 3
    let red := fun (c : Nat) (l : List Num) =>
      if (r.op 0).fmt = 5 then Num.ofInt (reduceInt op (l.map Num.toInt)) else reduceFp op (b.draw + c) l
    b1.putRows s r (if (r.op 3).dim0 = 1 then xs.zipIdx.map (fun e => [red e.2 e.1])
      else [(List.range (r.op 0).dim0).map (fun j => red j (xs.map (fun l => l.getD j (.fin false 0 0))))])

/-- An operation for which no rule lays its parameters out, or whose other inputs stand in other gangs: its results before their
conversion are free values of four bytes each (log 16). -/
def Bench.opaqueOp (b : Bench) (s : State) (r : Rec) (recBytes : List Byte) : Except Nat Bench :=
  let go := [0, 1, 2].foldl (fun (acc : Except Nat (List (List Byte) × Bench)) i =>
    match acc with
    | .error c => .error c
    | .ok (l, x) => if !(r.op i).present then .ok (l, x) else match x.vecRows s r (r.op i) with
      | .error c => .error c
      | .ok (rows, y) => .ok (l ++ [rows.flatMap (fun w => w.flatMap (fun v => leBytes 4 (f32Code v)))], y)) (.ok ([], b))
  match go with
  | .error c => .error c
  | .ok (ins, b1) =>
    let o := r.op 3
    let out := Config.catalogueOut r.opc recBytes ins (4 * o.dim0 * o.dim1) b.draw
    let val := fun (i : Nat) => if o.fmt = 5 then Num.ofInt (signed 32 (field out (4 * i) 4)) else fp32.decode (field out (4 * i) 4)
    if o.present then b1.putRows s r ((List.range o.dim1).map (fun m => (List.range o.dim0).map (fun k => val (m * o.dim0 + k))))
    else .ok b1

/-- What a record that passes its checks does on its bench, or the status that stops it (06 R188, R191). -/
def Bench.run (b : Bench) (s : State) (r : Rec) (bytes : List Byte) : Except Nat Bench :=
  match r.opc with
  | 0x00 => .ok b
  | 0x01 => b.matmul s r bytes
  | 0x02 => b.matmulGlaze s r bytes
  | 0x03 => b.attend s r
  | 0x13 => b.elemOp s r bytes
  | 0x18 => b.convert s r true
  | 0x19 => b.convert s r false
  | 0x20 => b.select s r
  | 0x21 => b.select s r
  | 0x22 => b.select s r
  | 0x23 => b.merge s r
  | 0x28 => b.gather s r
  | 0x29 => b.scatterAdd s r
  | 0x2A => b.copy s r
  | 0x2B => b.reduceOp s r bytes
  | 0x32 => b.hamming s r
  | _ => b.opaqueOp s r bytes

end Sys2Proof.Machine
end

