-- ==== Sys2Proof/Machine/Images.lean ====
section
/-! DEFINITION. Ware images: the container, loading, unloading and the query (06_operations R206 to R214, R728;
03_narrow_arithmetic R80, R81; 22_security R659, R664). A load is one step (log 13). -/

namespace Sys2Proof.Machine

/-! ## The container (06_operations R207 to R210) -/

/-- A section table entry (06 R208). -/
structure Sect where
  typ : Nat
  sflags : Nat
  off : Nat
  len : Nat
  idx : Nat
  entry : List Byte
  deriving DecidableEq, Repr

/-- Section types an image may hold (06 R208). -/
def sectTypes : List Nat := [1, 2, 3, 4, 5, 6, 7, 8, 9, 0xFF]

/-- The section table of a container (06 R208). -/
def sectsOf (bs : List Byte) : List Sect :=
  (pieces 48 (field bs 40 2) (bs.drop 128)).zipIdx.map (fun e =>
    { typ := field e.1 0 2, sflags := field e.1 2 2, off := field e.1 8 8, len := field e.1 16 8, idx := e.2, entry := e.1 })

/-- The section of a type. -/
def sectOf (l : List Sect) (t : Nat) : Option Sect := l.find? (fun x => x.typ == t)

/-- Is the image encrypted (06 R207)? -/
def imgEnc (hdr : List Byte) : Bool := bit (field hdr 38 2) 0
/-- HAS_SHADOW. -/
def imgShadow (hdr : List Byte) : Bool := bit (field hdr 38 2) 1
/-- NEEDS_PRIV. -/
def imgPriv (hdr : List Byte) : Bool := bit (field hdr 38 2) 2

/-- Must a section be marked ENCRYPTED in an encrypted image (06 R208)? -/
def sectEnc (t : Nat) : Bool := [2, 5, 6, 7, 8].contains t

/-- Length that the header fixes for a section, none where its content does (06 R208). -/
def sectLen (hdr : List Byte) (t : Nat) : Option Nat :=
  match t with
  | 1 => some 64
  | 2 => some (128 * field hdr 44 2)
  | 3 => some (16 * field hdr 46 2)
  | 4 => some (16 * field hdr 48 4)
  | 9 => some 1088
  | 0xFF => some 3320
  | _ => none

/-- The bytes of a section as they stand in the container, empty where it has none of the type. -/
def sectRaw (bs : List Byte) (t : Nat) : List Byte :=
  match sectOf (sectsOf bs) t with | none => [] | some k => (bs.drop k.off).take k.len

/-- Step 1 of a load but for the contents of sections other than KEYWRAP and SIG (06 R207, R208, R213). -/
def headerBad (bs : List Byte) : Bool :=
  let h := bs.take 128
  let sig := sectRaw bs 0xFF
  let ss := sectsOf bs
  let n := ss.length
  decide (bs.length < 128) || field h 0 4 ≠ 0x49575856 || field h 4 2 ≠ 1 || field h 6 2 ≠ 128 || field h 8 8 ≠ bs.length ||
    decide (4 < field h 36 1) || decide (8 < field h 37 1) || decide (8 ≤ field h 38 2) || decide (n < 7) || decide (16 < n) ||
    decide (65534 < field h 42 2) || field h 44 2 == 0 || field h 46 2 == 0 || !zeroAt h 57 3 || !zeroAt h 88 40 ||
    (!imgEnc h && (field h 56 1 ≠ 0xFF || !zeroAt h 60 12)) ||
    ss.any (fun x => !sectTypes.contains x.typ || decide (2 ≤ x.sflags) || !zeroAt x.entry 4 4 || !zeroAt x.entry 40 8 ||
      x.off % 256 ≠ 0 || decide (x.off < 128 + 48 * n) || decide (bs.length < x.off + x.len) ||
      (bit x.sflags 0 != (imgEnc h && sectEnc x.typ)) || (!bit x.sflags 0 && !zeroAt x.entry 24 16) ||
      (match sectLen h x.typ with | none => false | some k => x.len ≠ k) ||
      ss.any (fun y => decide (y.idx < x.idx) && (y.typ == x.typ || overlaps x.off x.len y.off y.len))) ||
    [1, 2, 3, 4, 8, 9, 0xFF].any (fun t => (sectOf ss t).isNone) ||
    (match ss.getLast? with | none => true | some x => x.typ ≠ 0xFF) ||
    (!imgEnc h && !zeroAt (sectRaw bs 9) 0 1088) || field sig 0 2 ≠ 3309 || !zeroAt sig 2 2 || !zeroAt sig 3313 7

/-- The section key of an encrypted image (22_security R659). -/
def sectKey (genP : Nat) (bs : List Byte) : List Byte :=
  Config.kmac256 (Config.mlKemDecaps (field bs 56 1) genP (sectRaw bs 9)) ((bs.drop 16).take 16 ++ (bs.drop 56).take 1)
    (([0x56, 0x58, 0x39, 0x36, 0x38, 0x2D, 0x49, 0x4D, 0x47] : List Nat).map (BitVec.ofNat 8)) 32

/-- The nonce of a section: IV_BASE, its last two bytes XORed with the section's table index, the high byte first (06 R212; the byte
order: PRESUMED, log 38). -/
def sectNonce (bs : List Byte) (idx : Nat) : List Byte :=
  let iv := (bs.drop 60).take 12
  iv.take 10 ++ [iv.getD 10 0 ^^^ BitVec.ofNat 8 (idx / 256), iv.getD 11 0 ^^^ BitVec.ofNat 8 idx]

/-- Plaintext of a section, none where its tag fails; its table entry is the additional data (06 R212, 22_security R659). -/
def sectPlain (genP : Nat) (bs : List Byte) (x : Sect) : Option (List Byte) :=
  let raw := (bs.drop x.off).take x.len
  if bit x.sflags 0 then
    (Config.aesGcmOpen (sectKey genP bs) (sectNonce bs x.idx) x.entry raw ((x.entry.drop 24).take 16)).map (fun l =>
      (l ++ zeros x.len).take x.len)
  else some raw

/-- The plaintext of every section by type. -/
def plains (genP : Nat) (bs : List Byte) : KMap (List Byte) :=
  (sectsOf bs).filterMap (fun x => (sectPlain genP bs x).map (fun l => (x.typ, l)))

/-- Bytes `o` to `o + n - 1` of a list set to a value. -/
def setBytes (bs : List Byte) (o : Nat) (v : List Byte) : List Byte := bs.take o ++ v ++ bs.drop (o + v.length)

/-- The hash input of R211: normalised header, section table, plaintexts but KEYWRAP and SIG. -/
def signedInput (bs : List Byte) (ps : KMap (List Byte)) : List Byte :=
  let h := bs.take 128
  let h1 := setBytes (setBytes (setBytes (setBytes h 56 [0xFF]) 60 (zeros 12)) 38 (leBytes 2 (field h 38 2 / 2 * 2))) 88 (zeros 40)
  let table := (sectsOf bs).flatMap (fun x => setBytes (setBytes (setBytes (setBytes x.entry 2 (leBytes 2 (x.sflags / 2 * 2)))
    24 (zeros 16)) 4 (zeros 4)) 40 (zeros 8))
  h1 ++ table ++ (sectsOf bs).flatMap (fun x => if x.typ = 9 || x.typ = 0xFF then [] else KMap.findD ps x.typ [])

/-- The records of GRAPH. -/
def recsOf (ps : KMap (List Byte)) : List (List Byte) :=
  let g := KMap.findD ps 2 []
  pieces 128 (g.length / 128) g

/-- The page groups of GROUPS: first page, count, SHADOW, reserved fields clear (06 R208). -/
def groupsOf (ps : KMap (List Byte)) : List (Nat × Nat × Bool × Bool) :=
  let g := KMap.findD ps 3 []
  (pieces 16 (g.length / 16) g).map (fun e => (field e 0 4, field e 4 4, bit (field e 8 4) 0, field e 8 4 < 2 && zeroAt e 12 4))

/-- One entry of PAGES (06 R208, R209). -/
structure PageEnt where
  off : Nat
  len : Nat
  group : Nat
  pf : Nat
  deriving DecidableEq, Repr

/-- The entries of PAGES (06 R208). -/
def pageEnts (ps : KMap (List Byte)) : List PageEnt :=
  let g := KMap.findD ps 4 []
  (pieces 16 (g.length / 16) g).map (fun e => { off := field e 0 8, len := field e 8 4, group := field e 12 2, pf := field e 14 2 })

/-- Are the reserved bits of a record's PARAMS zero, for the opcodes that lay PARAMS out (06 R190, R194, R198; 07 R218; 10 R337,
R343)? -/
def Rec.paramsOk (r : Rec) : Bool :=
  let p := r.params
  match r.opc with
  | 0x01 => field p 1 1 < 4 && zeroAt p 2 2 && zeroAt p 8 8
  | 0x02 => zeroAt p 2 2 && zeroAt p 8 8
  | 0x20 => field p 1 1 < 4 && zeroAt p 2 2 && zeroAt p 12 4
  | 0x21 => field p 1 1 < 4 && zeroAt p 2 2 && zeroAt p 12 4
  | 0x22 => field p 1 1 < 4 && zeroAt p 2 2 && zeroAt p 12 4
  | 0x23 => field p 1 1 < 4 && zeroAt p 2 2 && zeroAt p 12 4
  | 0x30 => field p 3 1 < 2 && zeroAt p 8 8
  | 0x31 => field p 3 1 < 2 && zeroAt p 12 4
  | _ => true

/-- The contents that step 1 judges of the sections that are never encrypted: reserved fields, page entries, groups; the length of
PAYLOAD stands in the table (06 R208, R209). -/
def contentBad (bs : List Byte) (ps : KMap (List Byte)) : Bool :=
  let h := bs.take 128
  let pg := pageEnts ps
  let gs := groupsOf ps
  let pay := match sectOf (sectsOf bs) 8 with | none => 0 | some k => k.len
  !zeroAt (KMap.findD ps 1 []) 50 2 || !zeroAt (KMap.findD ps 1 []) 56 8 || gs.any (fun g => !g.2.2.2) ||
    pg.zipIdx.any (fun e => e.1.len == 0 || decide (65536 < e.1.len) || decide (pay < e.1.off + e.1.len) ||
      decide (32 ≤ e.1.pf) || bits e.1.pf 2 2 == 3 ||
      (match gs[e.1.group]? with
        | none => true
        | some g => decide (e.2 < g.1) || decide (g.1 + g.2.1 ≤ e.2) || g.2.2.1 != bit e.1.pf 4)) ||
    gs.any (fun g => decide (field h 48 4 < g.1 + g.2.1))

/-- The contents that step 1 judges of the sections that an encrypted image encrypts: reserved fields of records and of the schedule,
CAL present where a record is monitored (06 R181, R183, R208, R210). -/
def sealedBad (h : List Byte) (ps : KMap (List Byte)) : Bool :=
  let recs := (recsOf ps).map recOf
  (pieces 16 (field h 42 2) (KMap.findD ps 6 [])).any (fun e => !zeroAt e 14 2) ||
    recs.any (fun r => !r.rsv || !r.paramsOk || r.opnds.any (fun o => !o.rsv) || !(([r.rd0, r.rd1, r.wr0] : List Range).all Range.rsv) || decide (10 < r.gangLog2)) ||
    (recs.any (fun r => r.mon ≠ 0) && (KMap.find ps 5).isNone)

/-! ## The checks on records, thresholds and schedule (06 R213 steps 7 and 8) -/

/-- Is every record of a list of ranges covered: is [a, a + n) within the union of writes (06 R204)? -/
def covered (ws : List Range) : Nat → Nat → Nat → Bool
  | 0, _, n => n == 0
  | fuel + 1, a, n =>
    if n = 0 then true
    else match ws.find? (fun w => decide (w.start ≤ a) && decide (a < w.start + w.len)) with
      | none => false
      | some w =>
        let k := min n (w.start + w.len - a)
        covered ws fuel (a + k) (n - k)

/-- The records that record i depends on, directly or through others (06 R203, R204). -/
def ancestors (rs : List Rec) : Nat → List Nat → List Nat
  | 0, l => l
  | n + 1, l => ancestors rs n (l ++ (l.flatMap (fun i => (rs.getD i (recOf [])).preds)).filter (fun d => !l.contains d)).dedup

/-- All ancestors of record i. -/
def Rec.above (rs : List Rec) (i : Nat) : List Nat :=
  ancestors rs i (rs.getD i (recOf [])).preds

/-- Does record i read only what its ancestors write (06 R204)? -/
def readsOk (rs : List Rec) (i : Nat) : Bool :=
  let r := rs.getD i (recOf [])
  let ws := (Rec.above rs i).map (fun k => (rs.getD k (recOf [])).wr0)
  [r.rd0, r.rd1].all (fun g => covered ws (ws.length + 1) g.start g.len)

/-- Step 7: the first failure among the records (06 R213). -/
def recordsErr (h : List Byte) (rs : List Rec) : Nat :=
  match rs.zipIdx.findSome? (fun e =>
    let c := e.1.err true false none 0
    if c ≠ 0 then some c
    else if !e.1.depsOk e.2 || !readsOk rs e.2 then some Code.graphInvalid
    else none) with
  | some c => c
  | none => if imgPriv h != rs.any (fun r => r.df ≠ 0) then Code.dataflowInvalid else 0

/-- The threshold entries of CAL (03 R80). -/
def calOf (ps : KMap (List Byte)) : List (List Byte) :=
  let c := KMap.findD ps 5 []
  pieces 32 (c.length / 32) c

/-- Is an AMAX_CAL a positive finite FP32 value (03 R81)? -/
def calPositive (c : Nat) : Bool := 0 < c && decide (c < 0x7F800000)

/-- Steps of width of a format: what R84 raises by one (03 R74, R84). -/
def widthStep (f : Nat) : Nat :=
  if f = 0 then 3 else if f = 1 || f = 2 then 2 else if f = 3 || f = 4 || f = 5 || f = 9 then 1 else 0

/-- Has layer l an anchor input: an operand marked ANCHOR that the layer reads, at least one step wider than every narrow activation
that its records produce (03 R74)? -/
def anchorInput (rs : List Rec) (l : Nat) : Bool :=
  let mine := rs.filter (fun r => r.layer == l)
  let made := mine.filterMap (fun r =>
    if (r.op 3).present && r.activation 3 && (wider (r.op 3).fmt (r.op 3).blk).1 ≠ (r.op 3).fmt then some (r.op 3).fmt else none)
  mine.any (fun r => (r.opnds.take 3).any (fun o => o.present && o.anchor && made.all (fun f => decide (widthStep f < widthStep o.fmt))))

/-- Is a threshold entry invalid (03 R81)? -/
def calBad (h : List Byte) (rs : List Rec) (shadow : List Nat) (cs : List (List Byte)) (e : List Byte) : Bool :=
  let l := field e 0 2
  let n := field e 3 1
  n == 0 || decide (4 < n) || decide (field e 6 2 < 0x1000) ||
    (List.range n).any (fun i => !calPositive (field e (12 + 4 * i) 4)) ||
    (decide (1001 ≤ field e 10 2) && decide (field e 10 2 ≤ 0xFFFE)) || decide (32 ≤ field e 2 1) || !zeroAt e 28 4 ||
    decide (1 < (cs.filter (fun x => field x 0 2 == l)).length) || decide (field h 42 2 ≤ l) ||
    !anchorInput rs l ||
    (bit (field e 2 1) 3 && !shadow.contains l)

/-- The firing schedule: first record, records, groups, shadow group of each layer (06 R210). -/
def schedOf (h : List Byte) (ps : KMap (List Byte)) : List (Nat × Nat × List Nat × Nat) :=
  let c := KMap.findD ps 6 []
  (pieces 16 (field h 42 2) c).map (fun e =>
    (field e 2 2, field e 4 2, words 2 ((c.drop (field e 8 4)).take (2 * field e 6 2)), field e 12 2))

/-- Is SCHED invalid (06 R210)? -/
def schedBad (h : List Byte) (ps : KMap (List Byte)) (rs : List Rec) : Bool :=
  let c := KMap.findD ps 6 []
  let kind4 := field h 36 1 == 4
  let es := pieces 16 (field h 42 2) c
  kind4 == (KMap.find ps 6).isSome || (kind4 && field h 42 2 ≠ 0) ||
    decide (c.length < 16 * field h 42 2) ||
    es.zipIdx.any (fun e => field e.1 0 2 ≠ e.2 || !zeroAt e.1 14 2 ||
      decide (c.length < field e.1 8 4 + 2 * field e.1 6 2) || decide (rs.length < field e.1 2 2 + field e.1 4 2) ||
      (field e.1 12 2 ≠ 0xFFFF && decide (field h 46 2 ≤ field e.1 12 2)) ||
      (words 2 ((c.drop (field e.1 8 4)).take (2 * field e.1 6 2))).any (fun g => decide (field h 46 2 ≤ g)) ||
      rs.zipIdx.any (fun r => (r.1.layer == e.2) !=
        (decide (field e.1 2 2 ≤ r.2) && decide (r.2 < field e.1 2 2 + field e.1 4 2)))) ||
    rs.any (fun r => r.layer ≠ 0xFFFF && decide (field h 42 2 ≤ r.layer) && !kind4)

/-- The entries of SHADOW: layer, group (06 R208). -/
def shadowOf (ps : KMap (List Byte)) : List (Nat × Nat) :=
  let c := KMap.findD ps 7 []
  (pieces 6 (field c 0 4) (c.drop 4)).map (fun e => (field e 0 4, field e 4 2))

/-- FMT codes that the operand descriptors name (06 R208). -/
def fmtMask (rs : List Rec) : Nat := bitmap (rs.flatMap (fun r => (r.opnds.filter Opnd.present).map Opnd.fmt))

/-- The rest of step 8 (06 R213). -/
def step8Bad (h : List Byte) (ps : KMap (List Byte)) (rs : List Rec) : Bool :=
  let m := KMap.findD ps 1 []
  schedBad h ps rs || imgShadow h != (KMap.find ps 7).isSome ||
    (imgShadow h && ((KMap.findD ps 7 []).length ≠ 4 + 6 * field (KMap.findD ps 7 []) 0 4 ||
      (shadowOf ps).any (fun e => decide (field h 42 2 ≤ e.1) || decide (field h 46 2 ≤ e.2)))) ||
    field m 48 2 ≠ fmtMask rs || (field h 36 1 ≠ 2 && field m 52 4 ≠ 0xFFFFFFFF)

/-! ## Pages of a load (06 R209, R213 steps 9 and 10) -/

/-- A record with its LOC 3 operands relocated to the image's pages (06 R184, R213). -/
def relocate (base : Nat) (b : List Byte) : List Byte :=
  (List.range 4).foldl (fun (a : List Byte) i =>
    let o := 48 + 16 * i
    let g := field a (o + 1) 1
    if g % 8 = 3 then
      setBytes (setBytes a (o + 1) (leBytes 1 (g - 1))) (o + 2) (leBytes 6 (65536 * (base + field a (o + 4) 4) + field a (o + 2) 2))
    else a) b

/-- READONLY pages with these bytes, each with its own flags and tier, on consecutive page numbers: the first, the state
(06 R209, R213; 08 R251, R256). -/
def State.loadPages (s : State) (p : Nat) (pages : List (Nat × Nat × List Byte)) : Option (Nat × State) :=
  (s.duaBase (p * 2 ^ 27) pages.length).bind (fun k =>
    (pages.zipIdx.foldl (fun (o : Option State) e => o.bind (fun (t : State) =>
        (t.allocPage p (k + e.2) e.1.1 (BitVec.ofNat 16 (e.1.2.1 ||| 8))).map (fun u =>
          { u with dev := u.dev.writeN (65536 * (k + e.2)) e.1.2.2 }))) (some { s with fresh := s.fresh + 1 })).map
      (fun t => (k, t)))

/-- Tier, page flags and bytes of an image's pages; BACKED where the source is an extent (06 R209, 08 R249). -/
def imagePages (ps : KMap (List Byte)) (backed : Bool) : List (Nat × Nat × List Byte) :=
  let pay := KMap.findD ps 8 []
  (pageEnts ps).map (fun e => (bits e.pf 2 2, flag (bit e.pf 0) 2 + flag (bit e.pf 1) 0 + flag backed 6,
    (pay.drop e.off).take e.len))

/-- Is some codebook entry that the load brings in NaN or infinite: of an operand that the image places in its own pages (02 R46)? -/
def codebookBad (s : State) (base : Nat) (recs : List (List Byte)) : Bool :=
  recs.any (fun b => ((recOf b).opnds.zip (recOf (relocate base b)).opnds).any (fun e =>
    let o := e.2
    e.1.loc == 3 && o.present && (o.fmt == 8 || o.fmt == 9) &&
      (let p := planes o.fmt o.blk o.dim0 o.dim1
       (words 2 (s.dev.readN (o.addr + p.book) (p.size - p.book))).any (fun c => bits c 7 8 == 255))))

/-- Images that hold a handle in the module (06 R728). -/
def State.imagesHeld (s : State) : Nat := (s.parts.map (fun e => e.2.images.length)).sum

/-- The image of a container whose checks hold. -/
def imageOf (bs : List Byte) (ps : KMap (List Byte)) (base : Nat) (recs : List (List Byte)) : Image :=
  let h := bs.take 128
  let m := KMap.findD ps 1 []
  { ready := true, kind := field h 36 1, modelId := field h 16 16, modelVer := field h 32 4, signerId := field h 72 16
    hdr := h, vocabId := field m 32 16, sepId := field m 52 4, layerCnt := field h 42 2
    pfWindow := if field h 37 1 = 0 then 3 else field h 37 1, encrypted := imgEnc h, needsPriv := imgPriv h, recs := recs
    groups := (groupsOf ps).map (fun g => (g.1, g.2.1, g.2.2.1)), pageBase := base, pageCnt := field h 48 4
    sched := if field h 36 1 = 4 then [] else schedOf h ps
    cal := (calOf ps).foldl (fun (a : KMap (List Byte)) e => KMap.put a (field e 0 2) e) []
    shadowMap := (shadowOf ps).foldl (fun (a : KMap Nat) e => KMap.put a e.1 e.2) [], hasShadow := imgShadow h }

/-- The image of the same identity present in partition p (06 R213 step 5, R728). -/
def State.samePresent (s : State) (p : Nat) (h : List Byte) : Option Nat :=
  ((s.part p).images.find? (fun e => e.2.ready && e.2.modelId == field h 16 16 && e.2.modelVer == field h 32 4 &&
    e.2.signerId == field h 72 16)).map Prod.fst

/-- IMAGE_LOAD (06 R213, R728; 22_security R659, R664; 24_startup R703). Loads refused after a debug unlock of scope 3 answer
IMAGE_KEY_INVALID (22_security R673; DESIGN CHOICE, log 33). -/
def execImageLoad (r : Ref) (a : SArgs) (s : State) : Host.Outcome State Fault Refusal :=
  s.command r 0x10 (fun e => argsS e.area == a) (fun s e =>
    match s.source e.part a with
    | .error c => s.reject e c
    | .ok (bs, s1) =>
      let h := bs.take 128
      let v := s.part e.part
      let ps := plains v.genP bs
      let opened := (sectsOf bs).all (fun x => (KMap.find ps x.typ).isSome)
      let input := signedInput bs ps
      let rs := (recsOf ps).map recOf
      let shadow := (shadowOf ps).map Prod.fst
      match firstBad
        [(s.sagger.debugScope == 3, Code.imageKeyInvalid),
         (headerBad bs || contentBad bs ps || (!imgEnc h && sealedBad h ps), Code.imageFormatInvalid),
         (decide ((s.mgmt.comps.getD 2 {}).running < field h 52 4), Code.imageFormatInvalid),
         (imgEnc h && (field h 56 1 ≠ e.part || !s.partKey e.part || !opened), Code.imageKeyInvalid),
         (imgEnc h && sealedBad h ps, Code.imageFormatInvalid),
         (!Config.mlDsaVerify input (((sectRaw bs 0xFF).drop 4).take 3309) 1 v.trustList, Code.imageSignatureInvalid)] with
      | some c => s.reject e c
      | none => match s.samePresent e.part h with
        | some k => (s.count e.part Ctr.cmdRejected 1).done e Code.imageAlreadyLoaded k
        | none => match KMap.free v.images 64 with
          | none => s.reject e Code.imageLimit
          | some k =>
            let cal := calOf ps
            let er := recordsErr h rs
            match firstBad
              [(decide (256 ≤ s.imagesHeld), Code.imageLimit), (er ≠ 0, er),
               ((KMap.findD ps 5 []).length % 32 ≠ 0 || cal.any (calBad h rs shadow cal), Code.thresholdInvalid),
               (step8Bad h ps rs, Code.imageFormatInvalid)] with
            | some c => s.reject e c
            | none => match s1.loadPages e.part (imagePages ps (a.src == 2)) with
              | none => s.reject e Code.poolExhausted
              | some (base, t) =>
                let recs := (recsOf ps).map (relocate base)
                if codebookBad t base (recsOf ps) then s.reject e Code.codebookInvalid
                else
                  let u := t.measure (16 + e.part) 0 (Config.shake256 input 64)
                  (u.modPart e.part (fun w => { w with images := KMap.put w.images k (imageOf bs ps base recs) })).done e 0 k)

/-! ## Unloading and the query (06 R206, R214) -/

/-- An image in READY. -/
def State.image? (s : State) (p h : Nat) : Option Image :=
  match KMap.find (s.part p).images h with
  | none => none
  | some v => if v.ready then some v else none

/-- Pages of the page groups of a list (06 R208). -/
def Image.groupPages (im : Image) (gs : List Nat) : List Nat :=
  gs.flatMap (fun g => match im.groups[g]? with
    | none => []
    | some e => (List.range e.2.1).map (fun i => im.pageBase + e.1 + i))

/-- The pages of an image's layers, which one pass of it reads (06_operations R208, R210; 08_memory_tiers R250). -/
def Image.passPages (im : Image) : List Nat := im.groupPages (im.sched.flatMap (fun e => e.2.2.1))

/-- Is a queue a privileged channel (05 R175)? -/
def State.privileged (s : State) (p q : Nat) : Bool := p == 0 && (s.queue p q).priv

/-- May image h of partition p not execute from a queue: its records select OS or IS (05 R178)? -/
def State.barred (s : State) (p q h : Nat) : Bool :=
  match KMap.find (s.part p).images h with
  | none => false
  | some im => im.needsPriv && !s.privileged p q

/-- Does an open session name image h of partition p, as its model or its draft (06 R214)? -/
def State.imageNamed (s : State) (p h : Nat) : Bool :=
  s.sessions.any (fun e => e.2.part == p && (e.2.image == h || e.2.draft == h))

/-- Does a run, or a command being run, use image h (06 R214)? -/
def State.imageBusy (s : State) (p h : Nat) : Bool :=
  s.runs.any (fun e => e.2.part == p && e.2.image == h) ||
    s.inflight.any (fun c => c.part == p && c.st == .running && (c.opc == 0x38 || c.opc == 0x70) && c.aux.contains h)

/-- IMAGE_UNLOAD (06 R214). -/
def execImageUnload (r : Ref) (a : HArgs) (s : State) : Host.Outcome State Fault Refusal :=
  s.command r 0x11 (fun e => argsH e.area == a) (fun s e =>
    s.checked e
      [((s.image? e.part a.handle).isNone, Code.imageNotLoaded), (s.imageNamed e.part a.handle, Code.imageInUse)]
      (fun _ => (s.modPart e.part (fun v => { v with images := KMap.mod v.images a.handle (fun i =>
        { i with ready := false, leaving := true, unloadTag := e.tag }) })).keep e))

/-- IMAGE_UNLOAD_COMPLETE: the last run that uses the image has ended; its pages are freed, its sticky layers are gone
(06 R214, R728; 03 R95). -/
def execImageUnloadComplete (part image : Nat) (s : State) : Host.Outcome State Fault Refusal :=
  match KMap.find (s.part part).images image with
  | none => .next s
  | some i =>
    if !i.leaving || s.imageBusy part image then .next s
    else
      let t := (s.freePages i.pageBase i.pageCnt).modPart part (fun v => { v with images := KMap.del v.images image })
      match t.cmd i.unloadTag with
      | none => .next t
      | some e => .next (t.done e 0 0)

/-- Gang size of an image's tasks (16_scheduling R514). -/
def Image.gang (i : Image) : Nat := ((i.recs.map recOf).map Rec.gang).foldl max 1

/-- Is the gang of an image that handle h names larger than the partition's limit (16_scheduling R514)? -/
def State.tooWide (s : State) (p h : Nat) : Bool :=
  match KMap.find (s.part p).images h with
  | none => false
  | some im => decide ((s.part p).eff.tileLimit < im.gang)

/-- Pages of an image in tier n. -/
def State.imageIn (s : State) (i : Image) (n : Nat) : Nat :=
  (s.pages.filter (fun e => decide (i.pageBase ≤ e.1) && decide (e.1 < i.pageBase + i.pageCnt) && e.2.tier == n)).length

/-- The items of IMAGE_QUERY (06_operations R206; log 14). -/
def State.imageItems (s : State) (i : Image) : List (List Byte) :=
  [i.hdr, leBytes 4 i.pageCnt ++ leBytes 4 (s.imageIn i 0) ++ leBytes 4 (s.imageIn i 1) ++ leBytes 4 (s.imageIn i 2)]

/-- IMAGE_QUERY: the header, then page counts by tier (06 R206, 18_queues R584, R585). -/
def execImageQuery (r : Ref) (a : QArgs) (s : State) : Host.Outcome State Fault Refusal :=
  s.command r 0x13 (fun e => argsQ e.area == a) (fun s e =>
    match s.image? e.part a.handle with
    | none => s.reject e Code.imageNotLoaded
    | some i => s.answer e a (s.imageItems i))

end Sys2Proof.Machine
end

