-- ==== Sys2Proof/Machine/Text.lean ====
section
/-! DEFINITION. The text engine: UTF-8, vocabularies, splitting, byte-level BPE, unigram, TOKENISE, DETOKENISE and the stop
stage (11_text_engine R362 to R395). -/

namespace Sys2Proof.Machine

/-! ## UTF-8 (11_text_engine R369, R370) -/

/-- Length of the sequences that begin with byte b, and the range of their second byte (11 R369). -/
def seqRule (b : Nat) : Option (Nat × Nat × Nat) :=
  if b ≤ 0x7F then some (1, 0, 0)
  else if 0xC2 ≤ b ∧ b ≤ 0xDF then some (2, 0x80, 0xBF)
  else if b = 0xE0 then some (3, 0xA0, 0xBF)
  else if b = 0xED then some (3, 0x80, 0x9F)
  else if 0xE1 ≤ b ∧ b ≤ 0xEF then some (3, 0x80, 0xBF)
  else if b = 0xF0 then some (4, 0x90, 0xBF)
  else if 0xF1 ≤ b ∧ b ≤ 0xF3 then some (4, 0x80, 0xBF)
  else if b = 0xF4 then some (4, 0x80, 0x8F)
  else none

/-- How many of the next bytes continue a sequence: the first within lo to hi, the others within 80 to BF. -/
def contLen : Nat → Nat → Nat → List Byte → Nat
  | 0, _, _, _ => 0
  | _, _, _, [] => 0
  | n + 1, lo, hi, b :: t => if lo ≤ b.toNat ∧ b.toNat ≤ hi then 1 + contLen n 0x80 0xBF t else 0

/-- What stands at the front of a byte list: a character, a maximal ill-formed subpart, or a proper prefix of a sequence
that takes all the bytes there are (11 R370). -/
inductive Lead where
  | char (n : Nat)
  | bad (n : Nat)
  | part
  deriving DecidableEq, Repr

/-- The front of a byte list (11 R369, R370). -/
def lead (bs : List Byte) : Lead :=
  match bs with
  | [] => .part
  | b :: t => match seqRule b.toNat with
    | none => .bad 1
    | some (len, lo, hi) =>
      let m := 1 + contLen (len - 1) lo hi t
      if m = len then .char len else if m = bs.length then .part else .bad m

/-- A byte list cut into characters (true) and ill-formed subparts (false), and the trailing incomplete sequence
(11 R370, R373, R386). -/
def scanText : Nat → List Byte → List (List Byte × Bool) × List Byte
  | 0, bs => ([], bs)
  | n + 1, bs =>
    if bs.isEmpty then ([], [])
    else match lead bs with
      | .part => ([], bs)
      | .char k => let r := scanText n (bs.drop k); ((bs.take k, true) :: r.1, r.2)
      | .bad k => let r := scanText n (bs.drop k); ((bs.take k, false) :: r.1, r.2)

/-- The cut of a whole byte list. -/
def scanBytes (bs : List Byte) : List (List Byte × Bool) × List Byte := scanText bs.length bs

/-- Is a byte list well-formed UTF-8 (11 R369)? -/
def utf8Ok (bs : List Byte) : Bool := (scanBytes bs).2.isEmpty && (scanBytes bs).1.all (fun e => e.2)

/-- U+FFFD, U+2581 and U+0020 in UTF-8. -/
def uFffd : List Byte := [0xEF, 0xBF, 0xBD]
def u2581 : List Byte := [0xE2, 0x96, 0x81]
def uSpace : List Byte := [0x20]

/-- The code point of one character's bytes (11 R369). -/
def codePoint (bs : List Byte) : Nat :=
  match bs.map BitVec.toNat with
  | [a] => a
  | [a, b] => (a % 32) * 64 + b % 64
  | [a, b, c] => (a % 16) * 4096 + (b % 64) * 64 + c % 64
  | [a, b, c, d] => (a % 8) * 262144 + (b % 64) * 4096 + (c % 64) * 64 + d % 64
  | _ => 0

/-! ## Vocabularies (11_text_engine R362 to R368) -/

/-- Number of resident vocabularies at most, and the bytes of their store (11 R362). -/
def vocabMax : Nat := 16
def vocabStore : Nat := 192 * 2 ^ 20

/-- The part of a container at an offset, inside it and on a multiple of 16 B (11 R364, R366). -/
def vPart (bs : List Byte) (off n : Nat) : Option (List Byte) :=
  if off % 16 = 0 ∧ off + n ≤ bs.length then some ((bs.drop off).take n) else none

/-- Is an FP32 code finite and not above 0 (11 R364, R366)? -/
def scoreOk (c : Nat) : Bool := bits c 23 8 ≠ 255 && (bit c 31 || bits c 0 31 == 0)

/-- One entry of a token table: none where it breaks R365 or R366. -/
def vTok (pool e : List Byte) : Option Tok :=
  let len := field e 4 2
  let fl := field e 6 2
  if 8 ≤ fl ∨ 1024 < len ∨ (len = 0 ∧ !bit fl 0) ∨ pool.length < field e 0 4 + len then none
  else some { bytes := (pool.drop (field e 0 4)).take len, special := bit fl 0, byte := bit fl 1, eos := bit fl 2 }

/-- Are the bytes of the tokens that are not SPECIAL all different (11 R366)? -/
def bytesDistinct : List (List Byte) → Bool
  | [] => true
  | b :: t => !t.contains b && bytesDistinct t

/-- The rules of R366 on the tables of a container. -/
def Vocab.tablesOk (v : Vocab) : Bool :=
  let n := v.toks.length
  let tok := fun (i : Nat) => v.toks.getD i {}
  bytesDistinct ((v.toks.filter (fun t => !t.special)).map Tok.bytes) &&
    v.toks.zipIdx.all (fun e => !e.1.byte || (e.1.bytes.length == 1 && v.byteMap.getD (leNat e.1.bytes) 0xFFFFFFFF == e.2)) &&
    v.byteMap.all (fun m => m == 0xFFFFFFFF || (decide (m < n) && (tok m).byte && (tok m).bytes.length == 1)) &&
    (v.alg ≠ 0 || (!v.byteMap.contains 0xFFFFFFFF &&
      v.merges.all (fun m => decide (m.1 < n) && decide (m.2.1 < n) && decide (m.2.2 < n) &&
        (tok m.2.2).bytes == (tok m.1).bytes ++ (tok m.2.1).bytes) &&
      (v.merges.map (fun m => (m.1, m.2.1))).dedup.length == v.merges.length)) &&
    (v.alg ≠ 1 || (v.scores.all (fun c => scoreOk c.toNat) && v.toks.all (fun t => t.byte || t.special || utf8Ok t.bytes))) &&
    (!v.byteFallback || !v.byteMap.contains 0xFFFFFFFF) &&
    v.toks.any Tok.eos

/-- A container read and checked (11 R364 to R366). -/
def readVocab (owner : Nat) (shared : Bool) (bs : List Byte) : Option Vocab :=
  let f := field bs 7 1
  let n := field bs 8 4
  let m := field bs 12 4
  let alg := field bs 6 1
  if bs.length < 64 || field bs 0 4 ≠ 0x42565856 || field bs 4 2 ≠ 1 || 1 < alg || 32 ≤ f || f % 4 = 3 || n = 0 || 262144 < n ||
      (if alg = 0 then decide (n - 1 < m) else m ≠ 0) || ([16, 20].any (fun o => decide (n ≤ field bs o 4) && field bs o 4 ≠ 0xFFFFFFFF)) ||
      !scoreOk (field bs 24 4) then none
  else (vPart bs (field bs 48 4) (8 * n)).bind (fun tt => (vPart bs (field bs 52 4) 1024).bind (fun mp =>
    (vPart bs (field bs 56 4) (if alg = 0 then 12 * m else 4 * n)).bind (fun tab =>
    (vPart bs (field bs 60 4) (field bs 28 4)).bind (fun pool =>
    ((pieces 8 n tt).mapM (vTok pool)).bind (fun toks =>
      let v : Vocab := {
        owner := owner, shared := shared, hdr := bs.take 64, footprint := roundUp (4 * bs.length) (2 ^ 20), alg := alg
        presplit := f % 4, spaceMark := bit f 2, addPrefix := bit f 3, byteFallback := bit f 4
        bosId := field bs 16 4, unkId := field bs 20 4, unkScore := BitVec.ofNat 32 (field bs 24 4), vocabId := field bs 32 16
        toks := toks, byteMap := words 4 mp
        merges := if alg = 0 then (pieces 12 m tab).map (fun b => (field b 0 4, field b 4 4, field b 8 4)) else []
        scores := if alg = 0 then [] else (words 4 tab).map (BitVec.ofNat 32) }
      if v.tablesOk then some v else none)))))

/-- Vocabulary h, where partition p may use it (11 R363, R368). -/
def State.vocab? (s : State) (p h : Nat) : Option Vocab :=
  match KMap.find s.vocabs h with
  | none => none
  | some v => if v.owner = p ∨ v.shared then some v else none

/-- How many open sessions, loaded grammars and busy contexts name vocabulary h (11 R368). -/
def State.vocabUsers (s : State) (h : Nat) : Nat :=
  (s.sessions.filter (fun e => e.2.vocab = h)).length + (s.grammars.filter (fun e => e.2.vocab = h)).length +
    (s.parts.map (fun e => (e.2.ctxs.filter (fun c => c.2.active && c.2.vocab == h)).length)).sum

/-- VOCAB_LOAD (11 R362, R363, R366; 18_queues R585, R729). -/
def execVocabLoad (r : Ref) (a : SArgs) (s : State) : Host.Outcome State Fault Refusal :=
  s.command r 0x50 (fun e => argsS e.area == a) (fun s e =>
    s.checked e
      [(decide (2 < a.src), Code.fieldInvalid), (bit a.lflags 0 && e.part ≠ 0, Code.privRequired),
       (decide (vocabMax ≤ s.vocabs.length) ||
          decide (vocabStore < (s.vocabs.map (fun v => v.2.footprint)).sum + roundUp (4 * a.len) (2 ^ 20)), Code.vocabLimit)]
      (fun _ => match s.source e.part a with
        | .error c => s.reject e c
        | .ok (bs, t) => match readVocab e.part (bit a.lflags 0) bs, KMap.free s.vocabs vocabMax with
          | some v, some h => { t with vocabs := KMap.put t.vocabs h v }.done e 0 h
          | _, _ => s.reject e Code.vocabInvalid))

/-- VOCAB_UNLOAD (11 R363, R368). -/
def execVocabUnload (r : Ref) (a : HArgs) (s : State) : Host.Outcome State Fault Refusal :=
  s.command r 0x51 (fun e => argsH e.area == a) (fun s e =>
    match s.vocab? e.part a.handle with
    | none => s.reject e Code.vocabNotLoaded
    | some v => s.checked e [(v.owner ≠ e.part, Code.privRequired), (s.vocabUsers a.handle ≠ 0, Code.vocabInUse)]
        (fun _ => { s with vocabs := KMap.del s.vocabs a.handle }.done e 0 0))

/-- VOCAB_QUERY: header, footprint, users (11 R394; 18_queues R584). -/
def execVocabQuery (r : Ref) (a : QArgs) (s : State) : Host.Outcome State Fault Refusal :=
  s.command r 0x52 (fun e => argsQ e.area == a) (fun s e =>
    match s.vocab? e.part a.handle with
    | none => s.reject e Code.vocabNotLoaded
    | some v => s.answer e a [v.hdr, leBytes 8 v.footprint, leBytes 8 (s.vocabUsers a.handle)])

/-! ## Splitting (11_text_engine R371, R373, R376, R377) -/

/-- Class of a character: 0 LETTER, 1 DIGIT, 2 SPACE, 3 OTHER; 4 stands for a lone byte (11 R376). -/
def TUnit.cls (u : TUnit) : Nat :=
  if u.lone then 4
  else
    let c := codePoint u.out
    if 128 ≤ c then Config.unicodeClass c % 4
    else if (65 ≤ c ∧ c ≤ 90) ∨ (97 ≤ c ∧ c ≤ 122) then 0
    else if 48 ≤ c ∧ c ≤ 57 then 1
    else if c = 32 ∨ (9 ≤ c ∧ c ≤ 13) then 2
    else 3

/-- The units of a byte list under POLICY, and how many subparts were ill-formed (11 R371, R377). -/
def unitsOf (policy : Nat) (mark : Bool) (segs : List (List Byte × Bool)) : List TUnit × Nat :=
  (segs.flatMap (fun (e : List Byte × Bool) =>
      if e.2 then [{ raw := e.1, out := if mark && e.1 == uSpace then u2581 else e.1 }]
      else if policy = 2 then e.1.map (fun b => { raw := [b], out := [b], lone := true })
      else [{ raw := e.1, out := uFffd }]),
    (segs.filter (fun e => !e.2)).length)

/-- Consecutive units of one class as runs; a lone byte is a run of its own. -/
def runsBy (f : TUnit → Nat) : List TUnit → List (List TUnit)
  | [] => []
  | u :: t => match runsBy f t with
    | (v :: r) :: rest => if f u = f v && !u.lone then (u :: v :: r) :: rest else [u] :: (v :: r) :: rest
    | rest => [u] :: rest

/-- A final U+0020 of a SPACE run moved to the LETTER or OTHER run after it (11 R376). -/
def attachSpace : List (List TUnit) → List (List TUnit)
  | [] => []
  | [r] => [r]
  | r :: q :: t =>
    let c := (q.head?.map TUnit.cls).getD 4
    let go := (r.head?.map TUnit.cls) == some 2 && (r.getLast?.map TUnit.out) == some uSpace && (c == 0 || c == 3)
    match attachSpace (q :: t) with
    | q' :: t' =>
      if go then
        (if r.dropLast.isEmpty then (r ++ q') :: t' else r.dropLast :: (r.getLast?.toList ++ q') :: t')
      else r :: q' :: t'
    | [] => [r]

/-- Runs cut in groups of at most 3 (11 R376). -/
def groups3 : Nat → List TUnit → List (List TUnit)
  | 0, _ => []
  | n + 1, l => if l.isEmpty then [] else l.take 3 :: groups3 n (l.drop 3)

/-- Pieces of SPACE mode: one starts at each U+2581, and after a lone byte (11 R376). -/
def markPieces : List TUnit → List (List TUnit)
  | [] => []
  | u :: t => match markPieces t with
    | (v :: r) :: rest =>
      if v.out == u2581 || v.lone || u.lone then [u] :: (v :: r) :: rest else (u :: v :: r) :: rest
    | rest => [u] :: rest

/-- How many of the units at the front fit in `room` bytes. -/
def fitUnits : Nat → List TUnit → Nat
  | _, [] => 0
  | room, u :: t => if u.out.length ≤ room then 1 + fitUnits (room - u.out.length) t else 0

/-- A piece cut so that none is longer than 1,024 bytes (11 R377). -/
def cutLong : Nat → List TUnit → List (List TUnit)
  | 0, p => [p]
  | n + 1, p => let k := max 1 (fitUnits 1024 p); if p.length ≤ k then [p] else p.take k :: cutLong n (p.drop k)

/-- The pieces of a list of units (11 R376, R377). -/
def piecesOf (presplit : Nat) (us : List TUnit) : List (List TUnit) :=
  (match presplit with
    | 0 => runsBy (fun u => flag u.lone 0) us
    | 1 => (attachSpace (runsBy TUnit.cls us)).flatMap (fun (r : List TUnit) =>
        if (r.head?.map TUnit.cls) == some 1 then groups3 r.length r else [r])
    | _ => markPieces us).flatMap (fun (p : List TUnit) => cutLong p.length p)

/-! ## BPE and unigram (11_text_engine R378, R379) -/

/-- Does the pair stand somewhere in a sequence? -/
def hasPair (a b : Nat) : List Nat → Bool
  | x :: y :: t => (x == a && y == b) || hasPair a b (y :: t)
  | _ => false

/-- Every pair from left to right replaced, none overlapping (11 R378). -/
def replacePair (a b r : Nat) : List Nat → List Nat
  | x :: y :: t => if x = a ∧ y = b then r :: replacePair a b r t else x :: replacePair a b r (y :: t)
  | l => l

/-- Byte-level BPE of a sequence: the merge of lowest rank that stands in it, over and over (11 R378). -/
def bpe (merges : List (Nat × Nat × Nat)) : Nat → List Nat → List Nat
  | 0, seq => seq
  | n + 1, seq => match merges.find? (fun m => hasPair m.1 m.2.1 seq) with
    | none => seq
    | some (a, b, r) => bpe merges n (replacePair a b r seq)

/-- The token with exactly these bytes that is neither SPECIAL nor BYTE (11 R379). -/
def Vocab.plainTok (v : Vocab) (bs : List Byte) : Option Nat :=
  v.toks.findIdx? (fun t => !t.special && !t.byte && t.bytes == bs)

/-- fallback(j): its tokens, and 1 where ILLFORMED_SUB counts (11 R379). -/
def Vocab.fallback (v : Vocab) (ch : List Byte) : List Nat × Nat :=
  if v.byteFallback then (ch.map (fun b => v.byteMap.getD b.toNat 0), 0)
  else if v.unkId ≠ 0xFFFFFFFF then ([v.unkId], 0)
  else ((v.plainTok uFffd).toList, 1)

/-- The best path to one position: its score, its tokens, what counts in ILLFORMED_SUB. -/
structure UniPath where
  score : Num
  toks : List Nat
  ill : Nat
  deriving DecidableEq, Repr

/-- The best path to position `best.length`, from the paths to the positions before it (11 R379). -/
def Vocab.uniStep (v : Vocab) (chars : List (List Byte)) (best : List (Option UniPath)) : Option UniPath :=
  let i := best.length
  best.zipIdx.foldl (fun (acc : Option UniPath) e =>
    match e.1 with
    | none => acc
    | some p =>
      let bs := ((chars.drop e.2).take (i - e.2)).flatten
      let cand : Option UniPath := match v.plainTok bs with
        | some x => some { score := add32 p.score (fp32.decode (v.scores.getD x 0).toNat), toks := p.toks ++ [x], ill := p.ill }
        | none => if i = e.2 + 1 then
            let f := v.fallback bs
            some { score := add32 p.score (fp32.decode v.unkScore.toNat), toks := p.toks ++ f.1, ill := p.ill + f.2 }
          else none
      match cand with
      | none => acc
      | some c =>
        let old := match acc with | none => Num.inf true | some o => o.score
        if old.lt c.score then some c else acc) none

/-- Unigram of a piece; where no path has a score above −∞ the tokens are a free value (11 R379; log 9). -/
def Vocab.unigram (v : Vocab) (chars : List (List Byte)) : List Nat × Nat :=
  let zero : UniPath := { score := .fin false 0 0, toks := [], ill := 0 }
  match ((List.range chars.length).foldl (fun best _ => best ++ [v.uniStep chars best]) [some zero]).getLast? with
  | some (some p) => (p.toks, p.ill)
  | _ => (Config.noPath chars, 0)

/-- The tokens of one piece, and what counts in ILLFORMED_SUB (11 R371, R378, R379). -/
def Vocab.pieceToks (v : Vocab) (p : List TUnit) : List Nat × Nat :=
  let bs := p.flatMap TUnit.out
  if p.any TUnit.lone then (bs.map (fun b => v.byteMap.getD b.toNat 0), 0)
  else if v.alg = 0 then (bpe v.merges bs.length (bs.map (fun b => v.byteMap.getD b.toNat 0)), 0)
  else v.unigram (p.map TUnit.out)

/-! ## TOKENISE (11_text_engine R372 to R382) -/

/-- What one segment yields: tokens, ILLFORMED_SUB, the context after it, the bytes carried. -/
structure SegOut where
  toks : List Nat
  ill : Nat
  ctx : TextCtx
  carried : Nat
  deriving DecidableEq, Repr

/-- One segment of a stream; under STRICT the offset of an ill-formed subpart (11 R371 to R379). -/
def Vocab.segment (v : Vocab) (h policy : Nat) (last : Bool) (c : TextCtx) (bs : List Byte) : Except Nat SegOut :=
  let all := c.carry ++ bs
  let sc := scanBytes all
  let segs := if last && !sc.2.isEmpty then sc.1 ++ [(sc.2, false)] else sc.1
  let tail := if last then [] else sc.2
  let before := (segs.takeWhile (fun e => e.2)).map (fun e => e.1.length)
  if policy = 1 && segs.any (fun e => !e.2) then .error (c.offset - c.carry.length + before.sum)
  else
    let us := unitsOf policy v.spaceMark segs
    let first : List TUnit := if v.addPrefix && !c.started && !us.1.isEmpty then
      [{ raw := [], out := if v.spaceMark then u2581 else uSpace }] else []
    let ps := piecesOf v.presplit (c.units ++ first ++ us.1)
    let out := if last then ps else ps.dropLast
    let keep : List TUnit := if last then [] else ps.getLast?.getD []
    let toks := out.map v.pieceToks
    .ok { toks := toks.flatMap (fun e => e.1), ill := us.2 + (toks.map (fun e => e.2)).sum
          ctx := { active := true, vocab := h, carry := tail, units := keep, offset := c.offset + bs.length
                   started := c.started || !us.1.isEmpty }
          carried := (keep.map (fun u => u.raw.length)).sum + tail.length }

/-- The EOS token that ADD_EOS adds: the lowest-numbered one (11 R381). -/
def Vocab.eosId (v : Vocab) : List Nat := (v.toks.findIdx? Tok.eos).toList

/-- The token that ADD_BOS adds, none where BOS_ID is 0xFFFF_FFFF (11 R381). -/
def Vocab.bos (v : Vocab) : List Nat := if v.bosId = 0xFFFFFFFF then [] else [v.bosId]

/-- The context slot a text command starts from: none where R375 rejects it. -/
def State.textCtx (s : State) (p : Nat) (a : TextArgs) (detok : Bool) : Option TextCtx :=
  let c := KMap.findD (s.part p).ctxs a.ctx {}
  if bit a.tflags 0 then some {}
  else if c.active && c.detok == detok && c.vocab == a.vocab then some c else none

/-- The slot after a text command: freed with LAST, untouched with FIRST and LAST (11 R374, R375, R381). -/
def State.putCtx (s : State) (p : Nat) (a : TextArgs) (c : TextCtx) : State :=
  if bit a.tflags 0 && bit a.tflags 1 then s
  else s.modPart p (fun v => { v with ctxs := if bit a.tflags 1 then KMap.del v.ctxs a.ctx else KMap.put v.ctxs a.ctx c })

/-- The checks of a text command on its fields (18_queues R567 step 6). -/
def textBad (a : TextArgs) (cap : Nat) : Bool :=
  decide (2 < a.policy) || decide (cap < a.inLen) || (!(bit a.tflags 0 && bit a.tflags 1) && decide (255 < a.ctx))

/-- TOKENISE (11 R371 to R382). -/
def execTokenise (r : Ref) (a : TextArgs) (s : State) : Host.Outcome State Fault Refusal :=
  s.command r 0x53 (fun e => argsText e.area == a) (fun s e =>
    if textBad a 16777216 then s.reject e Code.fieldInvalid
    else match s.vocab? e.part a.vocab with
      | none => s.reject e Code.vocabNotLoaded
      | some v =>
        if a.policy = 2 && v.alg == 1 && !v.byteFallback then s.reject e Code.byteFallbackAbsent
        else match s.textCtx e.part a false with
          | none => s.reject e Code.textContextInvalid
          | some c => match s.readBuf e.part (bit a.tflags 4) a.inAddr a.inLen with
            | .error x => s.reject e x
            | .ok (bs, t) => match v.segment a.vocab a.policy (bit a.tflags 1) c bs with
              | .error off =>
                let u := if bit a.tflags 0 && bit a.tflags 1 then s
                  else s.modPart e.part (fun w => { w with ctxs := KMap.del w.ctxs a.ctx })
                (u.count e.part Ctr.cmdRejected 1).done e Code.inputIllFormed off
              | .ok o =>
                let toks := (if bit a.tflags 0 && bit a.tflags 2 then v.bos else []) ++ o.toks ++
                  (if bit a.tflags 1 && bit a.tflags 3 then v.eosId else [])
                if a.outCap < toks.length then s.reject e Code.tokenBufferFull
                else match t.writeBuf e.part (bit a.tflags 5) a.outAddr (toks.flatMap (leBytes 4)) with
                  | .error x => s.reject e x
                  | .ok u =>
                    ((((u.putCtx e.part a o.ctx).count e.part Ctr.tokBytesIn a.inLen).count e.part Ctr.tokTokensOut
                      toks.length).count e.part Ctr.illformedSub o.ill).done e 0 (toks.length + o.carried * 2 ^ 32))

/-! ## Detokenising (11_text_engine R383, R385 to R391) -/

/-- Every U+2581 of a byte list replaced by U+0020. -/
def unmark : Nat → List Byte → List Byte
  | 0, bs => bs
  | n + 1, bs =>
    if bs.take 3 = u2581 then 0x20 :: unmark n (bs.drop 3)
    else match bs with
      | [] => []
      | b :: t => b :: unmark n t

/-- The bytes a token gives (11 R385). -/
def Vocab.tokBytes (v : Vocab) (x : Nat) : List Byte :=
  let t := v.toks.getD x {}
  if t.byte then t.bytes
  else if t.special then []
  else if v.spaceMark then unmark t.bytes.length t.bytes
  else t.bytes

/-- The UTF-8 stage: what it holds, and whether the first released character is still to come. -/
structure Utf8 where
  held : List Byte
  first : Bool
  deriving DecidableEq, Repr

/-- The characters of the cut of R370, each ill-formed subpart as U+FFFD, without a first U+0020 that is dropped; and how
many U+FFFD were made (11 R385, R386). -/
def release (addPrefix : Bool) (first : Bool) (segs : List (List Byte × Bool)) : List (List Byte) × Bool × Nat :=
  let chars := segs.map (fun e => if e.2 then e.1 else uFffd)
  let out := if addPrefix && first && chars.head? == some uSpace then chars.drop 1 else chars
  (out, first && chars.isEmpty, (segs.filter (fun e => !e.2)).length)

/-- Bytes into the UTF-8 stage: the characters released, the stage after it, the U+FFFD made (11 R386). -/
def Utf8.take (u : Utf8) (addPrefix : Bool) (bs : List Byte) : List (List Byte) × Utf8 × Nat :=
  let sc := scanBytes (u.held ++ bs)
  let r := release addPrefix u.first sc.1
  (r.1, { held := sc.2, first := r.2.1 }, r.2.2)

/-- The UTF-8 stage flushed: its held bytes as one U+FFFD per subpart (11 R391). -/
def Utf8.flush (u : Utf8) (addPrefix : Bool) : List (List Byte) × Utf8 × Nat :=
  let r := release addPrefix u.first (if u.held.isEmpty then [] else [(u.held, false)])
  (r.1, { held := [], first := r.2.1 }, r.2.2)

/-- DETOKENISE: the stream's own UTF-8 stage, no stop strings (11 R383). -/
def execDetokenise (r : Ref) (a : TextArgs) (s : State) : Host.Outcome State Fault Refusal :=
  s.command r 0x54 (fun e => argsText e.area == a) (fun s e =>
    if a.policy ≠ 0 || bit a.tflags 2 || bit a.tflags 3 || textBad a 16777216 then s.reject e Code.fieldInvalid
    else match s.vocab? e.part a.vocab with
      | none => s.reject e Code.vocabNotLoaded
      | some v => match s.textCtx e.part a true with
        | none => s.reject e Code.textContextInvalid
        | some c => match s.readBuf e.part (bit a.tflags 4) a.inAddr (4 * a.inLen) with
          | .error x => s.reject e x
          | .ok (bs, t) =>
            let toks := words 4 bs
            if toks.any (fun x => decide (v.toks.length ≤ x)) then s.reject e Code.tokenInvalid
            else
              let st : Utf8 := { held := c.carry, first := !c.started }
              let o := st.take v.addPrefix (toks.flatMap v.tokBytes)
              let f := if bit a.tflags 1 then o.2.1.flush v.addPrefix else ([], o.2.1, 0)
              let out := (o.1 ++ f.1).flatten
              if a.outCap < out.length then s.reject e Code.tokenBufferFull
              else match t.writeBuf e.part (bit a.tflags 5) a.outAddr out with
                | .error x => s.reject e x
                | .ok u =>
                  let ctx : TextCtx := { active := true, vocab := a.vocab, detok := true, carry := f.2.1.held, started := !f.2.1.first }
                  ((u.putCtx e.part a ctx).count e.part Ctr.detokReplaced (o.2.2 + f.2.2)).done e 0
                    (out.length + f.2.1.held.length * 2 ^ 32))

/-- The stop stage of a session (11 R387 to R391): what it holds, what it has emitted, whether a stop string has matched. -/
structure StopSt where
  held : List Byte
  out : List Byte
  stopped : Bool
  deriving DecidableEq, Repr

/-- The longest suffix of a byte list that is a proper prefix of a stop string (11 R387). -/
def keepSuffix (stops : List (List Byte)) (bs : List Byte) : List Byte :=
  ((List.range (bs.length + 1)).map (fun i => bs.drop i)).find? (fun t => stops.any (fun p => decide (t.length < p.length) && t.isPrefixOf p))
    |>.getD []

/-- One byte into the stop stage (11 R387, R389). -/
def StopSt.byte (stops : List (List Byte)) (incl : Bool) (q : StopSt) (b : Byte) : StopSt :=
  if q.stopped then q
  else
    let h := q.held ++ [b]
    match leastBy (fun (x y : List Byte) => decide (y.length < x.length)) (stops.filter (fun p => p.isSuffixOf h)) with
    | some m => { held := [], out := q.out ++ h.take (h.length - m.length) ++ (if incl then m else []), stopped := true }
    | none =>
      let k := keepSuffix stops h
      { q with held := k, out := q.out ++ h.take (h.length - k.length) }

/-- Characters into the stop stage. -/
def StopSt.chars (stops : List (List Byte)) (incl : Bool) (q : StopSt) (cs : List (List Byte)) : StopSt :=
  cs.flatten.foldl (StopSt.byte stops incl) q

end Sys2Proof.Machine
end

