-- ==== Sys2Proof/Machine/Search.lean ====
section
/-! DEFINITION. Vector search over binary codes: index planes, search, insert and delete, wedging, shard merge, re-ranking,
packing and prompt templates (09_vector_search R287 to R327, 18_queues R588, R589). -/

namespace Sys2Proof.Machine

/-! ## Blocks (09_vector_search R290 to R292) -/

/-- One node record (09 R292). -/
structure Node where
  code : Nat
  edges : List Nat
  item : Nat
  ins : Nat
  attr : Nat
  tomb : Bool := false
  free : Bool := false
  deriving DecidableEq, Repr

/-- One partition block, its directory entry with it (09 R290, R291). -/
structure Block where
  part : Nat
  nodes : List Node
  entry : List Nat
  wedgeEpoch : Nat
  base : Nat
  pages : Nat
  deriving DecidableEq, Repr

/-- Stride of the node slots of a width of w bits (09 R291). -/
def nodeStride (w : Nat) : Nat := w / 8 + 80

/-- CAP of a block of that many pages (09 R291). -/
def blockCap (w pages : Nat) : Nat := min 65535 ((pages * 65536 - 256) / nodeStride w)

/-- The 32 edges of a node as its record holds them. -/
def edgeBytes (l : List Nat) : List Byte := (l ++ List.replicate (32 - l.length) 0xFFFF).flatMap (leBytes 2)

/-- The bytes of a node record (09 R292). -/
def Node.bytes (w : Nat) (n : Node) : List Byte :=
  leBytes (w / 8) n.code ++ edgeBytes n.edges ++ leBytes 8 n.item ++ leBytes 6 n.ins ++ leBytes 1 n.attr ++
    leBytes 1 (flag n.tomb 0 + flag n.free 1)

/-- A node record read (09 R292). -/
def readNode (w : Nat) (b : List Byte) : Node :=
  let o := w / 8
  { code := field b 0 o, edges := (words 2 ((b.drop o).take 64)).filter (fun e => e ≠ 0xFFFF), item := field b (o + 64) 8
    ins := field b (o + 72) 6, attr := field b (o + 78) 1, tomb := bit (field b (o + 79) 1) 0, free := bit (field b (o + 79) 1) 1 }

/-- The bytes of a block up to its last node slot (09 R291). -/
def Block.bytes (w : Nat) (b : Block) : List Byte :=
  leBytes 4 b.part ++ leBytes 2 b.nodes.length ++ leBytes 2 (blockCap w b.pages) ++
    leBytes 2 (b.nodes.filter (fun n => n.tomb)).length ++ leBytes 2 b.entry.length ++
    (b.entry ++ List.replicate (4 - b.entry.length) 0).flatMap (leBytes 2) ++ leBytes 6 b.wedgeEpoch ++ zeros 230 ++
    b.nodes.flatMap (Node.bytes w)

/-- Partition p's block, as its directory entry names it (09 R290 to R292). -/
def State.block (s : State) (ix : Index) (p : Nat) : Block :=
  let d := s.dev.readN (65536 * ix.dirPage + 16 * p) 16
  let base := field d 0 8 / 65536
  let h := s.dev.readN (65536 * base) 256
  { part := p, entry := (words 2 ((h.drop 12).take 8)).take (field h 10 2), wedgeEpoch := field h 20 6, base := base
    pages := field d 8 2
    nodes := (List.range (field h 4 2)).map (fun i =>
      readNode ix.bits (s.dev.readN (65536 * base + 256 + i * nodeStride ix.bits) (nodeStride ix.bits))) }

/-- NPART (09 R287). -/
def Index.npart (ix : Index) : Nat := 2 ^ ix.npartLog2

/-- Every block of an index. -/
def State.blocks (s : State) (ix : Index) : List Block := (List.range ix.npart).map (s.block ix)

/-- A block written to its pages (09 R291; 08_memory_tiers R250). -/
def State.putBlock (s : State) (ix : Index) (b : Block) : State := s.devPut (65536 * b.base) (b.bytes ix.bits)

/-- The page of the directory that holds partition p's entry (09 R290). -/
def Index.dirPageOf (ix : Index) (p : Nat) : Nat := ix.dirPage + 16 * p / 65536

/-- Partition p's directory entry replaced (09 R290, R312). -/
def State.putEntry (s : State) (ix : Index) (p base pages : Nat) : State :=
  s.devPut (65536 * ix.dirPage + 16 * p) (leBytes 8 (65536 * base) ++ leBytes 2 pages ++ zeros 6)

/-- Hamming distance of two codes of w bits. -/
def hamming (w a b : Nat) : Nat := popcount w (a ^^^ b)

/-- The centroid of partition p (09 R289). -/
def State.centroid (s : State) (ix : Index) (p : Nat) : Nat := leNat (s.dev.readN (65536 * ix.centPage + p * (ix.bits / 8)) (ix.bits / 8))

/-- Pairs (distance, number) in ascending order (09 R301). -/
def pairLt (a b : Nat × Nat) : Bool := decide (a.1 < b.1) || (a.1 == b.1 && decide (a.2 < b.2))

/-- The partitions in the order of their centroids' distance to a code (09 R293, R301). -/
def State.nearParts (s : State) (ix : Index) (q : Nat) : List Nat :=
  (sortBy pairLt ((List.range ix.npart).map (fun p => (hamming ix.bits q (s.centroid ix p), p)))).map (fun e => e.2)

/-! ## Visibility (09_vector_search R296, R297, R300) -/

/-- Every version the index knows: ITEM_ID and insert epoch, in the slip list or in blocks (09 R296). -/
def State.versions (s : State) (ix : Index) : List (Nat × Nat) :=
  ((ix.slip.filter (fun e => !e.del)).map (fun e => (e.item, e.epoch))) ++
    (s.blocks ix).flatMap (fun b => (b.nodes.filter (fun n => !n.free)).map (fun n => (n.item, n.ins)))

/-- visible(v, E) (09 R296). -/
def visible (vers : List (Nat × Nat)) (slip : List Slip) (id ins : Nat) (tomb : Bool) (e : Nat) : Bool :=
  decide (ins ≤ e) && !slip.any (fun d => d.del && d.item == id && decide (ins < d.epoch) && decide (d.epoch ≤ e)) &&
    !vers.any (fun u => u.1 == id && decide (ins < u.2) && decide (u.2 ≤ e)) && !tomb

/-- Is some version of an ID visible at PUB (09 R309)? -/
def State.idVisible (s : State) (ix : Index) (id : Nat) : Bool :=
  let vers := s.versions ix
  (ix.slip.any (fun e => !e.del && e.item == id && visible vers ix.slip id e.epoch false ix.pub)) ||
    (s.blocks ix).any (fun b => b.nodes.any (fun n => !n.free && n.item == id && visible vers ix.slip id n.ins n.tomb ix.pub))

/-- The filter of a search on attribute bits (09 R300). -/
def attrOk (flags mask attr : Nat) : Bool :=
  !bit flags 0 || (if bit flags 1 then attr &&& mask == mask else attr &&& mask ≠ 0)

/-- The pins whose command has not ended (09 R297). -/
def State.livePins (s : State) (ix : Index) : List (Nat × Nat) := ix.pins.filter (fun e => (s.cmd e.1).isSome)

/-- The horizon of an index (09 R297). -/
def State.horizon (s : State) (ix : Index) : Nat := (((s.livePins ix).map (fun e => e.2)).min?).getD ix.pub

/-! ## SEARCH (09_vector_search R295, R299 to R305) -/

/-- The visited filter: 64 sets of at most 4 slots, the most recent first (04_tile R126). -/
def Visited : Type := List (List Nat)
  deriving DecidableEq, Repr

/-- An empty filter. -/
def Visited.empty : Visited := List.replicate 64 []

/-- A slot looked up and inserted, and whether another was evicted for it (04_tile R125, R126). -/
def Visited.meet (v : Visited) (t : Nat) : Visited × Bool :=
  let set := List.getD v (t % 64) []
  let now := t :: set.filter (fun u => u ≠ t)
  (List.set v (t % 64) (now.take 4), decide (4 < now.length))

/-- A walk in progress: seen slots, candidates, results, expansions (09 R302); the walker's visited filter and its evictions. A slot that
the filter has evicted and meets again is not expanded again (04_tile R126, R127 allow it; DESIGN CHOICE, log 38). -/
structure Walk where
  seen : List Nat := []
  cand : List (Nat × Nat) := []
  res : List (Nat × Nat) := []
  x : Nat := 0
  filter : Visited := Visited.empty
  evict : Nat := 0
  deriving DecidableEq, Repr

/-- reach(t) (09 R302). -/
def Walk.reach (w : Nat) (b : Block) (q ef : Nat) (elig : Nat → Node → Bool) (k : Walk) (t : Nat) : Walk :=
  match b.nodes[t]? with
  | none => k
  | some n =>
    let f := k.filter.meet t
    let k := { k with filter := f.1, evict := k.evict + flag f.2 0 }
    if k.seen.contains t then k
    else
      let e := (hamming w q n.code, t)
      { k with
        seen := t :: k.seen
        cand := insertBy pairLt e k.cand
        res := if elig t n then (insertBy pairLt e k.res).take ef else k.res }

/-- The loop of walk(blk, q), at most `n` more expansions (09 R302). -/
def Walk.run (w : Nat) (b : Block) (q ef : Nat) (elig : Nat → Node → Bool) : Nat → Walk → Walk
  | 0, k => k
  | n + 1, k => match k.cand with
    | [] => k
    | c :: rest =>
      if k.res.length = ef && (match k.res.getLast? with | none => false | some l => pairLt l c) then k
      else
        let k' := ((b.nodes[c.2]?.map Node.edges).getD []).foldl (Walk.reach w b q ef elig) { k with cand := rest, x := k.x + 1 }
        Walk.run w b q ef elig n k'

/-- walk(blk, q): the EF best eligible nodes as (distance, slot), the expansions and the filter's evictions (09 R302). -/
def walk (w : Nat) (b : Block) (q ef maxVisit : Nat) (elig : Nat → Node → Bool) : Walk :=
  Walk.run w b q ef elig maxVisit (b.entry.foldl (Walk.reach w b q ef elig) {})

/-- What a search asks for (09 R299). -/
structure SearchQ where
  nprobe : Nat
  k : Nat
  ef : Nat
  maxVisit : Nat
  mask : Nat
  flags : Nat
  shard : Nat
  deriving DecidableEq, Repr

/-- EF and MAX_VISIT in use (09 R299). -/
def SearchQ.efUse (a : SearchQ) : Nat := if a.ef = 0 then min 4096 (max 64 a.k) else a.ef
def SearchQ.visits (a : SearchQ) : Nat := if a.maxVisit = 0 then 8 * a.efUse else a.maxVisit

/-- An item list as an input of MERGE (09 R301, R303). -/
def itemList (shard e : Nat) (l : List ItemEl) : InRec :=
  let h : RecHdr := { kcap := l.length, valid := l.length, ekind := 1, shard := shard, inCnt := l.length, epoch := e }
  { hdr := h, bytes := itemRecord h l }

/-- The list of one query at read epoch E, the expansions of its walks and their evictions (09 R301). -/
def State.searchOne (s : State) (ix : Index) (a : SearchQ) (e q : Nat) : List Byte × Nat × Nat :=
  let vers := s.versions ix
  let slip := ix.slip.filter (fun x => decide (x.epoch ≤ e) && (!x.wedged || decide (e < x.f)))
  let walks := ((s.nearParts ix q).take a.nprobe).map (fun p =>
    let b := s.block ix p
    let r := walk ix.bits b q a.efUse a.visits (fun _ n =>
      !n.free && visible vers ix.slip n.item n.ins n.tomb e && attrOk a.flags a.mask n.attr)
    (r.res.filterMap (fun c => b.nodes[c.2]?.map (fun n => ({ id := n.item, epoch := n.ins, dist := c.1 } : ItemEl))), r.x, r.evict))
  let fresh := (slip.filter (fun x => !x.del && visible vers ix.slip x.item x.epoch false e && attrOk a.flags a.mask x.attr)).map
    (fun x => ({ id := x.item, epoch := x.epoch, dist := hamming ix.bits q x.code } : ItemEl))
  let lists := walks.map (fun l => l.1) ++ [(sortBy itemBefore fresh).take a.k]
  (mergeItems a.k (lists.map (itemList a.shard e)), (walks.map (fun l => l.2.1)).sum, (walks.map (fun l => l.2.2)).sum)

/-- Is an item list's record short of K entries (09 R305)? -/
def recShort (k : Nat) (r : List Byte) : Bool := decide ((readHdr r).valid < k)

/-- Index h of partition p for a command: not dropped, or held by the command's own pin (09 R316). -/
def State.index? (s : State) (p h tag : Nat) : Option Index :=
  match KMap.find (s.part p).indexes h with
  | none => none
  | some ix => if ix.dropped && !ix.pins.any (fun e => e.1 == tag) then none else some ix

/-- Index h of partition p changed. -/
def State.modIndex (s : State) (p h : Nat) (f : Index → Index) : State :=
  s.modPart p (fun v => { v with indexes := KMap.mod v.indexes h f })

/-- An index freed with its pages. -/
def State.freeIndex (s : State) (p h : Nat) (ix : Index) : State :=
  let all := (ix.centPage, ix.centPages) :: (ix.dirPage, ix.dirPages) ::
    ((s.blocks ix).map (fun b => (b.base, b.pages)) ++ ix.oldBlocks.map (fun o => o.2))
  (all.foldl (fun (t : State) r => t.freePages r.1 r.2) s).modPart p (fun v => { v with indexes := KMap.del v.indexes h })

/-- A dropped index freed once no pin is left (09 R316). -/
def State.sweepIndex (s : State) (p h : Nat) : State :=
  match KMap.find (s.part p).indexes h with
  | none => s
  | some ix => if ix.dropped && (s.livePins ix).isEmpty then s.freeIndex p h ix else s

/-- The epoch a search reads, pinned at its start (09 R295, R297). -/
def Index.readEpoch (ix : Index) (tag : Nat) : Nat := ((ix.pins.find? (fun e => e.1 == tag)).map (fun e => e.2)).getD ix.pub

/-- The state with a command's pin on an index (09 R297). -/
def State.pinIndex (s : State) (p h tag : Nat) : State :=
  s.modIndex p h (fun ix => if ix.pins.any (fun e => e.1 == tag) then ix else { ix with pins := ix.pins ++ [(tag, ix.pub)] })

/-- The state without a command's pin, a dropped index freed with its last one (09 R297, R316). -/
def State.unpinIndex (s : State) (p h tag : Nat) : State :=
  (s.modIndex p h (fun ix => { ix with pins := ix.pins.filter (fun e => e.1 ≠ tag) })).sweepIndex p h

/-- The pages of a block list. -/
def blockPages (bs : List Block) : List Nat := bs.flatMap (fun b => (List.range b.pages).map (fun i => b.base + i))

/-- The pages a search reads: centroids, directory entries, and the blocks of each query's probe set (09 R301, R304). -/
def State.searchPages (s : State) (ix : Index) (nprobe : Nat) (qs : List Nat) : List Nat :=
  let probe := (qs.flatMap (fun q => (s.nearParts ix q).take nprobe)).dedup
  (List.range ix.centPages).map (fun i => ix.centPage + i) ++ (probe.map ix.dirPageOf).dedup ++ blockPages (probe.map (s.block ix))

/-- What searching counts: queries and expansions at the index, evictions at the tile that walked (09 R329; 04_tile R126). -/
def State.searched (s : State) (p h n : Nat) (rs : List (List Byte × Nat × Nat)) : State :=
  (s.modPart p (fun v => { v with indexes := KMap.mod v.indexes h (fun x => { x with
    ctr := bump (bump x.ctr IxCtr.searchCnt n) IxCtr.walkExp (rs.map (fun y => y.2.1)).sum }) })).tileCount s.builtinTile
      TileCtr.visitEvictCnt (rs.map (fun y => y.2.2)).sum

/-- Does one of these pages carry LOST (08_memory_tiers R276)? -/
def State.anyLost (s : State) (ks : List Nat) : Bool := s.pages.any (fun e => ks.contains e.1 && e.2.flag 7)

/-- SEARCH fields outside R299. -/
def SearchQ.bad (a : SearchQ) : Bool :=
  a.nprobe == 0 || decide (1023 < a.nprobe) || a.k == 0 || decide (4096 < a.k) || decide (4096 < a.ef)

/-- The search fields of a command. -/
def searchQ (a : SearchArgs) : SearchQ :=
  { nprobe := a.nprobe, k := a.k, ef := a.ef, maxVisit := a.maxVisit, mask := a.attrMask, flags := a.flags, shard := a.shardTag }

/-- SEARCH, held for the pages of its index and of its buffers that no tile can read (08_memory_tiers R268; 09 R295, R299 to
R305). -/
def execSearch (r : Ref) (a : SearchArgs) (s : State) : Host.Outcome State Fault Refusal :=
  s.command r 0x35 (fun e => argsSearch e.area == a) (fun s e =>
    let q := searchQ a
    if q.bad || a.qcnt == 0 || decide (64 < a.qcnt) then s.reject e Code.searchParamInvalid
    else match s.index? e.part a.index e.tag with
      | none => s.reject e Code.indexInvalid
      | some ix =>
        if ix.npart < a.nprobe then s.reject e Code.searchParamInvalid
        else match s.readBuf e.part (bit a.flags 2) a.queryAddr (a.qcnt * (ix.bits / 8)) with
          | .error c => s.reject e c
          | .ok (bs, t) =>
            let qs := words (ix.bits / 8) bs
            let ks := s.searchPages ix a.nprobe qs
            if s.anyLost ks then (s.reject e Code.pageLost).unpinIndex e.part a.index e.tag
            else
              let ep := ix.readEpoch e.tag
              let rs := qs.map (s.searchOne ix q ep)
              match (t.pinIndex e.part a.index e.tag).hold e (ks ++ s.duaPages e.part (bit a.flags 2) a.queryAddr (a.qcnt * (ix.bits / 8)) ++
                  s.duaPages e.part (bit a.flags 3) a.outAddr (rs.flatMap (fun x => x.1)).length) with
              | some held => held
              | none =>
                match (t.readPages e.part ks).writeBuf e.part (bit a.flags 3) a.outAddr (rs.flatMap (fun x => x.1)) with
                | .error c => (s.reject e c).unpinIndex e.part a.index e.tag
                | .ok u =>
                  ((u.searched e.part a.index a.qcnt rs).done e 0 (ep + 2 ^ 48 * (rs.filter (fun x => recShort a.k x.1)).length)).unpinIndex e.part a.index e.tag)

/-! ## INSERT and DELETE (09_vector_search R298, R306 to R309) -/

/-- Entries of a slip list at most, and the level that forces a wedge (09 R287, R314). -/
def slipMax : Nat := 2 ^ 24
def slipForce : Nat := 15099495

/-- The largest epoch (09 R298). -/
def epochMax : Nat := 2 ^ 48 - 1

/-- Live item versions of an index: nodes that are in use and not tombstoned, and LIVE inserts (09 R287). -/
def State.liveIn (s : State) (ix : Index) : Nat :=
  ((s.blocks ix).map (fun b => (b.nodes.filter (fun n => !n.tomb && !n.free)).length)).sum +
    (ix.slip.filter (fun e => !e.del && !e.wedged)).length

/-- Live item versions of the module (09 R287). -/
def State.liveAll (s : State) : Nat := (s.parts.map (fun e => (e.2.indexes.map (fun x => s.liveIn x.2)).sum)).sum

/-- One insert entry (09 R307). -/
structure InsEntry where
  id : Nat
  attr : Nat
  tok : Nat
  off : Nat
  code : Nat
  rsv : Bool
  deriving DecidableEq, Repr

/-- An insert entry read (09 R307). -/
def readIns (w : Nat) (b : List Byte) : InsEntry :=
  { id := field b 0 8, attr := field b 8 1, tok := field b 12 4, off := field b 16 8, code := field b 24 (w / 8), rsv := !zeroAt b 9 3 }

/-- Is an ID repeated in a list, or not a valid one (09 R308 step 3)? -/
def idsBad (ids : List Nat) : Bool := ids.contains padId || ids.dedup.length ≠ ids.length

/-- The checks of R308 steps 5 to 7. -/
def State.commitErr (s : State) (ix : Index) (cnt live : Nat) : Option Nat :=
  firstBad [(decide (slipMax < ix.slip.length + cnt), Code.slipListFull), (decide (2 ^ 33 < s.liveAll + live), Code.indexLimit),
    (decide (epochMax ≤ ix.pub), Code.epochExhausted)]

/-- INSERT (09 R294, R306 to R309). -/
def execInsert (r : Ref) (a : InsertArgs) (s : State) : Host.Outcome State Fault Refusal :=
  s.command r 0x33 (fun e => argsInsert e.area == a) (fun s e =>
    let dua := bit a.lflags 0
    match s.index? e.part a.index e.tag with
    | none => s.reject e Code.indexInvalid
    | some ix =>
      let n := 24 + ix.bits / 8
      let ks := (List.range ix.centPages).map (fun i => ix.centPage + i)
      if a.cnt == 0 || decide (65536 < a.cnt) then s.reject e Code.fieldInvalid
      else if s.anyLost ks then s.reject e Code.pageLost
      else match s.hold e ks with
      | some held => held
      | none => match s.readBuf e.part dua a.listAddr (n * a.cnt) with
        | .error c => s.reject e c
        | .ok (bs, t) =>
          let es := (pieces n a.cnt bs).map (readIns ix.bits)
          let read := fun (x : InsEntry) => (s.readBuf e.part dua (a.tokAddr + x.off) (4 * x.tok)).map (fun y => (x, words 4 y.1))
          match firstBad [(es.any InsEntry.rsv, Code.reservedNonzero), (idsBad (es.map InsEntry.id), Code.itemDuplicate),
              (es.any (fun x => decide (8192 < x.tok)), Code.passageInvalid)] with
          | some c => s.reject e c
          | none => match es.mapM read with
            | .error c => s.reject e c
            | .ok ps =>
              if ps.any (fun p => p.2.any (fun y => decide (ix.tokenCnt ≤ y))) then s.reject e Code.passageInvalid
              else match s.commitErr ix a.cnt a.cnt with
                | some c => s.reject e c
                | none =>
                  let ep := ix.pub + 1
                  let new := es.map (fun x => ({ item := x.id, epoch := ep, code := x.code, attr := x.attr
                                                 part := (s.nearParts ix x.code).headD 0 } : Slip))
                  (t.modIndex e.part a.index (fun x => { x with
                    slip := x.slip ++ new, pub := ep
                    passages := x.passages ++ ps.map (fun p => (p.1.id, ep, p.2)) })).done e 0 ep)

/-- DELETE (09 R294, R306, R308, R309). -/
def execDelete (r : Ref) (a : InsertArgs) (s : State) : Host.Outcome State Fault Refusal :=
  s.command r 0x34 (fun e => argsInsert e.area == a) (fun s e =>
    match s.index? e.part a.index e.tag with
    | none => s.reject e Code.indexInvalid
    | some ix =>
      if a.cnt == 0 || decide (65536 < a.cnt) then s.reject e Code.fieldInvalid
      else match s.readBuf e.part (bit a.lflags 0) a.listAddr (8 * a.cnt) with
        | .error c => s.reject e c
        | .ok (bs, t) =>
          let ids := words 8 bs
          if idsBad ids then s.reject e Code.itemDuplicate
          else match s.commitErr ix a.cnt 0 with
            | some c => s.reject e c
            | none =>
              let ep := ix.pub + 1
              let gone := (ids.filter (fun i => !s.idVisible ix i)).length
              (t.modIndex e.part a.index (fun x => { x with
                slip := x.slip ++ ids.map (fun i => ({ item := i, del := true, epoch := ep } : Slip)), pub := ep })).done e 0
                  (ep + 2 ^ 48 * min gone 0xFFFF))

/-! ## Wedging (09_vector_search R310 to R315) -/

/-- Candidates taken in order unless closer to one already chosen, then the rejected ones, at most `room` (09 R313). -/
def chooseEdges (w room : Nat) (code : Nat → Nat) (kept : List Nat) (cands : List (Nat × Nat)) : List Nat :=
  let r := cands.foldl (fun (a : List Nat × List Nat) c =>
    if a.1.any (fun u => decide (hamming w (code c.2) (code u) < c.1)) then (a.1, a.2 ++ [c.2]) else (a.1 ++ [c.2], a.2)) (kept, [])
  ((r.1.drop kept.length) ++ r.2).take room

/-- The code of a slot. -/
def Block.code (b : Block) (t : Nat) : Nat := (b.nodes[t]?.map Node.code).getD 0

/-- The 96 nodes nearest to a node, itself left out (09 R313). -/
def Block.near (w : Nat) (b : Block) (q self : Nat) : List (Nat × Nat) :=
  (walk w b q 96 768 (fun t n => !n.tomb && !n.free && t ≠ self)).res

/-- ENTRY: the non-tombstoned nodes nearest to the centroid, at most 4 (09 R313). -/
def Block.enter (w cent : Nat) (b : Block) : Block :=
  { b with entry := ((sortBy pairLt ((b.nodes.zipIdx.filter (fun e => !e.1.tomb && !e.1.free)).map
      (fun e => (hamming w cent e.1.code, e.2)))).take 4).map (fun e => e.2) }

/-- The block with slot t changed. -/
def Block.modNode (b : Block) (t : Nat) (f : Node → Node) : Block := { b with nodes := b.nodes.modify t f }

/-- One test on a neighbour u of a new node n: n takes an empty edge, or u's worst one if n is nearer and no other neighbour of
u is nearer to n (09 R313). -/
def Block.backLink (w n : Nat) (b : Block) (u : Nat) : Block :=
  match b.nodes[u]? with
  | none => b
  | some v =>
    let d := fun (t : Nat) => (hamming w v.code (b.code t), t)
    if v.edges.contains n then b
    else if v.edges.length < 32 then b.modNode u (fun x => { x with edges := x.edges ++ [n] })
    else match leastBy (fun x y => pairLt (d y) (d x)) v.edges with
      | none => b
      | some worst =>
        if pairLt (d n) (d worst) &&
            !(v.edges.filter (fun t => t ≠ worst)).any (fun t => decide (hamming w (b.code n) (b.code t) < (d n).1)) then
          b.modNode u (fun x => { x with edges := x.edges.map (fun t => if t = worst then n else t) })
        else b

/-- An insert applied to a block (09 R311, R313). -/
def Block.insert (w cent : Nat) (reuse : Bool) (b : Block) (x : Slip) : Block :=
  let slot := if reuse then (b.nodes.findIdx? Node.free).getD b.nodes.length else b.nodes.length
  let ns := chooseEdges w 32 b.code [] (b.near w x.code slot)
  let node : Node := { code := x.code, edges := ns, item := x.item, ins := x.epoch, attr := x.attr }
  let b1 := { b with nodes := if slot < b.nodes.length then b.nodes.set slot node else b.nodes ++ [node] }
  (ns.foldl (Block.backLink w slot) b1).enter w cent

/-- Versions of an ID older than an epoch marked TOMBSTONE (09 R311). -/
def Block.bury (b : Block) (id e : Nat) : Block :=
  { b with nodes := b.nodes.map (fun n => if n.item = id ∧ n.ins < e ∧ !n.free then { n with tomb := true } else n) }

/-- Every tombstone removed: slots FREE, edges to them deleted and refilled (09 R311). -/
def Block.repair (w cent : Nat) (b : Block) : Block :=
  let dead := positions Node.tomb b.nodes
  let b1 := Block.enter w cent { b with nodes := b.nodes.map (fun n =>
    if n.tomb then { n with tomb := false, free := true, edges := [] }
    else { n with edges := n.edges.filter (fun t => !dead.contains t) }) }
  (List.range b1.nodes.length).foldl (fun (c : Block) t =>
    match b.nodes[t]?, c.nodes[t]? with
    | some old, some n =>
      let lost := (old.edges.filter (fun u => dead.contains u)).length
      if n.free || lost = 0 then c
      else
        let new := chooseEdges w lost c.code n.edges ((c.near w n.code t).filter (fun e => !n.edges.contains e.2))
        c.modNode t (fun x => { x with edges := x.edges ++ new })
    | _, _ => c) b1

/-- The partition of a slip entry: an insert's PART, a delete's by the newest version of its ID (09 R293, R311). -/
def State.slipPart (s : State) (ix : Index) (x : Slip) : Nat :=
  if !x.del then x.part
  else
    let inSlip := (ix.slip.filter (fun y => !y.del && y.item == x.item && decide (y.epoch < x.epoch))).map (fun y => (y.epoch, y.part))
    let inBlk := (s.blocks ix).flatMap (fun b =>
      (b.nodes.filter (fun n => !n.free && n.item == x.item && decide (n.ins < x.epoch))).map (fun n => (n.ins, b.part)))
    ((leastBy (fun a b => pairLt b a) (inSlip ++ inBlk)).map (fun e => e.2)).getD 0

/-- What one partition's wedge came to. -/
inductive Wedged where
  | nothing
  | done
  | blocked
  | deferred
  | exhausted
  deriving DecidableEq, Repr

/-- The wedge of partition q of index h (09 R311 to R315; 08_memory_tiers R250, R251). -/
def State.wedgePart (s : State) (p h : Nat) (repair : Bool) (q : Nat) : State × Wedged :=
  match KMap.find (s.part p).indexes h with
  | none => (s, .nothing)
  | some ix =>
    let live := ix.slip.filter (fun x => !x.wedged && s.slipPart ix x == q)
    let go := live.filter (fun x => decide (x.epoch ≤ s.horizon ix))
    let b := s.block ix q
    let cent := s.centroid ix q
    let cnt := fun (c : Nat) => s.modIndex p h (fun x => { x with ctr := bump x.ctr c 1 })
    if live.isEmpty && !(repair && b.nodes.any Node.tomb) then (s, .nothing)
    else if go.isEmpty && !(repair && b.nodes.any Node.tomb) then (cnt IxCtr.wedgeBlocked, .blocked)
    else if epochMax ≤ ix.pub then (s, .exhausted)
    else
      let reuse := !(s.livePins ix).any (fun e => decide (e.2 < b.wedgeEpoch))
      let b1 := go.foldl (fun (c : Block) x =>
        if x.del then c.bury x.item x.epoch
        else
          let newer := (s.versions ix).any (fun v => v.1 == x.item && decide (x.epoch < v.2) &&
            !ix.slip.any (fun y => !y.del && !y.wedged && y.item == x.item && y.epoch == v.2))
          let d := (c.insert ix.bits cent reuse x).bury x.item x.epoch
          if newer then d.bury x.item (x.epoch + 1) else d) b
      let b2 := Block.enter ix.bits cent (if repair || decide (b1.nodes.length < 8 * (b1.nodes.filter (fun n => n.tomb)).length) then
        b1.repair ix.bits cent else b1)
      let pages := max b.pages (ceilDiv (256 + b2.nodes.length * nodeStride ix.bits) 65536)
      if 65535 < b2.nodes.length then (cnt IxCtr.wedgeDefer, .deferred)
      else match s.alloc p pages 1 (BitVec.ofNat 16 (8 + flag ix.parity 2)) with
        | none => (cnt IxCtr.wedgeDefer, .deferred)
        | some (base, t) =>
          let f := ix.pub + 1
          -- older versions in other blocks; their READONLY pages, and the directory's, go to fresh frames
          let buried := (List.range ix.npart).filterMap (fun j =>
            let c := s.block ix j
            let c' := go.foldl (fun (d : Block) x => d.bury x.item x.epoch) c
            if j = q || c' = c then none else some c')
          match t.rewrite (blockPages buried ++ [ix.dirPageOf q]) with
          | none => (cnt IxCtr.wedgeDefer, .deferred)
          | some r =>
          let u := ((buried.foldl (fun (u : State) c => u.putBlock ix c) (r.readPages p (blockPages [b]))).putBlock ix
            { b2 with base := base, pages := pages, wedgeEpoch := f }).putEntry ix q base pages
          (u.modIndex p h (fun x => { x with
            slip := x.slip.map (fun y => if go.contains y then { y with wedged := true, f := f } else y)
            pub := f
            oldBlocks := x.oldBlocks ++ [(f, b.base, b.pages)]
            ctr := bump x.ctr IxCtr.wedgeParts 1 }), .done)

/-- Partitions wedged one after another: the state, and what each came to. -/
def State.wedgeAll (s : State) (p h : Nat) (repair : Bool) (qs : List Nat) : State × List Wedged :=
  qs.foldl (fun (a : State × List Wedged) q => let r := a.1.wedgePart p h repair q; (r.1, a.2 ++ [r.2])) (s, [])

/-- WEDGE (09 R298, R310 to R315). -/
def execWedge (r : Ref) (a : WedgeArgs) (s : State) : Host.Outcome State Fault Refusal :=
  s.command r 0x36 (fun e => argsWedge e.area == a) (fun s e =>
    match s.index? e.part a.index e.tag with
    | none => s.reject e Code.indexInvalid
    | some ix =>
      let all := bit a.wflags 1
      let qs := if all then List.range ix.npart else (List.range a.partCnt).map (fun i => a.partFirst + i)
      if !all && (a.partCnt == 0 || decide (ix.npart < a.partFirst + a.partCnt)) then s.reject e Code.fieldInvalid
      else if epochMax ≤ ix.pub then s.reject e Code.epochExhausted
      else
        let ks := blockPages (qs.map (s.block ix))
        if s.anyLost ks then s.reject e Code.pageLost
        else match s.hold e ks with
          | some held => held
          | none =>
            let w := s.wedgeAll e.part a.index (bit a.wflags 0) qs
            w.1.done e (if w.2.contains .deferred then Code.wedgeDeferred else if w.2.contains .exhausted then Code.epochExhausted else 0)
              (w.2.filter (fun x => x == .done)).length)

/-- WEDGE_FORCED: a slip list that holds 90 % of its entries starts a wedge of every partition with LIVE entries (09 R314). -/
def execWedgeForced (part index : Nat) (s : State) : Host.Outcome State Fault Refusal :=
  match KMap.find (s.part part).indexes index with
  | none => .next s
  | some ix =>
    if ix.dropped || decide (ix.slip.length < slipForce) then .next s
    else
      let qs := (List.range ix.npart).filter (fun q => ix.slip.any (fun x => !x.wedged && s.slipPart ix x == q))
      let ks := blockPages (qs.map (s.block ix))
      if s.anyLost ks then .next s
      else match s.demand 0 ks with
        | some held => .next held
        | none =>
          let t := s.modIndex part index (fun x => { x with ctr := bump x.ctr IxCtr.wedgeForced qs.length })
          .next (t.wedgeAll part index false qs).1

/-- WEDGE_RELEASE: what wedges replaced is released where no pin has a read epoch below their F: the old blocks' pages, the
WEDGED entries, and the passages of versions that no pin and no new search sees (09 R312, R320). -/
def execWedgeRelease (part index : Nat) (s : State) : Host.Outcome State Fault Refusal :=
  match KMap.find (s.part part).indexes index with
  | none => .next s
  | some ix =>
    let pins := (s.livePins ix).map (fun e => e.2)
    let free := fun (f : Nat) => !pins.any (fun e => decide (e < f))
    let t := (ix.oldBlocks.filter (fun o => free o.1)).foldl (fun (u : State) o => u.freePages o.2.1 o.2.2) s
    let vers := s.versions ix
    let tombs := (s.blocks ix).flatMap (fun b => (b.nodes.filter (fun n => n.tomb)).map (fun n => (n.item, n.ins)))
    let seen := fun (id ins : Nat) => vers.contains (id, ins) &&
      (ix.pub :: pins).any (fun e => visible vers ix.slip id ins (tombs.contains (id, ins)) e)
    .next ((t.modIndex part index (fun x => { x with
      pins := s.livePins ix
      oldBlocks := x.oldBlocks.filter (fun o => !free o.1)
      slip := x.slip.filter (fun y => !y.wedged || !free y.f)
      passages := x.passages.filter (fun y => seen y.1 y.2.1) })).sweepIndex part index)

/-! ## Index commands (09_vector_search R287 to R293, R316, R329; 18_queues R588) -/

/-- The fields of an index block outside R287 and R588. -/
def ixBad (a : IndexArgs) : Bool := !([256, 512, 1024, 2048] : List Nat).contains a.codeBits || decide (20 < a.npartLog2) || a.blkPages == 0

/-- Has a partition or the module its full number of indexes (09 R287)? -/
def State.ixFull (s : State) (p : Nat) : Bool :=
  decide (64 ≤ (s.part p).indexes.length) || decide (256 ≤ (s.parts.map (fun e => e.2.indexes.length)).sum)

/-- The planes of a new index: centroids and directory in tier T0, blocks in T1, all READONLY, BACKED where they were loaded
(09 R289, R293). -/
def State.newIndex (s : State) (p h : Nat) (a : IndexArgs) (v : Vocab) (cents : List Byte) (pub : Nat)
    (passages : List (Nat × Nat × List Nat)) (blocks : Nat → List Byte) (backed : Bool) : Option State :=
  let n := 2 ^ a.npartLog2
  let fl := BitVec.ofNat 16 (8 + flag (bit a.ixflags 0) 2 + flag backed 6)
  let cp := ceilDiv cents.length 65536
  let dp := ceilDiv (16 * n) 65536
  (s.alloc p cp 0 fl).bind (fun c => (c.2.alloc p dp 0 (BitVec.ofNat 16 8)).bind (fun d =>
    (d.2.alloc p (n * a.blkPages) 1 fl).map (fun b =>
      let t := b.2
      let dev := (List.range n).foldl (fun (m : Mem) q =>
        let base := b.1 + q * a.blkPages
        (m.writeN (65536 * base) (blocks q)).writeN (65536 * d.1 + 16 * q) (leBytes 8 (65536 * base) ++ leBytes 2 a.blkPages))
        (t.dev.writeN (65536 * c.1) cents)
      let ix : Index := {
        bits := a.codeBits, npartLog2 := a.npartLog2, parity := bit a.ixflags 0, vocab := a.vocab, vocabId := v.vocabId
        tokenCnt := v.toks.length, passages := passages, pub := pub, centPage := c.1, centPages := cp, dirPage := d.1, dirPages := dp }
      { t with dev := dev }.modPart p (fun w => { w with indexes := KMap.put w.indexes h ix }))))

/-- An index created under the lowest free handle, or the status that stops it. -/
def State.makeIndex (s : State) (e : CmdE) (a : IndexArgs) (v : Vocab) (cents : List Byte) (pub : Nat)
    (passages : List (Nat × Nat × List Nat)) (blocks : Nat → List Byte) (backed : Bool) (t : State) : State :=
  match KMap.free (s.part e.part).indexes 64 with
  | none => s.reject e Code.indexLimit
  | some h => match t.newIndex e.part h a v cents pub passages blocks backed with
    | none => s.reject e Code.poolExhausted
    | some u => u.done e 0 (h + 2 ^ 16 * pub)

/-- An empty block (09 R291). -/
def emptyBlock (a : IndexArgs) (q : Nat) : List Byte :=
  Block.bytes a.codeBits { part := q, nodes := [], entry := [], wedgeEpoch := 0, base := 0, pages := a.blkPages }

/-- INDEX_CREATE (18_queues R588; 09 R287). -/
def execIndexCreate (r : Ref) (a : IndexArgs) (s : State) : Host.Outcome State Fault Refusal :=
  s.command r 0x30 (fun e => argsIndex e.pb == a) (fun s e =>
    if ixBad a then s.reject e Code.fieldInvalid
    else match s.vocab? e.part a.vocab with
      | none => s.reject e Code.vocabNotLoaded
      | some v =>
        if s.ixFull e.part then s.reject e Code.indexLimit
        else match s.readBuf e.part (bit a.ixflags 1) a.centAddr (2 ^ a.npartLog2 * (a.codeBits / 8)) with
          | .error c => s.reject e c
          | .ok (cents, t) => s.makeIndex e a v cents 1 [] (emptyBlock a) false t)

/-- Does a loaded block agree with R291? -/
def blockOk (a : IndexArgs) (q : Nat) (b : List Byte) : Bool :=
  let cnt := field b 4 2
  let nodes := (pieces (nodeStride a.codeBits) cnt (b.drop 256)).map (readNode a.codeBits)
  field b 0 4 == q && field b 6 2 == blockCap a.codeBits a.blkPages && decide (cnt ≤ field b 6 2) &&
    field b 8 2 == (nodes.filter (fun n => n.tomb)).length && decide (field b 10 2 ≤ 4) &&
    ((words 2 ((b.drop 12).take 8)).take (field b 10 2)).all (fun t => decide (t < cnt)) && zeroAt b 20 6 && zeroAt b 26 230

/-- INDEX_LOAD: every plane from its extent; the passages are what the passage store extent holds (18_queues R588; log 9). -/
def execIndexLoad (r : Ref) (a : IndexArgs) (s : State) : Host.Outcome State Fault Refusal :=
  s.command r 0x31 (fun e => argsIndex e.pb == a) (fun s e =>
    let n := 2 ^ a.npartLog2
    let size := 65536 * a.blkPages
    let blk := fun (q : Nat) => s.extentRead a.extent (a.blkOff + q * size) size
    if ixBad a then s.reject e Code.fieldInvalid
    else match s.vocab? e.part a.vocab with
      | none => s.reject e Code.vocabNotLoaded
      | some v =>
        match firstBad
          [(s.ixFull e.part, Code.indexLimit),
           (!s.extentOk e.part a.extent a.centOff (n * (a.codeBits / 8)) || !s.extentOk e.part a.extent a.blkOff (n * size) ||
              !s.extentOk e.part a.psgExtent 0 0, Code.extentInvalid),
           (!(List.range n).all (fun q => blockOk a q (blk q)), Code.indexFormatInvalid)] with
        | some c => s.reject e c
        | none =>
          let live := ((List.range n).map (fun q => ((pieces (nodeStride a.codeBits) (field (blk q) 4 2) ((blk q).drop 256)).map
            (readNode a.codeBits)).filter (fun x => !x.tomb && !x.free) |>.length)).sum
          if 2 ^ 33 < s.liveAll + live then s.reject e Code.indexLimit
          else s.makeIndex e a v (s.extentRead a.extent a.centOff (n * (a.codeBits / 8))) a.pub
            (Config.passageStore (s.extentRead a.psgExtent 0 (KMap.findD s.flash.extents a.psgExtent {}).size)) blk true s)

/-- INDEX_DROP (09 R316). -/
def execIndexDrop (r : Ref) (a : HArgs) (s : State) : Host.Outcome State Fault Refusal :=
  s.command r 0x32 (fun e => argsH e.area == a) (fun s e =>
    match s.index? e.part a.handle e.tag with
    | none => s.reject e Code.indexInvalid
    | some _ => ((s.modIndex e.part a.handle (fun x => { x with dropped := true })).sweepIndex e.part a.handle).done e 0 0)

/-- The items of INDEX_QUERY (09_vector_search R329; log 14). -/
def State.indexItems (s : State) (ix : Index) : List (List Byte) :=
  let tombs := ((s.blocks ix).map (fun b => (b.nodes.filter (fun n => n.tomb)).length)).sum
  [leBytes 2 ix.bits ++ leBytes 1 ix.npartLog2 ++ leBytes 1 (flag ix.parity 0) ++ leBytes 2 ix.vocab,
   leBytes 6 ix.pub,
   ctrBytes (KMap.put (KMap.put ix.ctr IxCtr.slipFill ix.slip.length) IxCtr.tombLive tombs) 0 9]

/-- INDEX_QUERY: parameters, PUB, then the counters of R329 with SLIP_FILL and TOMB_LIVE as levels (09 R329). -/
def execIndexQuery (r : Ref) (a : QArgs) (s : State) : Host.Outcome State Fault Refusal :=
  s.command r 0x3A (fun e => argsQ e.area == a) (fun s e =>
    match s.index? e.part a.handle e.tag with
    | none => s.reject e Code.indexInvalid
    | some ix => s.answer e a (s.indexItems ix))

/-! ## SHARD_MERGE (09_vector_search R318) -/

/-- An input record of a merge, or the status that stops the command (07_selection R235). -/
def State.readRec (s : State) (p : Nat) (dua : Bool) (addr : Nat) : Except Nat InRec :=
  match s.readBuf p dua addr 32 with
  | .error c => .error c
  | .ok (h, _) =>
    let hdr := readHdr h
    if hdr.kcap < hdr.valid ∨ hdr.ekind ≠ 1 then .error Code.listInvalid
    else (s.readBuf p dua addr (32 + 16 * hdr.valid)).map (fun b => { hdr := hdr, bytes := b.1 })

/-- SHARD_MERGE, held for pages of its buffers that no tile can read (08_memory_tiers R250, R268; 09 R318; 07 R234 to R237,
R241). -/
def execShardMerge (r : Ref) (a : ShardArgs) (s : State) : Host.Outcome State Fault Refusal :=
  s.command r 0x37 (fun e => argsShard e.area == a) (fun s e =>
    if a.k == 0 || decide (4096 < a.k) || a.inCnt == 0 || decide (1024 < a.inCnt) then s.reject e Code.kInvalid
    else match (List.range a.inCnt).mapM (fun i => s.readRec e.part (bit a.dua 0) (a.inAddr + i * a.inStride)) with
      | .error c => s.reject e c
      | .ok ins =>
        if !ins.all InRec.itemsOk then s.reject e Code.listInvalid
        else
          let out := mergeItems a.k ins
          let ks := ins.zipIdx.flatMap (fun x => s.duaPages e.part (bit a.dua 0) (a.inAddr + x.2 * a.inStride) (32 + 16 * x.1.hdr.valid))
          match s.hold e (ks ++ s.duaPages e.part (bit a.dua 0) a.outAddr out.length) with
          | some held => held
          | none => match (s.readPages e.part ks).writeBuf e.part (bit a.dua 0) a.outAddr out with
          | .error c => s.reject e c
          | .ok u => u.done e 0 (readHdr out).valid)

/-! ## RERANK and PACK (09_vector_search R319 to R324) -/

/-- The passage of a version (09 R319). -/
def Index.passage (ix : Index) (id ep : Nat) : Option (List Nat) :=
  (ix.passages.find? (fun y => y.1 == id && y.2.1 == ep)).map (fun y => y.2.2)

/-- Does a cross-encoder image fail R319 for an index? -/
def rerankBad (im : Image) (ix : Index) : Bool :=
  im.kind ≠ 2 || (im.vocabId ≠ 0 && im.vocabId ≠ ix.vocabId) || (im.sepId ≠ 0xFFFFFFFF && decide (ix.tokenCnt ≤ im.sepId))

/-- The candidates that have their passage, in the order of the record, each with its score (09 R319, R320). -/
def Index.scored (ix : Index) (items : List (Nat × Nat)) (scores : List Word) : List SelEl :=
  ((items.zip scores).zipIdx.filter (fun c => (ix.passage c.1.1.1 c.1.1.2).isSome)).map (fun c =>
    { key := fp32.decode c.1.2.toNat, raw := keyRaw 0 c.1.2.toNat, tag := c.2 })

/-- RERANK: one score of the cross-encoder for each candidate; its passes read the image's pages and its
buffers (09 R319, R320; 05 R178; 08 R250, R268;
16_scheduling R514; log 11). -/
def execRerank (r : Ref) (a : RerankArgs) (scores : List Word) (s : State) : Host.Outcome State Fault Refusal :=
  s.command r 0x38 (fun e => argsRerank e.area == a) (fun s e =>
    let dua := bit a.dua 0
    if decide (a.pairLimit < 32) || decide (8192 < a.pairLimit) || a.top == 0 then s.reject e Code.fieldInvalid
    else match s.image? e.part a.image with
      | none => s.reject e Code.imageNotLoaded
      | some im => match s.index? e.part a.index e.tag with
        | none => s.reject e Code.indexInvalid
        | some ix =>
          if rerankBad im ix then s.reject e Code.searchParamInvalid
          else if s.barred e.part e.queue a.image then s.reject e Code.dataflowInvalid
          else match s.readBuf e.part dua a.qtokAddr (4 * a.qtokCnt) with
            | .error c => s.reject e c
            | .ok _ => match s.readRec e.part dua a.inAddr with
              | .error c => s.reject e c
              | .ok rec =>
                let items := rec.items.map (fun i => (i.id, i.epoch))
                if 4096 < items.length || items.length < a.top then s.reject e Code.fieldInvalid
                else if s.tooWide e.part a.image then s.done e Code.gangSizeInvalid 0
                else if scores.length ≠ items.length then s
                else if s.anyLost im.passPages then s.reject e Code.pageLost
                else
                  let els := ix.scored items scores
                  let bs := topkRow true false a.top els
                  let ks := im.passPages ++ s.duaPages e.part dua a.qtokAddr (4 * a.qtokCnt) ++
                    s.duaPages e.part dua a.inAddr (32 + 16 * rec.hdr.valid)
                  match s.hold e (ks ++ s.duaPages e.part dua a.outAddr bs.length) with
                  | some held => held
                  | none =>
                    let gone := items.length - els.length
                    match (s.readPages e.part ks).writeBuf e.part dua a.outAddr bs with
                    | .error c => s.reject e c
                    | .ok u =>
                      (u.modIndex e.part a.index (fun x => { x with ctr := bump x.ctr IxCtr.passageGoneCnt gone })).done e
                        (if gone = 0 then 0 else Code.passageGone) gone)

/-- What packing comes to (09 R321, R322). -/
structure Packed where
  body : List Nat
  used : Nat
  cut : Option Nat
  early : Bool
  deriving DecidableEq, Repr

/-- Passages added whole while they fit; the first that does not fit is cut under PARTIAL where a token of it fits
(09 R322). -/
def packGo (pre post : List Nat) (partial_ : Bool) : Nat → List (List Nat) → Packed
  | _, [] => { body := [], used := 0, cut := none, early := false }
  | room, p :: t =>
    let need := pre.length + p.length + post.length
    if need ≤ room then
      let r := packGo pre post partial_ (room - need) t
      { r with body := pre ++ p ++ post ++ r.body, used := r.used + 1 }
    else
      let keep := room - pre.length - post.length
      if partial_ && keep ≠ 0 then { body := pre ++ p.take keep ++ post, used := 1, cut := some keep, early := false }
      else { body := [], used := 0, cut := none, early := true }

/-- Part i of a template: PREFIX, PSG_PRE, PSG_POST, MID, SUFFIX (18_queues R589). -/
def Template.list (t : Template) (i : Nat) : List Nat := t.lists.getD i []

/-- The fixed parts of a template and a query, in tokens (09 R321, R323). -/
def Template.fixed (t : Template) (q : List Nat) : Nat := (t.list 0).length + (t.list 3).length + q.length + (t.list 4).length

/-- The packed sequence of a template, passages and a query, and what packing came to (09 R321, R322). -/
def Template.pack (t : Template) (partial_ : Bool) (budget : Nat) (psgs : List (List Nat)) (q : List Nat) : List Nat × Packed :=
  let r := packGo (t.list 1) (t.list 2) partial_ (budget - t.fixed q) psgs
  (t.list 0 ++ r.body ++ t.list 3 ++ q ++ t.list 4, r)

/-- A pack record (09 R324). -/
def packRecord (toks : List Nat) (r : Packed) : List Byte :=
  leBytes 4 toks.length ++ leBytes 2 r.used ++ leBytes 2 (flag r.cut.isSome 0 + flag r.early 1) ++ leBytes 4 (r.cut.getD 0) ++
    zeros 20 ++ toks.flatMap (leBytes 4)

/-- Template h of partition p, not unloaded; an earlier command keeps it (18_queues R589). -/
def State.template? (s : State) (p h tag : Nat) : Option Template :=
  match KMap.find (s.part p).templates h with
  | none => none
  | some t => if t.dropped && !t.users.contains tag then none else some t

/-- A RERANK record's order of candidates: none where R321 rejects the record. -/
def State.rankOrder (s : State) (p : Nat) (dua : Bool) (addr valid : Nat) : Except Nat (List Nat) :=
  match s.readBuf p dua addr 32 with
  | .error c => .error c
  | .ok (h, _) =>
    let hdr := readHdr h
    if hdr.kcap < hdr.valid ∨ hdr.ekind ≠ 0 then .error Code.listInvalid
    else match s.readBuf p dua addr (32 + 8 * hdr.valid) with
      | .error c => .error c
      | .ok (b, _) =>
        let tags := (pieces 8 hdr.valid (b.drop 32)).map (fun x => field x 4 4)
        if tags.any (fun t => decide (valid ≤ t)) then .error Code.listInvalid else .ok tags

/-- PACK (09 R320 to R324). -/
def execPack (r : Ref) (a : PackArgs) (s : State) : Host.Outcome State Fault Refusal :=
  s.command r 0x39 (fun e => argsPack e.area == a) (fun s e =>
    let dua := bit a.flags 1
    match s.template? e.part a.template e.tag with
    | none => s.reject e Code.templateInvalid
    | some t => match s.index? e.part a.index e.tag with
      | none => s.reject e Code.indexInvalid
      | some ix =>
        if t.vocab ≠ ix.vocab || t.vocabId ≠ ix.vocabId || a.budget < (t.fixed []) + a.qtokCnt then
          s.reject e Code.packBudgetInvalid
        else match s.readBuf e.part dua a.qtokAddr (4 * a.qtokCnt) with
          | .error c => s.reject e c
          | .ok (qb, _) => match s.readRec e.part dua a.itemAddr with
            | .error c => s.reject e c
            | .ok rec =>
              let items := rec.items
              match (if bit a.flags 2 then s.rankOrder e.part dua a.rrAddr items.length else .ok (List.range items.length)) with
              | .error c => s.reject e c
              | .ok order =>
                let psgs := order.map (fun i => (items[i]?).bind (fun x => ix.passage x.id x.epoch))
                let gone := (psgs.filter Option.isNone).length
                let o := t.pack (bit a.flags 0) a.budget (psgs.filterMap id) (words 4 qb)
                match s.writeBuf e.part dua a.outAddr (packRecord o.1 o.2) with
                | .error c => s.reject e c
                | .ok u =>
                  (u.modIndex e.part a.index (fun x => { x with ctr := bump x.ctr IxCtr.passageGoneCnt gone })).done e
                    (if gone = 0 then 0 else Code.passageGone) o.1.length)

/-! ## Templates (18_queues R589) -/

/-- A list cut at the given lengths. -/
def cutAt : List Nat → List Nat → List (List Nat)
  | [], _ => []
  | n :: t, l => l.take n :: cutAt t (l.drop n)

/-- TEMPLATE_LOAD (18_queues R589, R729). -/
def execTemplateLoad (r : Ref) (a : TemplateArgs) (s : State) : Host.Outcome State Fault Refusal :=
  s.command r 0x3B (fun e => argsTemplate e.pb == a) (fun s e =>
    match firstBad
      [(a.lens.any (fun n => decide (4096 < n)), Code.templateInvalid), (e.pbLen ≠ 32 + 4 * a.lens.sum, Code.pbInvalid)] with
    | some c => s.reject e c
    | none => match KMap.free (s.part e.part).templates 64, s.vocab? e.part a.vocab with
      | none, _ => s.reject e Code.templateInvalid
      | some _, none => s.reject e Code.vocabNotLoaded
      | some h, some v =>
        if a.toks.any (fun x => decide (v.toks.length ≤ x)) then s.reject e Code.templateInvalid
        else
          let t : Template := { vocab := a.vocab, vocabId := v.vocabId, lists := cutAt a.lens a.toks }
          (s.modPart e.part (fun w => { w with templates := KMap.put w.templates h t })).done e 0 h)

/-- TEMPLATE_UNLOAD: the handle is invalid at once, the storage freed after its accepted users (18_queues R589). -/
def execTemplateUnload (r : Ref) (a : HArgs) (s : State) : Host.Outcome State Fault Refusal :=
  s.command r 0x3C (fun e => argsH e.area == a) (fun s e =>
    match s.template? e.part a.handle 0 with
    | none => s.reject e Code.templateInvalid
    | some _ => (s.modPart e.part (fun w => { w with templates := KMap.mod w.templates a.handle (fun t =>
        { t with dropped := true, unloadTag := e.tag }) })).keep e)

/-- TEMPLATE_FREE: no user is left; the storage is freed and the unload completes (18_queues R589). -/
def execTemplateFree (part template : Nat) (s : State) : Host.Outcome State Fault Refusal :=
  match KMap.find (s.part part).templates template with
  | none => .next s
  | some t =>
    if !t.dropped || t.users.any (fun u => (s.cmd u).isSome) then .next s
    else
      let u := s.modPart part (fun w => { w with templates := KMap.del w.templates template })
      match s.cmd t.unloadTag with
      | none => .next u
      | some e => .next (u.done e 0 0)

end Sys2Proof.Machine
end

