-- ==== Sys2Proof/Machine/Tables.lean ====
section
/-! DEFINITION. Embedding tables: rows, lookups, updates, versions and their commands (10_embedding_tables R331 to R361). -/

namespace Sys2Proof.Machine

/-! ## Rows (10_embedding_tables R333 to R336) -/

/-- Row bytes L (10 R333). -/
def tbRow (rfmt d : Nat) : Nat := match rfmt with
  | 0 => 2 * d
  | 1 => d + 4
  | _ => ceilDiv d 2 + 4

/-- Row stride (10 R333). -/
def Table.stride (t : Table) : Nat := roundUp (tbRow t.rfmt t.dim) 16

/-- Rows of a page (10 R334). -/
def Table.rpp (t : Table) : Nat := 65536 / t.stride

/-- Pages of a row plane and of a state plane (10 R334). -/
def Table.rowPages (t : Table) : Nat := ceilDiv t.rows (max t.rpp 1)
/-- Pages of a state plane, none without HAS_STATE. -/
def Table.stPages (t : Table) : Nat := if t.hasState then ceilDiv t.rows 16384 else 0

/-- DUA of row r of a version (10 R334). -/
def Table.rowAddr (t : Table) (v : TVer) (r : Nat) : Nat := 65536 * (v.rowBase + r / max t.rpp 1) + r % max t.rpp 1 * t.stride

/-- DUA of the state word of row r (10 R334). -/
def TVer.stAddr (v : TVer) (r : Nat) : Nat := 65536 * (v.stBase + r / 16384) + 4 * (r % 16384)

/-- fma(SCALE, q, OFFSET) with one rounding (10 R335). -/
def fma32 (a b c : Num) : Num := f32 ((a.mul b).add c)

/-- A row widened to FP32, and whether its SCALE or OFFSET is bad (10 R335, R336, R339). -/
def widenRow (rfmt d : Nat) (b : List Byte) : List Num × Bool :=
  if rfmt = 0 then ((words 2 (b.take (2 * d))).map bf16.decode, false)
  else
    let at' := if rfmt = 1 then d else ceilDiv d 2
    let scale := fp16.decode (field b at' 2)
    let off := fp16.decode (field b (at' + 2) 2)
    let fin := fun x => match x with | Num.fin _ _ _ => true | _ => false
    let w := if rfmt = 1 then 8 else 4
    if !fin scale || !fin off then (List.replicate d (.fin false 0 0), true)
    else ((List.range d).map (fun i => fma32 scale (.ofInt (codeAt w (b.take at') i)) off), false)

/-- The value of row r of a version, zeros at or above ROWS (10 R341). -/
def State.tableRow (s : State) (t : Table) (v : TVer) (r : Nat) : List Num × Bool :=
  if t.rows ≤ r then (List.replicate t.dim (.fin false 0 0), false)
  else widenRow t.rfmt t.dim (s.dev.readN (t.rowAddr v r) t.stride)

/-! ## Lookup (10_embedding_tables R338 to R341) -/

/-- Do the offsets cut n positions into bags (10 R338)? -/
def bagsOk (offs : List Nat) (n : Nat) : Bool :=
  offs.head? == some 0 && offs.getLast? == some n && inOrder (fun a b => decide (a < b)) offs

/-- A pooled bag (10 R340). -/
def poolBag (mean : Bool) (d c : Nat) (rows : List (List Num)) : List Num :=
  if rows = [] then List.replicate d (.fin false 0 0)
  else (List.range d).map (fun i =>
    let x := sum32 (c + i) (rows.map (fun r => r.getD i (.fin false 0 0)))
    if mean then mul32 x (rcpNum (f32 (.ofInt rows.length))) else x)

/-- What a lookup answers: the pooled rows, its status, unique rows, rows with a bad scale. -/
structure Lookup where
  rows : List (List Num)
  status : Nat
  uniq : Nat
  bad : Nat
  deriving DecidableEq, Repr

/-- The tile, by gang-relative index, of each bag: contiguous ranges of bags with about n / g indices each (10 R339; where a range
ends: DESIGN CHOICE, log 37). -/
def bagTile (g n : Nat) (off : Nat) : Nat := min (off * g / max n 1) (g - 1)

/-- A lookup of bags in a pinned version on `g` tiles, each of which sorts and de-duplicates the indices of its bags and fetches each
unique row once (04_tile R120; 10 R339 to R341). -/
def State.lookup (s : State) (t : Table) (v : TVer) (mean : Bool) (g : Nat) (is offs : List Nat) : Lookup :=
  let n := is.length
  let cuts := (offs.zip (offs.drop 1)).zipIdx
  let fetched := (List.range (max g 1)).map (fun k =>
    let mine := (cuts.filter (fun b => bagTile (max g 1) n b.1.1 == k)).flatMap (fun b => (is.drop b.1.1).take (b.1.2 - b.1.1))
    (sortUnique mine).1.filter (fun i => decide (i < t.rows)))
  let bad := (fetched.map (fun l => l.countP (fun i => (s.tableRow t v i).2))).sum
  let bags := cuts.map (fun b =>
    poolBag mean t.dim (s.fresh + 2 ^ 20 * b.2) (((is.drop b.1.1).take (b.1.2 - b.1.1)).map (fun i => (s.tableRow t v i).1)))
  { rows := bags
    status := if is.any (fun i => decide (t.rows ≤ i)) then Code.indexOutOfRange else if bad ≠ 0 then Code.rowScaleInvalid else 0
    uniq := (fetched.map List.length).sum, bad := bad }

/-- Pages of the rows of a list of indices. -/
def Table.pagesOfRows (t : Table) (v : TVer) (is : List Nat) (state : Bool) : List Nat :=
  ((is.filter (fun i => decide (i < t.rows))).flatMap (fun i =>
    (v.rowBase + i / max t.rpp 1) :: (if state then [v.stBase + i / 16384] else []))).dedup

/-- Table h of partition p changed. -/
def State.modTable (s : State) (p h : Nat) (f : Table → Table) : State :=
  s.modPart p (fun v => { v with tables := KMap.mod v.tables h f })

/-- A table's counters after a lookup (10 R336, R360). -/
def Table.looked (t : Table) (n : Nat) (l : Lookup) : Table :=
  { t with ctr := bump (bump (bump t.ctr TbCtr.lookupIdx n) TbCtr.lookupUnique l.uniq) TbCtr.rowScaleBad l.bad }

/-! ## Updates (10_embedding_tables R345 to R348) -/

/-- One row's optimiser step: the conversions of its weights and its state word; none where the gradient is not finite
(10 R345). -/
def stepRow (adagrad : Bool) (lr eps : Num) (d c : Nat) (w : List Num) (st : Num) (grads : List (List Num)) :
    Option (List Conv × Num) :=
  let g := (List.range d).map (fun i => sum32 (c + i) (grads.map (fun r => r.getD i (.fin false 0 0))))
  if g.any (fun x => match x with | .fin _ _ _ => false | _ => true) then none
  else
    let back := bf16.convert none
    if !adagrad then some ((w.zip g).map (fun e => back (sub32 e.1 (mul32 lr e.2))), st)
    else
      let sq := sum32 (c + d) (g.map (fun x => mul32 x x))
      let s1 := add32 st (div32 sq (.ofInt d))
      let r := if s1.eqv (.fin false 0 0) then .fin false 0 0 else mul32 s1 (rsqrtNum s1)
      let q := rcpNum (add32 r eps)
      some ((w.zip g).map (fun e => back (sub32 e.1 (mul32 (mul32 lr e.2) q))), s1)

/-- A row and its state word written whole; a row of a migrating page is logged (10 R347, R356). -/
def State.putRow (s : State) (t : Table) (v : TVer) (r : Nat) (codes : List Nat) (st : Option Num) : State :=
  let log := fun (a : State) (k x : Nat) => { a with pages := a.pages.map (fun e => if e.1 = k then
    (k, { e.2.setFlag 6 false with
      back := none, age := a.turn % 2 ^ 48
      dirty := if e.2.mstate = 1 then (e.2.dirty ++ [x]).dedup else e.2.dirty }) else e) }
  let s1 := { s with dev := s.dev.writeN (t.rowAddr v r) (codes.flatMap (leBytes 2)) }
  let s2 := log s1 (v.rowBase + r / max t.rpp 1) (r % max t.rpp 1)
  match st with
  | none => s2
  | some x => log { s2 with dev := s2.dev.writeN (v.stAddr r) (leBytes 4 (f32Code x)) } (v.stBase + r / 16384) (r % 16384)

/-- What an update leaves: the state, rows updated, rows skipped, weights that saturated as they were written back (10 R345, R346;
02 R63). -/
structure Updated where
  state : State
  rows : Nat := 0
  skipped : Nat := 0
  sat : Nat := 0
  deriving DecidableEq, Repr

/-- Every unique row of an index list stepped in a pinned version (04 R120; 10 R345, R346). -/
def State.update (s : State) (t : Table) (v : TVer) (adagrad : Bool) (lr eps : Num) (is : List Nat) (grads : List (List Num)) :
    Updated :=
  ((sortUnique is).1.filter (fun i => decide (i < t.rows))).foldl (fun (a : Updated) r =>
    let gs := (is.zip grads).filterMap (fun e => if e.1 = r then some e.2 else none)
    match stepRow adagrad lr eps t.dim (s.fresh + 2 ^ 20 * r) (a.state.tableRow t v r).1
        (fp32.decode (field (a.state.dev.readN (v.stAddr r) 4) 0 4)) gs with
    | none => { a with skipped := a.skipped + 1 }
    | some (w, st) => { a with
        state := a.state.putRow t v r (w.map Conv.code) (if adagrad then some st else none), rows := a.rows + 1
        sat := a.sat + w.countP Conv.sat }) { state := s }

/-- Is an FP32 code finite? -/
def f32Finite (c : Nat) : Bool := bits c 23 8 ≠ 255

/-- The status of an update command or record before it runs (10 R343, R344). -/
def updateErr (t : Table) (opt lr eps : Nat) : Nat :=
  if !t.updatable || (opt == 1 && !t.hasState) then Code.tableUpdateUnsupported
  else if !f32Finite lr || (opt == 1 && (!f32Finite eps || !(0 < eps && eps < 2 ^ 31))) || (opt == 0 && eps ≠ 0) then
    Code.shapeInvalid
  else 0

/-- A table's counters after an update of a version (10 R353, R360). -/
def Table.updated (t : Table) (v : TVer) (rows skipped : Nat) : Table :=
  let stale := if v.num = t.cur.num then 0 else rows
  { t with ctr := bump (bump (bump t.ctr TbCtr.updateRows rows) TbCtr.updNonfinite skipped) TbCtr.updStale stale }

/-- Record i of an image. -/
def Image.record (i : Image) (k : Nat) : Rec := recOf (i.recs.getD k [])

/-- Does a record name an embedding table, and which (10 R337, R343)? -/
def Rec.table (r : Rec) : Option Nat := if r.opc = 0x30 || r.opc = 0x31 then some (field r.params 0 2) else none

/-- The tables that an image's records name. -/
def Image.tablesNamed (i : Image) : List Nat := ((i.recs.map recOf).filterMap Rec.table).dedup

/-- Has a run an update of version n of table h still to make (10 R348)? -/
def Run.updates (x : Run) (im : Image) (h n : Nat) : Bool :=
  x.pinned.contains (h, n) && (List.range im.recs.length).any (fun i =>
    (im.record i).opc == 0x31 && (im.record i).table == some h && (KMap.find x.status i).isNone && !x.skipped.contains i)

/-- Does an update of version n of table h under command `tag` wait for one of a run or command admitted before it (10 R348; batches:
log 39)? -/
def State.updateQueued (s : State) (p h n tag : Nat) : Bool :=
  s.runs.any (fun x => x.2.part == p && decide (x.2.tag < tag) && (match KMap.find (s.part p).images x.2.image with
    | none => false
    | some im => x.2.updates im h n)) ||
  s.inflight.any (fun c => c.part == p && c.opc == 0x47 && decide (c.tag < tag) && field c.area 0 2 == h && c.aux == [n])

/-- Does an update wait: a page of its rows is being recopied (10 R356, R357)? -/
def State.updateWaits (s : State) (ks : List Nat) : Bool := s.pages.any (fun e => ks.contains e.1 && e.2.mstate == 2)

/-! ## Commands (10_embedding_tables R349 to R359) -/

/-- Table h of partition p, not dropped (10 R355). -/
def State.table? (s : State) (p h : Nat) : Option Table :=
  match KMap.find (s.part p).tables h with
  | none => none
  | some t => if t.dropped then none else some t

/-- Waiting EMBED commands of partition p that have pinned version n of table h (10 R350). -/
def State.cmdPins (s : State) (p h n : Nat) : Nat :=
  s.inflight.countP (fun c => c.part == p && (c.opc == 0x46 || c.opc == 0x47) && c.aux == [n] && field c.area 0 2 == h)

/-- Does no run, batch or waiting command use version v of table h (10 R350, R351)? -/
def State.verFree (s : State) (p h : Nat) (v : TVer) : Bool := v.pins.isEmpty && s.cmdPins p h v.num == 0

/-- The table and the version that an EMBED command uses: the one it pinned when it was accepted, else the current one
(10 R350, R355). -/
def State.pinnedBy (s : State) (e : CmdE) (h : Nat) : Option (Table × TVer) :=
  match e.aux with
  | [n] => (KMap.find (s.part e.part).tables h).bind (fun t =>
      ((t.cur :: t.retiring).find? (fun v => v.num == n)).map (fun v => (t, v)))
  | _ => (s.table? e.part h).map (fun t => (t, t.cur))

/-- Pages for a version: the row plane, then the state plane, all zero; READONLY without UPDATABLE (10 R332, R334). -/
def State.newVersion (s : State) (p : Nat) (t : Table) (num : Nat) : Option (TVer × State) :=
  let fl := BitVec.ofNat 16 ((if t.updatable then 0 else 8) + flag t.parity 2)
  (s.alloc p t.rowPages t.tierPref fl).bind (fun a =>
    (if t.hasState then a.2.alloc p t.stPages t.tierPref (BitVec.ofNat 16 0) else some (0, a.2)).map (fun b =>
      ({ num := num, rowBase := a.1, rowPages := t.rowPages, stBase := b.1, stPages := t.stPages }, b.2)))

/-- The pages of a version freed. -/
def State.dropVersion (s : State) (v : TVer) : State :=
  (s.freePages v.rowBase v.rowPages).freePages v.stBase v.stPages

/-- TABLE_CREATE (10 R331, R359). -/
def execTableCreate (r : Ref) (a : TableArgs) (s : State) : Host.Outcome State Fault Refusal :=
  s.command r 0x40 (fun e => argsTable e.area == a) (fun s e =>
    let upd := bit a.flags 0
    let st := bit a.flags 1
    let par := bit a.flags 2
    let tier := bits a.flags 3 2
    let t : Table := { rows := a.rows, dim := a.dim, rfmt := a.rfmt, updatable := upd, hasState := st, parity := par, tierPref := tier }
    match firstBad
      [(a.rows == 0 || decide (2 ^ 34 < a.rows) || a.dim == 0 || decide (4096 < a.dim), Code.tableLimit),
       (decide (2 < a.rfmt) || tier == 3 || (upd && a.rfmt ≠ 0) || (st && !upd) || (par && upd), Code.fieldInvalid)] with
    | some c => s.reject e c
    | none => match KMap.free (s.part e.part).tables 1024 with
      | none => s.reject e Code.tableLimit
      | some h => match s.newVersion e.part t 1 with
        | none => s.reject e Code.poolExhausted
        | some (v, u) => (u.modPart e.part (fun w => { w with tables := KMap.put w.tables h { t with cur := v } })).done e 0 h)

/-- TABLE_DROP: the handle refused from now on; versions without users freed at once, the others as their users end
(10 R355, R358). -/
def execTableDrop (r : Ref) (a : HArgs) (s : State) : Host.Outcome State Fault Refusal :=
  s.command r 0x41 (fun e => argsH e.area == a) (fun s e =>
    match s.table? e.part a.handle with
    | none => s.reject e Code.tableInvalid
    | some t =>
      let all := t.cur :: (t.staged.toList ++ t.retiring)
      let free := if all.all (s.verFree e.part a.handle) then all else t.staged.toList
      let u := free.foldl State.dropVersion s
      if all.all (s.verFree e.part a.handle) then
        (u.modPart e.part (fun w => { w with tables := KMap.del w.tables a.handle })).done e 0 0
      else (u.modTable e.part a.handle (fun x => { x with dropped := true, staged := none })).done e 0 0)

/-- TABLE_STAGE: an empty version or a copy, which reads the pages of the current one (08_memory_tiers R250; 10 R352, R354). -/
def execTableStage (r : Ref) (a : StageArgs) (s : State) : Host.Outcome State Fault Refusal :=
  s.command r 0x42 (fun e => argsStage e.area == a) (fun s e =>
    if 1 < a.mode then s.reject e Code.fieldInvalid
    else match s.table? e.part a.handle with
      | none => s.reject e Code.tableInvalid
      | some t =>
        if t.staged.isSome then s.reject e Code.tableVersionBusy
        else
          let ks := (List.range t.cur.rowPages).map (fun i => t.cur.rowBase + i) ++
            (List.range t.cur.stPages).map (fun i => t.cur.stBase + i)
          match (if a.mode = 1 then s.hold e ks else none) with
          | some held => held
          | none => match (if a.mode = 1 then s.readPages e.part ks else s).newVersion e.part t t.verNext with
            | none => s.reject e Code.poolExhausted
            | some (v, u) =>
              let dev := if a.mode = 0 then u.dev
                else (u.dev.writeN (65536 * v.rowBase) (s.dev.readN (65536 * t.cur.rowBase) (65536 * v.rowPages))).writeN
                  (65536 * v.stBase) (s.dev.readN (65536 * t.cur.stBase) (65536 * v.stPages))
              ({ u with dev := dev }.modTable e.part a.handle (fun x => { x with
                staged := some v, verNext := (x.verNext + 1) % 2 ^ 32 })).done e 0 t.verNext)

/-- TABLE_WRITE: rows of the staged version; pages that are READONLY change by rewrite to a fresh frame (08_memory_tiers R251, R262;
10 R332, R354, R359; 18_queues R585). -/
def execTableWrite (r : Ref) (a : SArgs) (s : State) : Host.Outcome State Fault Refusal :=
  s.command r 0x43 (fun e => argsS e.area == a) (fun s e =>
    match s.table? e.part a.arg16 with
    | none => s.reject e Code.tableInvalid
    | some t => match t.staged with
      | none => s.reject e Code.tableNotStaged
      | some v =>
        let n := a.len / max t.stride 1
        if a.len % max t.stride 1 ≠ 0 || decide (t.rows < a.arg64 + n) then s.reject e Code.fieldInvalid
        else match s.source e.part a with
          | .error c => s.reject e c
          | .ok (bs, u) =>
            match u.rewrite (t.pagesOfRows v ((List.range n).map (fun i => a.arg64 + i)) false) with
            | none => s.reject e Code.poolExhausted
            | some w => ((pieces t.stride n bs).zipIdx.foldl (fun (b : State) x => b.devPut (t.rowAddr v (a.arg64 + x.2))
                (x.1.take (tbRow t.rfmt t.dim) ++ zeros (t.stride - tbRow t.rfmt t.dim))) w).done e 0 0)

/-- TABLE_PUBLISH (10 R351, R354). -/
def execTablePublish (r : Ref) (a : HArgs) (s : State) : Host.Outcome State Fault Refusal :=
  s.command r 0x44 (fun e => argsH e.area == a) (fun s e =>
    match s.table? e.part a.handle with
    | none => s.reject e Code.tableInvalid
    | some t => match t.staged with
      | none => s.reject e Code.tableNotStaged
      | some v =>
        if 2 ≤ t.retiring.length then s.reject e Code.tableVersionBusy
        else (s.modTable e.part a.handle (fun x => { x with
          cur := v, staged := none, retiring := x.retiring ++ [x.cur]
          ctr := bump x.ctr TbCtr.versionsPublished 1 })).done e 0 v.num)

/-- TABLE_DISCARD (10 R354, R359). -/
def execTableDiscard (r : Ref) (a : HArgs) (s : State) : Host.Outcome State Fault Refusal :=
  s.command r 0x45 (fun e => argsH e.area == a) (fun s e =>
    match s.table? e.part a.handle with
    | none => s.reject e Code.tableInvalid
    | some t => match t.staged with
      | none => s.reject e Code.tableNotStaged
      | some v => ((s.dropVersion v).modTable e.part a.handle (fun x => { x with staged := none })).done e 0 0)

/-- VERSION_RETIRE: the last run that pinned a retiring version, or a version of a dropped table, has ended; its pages are
freed; a dropped table goes with its last version (10 R351, R355). -/
def execVersionRetire (part table version : Nat) (s : State) : Host.Outcome State Fault Refusal :=
  match KMap.find (s.part part).tables table with
  | none => .next s
  | some t =>
    match (t.cur :: t.retiring).find? (fun v => v.num == version && s.verFree part table v) with
    | none => .next s
    | some v =>
      if t.cur.num = version && !(t.dropped && t.retiring.isEmpty) then .next s
      else if t.cur.num = version then
        .next ((s.dropVersion v).modPart part (fun w => { w with tables := KMap.del w.tables table }))
      else .next ((s.dropVersion v).modTable part table (fun x => { x with retiring := x.retiring.filter (fun y => y.num ≠ version) }))

/-- The indices of an EMBED command. -/
def embedIdx (a : EmbedArgs) (bs : List Byte) : List Nat := words (if bit a.flags 0 then 8 else 4) bs

/-- EMBED_LOOKUP (10 R337 to R342, R350). -/
def execEmbedLookup (r : Ref) (a : EmbedArgs) (s : State) : Host.Outcome State Fault Refusal :=
  s.command r 0x46 (fun e => argsEmbed e.area == a) (fun s e =>
    let dua := bit a.flags 1
    let w := if bit a.flags 0 then 8 else 4
    match firstBad
      [(decide (1 < a.mode) || a.n == 0 || decide (65536 < a.n) || a.bags == 0 || decide (65536 < a.bags), Code.fieldInvalid),
       (decide (1 < a.fmt), Code.formatUnsupported)] with
    | some c => s.reject e c
    | none => match s.pinnedBy e a.table with
      | none => s.reject e Code.tableInvalid
      | some (t, v) =>
        if decide (2 ^ 32 < t.rows) && !bit a.flags 0 then s.reject e Code.fieldInvalid
        else match s.readBuf e.part dua a.idxAddr (w * a.n) with
          | .error c => s.reject e c
          | .ok (ib, s1) => match s1.readBuf e.part dua a.aux (4 * (a.bags + 1)) with
            | .error c => s.reject e c
            | .ok (ob, s2) =>
              let is := embedIdx a ib
              let offs := words 4 ob
              let ks := t.pagesOfRows v is false
              if !bagsOk offs a.n then s.reject e Code.bagInvalid
              else if s.pages.any (fun g => ks.contains g.1 && g.2.flag 7) then s.reject e Code.pageLost
              else
                let l := s.lookup t v (a.mode == 1) 1 is offs
                let bs := plainBytes a.fmt t.dim l.rows
                match s.hold { e with aux := [v.num] } (ks ++ s.duaPages e.part dua a.idxAddr (w * a.n) ++
                    s.duaPages e.part dua a.aux (4 * (a.bags + 1)) ++ s.duaPages e.part dua a.outAddr bs.length) with
                | some held => held
                | none =>
                  let w := writeTensor a.fmt false (fun _ => none) t.dim l.rows
                  match ({ s2 with fresh := s2.fresh + 2 ^ 64 }.readPages e.part ks).writeBuf e.part dua a.outAddr bs with
                  | .error c => s.reject e c
                  | .ok u => ((u.modTable e.part a.table (fun x => x.looked a.n l)).convEvents s.builtinTile (w.2.countP Conv.sat)
                      (w.2.countP Conv.nan)).done e l.status l.uniq)

/-- EMBED_UPDATE (10 R343 to R348, R350). -/
def execEmbedUpdate (r : Ref) (a : EmbedArgs) (s : State) : Host.Outcome State Fault Refusal :=
  s.command r 0x47 (fun e => argsEmbed e.area == a) (fun s e =>
    let dua := bit a.flags 1
    let w := if bit a.flags 0 then 8 else 4
    match firstBad
      [(decide (1 < a.mode) || a.n == 0 || decide (65536 < a.n), Code.fieldInvalid), (decide (1 < a.fmt), Code.formatUnsupported)] with
    | some c => s.reject e c
    | none => match s.pinnedBy e a.table with
      | none => s.reject e Code.tableInvalid
      | some (t, v) =>
        let er := updateErr t a.mode a.lr a.eps
        if er ≠ 0 then s.reject e er
        else if decide (2 ^ 32 < t.rows) && !bit a.flags 0 then s.reject e Code.fieldInvalid
        else match s.readBuf e.part dua a.idxAddr (w * a.n) with
          | .error c => s.reject e c
          | .ok (ib, s1) => match s1.readBuf e.part dua a.aux (rowBytes (fmtBits a.fmt) t.dim * a.n) with
            | .error c => s.reject e c
            | .ok (gb, s2) =>
              let is := embedIdx a ib
              let ks := t.pagesOfRows v is (a.mode == 1)
              if s.pages.any (fun g => ks.contains g.1 && g.2.flag 7) then s.reject e Code.pageLost
              else if s.updateWaits ks || s.updateQueued e.part a.table v.num e.tag then s.setCmd { e with aux := [v.num] }
              else match s.hold { e with aux := [v.num] } (ks ++ s.duaPages e.part dua a.idxAddr (w * a.n) ++
                  s.duaPages e.part dua a.aux (rowBytes (fmtBits a.fmt) t.dim * a.n)) with
                | some held => held
                | none =>
                  let grads := (readTensor a.fmt false t.dim a.n gb).vals
                  let u := s2.update t v (a.mode == 1) (fp32.decode a.lr) (fp32.decode a.eps) is grads
                  let status := if u.skipped ≠ 0 then Code.gradientNonfinite
                    else if is.any (fun i => decide (t.rows ≤ i)) then Code.indexOutOfRange else 0
                  (({ u.state with fresh := u.state.fresh + 2 ^ 64 }.modTable e.part a.table (fun x =>
                    x.updated v u.rows u.skipped)).convEvents s.builtinTile u.sat 0).done e status
                      ((sortUnique is).1.countP (fun i => decide (i < t.rows))))

/-- TABLE_READ: rows of the current version, at their stride (10 R359). -/
def execTableRead (r : Ref) (a : TReadArgs) (s : State) : Host.Outcome State Fault Refusal :=
  s.command r 0x48 (fun e => argsTRead e.area == a) (fun s e =>
    match s.table? e.part a.table with
    | none => s.reject e Code.tableInvalid
    | some t =>
      let is := (List.range a.rows).map (fun i => a.first + i)
      let ks := t.pagesOfRows t.cur is false
      if t.rows < a.first + a.rows then s.reject e Code.fieldInvalid
      else if s.pages.any (fun g => ks.contains g.1 && g.2.flag 7) then s.reject e Code.pageLost
      else match s.hold e ks with
        | some held => held
        | none => match (s.readPages e.part ks).writeBuf e.part (bit a.dua 0) a.outAddr
            (is.flatMap (fun i => s.dev.readN (t.rowAddr t.cur i) t.stride)) with
          | .error c => s.reject e c
          | .ok u => u.done e 0 0)

/-- One version in a TABLE_QUERY: number, role (0 current, 1 staged, 2 retiring), pins. -/
def State.tverItem (s : State) (p h role : Nat) (v : TVer) : List Byte :=
  leBytes 4 v.num ++ leBytes 4 role ++ leBytes 4 (v.pins.length + s.cmdPins p h v.num)

/-- The items of TABLE_QUERY (10_embedding_tables R359; log 14). -/
def State.tableItems (s : State) (p h : Nat) (t : Table) : List (List Byte) :=
  [leBytes 8 t.rows ++ leBytes 2 t.dim ++ leBytes 1 t.rfmt ++
     leBytes 1 (flag t.updatable 0 + flag t.hasState 1 + flag t.parity 2 + 8 * t.tierPref),
   s.tverItem p h 0 t.cur ++ (t.staged.toList.map (s.tverItem p h 1)).flatten ++ (t.retiring.map (s.tverItem p h 2)).flatten,
   ctrBytes t.ctr 0 8]

/-- TABLE_QUERY: attributes, versions, pins, counters (10 R359, R360; 18_queues R584). -/
def execTableQuery (r : Ref) (a : QArgs) (s : State) : Host.Outcome State Fault Refusal :=
  s.command r 0x49 (fun e => argsQ e.area == a) (fun s e =>
    match s.table? e.part a.handle with
    | none => s.reject e Code.tableInvalid
    | some t => s.answer e a (s.tableItems e.part a.handle t))

end Sys2Proof.Machine
end

