-- ==== Sys2Proof/Machine/Graph.lean ====
section
/-! DEFINITION. Running records: GRAPH_RUN, the issue of a record of a run or of a serving batch, layers and re-fires,
compute faults and re-execution (06_operations R201 to R205; 03_narrow_arithmetic R73 to R95, R727; 21_reliability R637 to
R640, R642; 04_tile R104, R129, R130). -/

namespace Sys2Proof.Machine

/-! ## Table records of a run or batch (10_embedding_tables R337 to R348, R350) -/

/-- The current versions of tables pinned by a user (10 R350). -/
def State.pinTables (s : State) (p user : Nat) (hs : List Nat) : List (Nat × Nat) × State :=
  let l := hs.filterMap (fun h => (s.table? p h).map (fun t => (h, t.cur.num)))
  (l, l.foldl (fun (a : State) e => a.modTable p e.1 (fun t => { t with cur := { t.cur with pins := t.cur.pins ++ [user] } })) s)

/-- A user's pins gone from every version of every table (10 R351). -/
def State.unpinTables (s : State) (p user : Nat) : State :=
  s.modPart p (fun v => { v with tables := KMap.each v.tables (fun _ t => { t with
    cur := { t.cur with pins := t.cur.pins.filter (fun x => x ≠ user) }
    retiring := t.retiring.map (fun (w : TVer) => { w with pins := w.pins.filter (fun x => x ≠ user) }) }) })

/-- The version of table h that a user has pinned (10 R350). -/
def State.pinnedTable (s : State) (p h : Nat) (pins : List (Nat × Nat)) : Option (Table × TVer) :=
  match KMap.find (s.part p).tables h, pins.find? (fun e => e.1 == h) with
  | some t, some e => ((t.cur :: t.retiring).find? (fun v => v.num == e.2)).map (fun v => (t, v))
  | _, _ => none

/-- What a table record does: its bench, the pages it needs, and what happens to the tables. -/
structure TableRun where
  bench : Bench
  pages : List Nat
  wait : Bool
  after : State
  deriving DecidableEq, Repr

/-- Does operand 0 of a table record not fit its table: DIM0 is DIM, DIM1 is ROWS where its 32 bits can hold it, and more than
2^32 rows need IDX64 (10 R337)? -/
def Rec.tableShape (r : Rec) (t : Table) : Bool :=
  (r.op 0).dim0 ≠ t.dim || (decide (t.rows < 2 ^ 32) && (r.op 0).dim1 ≠ t.rows) || (decide (2 ^ 32 < t.rows) && !bit (field r.params 3 1) 0)

/-- EMBED_BAG as a record, each tile of its gang with bags of its own (10 R337 to R341). -/
def State.bagRecord (s : State) (p : Nat) (b : Bench) (r : Rec) (h : Nat) (t : Table) (v : TVer) : Except Nat TableRun :=
  let n := (r.op 1).dim0
  let bags := field r.params 4 4
  let w := if bit (field r.params 3 1) 0 then 8 else 4
  if (r.op 0).fmt ≠ (if t.rfmt = 0 then 1 else 0) then .error Code.formatUnsupported
  else if r.tableShape t then .error Code.shapeInvalid
  else match b.read s (r.op 1) 0 (w * n) with
    | .error c => .error c
    | .ok (ib, b1) => match b1.read s (r.op 2) 0 (4 * (bags + 1)) with
      | .error c => .error c
      | .ok (ob, b2) =>
        let is := words w ib
        let offs := words 4 ob
        let ks := t.pagesOfRows v is false
        if !bagsOk offs n then .error Code.bagInvalid
        else if s.pages.any (fun g => ks.contains g.1 && g.2.flag 7) then .error Code.pageLost
        else
          let l := s.lookup t v (field r.params 2 1 == 1) b.gang is offs
          match (b2.note (l.status ≠ 0) l.status).outTensor s (r.op 3) l.rows 0 false with
          | .error c => .error c
          | .ok b3 => .ok { bench := b3, pages := ks, wait := false, after := s.modTable p h (fun x => x.looked n l) }

/-- ROW_UPDATE as a record of the command `tag`, none for a batch (10 R343 to R348). -/
def State.updateRecord (s : State) (p : Nat) (tag : Option Nat) (b : Bench) (r : Rec) (h : Nat) (t : Table) (v : TVer) :
    Except Nat TableRun :=
  let n := (r.op 1).dim0
  let w := if bit (field r.params 3 1) 0 then 8 else 4
  let opt := field r.params 2 1
  let g := r.op 2
  let st := r.op 3
  if (r.op 0).fmt ≠ (if t.rfmt = 0 then 1 else 0) || (st.present && st.fmt ≠ 0) then .error Code.formatUnsupported
  else if r.tableShape t then .error Code.shapeInvalid
  else if updateErr t opt (field r.params 4 4) (field r.params 8 4) ≠ 0 then
    .error (updateErr t opt (field r.params 4 4) (field r.params 8 4))
  else match b.read s (r.op 1) 0 (w * n) with
    | .error c => .error c
    | .ok (ib, b1) => match b1.read s g 0 g.size with
      | .error c => .error c
      | .ok (gb, b2) =>
        let is := words w ib
        let ks := t.pagesOfRows v is (opt == 1)
        if s.pages.any (fun x => ks.contains x.1 && x.2.flag 7) then .error Code.pageLost
        else
          let grads := (readTensor g.fmt false t.dim n gb).vals
          let u := s.update t v (opt == 1) (fp32.decode (field r.params 4 4)) (fp32.decode (field r.params 8 4)) is grads
          let b3 := { b2 with convSat := b2.convSat + u.sat }.note (is.any (fun i => decide (t.rows ≤ i))) Code.indexOutOfRange
          .ok { bench := if u.skipped ≠ 0 then { b3 with status := Code.gradientNonfinite } else b3
                pages := ks
                wait := s.updateWaits ks || (match tag with | none => false | some k => s.updateQueued p h v.num k)
                after := u.state.modTable p h (fun x => x.updated v u.rows u.skipped) }

/-! ## GRAPH_WALK as a record (06 R188; 09_vector_search R291, R292, R302; 04_tile R125 to R127) -/

/-- A list of items in an output record of `n` bytes. -/
def walkRecord (n : Nat) (l : List ItemEl) : List Byte :=
  let x := mergeItems ((n - 32) / 16) [itemList 0 0 l]
  x ++ zeros (n - x.length)

/-- GRAPH_WALK: from the entry slots through the partition block at operand 1, a list of candidates for each query. Which bytes the
operands hold the spec leaves open: 32-bit slots, a block of R291, B1 queries of DIM0 bits, item records of DIM0 bytes; EF is their
KCAP, MAX_VISIT the default of R299, a node is eligible unless TOMBSTONE or FREE (DESIGN CHOICE, log 37). -/
def Bench.graphWalk (b : Bench) (s : State) (r : Rec) : Except Nat Bench :=
  let q := r.op 2
  let w := q.dim0
  let n := (r.op 3).dim0
  match b.read s (r.op 0) 0 (4 * (r.op 0).dim0 * (r.op 0).dim1) with
  | .error c => .error c
  | .ok (eb, b1) => match b1.read s (r.op 1) 0 256 with
    | .error c => .error c
    | .ok (hb, b2) => match b2.read s (r.op 1) 256 (field hb 4 2 * nodeStride w) with
      | .error c => .error c
      | .ok (nb, b3) => match b3.read s q 0 (rowBytes 1 w * q.dim1) with
        | .error c => .error c
        | .ok (qb, b4) =>
          let blk : Block := {
            part := field hb 0 4, nodes := (pieces (nodeStride w) (field hb 4 2) nb).map (readNode w), entry := words 4 eb
            wedgeEpoch := field hb 20 6, base := 0, pages := 0 }
          let ef := (n - 32) / 16
          let ws := (pieces (rowBytes 1 w) q.dim1 qb).map (fun x =>
            walk w blk (leNat x % 2 ^ w) ef (8 * ef) (fun _ m => !m.free && !m.tomb))
          let items := fun (x : Walk) => x.res.filterMap (fun c =>
            blk.nodes[c.2]?.map (fun m => ({ id := m.item, epoch := m.ins, dist := c.1 } : ItemEl)))
          { b4 with evict := b4.evict + (ws.map Walk.evict).sum }.write s (r.op 3) 0 (ws.flatMap (fun x => walkRecord n (items x)))

/-- A record that names no table, on its bench. -/
def Bench.runAll (b : Bench) (s : State) (r : Rec) (bytes : List Byte) : Except Nat Bench :=
  if r.opc = 0x33 then b.graphWalk s r else b.run s r bytes

/-! ## One record on its gang -/

/-- A record run on a bench against the state: the bench and the state with table effects, or the status that stops it. -/
def State.runRecord (s : State) (p : Nat) (pins : List (Nat × Nat)) (tag : Option Nat) (b : Bench) (r : Rec) (bytes : List Byte) :
    Except Nat TableRun :=
  match r.table with
  | none => match b.runAll s r bytes with
    | .error c => .error c
    | .ok x => .ok { bench := x, pages := [], wait := false, after := s }
  | some h => match s.pinnedTable p h pins with
    | none => .error Code.tableInvalid
    | some (t, v) => if r.opc = 0x30 then s.bagRecord p b r h t v else s.updateRecord p tag b r h t v

/-- Does a record run passes of the array, so that its first one loads the free registers (05 R165, R166; 06 R188)? -/
def Rec.array (r : Rec) : Bool := r.matrix || r.opc == 3 || r.opc == 0x32 || r.opc == 0x33

/-- Does a record run on the vector unit or the selection network, so that it leaves its values in the vector registers
(04_tile R113; 06 R188)? -/
def Rec.vector (r : Rec) : Bool :=
  r.opc == 3 || (decide (0x10 ≤ r.opc) && decide (r.opc ≤ 0x23)) || r.opc == 0x2B || r.opc == 0x2C || r.opc == 0x30 || r.opc == 0x31

/-- The stalled load of the first pass on tiles whose free registers are not trusted (05 R165, R166). -/
def State.loadTiles (s : State) (r : Rec) (tiles : List Nat) : State :=
  if r.array then
    tiles.foldl (fun (a : State) t => if (a.tile t).untrusted then
      (a.modTile t (fun v => { v with untrusted := false })).tileCount t TileCtr.stalledLoadCnt 1 else a) s
  else s

/-- A tile of gang-relative index j with what a bench leaves in it; the vector registers hold values named by a draw
(04_tile R98, R113, R130; 05 R158; log 40). -/
def Tile.after (v : Tile) (r : Rec) (b : Bench) (j : Nat) : Tile :=
  let x := b.arrays.getD j (v.act, v.nxt)
  { v.quiet with scratch := b.scratch, acc := b.accs.getD j [], act := x.1, nxt := x.2, vregs := if r.vector then some b.draw else v.vregs }

/-- What a bench leaves in the tiles of its gang: memories, registers, counters; conversions, reserved codes and filter evictions on the
gang's first tile (04_tile R130, R135; 05 R170, R179; log 13). -/
def State.applyTiles (s : State) (r : Rec) (tiles : List Nat) (b : Bench) : State :=
  let u := tiles.zipIdx.foldl (fun (a : State) e =>
    ((a.modTile e.1 (fun v => v.after r b e.2)).tileCount e.1 TileCtr.gatedCycleCnt (b.gated.getD e.2 0)).tileCount e.1 TileCtr.drainCyc
      (b.drained.getD e.2 0)) s
  let h := tiles.headD 0
  (({ u with fresh := u.fresh + 2 ^ 64 }.convEvents h b.convSat b.convNan).tileCount h TileCtr.rsvCodeCnt b.rsv).tileCount h
    TileCtr.visitEvictCnt b.evict

/-- What a bench leaves: device bytes, ages, the gang's tiles (04_tile R130; 08 R250). -/
def State.applyBench (s : State) (p : Nat) (r : Rec) (tiles : List Nat) (b : Bench) (pages : List Nat) : State :=
  (b.puts.foldl (fun (a : State) e => a.devPut e.1 e.2)
    (s.readPages p ((b.reads.flatMap (fun e => pagesOf e.1 e.2) ++ pages).dedup))).applyTiles r tiles b

/-- Entry size of a MERGE record's inputs, 0 where it is not known (07 R223, R235). -/
def entrySize (b : Bench) (s : State) (r : Rec) : Nat :=
  if r.opc = 0x23 then (((b.mergeKind s r).bind entryBytes).getD 0) else 8

/-- Glazes active in this turn in partition p: those of placed sessions (06 R194; 13 R452). -/
def State.activeGlazes (s : State) (p : Nat) : List Nat :=
  ((s.sessions.filter (fun e => e.2.part == p && e.2.placed ≠ 0 && e.2.glaze ≠ 0)).map (fun e => e.2.glaze)).dedup

/-- The bench of record i on the tiles of its gang (log 13). -/
def State.benchOn (s : State) (p i : Nat) (tiles : List Nat) (scratch : Mem) (accs : List Mem) : Bench :=
  { part := p, binds := none, gang := tiles.length, idx := i, scratch := scratch
    accs := (List.range tiles.length).map (fun j => accs.getD j [])
    arrays := tiles.map (fun t => ((s.tile t).act, (s.tile t).nxt)), stalled := tiles.map (fun t => (s.tile t).untrusted)
    glazes := (s.part p).glazes, active := s.activeGlazes p, draw := s.fresh }

/-! ## What is told of a record while it runs (04_tile R129, R133, R135; 06 R182, R191; log 37) -/

/-- The counter of a kind of cycles. -/
def cycleCtr : CycleKind → Nat
  | .bankConflict => TileCtr.bankConflictCnt
  | .dmaStall => TileCtr.dmaStallCyc
  | .arrayHold => TileCtr.arrayHoldCyc
  | .drain => TileCtr.drainCyc
  | .gated => TileCtr.gatedCycleCnt

/-- May a record on these tiles read a word: one of its own tiles, or of a frame? -/
def Region.near (tiles : List Nat) : Region → Bool
  | .tileWord t _ => tiles.contains t
  | .frame _ _ _ => true
  | .hubSram _ => false

/-- Words that a record's reads correct, or find broken, and cycles that its tiles count (04_tile R102, R133, R135; 05 R162 to R164,
R179; 21_reliability R632 to R634). -/
def State.told (s : State) (tiles : List Nat) (o : Issue) : State :=
  let a := (o.corrected.filter (Region.near tiles)).foldl State.corrected s
  let b := (o.broken.filter (Region.near tiles)).foldl State.brokenFrame a
  o.cycles.foldl (fun (c : State) e => if tiles.contains e.1 then c.tileCount e.1 (cycleCtr e.2.1) e.2.2 else c) b

/-- The time counter of a cause of stalls (08_memory_tiers R271). -/
def stallNs : StallCause → Nat
  | .t2Media => Ctr.stallT2medNs
  | .parity => Ctr.stallParNs
  | .t2Latency => Ctr.stallT2latNs
  | .regulator => Ctr.stallRegNs
  | .t1Bank => Ctr.stallT1bankNs

/-- Held intervals of a step of partition p: their ns, and T1 bank pressure as events as well; the events of the other causes are
counted where the block meets them (08_memory_tiers R268, R271). -/
def State.heldFor (s : State) (p : Nat) (holds : List (StallCause × Nat)) : State :=
  holds.foldl (fun (a : State) e =>
    (if e.1 = .t1Bank then a.count p Ctr.stallT1bankEvt 1 else a).count p (stallNs e.1) e.2) s

/-- The tile that drops a packet of a record of partition p: one that is assigned to another partition (04_tile R129). -/
def State.dropAt (s : State) (p : Nat) (o : Issue) : Option Nat :=
  o.dropped.filter (fun t => match KMap.find s.tasks (s.tile t).task with | none => false | some k => k.part ≠ p)

/-- A packet of partition p dropped at tile t (04_tile R129; 23_management R683). -/
def State.dropPacket (s : State) (p t : Nat) : State := (s.tileCount t TileCtr.xpartDropCnt 1).logEv 1 3 p t 0 0

/-- Record i of image h measured (06 R182). -/
def State.measured (s : State) (p h i ns : Nat) : State :=
  if ns = 0 then s
  else s.modPart p (fun v => { v with images := KMap.mod v.images h (fun im => { im with passNs := KMap.put im.passNs i ns }) })

/-- What the issue of a record comes to. -/
inductive Ran where
  /-- over with a status that writes no results. -/
  | ended (status : Nat) (s : State)
  /-- an update waits for its rows or for an earlier one (10 R348, R356). -/
  | waits (s : State)
  /-- held for these pages in tier T2 (08 R268). -/
  | held (ks : List Nat) (s : State)
  /-- complete: what its bench saw, and the state. -/
  | done (b : Bench) (s : State)

/-- The work that a record belongs to: partition, image, pinned tables, command of a run, batch number (0 for none), pages that it reads
besides those of its operands. -/
structure Place where
  part : Nat
  image : Nat
  pins : List (Nat × Nat)
  tag : Option Nat
  batch : Nat
  pages : List Nat
  deriving DecidableEq, Repr

/-- Record i, whose checks gave `err`, run on its tiles (06 R187, R191, R203; 04_tile R123, R129; 08 R268). -/
def State.perform (s : State) (w : Place) (i : Nat) (tiles : List Nat) (b : Bench) (r : Rec) (bytes : List Byte) (err : Nat) (o : Issue) :
    Ran :=
  if err ≠ 0 then .ended err s
  else match s.dropAt w.part o with
    | some t => .ended Code.meshPartitionFault (s.dropPacket w.part t)
    | none =>
      if r.opc = 0x2C ∧ o.gang ≠ 0 then .ended o.gang s
      else match s.runRecord w.part w.pins w.tag b r bytes with
        | .error c => .ended c s
        | .ok y =>
          let need := (y.bench.reads.flatMap (fun e => pagesOf e.1 e.2) ++ y.bench.puts.flatMap (fun e => pagesOf e.1 e.2.length) ++
            (y.pages ++ w.pages)).dedup
          if y.wait then .waits s
          else match s.demand w.batch need with
            | some t => .held (s.inT2 need) (t.holdTiles tiles i w.image)
            | none => .done y.bench (((y.after.loadTiles r tiles).applyBench w.part r tiles y.bench (y.pages ++ w.pages)).measured
                w.part w.image i o.passNs)

/-- Do two ranges of the scratchpad meet? -/
def Range.meets (a b : Range) : Bool := a.len ≠ 0 && b.len ≠ 0 && overlaps a.start a.len b.start b.len

/-- Do the ranges of a running record q keep record r from starting (04_tile R104)? -/
def Rec.clashes (q r : Rec) : Bool :=
  q.wr0.meets r.rd0 || q.wr0.meets r.rd1 || q.wr0.meets r.wr0 || q.rd0.meets r.wr0 || q.rd1.meets r.wr0

/-! ## GRAPH_RUN (06_operations R201 to R206) -/

/-- Statuses of the partial kind: results are written and dependants run (06 R191; 10 R346, R361). -/
def partialStatus (c : Nat) : Bool :=
  [Code.indexOutOfRange, Code.reservedEncoding, Code.scaleInvalid, Code.kvBlockInvalid, Code.gradientNonfinite,
   Code.rowScaleInvalid].contains c

/-- Did a record fail, writing no results (06 R203)? -/
def failed (c : Nat) : Bool := c ≠ 0 && !partialStatus c

/-- Records that depend on a failed one, directly or through others (06 R203). -/
def Run.doomed (x : Run) (rs : List Rec) : List Nat :=
  (List.range rs.length).filter (fun i => (KMap.find x.status i).isNone &&
    (Rec.above rs i).any (fun d => failed (KMap.findD x.status d 0)))

/-- Is every record of a run complete or skipped? -/
def Run.over (x : Run) (n : Nat) : Bool := (List.range n).all (fun i => (KMap.find x.status i).isSome || x.skipped.contains i)

/-- Status and RESULT of a run (06 R203; 18_queues R585). -/
def Run.outcome (x : Run) : Nat × Nat :=
  match x.status.find? (fun e => failed e.2) with
  | some e => (e.2, e.1 + 2 ^ 16 * x.skipped.length)
  | none => match x.status.find? (fun e => e.2 ≠ 0) with
    | some e => (e.2, e.1 + 2 ^ 16 * x.skipped.length)
    | none => (0, 0xFFFF + 2 ^ 16 * x.skipped.length)

/-- May record i start as far as its predecessors go (06 R202)? -/
def Run.due (x : Run) (r : Rec) (i : Nat) : Bool :=
  (KMap.find x.status i).isNone && !x.skipped.contains i && r.preds.all (fun d => (KMap.find x.status d).isSome)

/-- A task for every record that may start, has none and needs a gang (16_scheduling R514). -/
def State.spawn (s : State) (n : Nat) : State :=
  match KMap.find s.runs n with
  | none => s
  | some x => match KMap.find (s.part x.part).images x.image with
    | none => s
    | some im => (List.range im.recs.length).foldl (fun (a : State) i =>
        let r := im.record i
        if x.due r i && r.opc ≠ 0 && decide (r.gang ≤ (a.part x.part).eff.tileLimit) && (a.taskOf (.record n i)).isNone then
          (a.addTask x.part (.record n i) r.gang).2 else a) s

/-- A run that is over: its completion, its pins released (06 R203, 10 R351). -/
def State.endRun (s : State) (n : Nat) (x : Run) : State :=
  let t := ({ s with runs := KMap.del s.runs n }).unpinTables x.part (2 * n)
  match t.cmd x.tag with
  | none => t
  | some e => t.done e x.outcome.1 x.outcome.2

/-- A record of a run complete with a status (06 R202, R203). -/
def State.finishRecord (s : State) (n i status : Nat) : State :=
  match KMap.find s.runs n with
  | none => s
  | some x => match KMap.find (s.part x.part).images x.image with
    | none => s
    | some im =>
      let y := { x with status := KMap.put x.status i status, held := KMap.del x.held i }
      let z := { y with skipped := y.doomed (im.recs.map recOf) }
      let t := { s with runs := KMap.put s.runs n z }
      if z.over im.recs.length then t.endRun n z else t.spawn n

/-- GRAPH_RUN (06 R202, R205, R206, R214; 05 R175, R178; 10 R350, R355). -/
def execGraphRun (r : Ref) (image : Nat) (binds : List Nat) (s : State) : Host.Outcome State Fault Refusal :=
  s.command r 0x12 (fun e => field e.area 0 2 == image && words 8 e.pb == binds) (fun s e =>
    match s.image? e.part image with
    | none => s.reject e Code.imageNotLoaded
    | some im =>
      let priv := s.privileged e.part e.queue
      match firstBad
        [(im.kind ≠ 4, Code.fieldInvalid), (im.needsPriv && !priv, Code.dataflowInvalid),
         (im.tablesNamed.any (fun h => (s.table? e.part h).isNone), Code.tableInvalid)] with
      | some c => s.reject e c
      | none =>
        let n := s.nextRun
        let pins := s.pinTables e.part (2 * n) im.tablesNamed
        let x : Run := { part := e.part, tag := e.tag, image := image, privileged := priv, binds := binds, pinned := pins.1 }
        ({ pins.2 with runs := KMap.put s.runs n x, nextRun := n + 1 }.keep e).spawn n)

/-! ## Compute faults (21_reliability R637 to R640) -/

/-- KIND of a compute fault in its log record (21 R652). -/
def faultKindNum : FaultKind → Nat
  | .residue => 2
  | .knownAnswer => 3
  | .parity => 4
  | .uncorrectable _ => 1

/-- A compute fault of a tile: quarantined, logged with its outcome and the sequences it affects, and counted (21 R638, R652, R653; 04
R133; 05 R166, R167). -/
def State.tileFault (s : State) (tile part outcome seq : Nat) (k : FaultKind) : State :=
  let addr := match k with | .uncorrectable a => a | _ => 0
  let t := ((s.quarantine [tile]).modTile tile (fun v => { v with untrusted := true })).logFault (faultKindNum k) 0xFF tile part
    outcome seq addr 0
  match k with
  | .residue => t.devCount Ctr.residueTrips 1
  | .knownAnswer => t.devCount Ctr.katFails 1
  | .parity => t
  | .uncorrectable _ => (t.devCount Ctr.memUe 1).tileCount tile TileCtr.eccUeCnt 1

/-- Does an anchor of the batch's layer lie in the lost word (21 R639)? -/
def anchorHit (im : Image) (layer : Nat) (k : FaultKind) : Bool :=
  match k with
  | .uncorrectable a => (im.recs.map recOf).any (fun r => r.layer == layer && r.opnds.any (fun o =>
      o.present && o.anchor && o.loc == 0 && decide (o.addr ≤ a) && decide (a < o.addr + o.size)))
  | _ => false

/-- Tile time of a running re-fire counted up to a time, in ns after the boundary (03 R96). -/
def State.refireTime (s : State) (v : Batch) (ns : Nat) : State :=
  if v.refire then
    s.count v.part Ctr.refireTileUs ((ns - v.usAt) * (match KMap.find s.tasks v.task with | none => 0 | some k => k.tiles.length) / 1000)
  else s

/-- A compute fault of a tile strikes the work that holds it: the record stops and waits for its re-execution; a third
detection in one step, or a lost anchor, carries a batch (21 R638 to R640). -/
def State.strike (s : State) (tile : Nat) (k : FaultKind) : State :=
  match KMap.find s.tasks (s.tile tile).task with
  | none => s.tileFault tile 0xFF 1 0 k
  | some g =>
    match g.work with
    | .stage _ => s.tileFault tile g.part 1 0 k
    | .record n i =>
      let t := s.tileFault tile g.part 1 0 k
      { t with runs := KMap.mod t.runs n (fun x => { x with
        faulted := some i, lost := match k with | .uncorrectable a => (x.lost ++ [a]).dedup | _ => x.lost }) }
    | .batch b => match KMap.find s.batches b with
      | none => s.tileFault tile g.part 1 0 k
      | some v =>
        let hit := match KMap.find (s.part v.part).images v.image with
          | none => false
          | some im => anchorHit im v.layer k
        let out := hit || decide (3 ≤ v.faults + 1)
        let t := s.tileFault tile g.part (if out then 2 else 1) v.members.length k
        let u := { t.refireTime v t.wheel.now with batches := KMap.put t.batches b { v with
          faulted := true, faults := v.faults + 1, anchorLost := v.anchorLost || hit
          carried := v.carried || out, faultCarry := v.faultCarry || out } }
        if decide (3 ≤ v.faults + 1) then u.logFault 9 0xFF tile v.part 2 v.members.length 0 0 else u

/-- KNOWN_ANSWER_TEST: a mismatch is a compute fault of the tile (21 R637, R638). -/
def execKnownAnswerTest (tile : Nat) (pass : Bool) (s : State) : Host.Outcome State Fault Refusal :=
  if pass || !s.healthy tile || s.tileGated tile || decide (1024 ≤ tile) then .next s else .next (s.strike tile .knownAnswer)

/-- A task's gang formed again: at its position with stand-ins, else at the first free position (21 R639). -/
def State.reform (s : State) (n : Nat) (k : Task) : Option (List Nat × State) :=
  let home := (s.part k.part).eff.homeDie
  let t := s.freeTiles n
  let size := t.runSize k.size
  match (match t.gangAt home size k.pos with
      | some l => some (k.pos, l)
      | none => t.firstFree home size) with
  | none => none
  | some (pos, l) =>
    let u := t.assign n { k with st := .scanning } pos l
    some (l, l.foldl (fun (a : State) i => a.modTile i (fun v => { v with untrusted := true, acc := [] })) u)

/-- The records that rebuild what a set of records reads of lost words: producers with their chains of ACCUMULATE
predecessors, and so on (21 R640). -/
def rebuildSet (rs : List Rec) (lost : List Nat) : Nat → List Nat → List Nat
  | 0, l => l
  | n + 1, l =>
    let chain := l.flatMap (fun i =>
      let r := rs.getD i (recOf [])
      if r.opc = 1 && bit (field r.params 1 1) 0 then r.preds.filter (fun d => (rs.getD d (recOf [])).opc == 1) else [])
    let reads := fun (a : Nat) => l.any (fun i =>
      let r := rs.getD i (recOf [])
      [r.rd0, r.rd1].any (fun g => decide (g.start ≤ a + 7) && decide (a < g.start + g.len)))
    let makers := (lost.filter reads).flatMap (fun a => (List.range rs.length).filter (fun i =>
      let w := (rs.getD i (recOf [])).wr0
      decide (w.start ≤ a + 7) && decide (a < w.start + w.len)))
    rebuildSet rs lost n (l ++ chain ++ makers).dedup

/-- The bench of record i of a run. -/
def State.runBench (s : State) (x : Run) (i : Nat) (tiles : List Nat) : Bench :=
  { s.benchOn x.part i tiles x.scratch x.acc with binds := some x.binds }

/-- A run with what a bench leaves in the memories of its gang; accumulator memories beyond the gang's size stay (log 13). -/
def Run.after (x : Run) (b : Bench) : Run := { x with scratch := b.scratch, acc := b.accs ++ x.acc.drop b.accs.length }

/-- A record of a run run again for the scratchpad and accumulator outputs alone (21 R640). -/
def State.rebuild (s : State) (x : Run) (j : Nat) (tiles : List Nat) (r : Rec) (bytes : List Byte) : State × Run :=
  match (s.runBench x j tiles).runAll s r bytes with
  | .error _ => (s, x)
  | .ok b => ((((s.readPages x.part (b.reads.flatMap (fun e => pagesOf e.1 e.2)).dedup).loadTiles r tiles).applyTiles r tiles b), x.after b)

/-- RE_EXECUTION of a run's record: a new gang; the ranges lost are rebuilt in container order, scratchpad and accumulator
outputs only; the record then issues again (21 R640; 05 R166). -/
def State.reexecRun (s : State) (n : Nat) (x : Run) (i : Nat) : State :=
  match s.taskOf (.record n i), KMap.find (s.part x.part).images x.image with
  | some (tn, k), some im =>
    if k.tiles.isEmpty || !(k.st == .placed) then s
    else match s.reform tn k with
      | none => s
      | some (tiles, t) =>
        let rs := im.recs.map recOf
        let first := (rebuildSet rs x.lost (rs.length + 1) [i]).filter (fun j => j ≠ i && (KMap.find x.status j).isSome)
        let y := (sortBy (fun (a b : Nat) => decide (a < b)) first).foldl (fun (a : State × Run) j =>
          a.1.rebuild a.2 j tiles (rs.getD j (recOf [])) (im.recs.getD j [])) (t, { x with acc := [] })
        { y.1 with runs := KMap.put y.1.runs n { y.2 with faulted := none, lost := [] } }.devCount Ctr.reexecRun (first.length + 1)
  | _, _ => s

/-- LRS of the layer a batch stands at; the end of the compute window for a layer that firmware has set none for (03 R83; DESIGN CHOICE,
log 39). -/
def State.lrs (s : State) (v : Batch) : Nat := KMap.findD v.lrs v.layer (s.wheel.len - s.wheel.window)

/-- RE_EXECUTION of a batch's layer: not after the layer's LRS; a new gang, the scratchpad moved, accumulators cleared, the
layer from its first record (21 R639, 03 R92). -/
def State.reexecBatch (s : State) (b : Nat) (v : Batch) (startNs : Nat) : State :=
  let carry := fun (a : State) => { a with batches := KMap.put a.batches b { v with carried := true, faultCarry := true } }
  if !v.faulted || v.carried then s
  else if s.lrs v < startNs then carry s
  else match KMap.find s.tasks v.task, KMap.find (s.part v.part).images v.image with
    | some k, some im =>
      if k.tiles.isEmpty then s
      else match s.reform v.task k with
        | none => s
        | some (l, t) =>
          let old := s.tile (k.tiles.headD 0)
          let u := l.foldl (fun (a : State) i => a.modTile i (fun w => { w with scratch := old.scratch, acc := [] })) t
          let mine := (List.range im.recs.length).filter (fun i => (im.record i).layer == v.layer)
          { u with batches := KMap.put u.batches b { v with
              faulted := false, closed := false, mon := List.replicate 4 (0, 0, 0, 0), usAt := startNs
              held := v.held.filter (fun i => !mine.contains i), failed := v.failed.filter (fun e => !mine.contains e.1)
              skipped := v.skipped.filter (fun i => !mine.contains i), recDone := v.recDone.filter (fun i => !mine.contains i) } }.devCount Ctr.reexecRun 1
    | _, _ => s

/-- RE_EXECUTION (21 R639, R640). -/
def execReExecution (o : Owner) (startNs : Nat) (s : State) : Host.Outcome State Fault Refusal :=
  if s.moduleLost then .next s
  else match o with
  | .run n => match KMap.find s.runs n with
    | none => .next s
    | some x => match x.faulted with
      | none => .next s
      | some i => .next (s.reexecRun n x i)
  | .batch b => match KMap.find s.batches b with
    | none => .next s
    | some v => .next (s.reexecBatch b v startNs)

/-- Record i of run n held for pages in tier T2: one event of T2 latency per hold (08_memory_tiers R268, R270, R271). -/
def State.holdRecord (s : State) (n i p : Nat) (ks : List Nat) : State :=
  let first := match KMap.find s.runs n with | none => false | some x => (KMap.find x.held i).isNone
  let t := { s with runs := KMap.mod s.runs n (fun x => { x with held := KMap.put x.held i ks }) }
  if first then t.count p Ctr.stallT2latEvt 1 else t

/-! ## Issue (06_operations R187, R202; 03 R75, R76, R79; 08 R264 to R268) -/

/-- May a record of a run issue: its predecessors complete, no held record of the run in its way (06 R202; 04_tile R104)? -/
def Run.mayIssue (x : Run) (im : Image) (i : Nat) : Bool :=
  !x.stopped && decide (i < im.recs.length) && x.due (im.record i) i && x.faulted.isNone &&
    !x.held.any (fun e => e.1 ≠ i && (im.record e.1).clashes (im.record i))

/-- RECORD_ISSUE of a run's record (06 R202, R203; 16_scheduling R514). -/
def State.issueRun (s : State) (n : Nat) (x : Run) (i : Nat) (o : Issue) : State :=
  match KMap.find (s.part x.part).images x.image with
  | none => s
  | some im =>
    let r := im.record i
    let err := fun (a : State) (tiles : List Nat) =>
      r.err x.privileged false (some x.binds) (entrySize (a.runBench x i tiles) a r)
    if !x.mayIssue im i then s
    else if r.opc = 0 then s.finishRecord n i (err s [])
    else if (s.part x.part).eff.tileLimit < r.gang then s.finishRecord n i Code.gangSizeInvalid
    else match s.taskOf (.record n i) with
      | none => s
      | some (_, k) =>
        if !s.taskReady k then s
        else match o.strike with
          | some (tile, kind) => if k.tiles.contains tile then (s.quietTiles k.tiles).strike tile kind else s
          | none =>
            let a := (s.quietTiles k.tiles).told k.tiles o
            let w : Place := { part := x.part, image := x.image, pins := x.pinned, tag := some x.tag, batch := 0, pages := [] }
            match a.perform w i k.tiles (a.runBench x i k.tiles) r (im.recs.getD i []) (err a k.tiles) o with
            | .ended c t => t.finishRecord n i c
            | .waits t => t
            | .held ks t => t.holdRecord n i x.part ks
            | .done b t => { t with runs := KMap.mod t.runs n (fun z => z.after b) }.finishRecord n i b.status

/-- The shadow group of layer l: as its SCHED entry names it, else as the SHADOW section does; none where neither does
(03 R86, R94; 06 R208, R210). -/
def Image.shadowGroup (im : Image) (l : Nat) : Option Nat :=
  match im.sched[l]? with
  | some e => if e.2.2.2 ≠ 0xFFFF then some e.2.2.2 else KMap.find im.shadowMap l
  | none => KMap.find im.shadowMap l

/-- Has layer l a wide shadow, by its threshold entry (03 R80)? -/
def Image.shadowed (im : Image) (l : Nat) : Bool :=
  match KMap.find im.cal l with
  | none => false
  | some e => bit (field e 2 1) 3

/-- The shadow pages of layer l (03 R86). -/
def Image.shadowPages (im : Image) (l : Nat) : List Nat :=
  if im.shadowed l then (match im.shadowGroup l with | none => [] | some g => im.groupPages [g]) else []

/-- The pages of a glaze that the MATMUL_GLAZE records of layer l adapt (06 R192; 13_serving R449, R452). -/
def Glaze.layerPages (z : Glaze) (im : Image) (l : Nat) : List Nat :=
  let eb := if z.gfmt = 1 then 2 else 1
  let used := fun (x : Nat) => (im.recs.map recOf).any (fun r => r.opc == 2 && r.layer == l && field r.params 0 2 == x)
  ((z.proj.filter (fun x => used x.1)).flatMap (fun x =>
    pagesOf x.2.2.2.1 (z.rank * x.2.1 * eb) ++ pagesOf x.2.2.2.2 (x.2.2.1 * z.rank * eb))).dedup

/-- What batch b's glazes adapt in layer l of an image (13_serving R452). -/
def State.glazePages (s : State) (b : Nat) (im : Image) (l : Nat) : List Nat :=
  match KMap.find s.batches b with
  | none => []
  | some v => v.glazes.flatMap (fun e => if e.2.modelId = im.modelId then e.2.layerPages im l else [])

/-- The groups of layer l requested with a deadline, the pages of the glazes that adapt it and a sticky layer's shadow pages with them;
the policy of this model asks for no others (08 R264, R265; 13_serving R452; 03 R86, R94; DESIGN CHOICE, log 39). -/
def State.requestLayer (s : State) (p b : Nat) (im : Image) (l : Nat) (dl : Nat × Nat) : State :=
  match im.sched[l]? with
  | none => s
  | some e => s.prefetch p b (im.groupPages e.2.2.1 ++ s.glazePages b im l ++
      (if im.sticky.contains l then im.shadowPages l else [])) dl

/-- Pass time of record i in ns: the time measured, else COST at the nominal clock (06 R182; log 17). -/
def Image.passTime (im : Image) (i : Nat) : Nat := KMap.findD im.passNs i (field (im.recs.getD i []) 8 4 * 1000 / 1050)

/-- The start of layer l's first pass, predicted from the pass times of the layers before it, in ns after the boundary (06 R182,
08 R265; log 17). -/
def Image.predict (im : Image) (from' l : Nat) (now : Nat) : Nat :=
  now + (((List.range im.recs.length).filter (fun i => decide (from' ≤ (im.record i).layer) && decide ((im.record i).layer < l))).map
    im.passTime).sum

/-- At the first record of layer l: the groups of layer l + W, or of the next step's first layers (08 R264). -/
def State.prefetchAt (s : State) (p b : Nat) (im : Image) (l : Nat) : State :=
  let w := l + im.pfWindow
  if im.layerCnt = 0 then s
  else if w < im.layerCnt then s.requestLayer p b im w (s.turn, im.predict l w s.wheel.now)
  else s.requestLayer p b im (w - im.layerCnt) (s.turn + 1, im.predict 0 (w - im.layerCnt) 0)

/-- The monitors of a slot with a record's observations taken in (03 R76, R77). -/
def addMon (m : Nat × Nat × Nat × BitVec 32) (b : Bench) : Nat × Nat × Nat × BitVec 32 :=
  let sat := fun a n => min (a + n) (2 ^ 32 - 1)
  (sat m.1 b.sat, sat m.2.1 b.nan, sat m.2.2.1 b.elem,
    BitVec.ofNat 32 (f32Code ((fp32.decode m.2.2.2.toNat).max (f32 b.amaxObs))))

/-- Are all records of the layer the batch stands at complete, and of the whole step (03 R78, 15_wheel R495)? -/
def Batch.layerOver (v : Batch) (im : Image) : Bool :=
  (List.range im.recs.length).all (fun i => (im.record i).layer ≠ v.layer || v.recDone.contains i)

/-- Is the step complete: every layer closed and every record done? -/
def Batch.stepOver (v : Batch) (im : Image) : Bool :=
  decide (im.layerCnt ≤ v.layer) && (List.range im.recs.length).all v.recDone.contains

/-- Does the batch run its layer in the wide form (03 R84, R90, R94)? -/
def Batch.wide (v : Batch) : Bool := v.wideNow || v.refire

/-- Where a record writes: space, first byte, bytes; the sums of a matrix record with its output (04_tile R111; 06 R184). -/
def Rec.writes (r : Rec) : List (Nat × Nat × Nat) :=
  let o := r.op 3
  [(0, r.wr0.start, r.wr0.len), ((o.place none).1, (o.place none).2, r.opSize 3),
   (if r.matrix then (1, if o.loc = 1 then o.addr else 0, min (2 ^ 19) (4 * (r.op 0).dim1 * (r.op 1).dim1)) else (1, 0, 0))]

/-- Does a record write what an anchor of the batch's layer holds, whose reader has started, before the layer's decision
(03 R74; 06 R186)? -/
def Batch.anchored (v : Batch) (im : Image) (r : Rec) : Bool :=
  !v.wide && (KMap.find im.cal v.layer).isSome && (v.recDone ++ v.held).any (fun j =>
    let q := im.record j
    q.layer == v.layer && q.opnds.zipIdx.any (fun e => e.1.present && e.1.anchor && r.writes.any (fun w =>
      w.2.2 ≠ 0 && w.1 == (e.1.place none).1 && overlaps (e.1.place none).2 (q.opSize e.2) w.2.1 w.2.2)))

/-- Is layer l wide from its start: sticky, or marked for a sequence of the batch (03 R90, R94)? -/
def State.layerWide (s : State) (v : Batch) (im : Image) (l : Nat) : Bool :=
  im.sticky.contains l || v.members.any (fun m => match KMap.find s.sessions m with | none => false | some x => x.wide.contains l)

/-- May record i of a batch issue: its predecessors are complete, its layer is the batch's or the layers that it depends on are all
decided, no held record and no anchor in its way (03 R79, R88; 04_tile R104; 06 R186, R202)? -/
def Batch.mayIssue (v : Batch) (im : Image) (i : Nat) (commit : Bool) : Bool :=
  let r := im.record i
  !(commit || v.carried || v.done || v.faulted || v.closed) && decide (i < im.recs.length) && !v.recDone.contains i &&
    r.preds.all v.recDone.contains &&
    (if r.layer = 0xFFFF then (Rec.above (im.recs.map recOf) i).all (fun j =>
        (im.record j).layer == 0xFFFF || decide ((im.record j).layer < v.layer))
      else r.layer == v.layer) &&
    !v.anchored im r && !v.held.any (fun j => j ≠ i && (im.record j).clashes r)

/-- Are the shadow pages of a layer resident in T0 or T1 (03 R86)? -/
def State.shadowResident (s : State) (im : Image) (l : Nat) : Bool :=
  !(im.shadowPages l).isEmpty && (im.shadowPages l).all (fun k => match KMap.find s.pages k with
    | none => false
    | some g => decide (g.tier < 2) && !g.flag 7 && !g.rebuild)

/-- At the first record of a layer: the prefetches due, the layer's form, and in the wide form whether its shadow weights are used, which
the spec says of a re-fire alone (08 R264; 03 R86, R90, R94; DESIGN CHOICE, log 39). -/
def State.startLayer (s : State) (bn : Nat) (v : Batch) (im : Image) (r : Rec) : State × Batch :=
  if r.layer = 0xFFFF || v.refire || v.faults ≠ 0 || (v.recDone ++ v.held).any (fun j => (im.record j).layer == r.layer) then (s, v)
  else
    let wide := s.layerWide v im r.layer
    (s.prefetchAt v.part bn im r.layer, { v with wideNow := wide, shadow := wide && s.shadowResident im r.layer })

/-- The bench of record i of a batch: its layer's form, the shadow weights where they are used, the glazes of its formation
(03 R84, R86; 06 R196; log 13). -/
def State.batchBench (s : State) (v : Batch) (im : Image) (i : Nat) (tiles : List Nat) : Bench :=
  let r := im.record i
  let own := r.layer ≠ 0xFFFF
  let t := s.tile (tiles.headD 0)
  { s.benchOn v.part i tiles t.scratch (tiles.map (fun j => (s.tile j).acc)) with
    wide := own && v.wide, glazes := v.glazes
    shadow := if own && v.wide && v.shadow && r.matrix then
      some ((im.shadowPages r.layer).flatMap (fun k => s.dev.readN (65536 * k) 65536)) else none }

/-- A batch after record i has ended with a status: a failed one takes the records that depend on it with it (06 R203). -/
def Batch.took (v : Batch) (im : Image) (i status : Nat) : Batch :=
  let held := v.held.filter (fun j => j ≠ i)
  let bad := Sys2Proof.Machine.failed status
  let out := if bad then (List.range im.recs.length).filter (fun j => j ≠ i && !v.recDone.contains j &&
    (Rec.above (im.recs.map recOf) j).contains i) else []
  let w := { v with recDone := v.recDone ++ i :: out, skipped := v.skipped ++ out, held := held, stalled := !held.isEmpty
                    failed := if bad then KMap.put v.failed i status else v.failed }
  { w with done := w.stepOver im }

/-- Pages that a batch's record reads besides those of its operands: the KV blocks of its layer, the shadow weights in use
(08 R250; 03 R86). -/
def State.batchPages (s : State) (v : Batch) (im : Image) (b : Bench) (r : Rec) : List Nat :=
  (if r.opc = 3 then s.kvRead v.members r.layer else []) ++ (if b.shadow.isSome then im.shadowPages r.layer else [])

/-- The batch with the observations of a monitored record taken in (03 R75 to R77). -/
def Batch.observed (v : Batch) (im : Image) (r : Rec) (b : Bench) : Batch :=
  if 1 ≤ r.mon && r.mon ≤ 4 && (KMap.find im.cal r.layer).isSome then { v with mon := v.mon.modify (r.mon - 1) (fun m => addMon m b) } else v

/-- RECORD_ISSUE of a batch's record (03 R73 to R79; 06 R186, R202, R203; 08 R264, R268). -/
def State.issueBatch (s : State) (bn : Nat) (v : Batch) (i : Nat) (o : Issue) : State :=
  match KMap.find (s.part v.part).images v.image, KMap.find s.tasks v.task with
  | some im, some k =>
    let r := im.record i
    if !v.mayIssue im i s.wheel.commit || !s.taskReady k then s
    else match o.strike with
      | some (t, kind) => if k.tiles.contains t then (s.quietTiles k.tiles).strike t kind else s
      | none =>
        let x := (((s.quietTiles k.tiles).told k.tiles o).heldFor v.part o.holds).startLayer bn v im r
        let b := x.1.batchBench x.2 im i k.tiles
        let w : Place := { part := v.part, image := v.image, pins := v.pinned, tag := none, batch := bn
                           pages := x.1.batchPages x.2 im b r }
        let put := fun (a : State) (y : Batch) => { a with batches := KMap.put a.batches bn y }
        match x.1.perform w i k.tiles b r (im.recs.getD i []) (r.err v.privileged b.wide none (entrySize b x.1 r)) o with
        | .ended c t => put t (x.2.took im i c)
        | .waits t => put t x.2
        | .held _ t => put (if x.2.held.contains i then t else t.count v.part Ctr.stallT2latEvt 1) { x.2 with
            stalled := true, held := (x.2.held ++ [i]).dedup }
        | .done c t => put t ((x.2.observed im r c).took im i c.status)
  | _, _ => s

/-- RECORD_ISSUE. -/
def execRecordIssue (o : Owner) (index : Nat) (told : Issue) (s : State) : Host.Outcome State Fault Refusal :=
  if s.moduleLost then .next s
  else match o with
  | .run n => match KMap.find s.runs n with
    | none => .next s
    | some x => .next (s.issueRun n x index told)
  | .batch b => match KMap.find s.batches b with
    | none => .next s
    | some v => .next (s.issueBatch b v index told)

/-! ## Layer close and the re-fire decision (03_narrow_arithmetic R77 to R95, R727) -/

/-- The batch at its next layer (03 R79). -/
def Batch.advance (v : Batch) (im : Image) : Batch :=
  let w := { v with layer := v.layer + 1, closed := false, refire := false, shadow := false, wideNow := false, faults := 0, usAt := 0
                    mon := List.replicate 4 (0, 0, 0, 0) }
  { w with done := w.stepOver im }

/-- LAYER_CLOSE: the last pass of the layer's last record has drained; a layer without a threshold entry needs no decision
(03 R78, R79). -/
def execLayerClose (batch closeNs : Nat) (s : State) : Host.Outcome State Fault Refusal :=
  match KMap.find s.batches batch with
  | none => .next s
  | some v => match KMap.find (s.part v.part).images v.image with
    | none => .next s
    | some im =>
      if v.closed || v.carried || v.faulted || s.wheel.commit || s.moduleLost || decide (im.layerCnt ≤ v.layer) || !v.layerOver im then .next s
      else
        let u := { s with wheel := { s.wheel with now := max s.wheel.now closeNs } }.refireTime v closeNs
        let w := { v with closed := true, closeAt := closeNs }
        .next { u with batches := KMap.put u.batches batch (if (KMap.find im.cal v.layer).isSome then w else w.advance im) }

/-- Which causes trip: bit 0 SAT, bit 1 AMAX, bit 2 NAN (03 R82, 23_management R683). -/
def tripBits (e : List Byte) (mon : List (Nat × Nat × Nat × BitVec 32)) : Nat :=
  let f := field e 2 1
  let slots := (List.range (field e 3 1)).map (fun i => (i, mon.getD i (0, 0, 0, 0)))
  flag (bit f 0 && slots.any (fun x => decide (field e 4 2 * x.2.2.2.1 < x.2.1 * 65536))) 0 +
    flag (bit f 1 && slots.any (fun x =>
      (mul32 (f32 (.fin false (field e 6 2) (-12))) (fp32.decode (field e (12 + 4 * x.1) 4))).lt (fp32.decode x.2.2.2.2.toNat))) 1 +
    flag (bit f 2 && slots.any (fun x => decide (field e 8 2 < x.2.2.1))) 2

/-- Has a layer a narrow activation with a wider step (03 R82, R84)? -/
def Image.canWiden (im : Image) (l : Nat) : Bool := (im.recs.map recOf).any (fun r => r.layer == l && decide (r.widen ≠ r))

/-- The record of class NARROW of one trip (03 R727, 23_management R683). -/
def narrowPayload (image layer cause nmon : Nat) (mon : List (Nat × Nat × Nat × BitVec 32)) : List Byte :=
  leBytes 2 image ++ leBytes 2 layer ++ leBytes 1 cause ++ leBytes 1 nmon ++ zeros 2 ++
    (mon.take nmon).flatMap (fun m => leBytes 4 m.1 ++ leBytes 4 m.2.1 ++ leBytes 4 m.2.2.1 ++ leBytes 4 m.2.2.2.toNat)

/-- A trip recorded: counters, the sticky window, the log record (03 R82, R93, R95, R96, R727). -/
def State.trip (s : State) (v : Batch) (im : Image) (e : List Byte) (cause : Nat) : State :=
  let l := v.layer
  let win := ((KMap.findD im.trips l []).filter (fun t => decide (s.turn < t + 1000))) ++ [s.turn]
  let n := if field e 10 2 = 0 then (s.part v.part).stickyN else field e 10 2
  let sticky := n ≠ 0xFFFF && decide (n ≤ win.length)
  let t := s.count v.part Ctr.refireTrip 1
  let t := if bit cause 0 then t.count v.part Ctr.refireTripSat 1 else t
  let t := if bit cause 1 then t.count v.part Ctr.refireTripAmax 1 else t
  let t := if bit cause 2 then t.count v.part Ctr.refireTripNan 1 else t
  let t := if sticky then t.count v.part Ctr.stickySet 1 else t
  (t.modPart v.part (fun p => { p with images := KMap.mod p.images v.image (fun i => { i with
    trips := KMap.put i.trips l win, sticky := if sticky then (i.sticky ++ [l]).dedup else i.sticky }) })).log 4 0 v.part 0xFFFF
      (narrowPayload v.image l (cause + flag sticky 3) (field e 3 1) v.mon)

/-- REFIRE_DECISION (03 R79, R82 to R89, R92 to R94). -/
def execRefireDecision (batch : Nat) (s : State) : Host.Outcome State Fault Refusal :=
  match KMap.find s.batches batch with
  | none => .next s
  | some v => match KMap.find (s.part v.part).images v.image with
    | none => .next s
    | some im => match KMap.find im.cal v.layer with
      | none => .next s
      | some e =>
        let cause := tripBits e v.mon
        let put := fun (a : State) (w : Batch) => { a with batches := KMap.put a.batches batch w }
        if !v.closed || v.carried || v.faulted || s.wheel.commit || s.moduleLost then .next s
        else if v.wide then
          .next (put (if cause = 0 then s else s.count v.part Ctr.refireWideTrip 1) (v.advance im))
        else if cause = 0 then .next (put s (v.advance im))
        else
          let t := s.trip v im e cause
          if bit (field e 2 1) 4 || !im.canWiden v.layer then .next (put (t.count v.part Ctr.refireNone 1) (v.advance im))
          else if s.lrs v < v.closeAt then
            .next { put t { v with carried := true, lrsCarry := true } with
              sessions := KMap.each t.sessions (fun i x => if v.members.contains i then { x with wide := (x.wide ++ [v.layer]).dedup } else x) }
          else
            let res := t.shadowResident im v.layer
            let u := (t.count v.part Ctr.refireRun 1)
            let w := if bit (field e 2 1) 3 && !res then u.count v.part Ctr.shadowMiss 1 else u
            let keep := fun (i : Nat) => (im.record i).layer ≠ v.layer
            .next (put w { v with
              refire := true, refired := some v.layer, shadow := res, closed := false, usAt := v.closeAt
              mon := List.replicate 4 (0, 0, 0, 0), recDone := v.recDone.filter keep, skipped := v.skipped.filter keep
              failed := v.failed.filter (fun x => keep x.1) })

end Sys2Proof.Machine
end

