-- ==== Sys2Proof/Machine/Grammar.lean ====
section
/-! DEFINITION. Constrained decoding: grammar containers, grammar states, steps and masks, sampling, and the grammar commands
(12_constrained_decoding R397 to R424). -/

namespace Sys2Proof.Machine

/-! ## Containers (12_constrained_decoding R397 to R404) -/

/-- Bytes of one mask (12 R403). -/
def maskBytes (tokenCnt : Nat) : Nat := ceilDiv tokenCnt 2048 * 256

/-- A transition: none where a reserved field, POP or PUSH_CNT is wrong (12 R402, R404). -/
def readTrans (b : List Byte) : Option Trans :=
  let n := field b 9 1
  if 1 < field b 8 1 ∨ 2 < n ∨ field b 14 2 ≠ 0 then none
  else some { cls := field b 0 2, top := field b 2 2, next := field b 4 4, pop := field b 8 1
              push := ([field b 10 2, field b 12 2] : List Nat).take n }

/-- A state with its transitions: none where a reserved field is wrong or its transitions run past the table
(12 R401, R404). -/
def readGState (all : List Trans) (b : List Byte) : Option GState :=
  let first := field b 0 4
  let n := field b 4 2
  if 4 ≤ field b 6 2 ∨ field b 12 4 ≠ 0 ∨ all.length < first + n then none
  else some { trans := (all.drop first).take n, accept := bit (field b 6 2) 0, cont := bit (field b 6 2) 1, base := field b 8 4 }

/-- The tokens of a class (12 R400). -/
def Grammar.members (g : Grammar) (c : Nat) : List Nat := positions (fun x => x == c) g.classMap

/-- The classes with a member in a mask (12 R404, R406). -/
def Grammar.classesIn (g : Grammar) (m : Nat) : List Nat :=
  ((g.classMap.zipIdx.filter (fun e => bit m e.2)).map (fun e => e.1)).dedup

/-- The base mask of a state as a bitmap, 0 where it is empty (12 R407). -/
def Grammar.baseMask (g : Grammar) (t : GState) : Nat := if t.base = 0xFFFFFFFF then 0 else g.masks.getD t.base 0

/-- Do (CLASS, TOP) of a state's transitions rise strictly (12 R402, R404)? -/
def transSorted : List Trans → Bool
  | a :: b :: t => (decide (a.cls < b.cls) || (a.cls == b.cls && decide (a.top < b.top))) && transSorted (b :: t)
  | _ => true

/-- The rules of R404 on one transition. -/
def Grammar.transOk (g : Grammar) (classes syms : Nat) (x : Trans) : Bool :=
  (decide (x.cls < classes) || x.cls == 0xFFFF) && decide (x.next < g.states.length) &&
    (decide (x.top < syms) || x.top == 0xFFFE || x.top == 0xFFFF) && x.push.all (fun y => decide (y < syms)) &&
    (if g.pushdown then x.pop == 0 || decide (x.top < 0xFFFE) else x.top == 0xFFFF && x.pop == 0 && x.push.isEmpty)

/-- The rules of R404 on one state. -/
def Grammar.stateOk (g : Grammar) (t : GState) : Bool :=
  let m := g.baseMask t
  let inM := g.classesIn m
  transSorted t.trans &&
    (if t.cont then t.trans.all (fun x => x.cls == 0xFFFF) && !t.accept && t.base == 0xFFFFFFFF
     else t.trans.all (fun x => x.cls ≠ 0xFFFF)) &&
    (decide (t.base < g.masks.length) || t.base == 0xFFFFFFFF) &&
    inM.all (fun c => c ≠ 0xFFFF && (g.members c).all (fun x => bit m x)) &&
    (if g.pushdown then
      inM.all (fun c => (t.trans.filter (fun x => x.cls == c && x.top == 0xFFFF && x.pop == 0 && x.push.isEmpty &&
        !(g.states.getD x.next {}).cont)).length == 1)
     else
      t.trans.all (fun x => x.cls == 0xFFFF || inM.contains x.cls) && inM.all (fun c => t.trans.any (fun x => x.cls == c)))

/-- The part of a container at an offset, inside it and on a multiple of 256 B (12 R399, R404). -/
def gPart (bs : List Byte) (off n : Nat) : Option (List Byte) :=
  if off % 256 = 0 ∧ off + n ≤ bs.length then some ((bs.drop off).take n) else none

/-- A container read and checked against its vocabulary (12 R399 to R404). -/
def readGrammar (owner h : Nat) (shared : Bool) (v : Vocab) (bs : List Byte) : Option Grammar :=
  let n := field bs 8 4
  let tr := field bs 12 4
  let cl := field bs 16 4
  let mk := field bs 20 4
  let sy := field bs 24 2
  let tc := field bs 48 4
  let kind := field bs 6 1
  if bs.length < 64 || field bs 0 4 ≠ 0x4D475856 || field bs 4 2 ≠ 1 || 1 < kind || !zeroAt bs 7 1 || !zeroAt bs 26 2 ||
      n = 0 || 1048576 < n || 4194304 < tr || cl = 0 || 65535 < cl || 65536 < mk ||
      (if kind = 0 then sy ≠ 0 else sy == 0 || decide (4096 < sy)) || n ≤ field bs 28 4 || bs.length < 64 + 2 * tc then none
  else (gPart bs (field bs 52 4) (16 * n)).bind (fun st => (gPart bs (field bs 56 4) (16 * tr)).bind (fun tt =>
    (gPart bs (field bs 60 4) (maskBytes tc * mk)).bind (fun mp =>
    ((pieces 16 tr tt).mapM readTrans).bind (fun ts => ((pieces 16 n st).mapM (readGState ts)).bind (fun ss =>
      let g : Grammar := {
        owner := owner, shared := shared, hdr := bs.take 64, footprint := roundUp (bs.length + 4 * tc) (2 ^ 20), vocab := h
        pushdown := kind == 1, start := field bs 28 4, tokenCnt := tc, classMap := words 2 ((bs.drop 64).take (2 * tc))
        states := ss, masks := (pieces (maskBytes tc) mk mp).map leNat }
      if g.classMap.all (fun c => decide (c < cl) || c == 0xFFFF) &&
          g.classMap.zipIdx.all (fun e => e.1 == 0xFFFF || !(v.toks.getD e.2 {}).eos) &&
          ts.all (g.transOk cl sy) && ss.all g.stateOk && !(ss.getD g.start {}).cont && g.masks.all (fun m => decide (m < 2 ^ tc))
      then some g else none)))))

/-- Grammar h, where partition p may use it (12 R398, R404). -/
def State.grammar? (s : State) (p h : Nat) : Option Grammar :=
  match KMap.find s.grammars h with
  | none => none
  | some g => if g.owner = p ∨ g.shared then some g else none

/-- How many open sessions name grammar h (12 R404, R422). -/
def State.grammarUsers (s : State) (h : Nat) : Nat := (s.sessions.filter (fun e => e.2.grammar = h)).length

/-! ## Steps and masks (12_constrained_decoding R405 to R408) -/

/-- A grammar state: state number, and stack with its top first (12 R405). -/
structure GPos where
  st : Nat
  stack : List Nat
  deriving DecidableEq, Repr

/-- Where a session opens (12 R405). -/
def Grammar.open (g : Grammar) : GPos := { st := g.start, stack := [] }

/-- find(t, c, K) (12 R406). -/
def Grammar.find (g : Grammar) (t : GState) (c : Nat) (k : List Nat) : Option Trans :=
  let any := t.trans.find? (fun x => x.cls == c && x.top == 0xFFFF)
  if (g.members c).any (fun x => bit (g.baseMask t) x) then any
  else match t.trans.find? (fun x => x.cls == c && x.top == k.headD 0xFFFE) with
    | some x => some x
    | none => any

/-- apply(x, K): none past 256 symbols (12 R406). -/
def applyTrans (x : Trans) (k : List Nat) : Option (List Nat) :=
  let k' := x.push.reverse ++ (if x.pop = 1 then k.drop 1 else k)
  if k'.length ≤ 256 then some k' else none

/-- The continuation chain, at most `n` more steps (12 R406). -/
def Grammar.chain (g : Grammar) : Nat → GPos → Option GPos
  | 0, q => if (g.states.getD q.st {}).cont then none else some q
  | n + 1, q =>
    if (g.states.getD q.st {}).cont then
      (g.find (g.states.getD q.st {}) 0xFFFF q.stack).bind (fun x =>
        (applyTrans x q.stack).bind (fun k => g.chain n { st := x.next, stack := k }))
    else some q

/-- step(t, c, K) (12 R406). -/
def Grammar.step (g : Grammar) (q : GPos) (c : Nat) : Option GPos :=
  (g.find (g.states.getD q.st {}) c q.stack).bind (fun x =>
    (applyTrans x q.stack).bind (fun k => g.chain 8 { st := x.next, stack := k }))

/-- The tokens that carry EOS, as a bitmap (11_text_engine R365). -/
def Vocab.eosMask (v : Vocab) : Nat := bitmap (positions Tok.eos v.toks)

/-- mask(t, K) (12 R407). -/
def Grammar.mask (g : Grammar) (v : Vocab) (q : GPos) : Nat :=
  let t := g.states.getD q.st {}
  let m := g.baseMask t
  let cond := if g.pushdown then
      (t.trans.map Trans.cls).dedup.filter (fun c => c ≠ 0xFFFF && !(g.members c).any (fun x => bit m x) && (g.step q c).isSome)
    else []
  let m' := cond.foldl (fun a c => a ||| bitmap (g.members c)) m
  if t.accept && (!g.pushdown || q.stack.isEmpty) then m' ||| v.eosMask else m'

/-- A token that is not EOS moves the state (12 R408). -/
def Grammar.move (g : Grammar) (q : GPos) (x : Nat) : Option GPos := g.step q (g.classMap.getD x 0xFFFF)

/-! ## Sampling (12_constrained_decoding R415 to R420) -/

/-- mix(h) (12 R418). -/
def mix (h : Word) : Word :=
  let a := (h ^^^ (h >>> 16)) * 0x7FEB352D#32
  let b := (a ^^^ (a >>> 15)) * 0x846CA68B#32
  b ^^^ (b >>> 16)

/-- noise(seed, pos, j) (12 R418). -/
def noise (seed : BitVec 64) (pos j : Nat) : Nat :=
  let a := mix (seed.extractLsb' 0 32 ^^^ (BitVec.ofNat 32 pos * 0x9E3779B1#32))
  let b := mix (a ^^^ seed.extractLsb' 32 32)
  let c := mix (b ^^^ (BitVec.ofNat 32 j * 0x85EBCA77#32))
  (c >>> 9).toNat

/-- The Gumbel noise of a token at a position (12 R417). -/
def gumbel (seed : BitVec 64) (pos j : Nat) : Num := (logNum (logNum (.fin false (2 * noise seed pos j + 1) (-24))).neg).neg

/-- How a session samples: TEMP, INV_T, SEED (12 R416 to R419). -/
structure Sampler where
  temp : Nat
  invT : Num
  seed : BitVec 64
  deriving DecidableEq, Repr

/-- The key of each token at a position (12 R415 to R417). -/
def Sampler.keys (q : Sampler) (pos mask : Nat) (logits : List Num) : List Num :=
  logits.zipIdx.map (fun e =>
    if !bit mask e.2 then .inf true
    else if q.temp = 0 then e.1
    else fma32 e.1 q.invT (gumbel q.seed pos e.2))

/-- The sampled token, none where the chosen key is −∞ or NaN (12 R416, R417, R420). -/
def Sampler.pick (q : Sampler) (pos mask : Nat) (logits : List Num) : Option Nat :=
  match leastBy (selBefore true) ((q.keys pos mask logits).zipIdx.map (fun e => { key := e.1, raw := 0, tag := e.2 })) with
  | none => none
  | some e => match e.key with
    | .nan => none
    | .inf neg => if neg then none else some e.tag
    | .fin _ _ _ => some e.tag

/-! ## Commands (12_constrained_decoding R397, R404, R422, R423) -/

/-- Bytes of the grammar store (12 R397). -/
def grammarStore : Nat := 160 * 2 ^ 20

/-- GRAMMAR_LOAD (12 R397, R404; 18_queues R585, R729). -/
def execGrammarLoad (r : Ref) (a : SArgs) (s : State) : Host.Outcome State Fault Refusal :=
  s.command r 0x55 (fun e => argsS e.area == a) (fun s e =>
    match firstBad [(decide (2 < a.src), Code.fieldInvalid), (bit a.lflags 0 && e.part ≠ 0, Code.privRequired)] with
    | some c => s.reject e c
    | none => match s.vocab? e.part a.arg16 with
      | none => s.reject e Code.vocabNotLoaded
      | some v =>
        let fp := roundUp (a.len + 4 * v.toks.length) (2 ^ 20)
        if 64 ≤ s.grammars.length || 64 * 2 ^ 20 < a.len || grammarStore < (s.grammars.map (fun g => g.2.footprint)).sum + fp then
          s.reject e Code.grammarLimit
        else match s.source e.part a with
          | .error c => s.reject e c
          | .ok (bs, t) =>
            if 64 ≤ bs.length ∧ (field bs 32 16 ≠ v.vocabId ∨ field bs 48 4 ≠ v.toks.length) then
              s.reject e Code.grammarVocabMismatch
            else match readGrammar e.part a.arg16 (bit a.lflags 0) v bs, KMap.free s.grammars 64 with
              | some g, some h => { t with grammars := KMap.put t.grammars h g }.done e 0 h
              | _, _ => s.reject e Code.grammarInvalid)

/-- GRAMMAR_UNLOAD (12 R398, R404). -/
def execGrammarUnload (r : Ref) (a : HArgs) (s : State) : Host.Outcome State Fault Refusal :=
  s.command r 0x56 (fun e => argsH e.area == a) (fun s e =>
    match s.grammar? e.part a.handle with
    | none => s.reject e Code.grammarNotLoaded
    | some g => s.checked e [(g.owner ≠ e.part, Code.privRequired), (s.grammarUsers a.handle ≠ 0, Code.grammarInUse)]
        (fun _ => { s with grammars := KMap.del s.grammars a.handle }.done e 0 0))

/-- GRAMMAR_QUERY: header, footprint, sessions (12 R422; 18_queues R584). -/
def execGrammarQuery (r : Ref) (a : QArgs) (s : State) : Host.Outcome State Fault Refusal :=
  s.command r 0x57 (fun e => argsQ e.area == a) (fun s e =>
    match s.grammar? e.part a.handle with
    | none => s.reject e Code.grammarNotLoaded
    | some g => s.answer e a [g.hdr, leBytes 8 g.footprint, leBytes 8 (s.grammarUsers a.handle)])

/-- A token list walked from a state: where it stops, the index of the first token not allowed, whether an EOS has ended the
grammar (12 R408, R423). -/
def Grammar.walk (g : Grammar) (v : Vocab) : List Nat → Nat → GPos → Bool → GPos × Option Nat × Bool
  | [], _, q, ended => (q, none, ended)
  | x :: t, i, q, ended =>
    if ended || !bit (g.mask v q) x then (q, some i, ended)
    else if (v.toks.getD x {}).eos then g.walk v t (i + 1) q true
    else match g.move q x with
      | none => (q, some i, ended)
      | some q' => g.walk v t (i + 1) q' ended

/-- GRAMMAR_MASK (12 R422, R423). -/
def execGrammarMask (r : Ref) (a : MaskArgs) (s : State) : Host.Outcome State Fault Refusal :=
  s.command r 0x58 (fun e => argsMask e.area == a) (fun s e =>
    match s.grammar? e.part a.grammar with
    | none => s.reject e Code.grammarNotLoaded
    | some g =>
      let need := 16 + maskBytes g.tokenCnt
      if a.outCap < need then (s.count e.part Ctr.cmdRejected 1).done e Code.outputTooSmall need
      else match s.readBuf e.part (bit a.dua 0) a.inAddr (4 * a.cnt) with
        | .error c => s.reject e c
        | .ok (bs, t) =>
          let v := KMap.findD s.vocabs g.vocab {}
          let w := g.walk v (words 4 bs) 0 g.open false
          let m := if w.2.2 then 0 else g.mask v w.1
          let out := leBytes 4 w.1.st ++ leBytes 2 w.1.stack.length ++ zeros 2 ++ leBytes 4 (w.2.1.getD 0xFFFFFFFF) ++ zeros 4 ++
            leBytes (maskBytes g.tokenCnt) m
          match t.writeBuf e.part (bit a.dua 0) a.outAddr out with
          | .error c => s.reject e c
          | .ok u => (u.count e.part Ctr.masksBuilt (if w.2.2 then 0 else 1)).done e 0 0)

end Sys2Proof.Machine
end

