-- ==== Sys2Proof/Machine/Serving.lean ====
section
/-! DEFINITION. The serving commands: sessions, generations, shadows, classes, glazes and the prefix flush (13_serving R426 to
R462, 14_speculation R471). What a turn does with sessions is in Batches and Commit. -/

namespace Sys2Proof.Machine

/-! ## Sessions -/

/-- Session i, where it is partition p's (13_serving R429). -/
def State.session? (s : State) (p i : Nat) : Option Session :=
  match KMap.find s.sessions i with
  | none => none
  | some v => if v.part = p then some v else none

/-- Commands of a list complete with a status and RESULT. -/
def State.doneTags (s : State) (tags : List Nat) (status result : Nat) : State :=
  tags.foldl (fun (a : State) t => match a.cmd t with | none => a | some e => a.done e status result) s

/-- A session ended and freed: SESSION_CANCELs complete, feeds and promotions that wait name a session no longer there
(13_serving R429, R456, R457). -/
def State.endSession (s : State) (i : Nat) : State :=
  match KMap.find s.sessions i with
  | none => s
  | some v =>
    let t := s.freeSession i
    (t.doneTags (v.feeds.map Feed.tag ++ v.promoteTags) Code.sessionInvalid 0).doneTags v.cancelTags 0 0

/-- KEEP_LATE, INCLUDE_STOP, SHADOW, TOKIDS, PROMPT_ECHO, NO_SHARE (13_serving R427). -/
def Session.sf (v : Session) (i : Nat) : Bool := v.sflags.getLsbD i

/-- The vocabulary of a session. -/
def State.sessVocab (s : State) (v : Session) : Vocab := KMap.findD s.vocabs v.vocab {}

/-- The grammar of a session, none for 0xFFFF. -/
def State.sessGrammar (s : State) (v : Session) : Option Grammar := if v.grammar = 0xFFFF then none else KMap.find s.grammars v.grammar

/-- The committed grammar state (12_constrained_decoding R405, R409). -/
def Session.gpos (v : Session) : GPos := { st := v.gst, stack := v.gstack }

/-- The mask that allows every token below TOKEN_CNT (12_constrained_decoding R408). -/
def Vocab.allMask (v : Vocab) : Nat := 2 ^ v.toks.length - 1

/-- The context and the prompt not yet computed. -/
def Session.all (v : Session) : List Nat := v.ctx ++ v.prompt

/-- First position that the next step computes; the last position is always computed (13_serving R441, 14 R469). -/
def Session.from' (v : Session) : Nat := min v.kvLen (v.all.length - 1)

/-- Positions left to compute before the next token is sampled. -/
def Session.left (v : Session) : Nat := v.all.length - v.from'

/-- Does the next step generate: the pending token alone is left to compute, outside a recovery (13_serving R446, 14 R469,
21_reliability R647)? -/
def Session.generates (v : Session) : Bool := v.prompt.isEmpty && decide (v.left ≤ 1) && !v.recovering

/-- Is a session speculative (14_speculation R470)? -/
def Session.spec (v : Session) : Bool := v.proposer ≠ 0 && v.specMax ≠ 0

/-! ## SESSION_OPEN (13_serving R426 to R428; 14_speculation R471; 16_scheduling R514; 18_queues R585) -/

/-- Is TEMP +0, or finite within 2⁻¹⁰ to 64 (12 R419)? -/
def tempOk (t : Nat) : Bool := t == 0 || (decide (0x3A800000 ≤ t) && decide (t ≤ 0x42800000))

/-- The stop strings of a descriptor: each with its length (13_serving R427). -/
def stopPairs (a : OpenArgs) : List (Nat × List Byte) := (a.stopLen.zip a.stops).take a.stopCnt

/-- Are all stop strings 1 to 64 bytes of well-formed UTF-8 (11 R388)? -/
def stopsOk (l : List (Nat × List Byte)) : Bool := l.all (fun e => decide (1 ≤ e.1) && decide (e.1 ≤ 64) && utf8Ok (e.2.take e.1))

/-- Step 1: the handles (13_serving R428). -/
def State.openHandles (s : State) (p : Nat) (a : OpenArgs) : List (Bool × Nat) :=
  [((s.image? p a.model).isNone, Code.imageNotLoaded), ((s.vocab? p a.vocab).isNone, Code.vocabNotLoaded),
   (a.grammar ≠ 0xFFFF && (s.grammar? p a.grammar).isNone, Code.grammarNotLoaded),
   (a.draft ≠ 0xFFFF && (s.image? p a.draft).isNone, Code.imageNotLoaded)]

/-- Step 2 and the proposer fields: enumerations, ranges, kinds and bindings (13_serving R427, R428; 14 R471). -/
def openParamBad (a : OpenArgs) (im : Image) (v : Vocab) (gv : Option Nat) (dr : Option Image) : Bool :=
  im.kind ≠ 0 || (im.vocabId ≠ 0 && im.vocabId ≠ v.vocabId) || (match gv with | none => false | some h => h ≠ a.vocab) ||
    a.maxCtx == 0 || decide (131072 < a.maxCtx) || a.maxNew == 0 || decide (131072 < a.maxNew) || decide (8 < a.specMax) ||
    decide (2 < a.proposer) || decide (8 < a.stopCnt) ||
    (a.proposer == 1 && a.draft == 0xFFFF) || (a.proposer ≠ 1 && a.draft ≠ 0xFFFF) ||
    (match dr with | none => false | some d => d.kind ≠ 1 || (d.vocabId ≠ 0 && d.vocabId ≠ v.vocabId)) ||
    (a.proposer ≠ 0 && a.specMax == 0) || (bit a.sflags 2 && a.proposer ≠ 0)

/-- Is the glaze of a descriptor registered for the session's model (13_serving R451)? -/
def State.glazeBad (s : State) (p id : Nat) (im : Image) : Bool :=
  id ≠ 0 && (match KMap.find (s.part p).glazes id with
    | none => true
    | some z => z.modelId ≠ im.modelId || z.modelVer ≠ im.modelVer)

/-- KV stack of a session: its ID mod 8, moved up to the next surviving stack (21_reliability R644). -/
def State.kvStack (s : State) (i : Nat) : Nat :=
  (((List.range 8).map (fun j => (i + j) % 8)).find? (fun d => !s.stackLost.getD d false)).getD (i % 8)

/-- SESSION_OPEN; an image that needs a privileged channel is not opened from another, after the other checks (05 R178; log 39). -/
def execSessionOpen (r : Ref) (a : OpenArgs) (s : State) : Host.Outcome State Fault Refusal :=
  s.command r 0x60 (fun e => argsOpen e.area e.pb == a) (fun s e =>
    let p := e.part
    let im := KMap.findD (s.part p).images a.model {}
    let v := KMap.findD s.vocabs a.vocab {}
    let g := if a.grammar = 0xFFFF then none else KMap.find s.grammars a.grammar
    let dr := if a.draft = 0xFFFF then none else KMap.find (s.part p).images a.draft
    s.checked e (s.openHandles p a ++
      [(openParamBad a im v (g.map Grammar.vocab) dr, Code.sessionParamInvalid),
       (!stopsOk (stopPairs a), Code.stopStringInvalid), (!tempOk a.temp, Code.samplingInvalid),
       (s.glazeBad p a.glaze im, Code.glazeInvalid),
       (decide (8192 ≤ s.sessions.length), Code.sessionLimit),
       ((s.queue p a.streamQ).cls ≠ 2 || decide (64 ≤ a.streamQ), Code.queueInvalid),
       (s.tooWide p a.model || s.tooWide p a.draft, Code.gangSizeInvalid),
       (s.barred p e.queue a.model || s.barred p e.queue a.draft, Code.dataflowInvalid)])
      (fun _ =>
        match (s.openPool p a.model a.kvBlocks im).bind (fun t =>
            match dr with | none => some t | some d => t.openPool p a.draft a.kvBlocks d) with
        | none => s.reject e Code.poolExhausted
        | some t =>
          let id := t.nextSess
          let sd := if a.seed = 0 then Config.freeNat t.fresh % 2 ^ 64 else a.seed
          let n : Session := {
            part := p, image := a.model, vocab := a.vocab, grammar := a.grammar, cls := a.cls, sflags := BitVec.ofNat 8 a.sflags
            glaze := a.glaze, maxCtx := a.maxCtx, maxNew := a.maxNew, temp := BitVec.ofNat 32 a.temp
            invT := if a.temp = 0 then 0 else BitVec.ofNat 32 (f32Code (div32 one (fp32.decode a.temp)))
            seed := BitVec.ofNat 64 sd, draft := a.draft, specMax := a.specMax, proposer := a.proposer
            stops := (stopPairs a).map (fun x => x.2.take x.1), streamQ := a.streamQ, openQ := e.queue
            st := if bit a.sflags 2 then .shadow else .idle
            gst := (g.map Grammar.start).getD 0, dropSpace := true, kvStack := t.kvStack id }
          { t with sessions := KMap.put t.sessions id n, nextSess := id + 1, fresh := t.fresh + 1 }.done e 0 (id + 2 ^ 32 * sd)))

/-! ## GENERATE (13_serving R430 to R433) -/

/-- Order of acceptance of the next generation. -/
def State.nextOrder (s : State) : Nat := (s.sessions.map (fun e => e.2.order)).foldl max 0 + 1

/-- A generation accepted on a session: QUEUED from arrival turn A on (13_serving R429, R431). -/
def State.beginGen (s : State) (i tag : Nat) (toks : List Nat) (maxNew firstDl endDl arrival : Nat) (chain : Bool) : State :=
  let n := s.nextOrder
  s.modSess i (fun v => { v with
    st := .queued, prompt := toks, promptToks := toks, genMax := if maxNew = 0 then v.maxNew else maxNew, firstDl := firstDl
    endDl := endDl, arrival := arrival, genTag := tag, chain := chain, looked := false, hits := 0, hitsDue := 0
    echoed := false, tokTotal := 0, hitFirst := false, seqDue := true, order := n, kvWait := 0, kvOut := false
    carried := false, wide := [], cand := [], badLogits := false, verified := false, placed := 0 })

/-- The input of a GENERATE: its tokens with what tokenising counts, or the status that stops it and RESULT
(13_serving R430; 11 R371, R372, R381). -/
def State.genInput (s : State) (p : Nat) (v : Session) (a : GenArgs) : Except (Nat × Nat) (List Nat × Nat × State) :=
  let voc := s.sessVocab v
  let text := bit a.gflags 0
  if text && a.policy == 2 && voc.alg == 1 && !voc.byteFallback then .error (Code.byteFallbackAbsent, 0)
  else if a.inLen = 0 then .ok ([], 0, s)
  else match s.readBuf p (bit a.gflags 1) a.inAddr (if text then a.inLen else 4 * a.inLen) with
    | .error c => .error (c, 0)
    | .ok (bs, t) =>
      let bos := if bit a.gflags 2 then voc.bos else []
      if text then
        match voc.segment v.vocab a.policy true {} bs with
        | .error off => .error (Code.inputIllFormed, off)
        | .ok o => .ok (bos ++ o.toks, o.ill, t)
      else
        let toks := words 4 bs
        if toks.any (fun x => decide (voc.toks.length ≤ x)) then .error (Code.tokenInvalid, 0) else .ok (bos ++ toks, 0, t)

/-- Is a session's image or its draft barred from a queue (05 R178)? -/
def State.sessBarred (s : State) (p q : Nat) (v : Session) : Bool := s.barred p q v.image || s.barred p q v.draft

/-- GENERATE. -/
def execGenerate (r : Ref) (a : GenArgs) (s : State) : Host.Outcome State Fault Refusal :=
  s.command r 0x61 (fun e => argsGen e.area == a) (fun s e =>
    if (if bit a.gflags 0 then decide (2 < a.policy) else a.policy ≠ 0) then s.reject e Code.fieldInvalid
    else match s.session? e.part a.session with
      | none => s.reject e Code.sessionInvalid
      | some v =>
        if v.st ≠ .idle then s.reject e Code.sessionBusy
        else if s.sessBarred e.part e.queue v then s.reject e Code.dataflowInvalid
        else match s.genInput e.part v a with
          | .error (c, x) => (s.count e.part Ctr.cmdRejected 1).done e c x
          | .ok (toks, ill, t) =>
            if v.ctx.length + toks.length = 0 || decide (v.maxCtx < v.ctx.length + toks.length) then
              s.reject e Code.contextExceeded
            else
              let u := (t.beginGen a.session e.tag toks a.maxNew a.firstDl a.endDl s.arrivalTurn false).keep e
              if bit a.gflags 0 then
                ((u.count e.part Ctr.tokBytesIn a.inLen).count e.part Ctr.tokTokensOut toks.length).count e.part
                  Ctr.illformedSub ill
              else u)

/-! ## Cancelling, closing, promoting (13_serving R456, R457, R460) -/

/-- SESSION_CANCEL: at the commit of this turn, or of the next from t + P − c on (13_serving R456). -/
def execSessionCancel (r : Ref) (a : HArgs) (s : State) : Host.Outcome State Fault Refusal :=
  s.command r 0x62 (fun e => argsH e.area == a) (fun s e =>
    match s.session? e.part a.handle with
    | none => s.reject e Code.sessionInvalid
    | some _ => (s.modSess a.handle (fun v => { v with
        cancelAt := some (min (v.cancelAt.getD (s.boundaryAfter - 1)) (s.boundaryAfter - 1))
        cancelTags := v.cancelTags ++ [e.tag] })).keep e)

/-- SESSION_CLOSE (13_serving R457). -/
def execSessionClose (r : Ref) (a : HArgs) (s : State) : Host.Outcome State Fault Refusal :=
  s.command r 0x63 (fun e => argsH e.area == a) (fun s e =>
    match s.session? e.part a.handle with
    | none => s.reject e Code.sessionInvalid
    | some v =>
      if v.st == .queued || v.st == .running then s.reject e Code.sessionBusy else (s.endSession a.handle).done e 0 0)

/-- SESSION_PROMOTE: at the next commit (13_serving R460). -/
def execSessionPromote (r : Ref) (a : HArgs) (s : State) : Host.Outcome State Fault Refusal :=
  s.command r 0x6A (fun e => argsH e.area == a) (fun s e =>
    match s.session? e.part a.handle with
    | none => s.reject e Code.sessionInvalid
    | some v =>
      if v.st ≠ .shadow then s.reject e Code.shadowInvalid
      else (s.modSess a.handle (fun w => { w with promoteTags := w.promoteTags ++ [e.tag] })).keep e)

/-- Number of a session's state, in the order of the table of R429. -/
def SessSt.num : SessSt → Nat
  | .idle => 0
  | .queued => 1
  | .running => 2
  | .shadow => 3

/-- SESSION_QUERY: state, context length, blocks, usage, GEN_SEQ (13_serving R462; log 14). -/
def execSessionQuery (r : Ref) (a : QArgs) (s : State) : Host.Outcome State Fault Refusal :=
  s.command r 0x64 (fun e => argsQ e.area == a) (fun s e =>
    match s.session? e.part a.handle with
    | none => s.reject e Code.sessionInvalid
    | some v => s.answer e a [leBytes 4 v.st.num, leBytes 4 v.ctx.length, leBytes 4 v.blocks.length, leBytes 4 v.tokTotal,
        leBytes 4 v.genSeq])

/-! ## Shadows and classes (13_serving R445, R458, R459) -/

/-- The context a shadow will have once the feeds that wait are in. -/
def Session.fedCtx (v : Session) : List Nat := v.ctx ++ v.feeds.flatMap Feed.toks

/-- The index of the first fed token that the grammar does not allow, after the feeds that wait (13_serving R459). -/
def State.feedBad (s : State) (v : Session) (toks : List Nat) : Option Nat :=
  match s.sessGrammar v with
  | none => none
  | some g =>
    let before := v.feeds.flatMap Feed.toks
    (g.walk (s.sessVocab v) (before ++ toks) 0 v.gpos false).2.1.map (fun i => i - before.length)

/-- SHADOW_FEED (13_serving R458, R459). -/
def execShadowFeed (r : Ref) (a : FeedArgs) (s : State) : Host.Outcome State Fault Refusal :=
  s.command r 0x69 (fun e => argsFeed e.area == a) (fun s e =>
    if a.cnt = 0 || decide (65536 < a.cnt) then s.reject e Code.fieldInvalid
    else match s.session? e.part a.session with
      | none => s.reject e Code.sessionInvalid
      | some v =>
        if v.st ≠ .shadow then s.reject e Code.shadowInvalid
        else if s.sessBarred e.part e.queue v then s.reject e Code.dataflowInvalid
        else match s.readBuf e.part (bit a.dua 0) a.addr (4 * a.cnt) with
          | .error c => s.reject e c
          | .ok (bs, t) =>
            let toks := words 4 bs
            if toks.any (fun x => decide ((s.sessVocab v).toks.length ≤ x)) || decide (v.maxCtx < v.fedCtx.length + toks.length) then
              s.reject e Code.shadowInvalid
            else match s.feedBad v toks with
              | some i => (s.count e.part Ctr.cmdRejected 1).done e Code.shadowInvalid i
              | none => (t.modSess a.session (fun w => { w with
                  feeds := w.feeds ++ [{ tag := e.tag, toks := toks, pturn := a.pturn }] })).keep e)

/-- CLASS_SET: in force from the next boundary (13_serving R445). -/
def execClassSet (r : Ref) (a : ClassArgs) (s : State) : Host.Outcome State Fault Refusal :=
  s.command r 0x6B (fun e => argsClass e.area == a) (fun s e =>
    let setQ := bit a.setQuantum 0
    s.checked e [(a.weight == 0 || (setQ && a.quantum == 0), Code.classInvalid)]
      (fun _ => (s.modPart e.part (fun v => { v with
        weightsWr := KMap.put v.weightsWr a.cls a.weight
        quantumWr := if setQ then a.quantum else v.quantumWr })).done e 0 0))

/-! ## PREFIX_FLUSH (13_serving R462) -/

/-- PREFIX_FLUSH: every cached block of no reference in the partition's sharing domain is dropped. -/
def execPrefixFlush (r : Ref) (s : State) : Host.Outcome State Fault Refusal :=
  s.command r 0x68 (fun _ => true) (fun s e =>
    let dom := (s.part e.part).eff.domain
    let l := (s.cached (fun _ _ => true)).filter (fun q => match s.kvBlk q with | none => false | some b => b.hash.isSome && b.dom == dom)
    (l.foldl (fun (a : State) q => a.dropBlock q.1 q.2.1 q.2.2) s).done e 0 l.length)

/-! ## Glazes (13_serving R449 to R451) -/

/-- A projection entry of a glaze: PROJ, D_IN, D_OUT, A_OFF, B_OFF (13_serving R449). -/
structure GProj where
  proj : Nat
  din : Nat
  dout : Nat
  aOff : Nat
  bOff : Nat
  deriving DecidableEq, Repr

/-- The projection entries of a container. -/
def glazeProjs (bs : List Byte) : List GProj :=
  (pieces 32 (field bs 36 2) (bs.drop 64)).map (fun e =>
    { proj := field e 0 2, din := field e 4 4, dout := field e 8 4, aOff := field e 16 8, bOff := field e 24 8 })

/-- Bytes of an element. -/
def glazeEb (gfmt : Nat) : Nat := if gfmt = 1 then 2 else 1

/-- Is a plane of n elements at an offset wrong: its place, or an element that is NaN or infinite (13_serving R449, R450)? -/
def planeBad (bs : List Byte) (gfmt off n : Nat) : Bool :=
  off % 256 ≠ 0 || decide (bs.length < off + n * glazeEb gfmt) ||
    (words (glazeEb gfmt) ((bs.drop off).take (n * glazeEb gfmt))).any (fun c =>
      if gfmt = 1 then bits c 7 8 == 255 else c % 128 == 127)

/-- Is a container ill-formed in itself (13_serving R449, R450)? -/
def glazeBadForm (bs : List Byte) : Bool :=
  let gfmt := field bs 6 1
  let rank := field bs 7 1
  let cnt := field bs 36 2
  let ps := glazeProjs bs
  field bs 0 4 ≠ 0x5A475856 || field bs 4 2 ≠ 1 || !(gfmt == 1 || gfmt == 3) || decide (rank < 4) || decide (128 < rank) ||
    field bs 8 4 == 0 || field bs 8 4 == 0xFFFFFFFF || bits (field bs 12 4) 23 8 == 255 || cnt == 0 || decide (4096 < cnt) ||
    !zeroAt bs 38 2 || !zeroAt bs 48 16 || field bs 40 8 ≠ bs.length || decide (bs.length < 64 + 32 * cnt) ||
    (pieces 32 cnt (bs.drop 64)).any (fun e => !zeroAt e 2 2 || !zeroAt e 12 4) || !distinct (ps.map GProj.proj) ||
    ps.any (fun e => planeBad bs gfmt e.aOff (rank * e.din) || planeBad bs gfmt e.bOff (e.dout * rank))

/-- Does a MATMUL_GLAZE record of a loaded image of the glaze's model carry this projection (13_serving R450)? -/
def State.projKnown (s : State) (p model ver : Nat) (e : GProj) : Bool :=
  (s.part p).images.any (fun i => i.2.ready && i.2.modelId == model && i.2.modelVer == ver && (i.2.recs.map recOf).any (fun r =>
    r.opc == 0x02 && field r.params 0 2 == e.proj && (r.op 1).dim0 == e.din && (r.op 1).dim1 == e.dout))

/-- Glazes registered in the module. -/
def State.glazeCount (s : State) : Nat := (s.parts.map (fun e => e.2.glazes.length)).sum

/-- The glaze of a container whose first page is page `base` (13_serving R449). -/
def glazeOf (bs : List Byte) (base : Nat) : Glaze := {
  gfmt := field bs 6 1, rank := field bs 7 1, alpha := BitVec.ofNat 32 (field bs 12 4), modelId := field bs 16 16
  modelVer := field bs 32 4, hdr := bs.take 64, pageBase := base, pages := ceilDiv bs.length 65536
  proj := (glazeProjs bs).map (fun x => (x.proj, x.din, x.dout, 65536 * base + x.aOff, 65536 * base + x.bOff)) }

/-- The pages of a container, in order, with their flags (13_serving R449). -/
def glazePages (bs : List Byte) (fromExtent : Bool) : List (Nat × Nat × List Byte) :=
  (List.range (ceilDiv bs.length 65536)).map (fun i => (1, flag fromExtent 6, (bs.drop (65536 * i)).take 65536))

/-- GLAZE_REGISTER (13_serving R449, R450). -/
def execGlazeRegister (r : Ref) (a : SArgs) (s : State) : Host.Outcome State Fault Refusal :=
  s.command r 0x65 (fun e => argsS e.area == a) (fun s e =>
    match s.source e.part a with
    | .error c => s.reject e c
    | .ok (bs, t) =>
      let id := field bs 8 4
      let model := field bs 16 16
      let ver := field bs 32 4
      let ps := glazeProjs bs
      s.checked e
        [(glazeBadForm bs || !ps.all (s.projKnown e.part model ver), Code.glazeFormatInvalid),
         ((KMap.find (s.part e.part).glazes id).isSome, Code.glazeInvalid),
         (decide (65536 ≤ s.glazeCount), Code.glazeLimit)]
        (fun _ =>
          match t.loadPages e.part (glazePages bs (a.src == 2)) with
          | none => s.reject e Code.poolExhausted
          | some (base, u) =>
            (u.modPart e.part (fun w => { w with glazes := KMap.put w.glazes id (glazeOf bs base) })).done e 0 id))

/-- How many live sessions name glaze id of partition p. -/
def State.glazeUsers (s : State) (p id : Nat) : Nat := (s.sessions.filter (fun e => e.2.part == p && e.2.glaze == id)).length

/-- The pages of a glaze freed; those of one that a batch of the turn has resolved stay readable to the turn's end (06 R196;
13_serving R451). -/
def State.dropGlaze (s : State) (p id : Nat) (z : Glaze) : State :=
  if s.batches.any (fun b => b.2.part == p && (KMap.find b.2.glazes id).isSome) then
    s.modPart p (fun w => { w with glazeGone := w.glazeGone ++ [(z.pageBase, z.pages)] })
  else s.freePages z.pageBase z.pages

/-- The pages of glazes deregistered in the turn, freed (06 R196). -/
def State.glazesOver (s : State) : State :=
  let t := s.parts.foldl (fun (a : State) e => e.2.glazeGone.foldl (fun (b : State) g => b.freePages g.1 g.2) a) s
  { t with parts := KMap.each t.parts (fun _ v => { v with glazeGone := [] }) }

/-- GLAZE_DEREGISTER (13_serving R451). -/
def execGlazeDeregister (r : Ref) (a : HArgs) (s : State) : Host.Outcome State Fault Refusal :=
  s.command r 0x66 (fun e => argsH e.area == a) (fun s e =>
    match KMap.find (s.part e.part).glazes a.handle with
    | none => s.reject e Code.glazeInvalid
    | some z => s.checked e [(s.glazeUsers e.part a.handle ≠ 0, Code.glazeInUse)] (fun _ =>
        ((s.dropGlaze e.part a.handle z).modPart e.part (fun w => { w with glazes := KMap.del w.glazes a.handle })).done e 0 0))

/-- GLAZE_QUERY: header fields, then the sessions that name the glaze (13_serving R462; log 14). -/
def execGlazeQuery (r : Ref) (a : QArgs) (s : State) : Host.Outcome State Fault Refusal :=
  s.command r 0x67 (fun e => argsQ e.area == a) (fun s e =>
    match KMap.find (s.part e.part).glazes a.handle with
    | none => s.reject e Code.glazeInvalid
    | some z => s.answer e a [z.hdr, leBytes 4 (s.glazeUsers e.part a.handle)])

end Sys2Proof.Machine
end

