-- ==== Sys2Proof/Machine/Batches.lean ====
section
/-! DEFINITION. Admission, batch formation, draft passes, masks and verification: what a turn does with sessions before its
commit (13_serving R437, R441 to R448, R452; 14_speculation R469 to R475; 12_constrained_decoding R410, R413; 15_wheel R494,
R503, R504; 16_scheduling R518, R522; 18_queues R576). -/

namespace Sys2Proof.Machine

/-! ## The end of a generation (13_serving R433; 09_vector_search R326, R327) -/

/-- Statuses of a generation that write no results (13_serving R464). -/
def noResults (status : Nat) (dropped : Bool) : Bool :=
  dropped || [Code.deadlineUnreachable, Code.cancelled, Code.securityLocked, Code.faultUnrecovered].contains status

/-- The command of a generation complete; a CHAIN posts its stage 4 where no token has fired, and fails where the stage wrote no
results (13_serving R433; 09_vector_search R326, R327; 18_queues R587). -/
def State.genDone (s : State) (v : Session) (status reason tokens : Nat) (dropped : Bool) : State :=
  match s.cmd v.genTag with
  | none => s
  | some e =>
    let result := tokens % 2 ^ 32 + reason * 2 ^ 32 + v.hits % 2 ^ 24 * 2 ^ 40
    if !v.chain then s.done e status result
    else
      let t := if bit (argsChain e.pb).stageCpl 4 && !v.hitFirst then s.stageOver e 4 status 0 else s
      let u := { t with chains := KMap.del t.chains e.tag }
      if noResults status dropped then u.done (u.entry e) Code.chainStageFailed 4 else u.done (u.entry e) status result

/-- The block table of a session that returns to its fired context: blocks past it are given up, and a shared block that the
context ends in (13_serving R436). -/
def State.rollback (s : State) (i : Nat) : State :=
  match KMap.find s.sessions i with
  | none => s
  | some v =>
    let n := v.ctx.length
    let cut := fun (l : List BlkRef) =>
      match l[n / 32]? with
      | none => l.length
      | some r => if ((s.kvBlk r).bind KvBlk.hash).isSome then n / 32 else ceilDiv n 32
    let a := cut v.blocks
    let b := cut v.draftBlocks
    ((s.unrefAll (v.blocks.drop a)).unrefAll (v.draftBlocks.drop b)).modSess i (fun w => { w with
      blocks := v.blocks.take a, draftBlocks := v.draftBlocks.take b, kvLen := min (min w.kvLen n) (32 * a)
      draftKv := min (min w.draftKv n) (32 * b) })

/-- A session IDLE again, its generation over (13_serving R429). -/
def State.idle (s : State) (i : Nat) : State :=
  (s.modSess i (fun v => { v with
    st := .idle, prompt := [], genTag := 0, chain := false, cand := [], drafts := [], shadow := [], chainStop := false, carried := false
    recovering := false, wide := [], placed := 0, kvWait := 0, kvOut := false, hitsDue := 0, seqDue := false })).rollback i

/-! ## Admission (13_serving R441, R443; 12 R411) -/

/-- The prefix lookup of a generation at its admission, and M0 of a session that has none (13_serving R441; 12 R411, R421). -/
def State.letIn (s : State) (i : Nat) : State :=
  match KMap.find s.sessions i with
  | none => s
  | some v =>
    if v.st ≠ .queued || v.looked || decide (s.turn < v.arrival) then s
    else
      let full := min (v.ctx.length / 32) v.blocks.length
      let last := (v.all.length - 1) / 32
      let dfull := min (v.ctx.length / 32) v.draftBlocks.length
      let a := if v.sf 5 then (s, v.blocks, 0) else s.lookupTable v v.image v.glaze v.all v.blocks full last
      let b := if v.sf 5 || v.draft = 0xFFFF then (a.1, v.draftBlocks, 0)
        else a.1.lookupTable v v.draft 0 v.all v.draftBlocks dfull last
      let m := match s.sessGrammar v with
        | none => none
        | some g => some (v.mask0.getD (g.mask (s.sessVocab v) v.gpos))
      let t := if m.isSome && v.mask0.isNone then b.1.count v.part Ctr.masksBuilt 1 else b.1
      t.modSess i (fun w => { w with
        looked := true, blocks := a.2.1, draftBlocks := b.2.1, mask0 := m
        kvLen := if a.2.2 = 0 then w.kvLen else 32 * (full + a.2.2)
        draftKv := if b.2.2 = 0 then w.draftKv else 32 * (dfull + b.2.2)
        hits := if a.2.2 = 0 then 0 else 32 * (full + a.2.2) - w.ctx.length
        hitsDue := 32 * a.2.2 })

/-- Is a QUEUED generation unreachable: its end deadline is past, or firmware predicts its first firing too late (13_serving
R443; log 12)? -/
def Session.unreachable (v : Session) (turn : Nat) (predicted : Bool) : Bool :=
  v.st == .queued && decide (v.arrival ≤ turn) &&
    ((v.firstDl ≠ 0 && (predicted || decide (v.arrival + v.firstDl ≤ turn))) || (v.endDl ≠ 0 && decide (v.arrival + v.endDl ≤ turn)))

/-- Unreachable generations end with no record: their sessions are IDLE (13_serving R443). -/
def State.refuseLate (s : State) (predicted : List Nat) : State :=
  (s.sessions.filter (fun e => e.2.unreachable s.turn (predicted.contains e.1))).foldl (fun (a : State) e =>
    ((a.genDone e.2 Code.deadlineUnreachable 6 0 true).idle e.1).count e.2.part Ctr.deadlineUnreachableCnt 1) s

/-! ## Steps and what they need (13_serving R437, R446, R452; 18_queues R576) -/

/-- Cost of a session's next step (13_serving R446; 14_speculation R470). -/
def Session.cost (v : Session) (chunk : Nat) : Nat :=
  if v.st == .shadow then (match v.feeds with | [] => 0 | f :: _ => f.toks.length)
  else if v.generates then (if v.spec then 1 + v.specMax else 1)
  else min v.left (max 1 (min chunk 8192))

/-- Does a step of `n` positions complete the prefill, so that it samples? -/
def Session.final (v : Session) (n : Nat) : Bool := v.st ≠ .shadow && decide (v.left ≤ n)

/-- Blocks of the target's table that a step of `n` positions needs. -/
def Session.blocksFor (v : Session) (n : Nat) : Nat :=
  min (ceilDiv v.maxCtx 32) (ceilDiv (if v.st == .shadow then v.ctx.length + n else v.from' + n) 32)

/-- Blocks of the draft's table that a step needs (14_speculation R472). -/
def Session.draftBlocksFor (v : Session) : Nat :=
  if v.proposer = 1 && v.generates then min (ceilDiv v.maxCtx 32) (ceilDiv (v.all.length + v.specMax) 32) else 0

/-- Worst-case length of the records of a step (18_queues R576). -/
def Session.worst (v : Session) (n : Nat) : Nat :=
  if v.st == .shadow then 0
  else 40 + 4 * ceilDiv (1024 * (1 + v.specMax) + 66) 4 + (if v.sf 3 then 4 * (1 + v.specMax) else 0) +
    (if v.sf 4 && !v.echoed && !v.prompt.isEmpty && v.final n then 40 + 4 * v.promptToks.length else 0)

/-- Has a session's stream ring room for a step: the standing reserve of its live sessions, the placed steps of the turn and
this one (18_queues R576)? -/
def State.streamRoom (s : State) (v : Session) (n : Nat) : Bool :=
  let k := s.queue v.part v.streamQ
  let size := 2 ^ k.strLog2
  let used := (k.strWr + size - k.strHeadDb) % size
  let live := (s.sessions.filter (fun e => e.2.part == v.part && e.2.streamQ == v.streamQ)).length
  v.st == .shadow || decide (used + 16 + 48 * live + k.strStep + v.worst n ≤ size)

/-- Glazes active in the turn, by partition and ID (13_serving R452). -/
def State.glazesOn (s : State) : List (Nat × Nat) :=
  ((s.sessions.filter (fun e => e.2.placed ≠ 0 && e.2.glaze ≠ 0)).map (fun e => (e.2.part, e.2.glaze))).dedup

/-- Would the step bring the active glazes of the module above 512 (13_serving R452)? -/
def State.glazeHeld (s : State) (v : Session) : Bool :=
  v.glaze ≠ 0 && !s.glazesOn.contains (v.part, v.glaze) && decide (512 ≤ s.glazesOn.length)

/-- What became of a step offered for placement. -/
inductive Offer where
  /-- placed. -/
  | placed
  /-- no KV block: not placed this turn (13_serving R437). -/
  | noKv
  /-- held at the head of its class (13_serving R452, 18_queues R576). -/
  | held
  deriving DecidableEq, Repr

/-- Drafts of the n-gram proposer up to and with a first EOS, for a session without a grammar (12 R410; 14 R473). -/
def uptoEos (v : Vocab) (l : List Nat) : List Nat :=
  match l.findIdx? (fun x => (v.toks.getD x {}).eos) with
  | none => l
  | some i => l.take (i + 1)

/-- A step of `n` positions offered for placement: its blocks are taken, its ring reserved, its drafts proposed
(13_serving R437, R448, R452; 14_speculation R473; 18_queues R576). -/
def State.offer (s : State) (i n : Nat) : State × Offer :=
  match KMap.find s.sessions i with
  | none => (s, .held)
  | some v =>
    if s.glazeHeld v then (s.count v.part Ctr.glazeDefer 1, .held)
    else if !s.streamRoom v n then (s.count v.part Ctr.streamWait 1, .held)
    else
      let a := s.takeBlocks v.part v.image v.kvStack (v.blocksFor n - v.blocks.length)
      match a.2 with
      | none => ((a.1.modSess i (fun w => { w with kvWait := w.kvWait + 1 })).count v.part Ctr.kvWait 1, .noKv)
      | some bs =>
        let d := a.1.takeBlocks v.part v.draft v.kvStack (v.draftBlocksFor - v.draftBlocks.length)
        match d.2 with
        | none => (((d.1.unrefAll bs).modSess i (fun w => { w with kvWait := w.kvWait + 1 })).count v.part Ctr.kvWait 1, .noKv)
        | some ds =>
          let drafts := if v.proposer = 2 && v.generates && v.spec then
              (if v.grammar = 0xFFFF then uptoEos (s.sessVocab v) v.nextDrafts else v.nextDrafts) else []
          let t := d.1.modSess i (fun w => { w with
            blocks := w.blocks ++ bs, draftBlocks := w.draftBlocks ++ ds, placed := n, kvWait := 0, verified := false
            st := if w.st == .queued then .running else w.st
            drafts := drafts, proposed := if drafts.isEmpty then 0 else v.nextDrafts.length
            cand := [], badLogits := false, shadow := [], chainStop := false, lvsHit := false })
          (t.modQueue v.part v.streamQ (fun k => { k with strStep := k.strStep + v.worst n }), .placed)

/-! ## Allowances (16_scheduling R522) -/

/-- Demand of a partition: its weight, virtual time, queued sequences, and what it has been granted. -/
structure Share where
  part : Nat
  weight : Nat
  vtime : Nat
  want : Nat
  got : Nat
  deriving DecidableEq, Repr

/-- Sequences granted by shares until no round grants any, then single ones in ascending virtual time (16_scheduling R522). -/
def shareOut : Nat → Nat → List Share → List Share
  | 0, _, l => l
  | n + 1, rem, l =>
    let a := l.filter (fun x => decide (x.got < x.want))
    let w := (a.map Share.weight).sum
    let give := fun (x : Share) => if x.got < x.want then min (x.want - x.got) (rem * x.weight / max w 1) else 0
    let total := (l.map give).sum
    if total = 0 then
      let one := ((sortBy (fun (x y : Share) => decide (x.vtime < y.vtime) || (x.vtime == y.vtime && decide (x.part < y.part))) a).take
        rem).map Share.part
      l.map (fun x => if one.contains x.part then { x with got := x.got + 1 } else x)
    else shareOut n (rem - total) (l.map (fun x => { x with got := x.got + give x }))

/-- Sessions of partition p with a step to place in this turn (13_serving R429, R447). -/
def State.steps (s : State) (p : Nat) : List (Nat × Session) :=
  s.sessions.filter (fun e => e.2.part == p && e.2.placed == 0 && !e.2.kvOut && (match e.2.st with
    | .idle => false
    | .queued => decide (e.2.arrival ≤ s.turn)
    | .running => true
    | .shadow => !e.2.feeds.isEmpty))

/-- The allowances S_p and B_p of the turn set (16_scheduling R522). -/
def State.allow (s : State) (bMod : Nat) : State :=
  let l := (s.parts.filter (fun e => e.2.live && !(s.steps e.1).isEmpty)).map (fun e =>
    ({ part := e.1, weight := e.2.eff.weight, vtime := e.2.vtime, want := (s.steps e.1).length, got := 0 } : Share))
  let o := shareOut 2049 2048 l
  let total := (o.map Share.got).sum
  { s with parts := KMap.each s.parts (fun p v => match o.find? (fun x => x.part == p) with
      | none => { v with sAllow := 0, bAllow := 0 }
      | some x => { v with sAllow := x.got, bAllow := bMod * x.got / max total 1 }) }

/-! ## Weighted deficit round robin (13_serving R447, R448) -/

/-- Carried steps in the order in which they are placed: recovering sessions first, then by session ID (13_serving R447;
21_reliability R647). -/
def State.carriedSteps (s : State) (p : Nat) : List Nat :=
  let l := (s.steps p).filter (fun e => e.2.carried || e.2.recovering)
  (l.filter (fun e => e.2.recovering)).map Prod.fst ++ (l.filter (fun e => !e.2.recovering)).map Prod.fst

/-- The other steps of class c in their order: running generations and shadows by ID, then queued ones in order of acceptance
(13_serving R447). -/
def State.classSteps (s : State) (p c : Nat) : List Nat :=
  let l := (s.steps p).filter (fun e => e.2.cls == c && !e.2.carried && !e.2.recovering)
  (l.filter (fun e => e.2.st ≠ .queued)).map Prod.fst ++
    (sortBy (fun (x y : Nat × Session) => decide (x.2.order < y.2.order)) (l.filter (fun e => e.2.st == .queued))).map Prod.fst

/-- The round robin of one partition as it runs: state, budget, sequences left, and the queue left of each eligible class. -/
structure Drr where
  s : State
  b : Int
  seqs : Nat
  elig : KMap (List Nat)

/-- Cost of session i's step. -/
def State.stepCost (s : State) (i chunk : Nat) : Nat := (KMap.findD s.sessions i {}).cost chunk

/-- The deficit of class c of partition p changed. -/
def State.addDeficit (s : State) (p c : Nat) (d : Int) : State :=
  s.modPart p (fun v => { v with deficit := KMap.put v.deficit c (KMap.findD v.deficit c 0 + d) })

/-- What is left of a class after its turn in a round: the queue, whether steps that lack KV were passed over, whether its head
is held. -/
structure ClassLeft where
  rest : List Nat
  passed : Bool
  held : Bool

/-- Steps of one class placed while they fit (13_serving R448). -/
def drrClass (p c chunk : Nat) : List Nat → Drr → Bool → Drr × ClassLeft
  | [], d, passed => (d, ⟨[], passed, false⟩)
  | h :: t, d, passed =>
    let cost := d.s.stepCost h chunk
    if ((cost : Nat) : Int) ≤ KMap.findD (d.s.part p).deficit c 0 ∧ ((cost : Nat) : Int) ≤ d.b ∧ 0 < d.seqs then
      match d.s.offer h cost with
      | (s', .placed) => drrClass p c chunk t
          { d with s := s'.addDeficit p c (-((cost : Nat) : Int)), b := d.b - ((cost : Nat) : Int), seqs := d.seqs - 1 } passed
      | (s', .noKv) => drrClass p c chunk t { d with s := s' } true
      | (s', .held) => ({ d with s := s' }, ⟨h :: t, passed, true⟩)
    else (d, ⟨h :: t, passed, false⟩)

/-- One class's turn in a round (13_serving R448). -/
def drrTurn (p chunk : Nat) (d : Drr) (c : Nat) : Drr :=
  match KMap.find d.elig c with
  | none => d
  | some q =>
    let v := d.s.part p
    let w := KMap.findD v.weights c 1
    let r := drrClass p c chunk q { d with s := d.s.addDeficit p c (((w * v.quantum : Nat) : Nat) : Int) } false
    let s1 := r.1.s.modPart p (fun x => { x with last := c })
    match r.2.rest with
    | [] => { r.1 with
        s := if r.2.passed then s1 else s1.modPart p (fun x => { x with deficit := KMap.put x.deficit c 0 })
        elig := KMap.del r.1.elig c }
    | h :: _ =>
      if r.2.held || decide (r.1.b < ((s1.stepCost h chunk : Nat) : Int)) then { r.1 with s := s1, elig := KMap.del r.1.elig c }
      else { r.1 with s := s1, elig := KMap.put r.1.elig c r.2.rest }

/-- Rounds until no class is eligible or no sequence is left (13_serving R448). -/
def drrRounds (p chunk : Nat) : Nat → Drr → Drr
  | 0, d => d
  | n + 1, d =>
    if d.elig.isEmpty || d.seqs = 0 then d
    else
      let last := (d.s.part p).last
      let cs := KMap.keys d.elig
      drrRounds p chunk n ((cs.filter (fun c => decide (last < c)) ++ cs.filter (fun c => decide (c ≤ last))).foldl (drrTurn p chunk) d)

/-- The carried steps of partition p placed first (13_serving R448). -/
def State.placeCarried (s : State) (p chunk : Nat) (d : Drr) : Drr :=
  (s.carriedSteps p).foldl (fun (d : Drr) i =>
    let cost := d.s.stepCost i chunk
    match d.s.offer i cost with
    | (s', .placed) => { d with
        s := s'.addDeficit p (KMap.findD s.sessions i {}).cls (-((cost : Nat) : Int)), b := d.b - ((cost : Nat) : Int), seqs := d.seqs - 1 }
    | (s', _) => { d with s := s' }) d

/-- The steps of partition p placed (13_serving R448). -/
def State.placeSteps (s : State) (p chunk : Nat) : State :=
  let v := s.part p
  let d := s.placeCarried p chunk { s := s, b := ((v.bAllow : Nat) : Int), seqs := v.sAllow, elig := [] }
  let qs := (List.range 256).filterMap (fun c =>
    let q := d.s.classSteps p c
    if q.any (fun i => decide (((d.s.stepCost i chunk : Nat) : Int) ≤ d.b)) then some (c, q) else none)
  let owed := ((d.s.part p).deficit.map (fun e => e.2.natAbs)).sum
  let fuel := owed + (qs.map (fun e => ((e.2.map (fun i => d.s.stepCost i chunk)).sum) + 1)).sum
  (drrRounds p chunk fuel { d with elig := qs }).s

/-! ## Forming batches (13_serving R448, R452; 16_scheduling R514, R518; 08_memory_tiers R264) -/

/-- Layers 0 to W − 1 of a batch's image requested at the formation of batch n (08_memory_tiers R264). -/
def State.requestFirst (s : State) (p n : Nat) (im : Image) : State :=
  (List.range (min im.pfWindow im.layerCnt)).foldl (fun (a : State) l =>
    a.requestLayer p n im l (a.turn, im.predict 0 l a.wheel.now)) s

/-- The draft images that a batch runs: those of the members whose step drafts (14_speculation R472; 08_memory_tiers R264). -/
def State.draftImages (s : State) (p : Nat) (members : List Nat) : List Image :=
  ((members.filterMap (fun m => (KMap.find s.sessions m).bind (fun v =>
    if v.proposer = 1 && v.generates && v.spec then some v.draft else none))).dedup).filterMap (KMap.find (s.part p).images)

/-- One batch formed: its task waits for a gang, its tables are pinned, the glazes of its sessions resolved, its first layers, with their part of the
glazes, and what glazes adapt outside the layers requested; it is privileged where every session of it was opened from a privileged channel (16_scheduling R514, R518; 05 R175; 06 R196;
10 R350; 08 R264 to R266; 13_serving R452). -/
def State.formBatch (s : State) (p h : Nat) (members : List Nat) (lrs : List (Nat × Nat)) (lvs : Nat) : State :=
  match KMap.find (s.part p).images h with
  | none => s
  | some im =>
    let n := s.nextBatch
    let pins := s.pinTables p (2 * n + 1) im.tablesNamed
    let k := pins.2.addTask p (.batch n) im.gang
    let on := fun (i : Nat) => KMap.findD s.sessions i {}
    let v : Batch := {
      part := p, image := h, members := members, task := k.1, pinned := pins.1, lvs := lvs
      privileged := members.all (fun i => s.privileged p (on i).openQ)
      glazes := (s.part p).glazes.filter (fun g => members.any (fun i => (on i).glaze == g.1))
      lrs := lrs.foldl (fun (a : KMap Nat) e => KMap.put a e.1 e.2) [] }
    let t := { k.2 with batches := KMap.put k.2.batches n { v with done := v.stepOver im }, nextBatch := n + 1 }
    let u := (im :: t.draftImages p members).foldl (fun (a : State) i => a.requestFirst p n i) t
    u.prefetch p n (u.glazePages n im 0xFFFF) (u.turn, u.wheel.now)

/-- The placed sessions grouped by partition and image, one batch each, in ascending order; LRS and LVS as firmware gives them
for each batch in that order, else none and t + P − c (15_wheel R503). -/
def State.formBatches (s : State) (lrs : List (List (Nat × Nat))) (lvs : List Nat) : State :=
  let keys := ((s.sessions.filter (fun e => e.2.placed ≠ 0)).map (fun e => (e.2.part, e.2.image))).dedup
  let keys := sortBy (fun (a b : Nat × Nat) => decide (a.1 < b.1) || (a.1 == b.1 && decide (a.2 < b.2))) keys
  (keys.zipIdx).foldl (fun (a : State) e =>
    let ms := (s.sessions.filter (fun x => x.2.placed ≠ 0 && x.2.part == e.1.1 && x.2.image == e.1.2)).map Prod.fst
    a.formBatch e.1.1 e.1.2 ms (lrs.getD e.2 []) (lvs.getD e.2 (a.wheel.len - a.wheel.window))) s

/-- May a batch of this turn still be released: the module serves, the compute window is open (15_wheel R494, R505; 20 R614, R616;
22 R671)? -/
def State.mayRelease (s : State) : Bool :=
  s.ready && !s.locked && !s.sagger.erased && !s.moduleLost && s.wheel.started && !s.wheel.released && !s.wheel.commit &&
    decide (s.power.pstate < 2) && !(s.power.entering && decide (2 ≤ s.power.target))

/-- Turns in a row without KV start anew for a session that did not lack it in this turn; `old` is the state before placing
(13_serving R437). -/
def State.waitsOver (s old : State) : State :=
  { s with sessions := KMap.each s.sessions (fun i (v : Session) =>
      if v.kvWait = (KMap.findD old.sessions i {}).kvWait then { v with kvWait := 0 } else v) }

/-- Stages of CHAINs placed, up to the number that firmware names for each; the first layers of an encoder or cross-encoder that is to run
are requested (01_architecture R29; 08_memory_tiers R264; log 12). -/
def State.placeChains (s : State) (l : List (Ref × Nat)) : State :=
  l.foldl (fun (a : State) e =>
    match a.inflight.find? (fun c => c.part = e.1.part && c.queue = e.1.queue && c.cid = e.1.cid && c.opc = 0x70 && c.st == .running) with
    | none => a
    | some c => match KMap.find a.chains c.tag with
      | none => a
      | some x =>
        let g := argsChain c.pb
        let ims := (if x.stage = 0 then [g.encImg] else []) ++ (if x.stage ≤ 2 && decide (2 < e.2) && g.rrCnt ≠ 0 then [g.rrImg] else [])
        let t := { a with chains := KMap.put a.chains c.tag { x with placed := max x.placed e.2 } }
        (ims.filterMap (KMap.find (a.part c.part).images)).foldl (fun (b : State) im => b.requestFirst c.part 0 im) t) s

/-- The turn's batch released: its sessions and costs kept for a fallback turn (15_wheel R504). -/
def State.released (s : State) : State :=
  { s with
    wheel := { s.wheel with released := true }
    prevBatch := (s.sessions.filter (fun e => e.2.placed ≠ 0)).map (fun e => (e.1, e.2.placed)) }

/-- BATCH_RELEASE (13_serving R437, R443, R446 to R448, R452; 15_wheel R503; 16_scheduling R522; 18_queues R576; log 12). -/
def execBatchRelease (pol : Policy) (s : State) : Host.Outcome State Fault Refusal :=
  if !s.mayRelease then .next s
  else
    let t := (s.refuseLate pol.unreachable).allow pol.bMod
    let u := (KMap.keys t.parts).foldl (fun (a : State) p => a.placeSteps p pol.chunk) t
    .next (((u.waitsOver s).formBatches pol.lrs pol.lvs).placeChains pol.chains).released

/-- BATCH_FALLBACK: the previous turn's batch less the sessions that have ended, and the carried steps, at most 2,048 in all; no
deadline check (15_wheel R503, R504). -/
def execBatchFallback (s : State) : Host.Outcome State Fault Refusal :=
  if !s.mayRelease then .next s
  else
    let place := fun (a : State) (i n : Nat) =>
      if 2048 ≤ (a.sessions.filter (fun e => e.2.placed ≠ 0)).length then a else (a.offer i n).1
    let carried := s.parts.flatMap (fun e => s.carriedSteps e.1)
    let t := carried.foldl (fun (a : State) i => place a i (a.stepCost i ((s.prevBatch.find? (fun e => e.1 == i)).map
      Prod.snd |>.getD 8192))) s
    let again := s.prevBatch.filter (fun e => !carried.contains e.1 && (match KMap.find s.sessions e.1 with
      | none => false
      | some v => (v.st == .running && !v.kvOut) || (v.st == .shadow && !v.feeds.isEmpty)))
    let u := again.foldl (fun (a : State) e => place a e.1 (a.stepCost e.1 e.2)) t
    .next (((u.waitsOver s).formBatches [] []).released.devCount Ctr.batchFallback 1)

/-- KV_EXHAUSTED: a generation unplaced for 8 turns in a row for want of KV ends at the next commit (13_serving R437; R465). -/
def execKvExhausted (session : Nat) (s : State) : Host.Outcome State Fault Refusal :=
  .next (s.modSess session (fun v =>
    if decide (8 ≤ v.kvWait) && (v.st == .queued || v.st == .running) then { v with kvOut := true } else v))

/-! ## Masks and drafts (12_constrained_decoding R410, R412, R413; 14_speculation R472 to R474) -/

/-- The batch that session i stands in. -/
def State.batchOf (s : State) (i : Nat) : Option (Nat × Batch) := s.batches.find? (fun e => e.2.members.contains i)

/-- Is session i in a speculative step of this turn that is still open? -/
def State.proposing (s : State) (v : Session) : Bool :=
  v.placed ≠ 0 && v.generates && v.spec && v.st == .running && !v.verified && !s.wheel.commit && !s.moduleLost

/-- The mask of position k of a step: all tokens without a grammar, M0, or that of shadow state k; none where it is not
written (12 R408, R410). -/
def State.maskAt (s : State) (v : Session) (k : Nat) : Option Nat :=
  match s.sessGrammar v with
  | none => some (s.sessVocab v).allMask
  | some _ => if k = 0 then v.mask0 else (v.shadow[k - 1]?).map (fun x => x.2.2)

/-- The grammar state of position k of a step (12 R410). -/
def Session.posAt (v : Session) (k : Nat) : GPos :=
  if k = 0 then v.gpos else (v.shadow[k - 1]?).elim v.gpos (fun x => { st := x.1, stack := x.2.1 })

/-- A draft disallowed: it and those after it are gone (12 R410). -/
def State.disallow (s : State) (i : Nat) (v : Session) (k : Nat) : State :=
  (s.modSess i (fun w => { w with drafts := v.drafts.take k, chainStop := true })).count v.part Ctr.draftMasked 1

/-- The shadow state and mask of the next draft position of a session (12 R406, R407, R410). -/
def State.buildMask (s : State) (i : Nat) (v : Session) (g : Grammar) : State :=
  let voc := s.sessVocab v
  let k := v.shadow.length
  match v.drafts[k]? with
  | none => s
  | some d =>
    if !bit ((s.maskAt v k).getD 0) d then s.disallow i v k
    else if (voc.toks.getD d {}).eos then s.modSess i (fun w => { w with drafts := v.drafts.take (k + 1), chainStop := true })
    else
      let t := s.count v.part Ctr.shadowSteps 1
      match g.move (v.posAt k) d with
      | none => t.disallow i v k
      | some q =>
        let m := g.mask voc q
        let u := t.count v.part Ctr.masksBuilt 1
        if m = 0 then u.disallow i v k else u.modSess i (fun w => { w with shadow := w.shadow ++ [(q.st, q.stack, m)] })

/-- MASK_BUILD; it waits while hub SRAM that masks are built from is being reloaded (12 R410; 21_reliability R635). -/
def execMaskBuild (session : Nat) (s : State) : Host.Outcome State Fault Refusal :=
  match KMap.find s.sessions session with
  | none => .next s
  | some v => match s.sessGrammar v with
    | none => .next s
    | some g => if !s.proposing v || v.chainStop || s.sramBad ≠ [] then .next s else .next (s.buildMask session v g)

/-- The sampler of a session (12 R417 to R419). -/
def Session.sampler (v : Session) : Sampler := { temp := v.temp.toNat, invT := fp32.decode v.invT.toNat, seed := v.seed }

/-- Logits of one row. -/
def logitsOf (l : List Word) : List Num := l.map (fun w => fp32.decode w.toNat)

/-- DRAFT_PASS: the draft image proposes one token under the mask of its position, unless LVS, SPEC_MAX or the mask chain has
ended proposing, or the mask is not written (12 R410, R413; 14 R472, R474, R481; 16_scheduling R519). -/
def execDraftPass (session : Nat) (logits : List Word) (tileUs : Nat) (s : State) : Host.Outcome State Fault Refusal :=
  match KMap.find s.sessions session with
  | none => .next s
  | some v =>
    let k := v.drafts.length
    if !s.proposing v || v.proposer ≠ 1 || v.chainStop || v.lvsHit || decide (v.specMax ≤ k) then .next s
    else match s.batchOf session, s.maskAt v k with
      | some (_, b), some m =>
        if b.lvsReached || b.carried then .next s
        else
          let t := ((s.readPages v.part (KMap.findD (s.part v.part).images v.draft {}).passPages).charge v.part (1000 * tileUs)).count v.part Ctr.draftTileUs tileUs
          match v.sampler.pick (v.all.length + k) m (logitsOf logits) with
          | none => .next (t.modSess session (fun w => { w with chainStop := true, draftKv := v.all.length + k }))
          | some d =>
            let stop := v.grammar = 0xFFFF && ((s.sessVocab v).toks.getD d {}).eos
            .next (t.modSess session (fun w => { w with
              drafts := w.drafts ++ [d], proposed := w.proposed + 1, draftKv := v.all.length + k, chainStop := stop }))
      | _, _ => .next s

/-- LVS: draft passes of the batch stop; what they did not propose is counted (14_speculation R474). -/
def execLvs (batch : Nat) (s : State) : Host.Outcome State Fault Refusal :=
  match KMap.find s.batches batch with
  | none => .next s
  | some b =>
    if b.lvsReached || s.wheel.commit || s.moduleLost then .next s
    else
      let t := { s with batches := KMap.put s.batches batch { b with lvsReached := true } }
      .next (b.members.foldl (fun (a : State) i => match KMap.find a.sessions i with
        | none => a
        | some v =>
          if a.proposing v && v.proposer == 1 && !v.chainStop && decide (v.drafts.length < v.specMax) then
            (a.modSess i (fun w => { w with lvsHit := true })).count v.part Ctr.specTrunc (v.specMax - v.drafts.length)
          else a) t)

/-! ## Verification (14_speculation R475) -/

/-- What verification comes to: candidates, drafts accepted, a bonus token, a sampling that chose −∞ or NaN. -/
structure Verdict where
  cand : List Nat
  accepted : Nat
  bonus : Bool
  bad : Bool
  deriving DecidableEq, Repr

/-- The target's samples against the drafts that remain, from position `pos` on (14_speculation R475; 12 R420). -/
def verify (q : Sampler) (mask : Nat → Nat) (rows : List (List Num)) : List Nat → Nat → Nat → Verdict
  | [], i, pos => match q.pick pos (mask i) (rows.getD i []) with
    | none => { cand := [], accepted := 0, bonus := false, bad := true }
    | some x => { cand := [x], accepted := 0, bonus := true, bad := false }
  | d :: t, i, pos => match q.pick pos (mask i) (rows.getD i []) with
    | none => { cand := [], accepted := 0, bonus := false, bad := true }
    | some x =>
      if x = d then
        let r := verify q mask rows t (i + 1) (pos + 1)
        { r with cand := x :: r.cand, accepted := r.accepted + 1 }
      else { cand := [x], accepted := 0, bonus := false, bad := false }

/-- Is every mask that the sampling reaches written (12 R413)? -/
def State.masksReady (s : State) (v : Session) : Bool :=
  v.grammar = 0xFFFF || (v.mask0.isSome && (v.chainStop || decide (v.drafts.length ≤ v.shadow.length)))

/-- VERIFICATION: k + 1 rows of target logits, once the batch's records are complete and the masks written; the ns that it waited for a
mask are told (12 R413, R415 to R420; 14 R474, R475,
R481; log 11). -/
def execVerification (session : Nat) (judged : Judged) (s : State) : Host.Outcome State Fault Refusal :=
  match KMap.find s.sessions session with
  | none => .next s
  | some v => match s.batchOf session with
    | none => .next s
    | some (_, b) =>
      if v.placed = 0 || v.verified || v.st ≠ .running || s.wheel.commit || s.moduleLost || !b.done || b.carried || !v.final v.placed ||
          !s.masksReady v || decide (judged.logits.length < v.drafts.length + 1) then .next s
      else
        let r := verify v.sampler (fun i => (s.maskAt v i).getD 0) (judged.logits.map logitsOf) v.drafts 0 v.all.length
        let t := (s.count v.part Ctr.maskWaitNs judged.maskWaitNs).modSess session (fun w => { w with cand := r.cand, badLogits := r.bad, verified := true })
        if !(v.generates && v.spec) then .next t
        else .next (((((t.count v.part Ctr.specSteps 1).count v.part Ctr.specProposed v.proposed).count v.part Ctr.specAccepted
          r.accepted).count v.part Ctr.specRejected (v.drafts.length - r.accepted)).count v.part Ctr.specBonus (if r.bonus then 1 else 0))

end Sys2Proof.Machine
end

