-- ==== Sys2Proof/Machine/Chain.lean ====
section
/-! DEFINITION. CHAIN: embedding, searching, reranking, packing and generating as one request (09_vector_search R325 to R327,
18_queues R587, 01_architecture R28, R29). -/

namespace Sys2Proof.Machine

/-! ## Acceptance -/

/-- The search fields of a CHAIN (18_queues R587). -/
def chainQ (a : ChainArgs) : SearchQ :=
  { nprobe := a.nprobe, k := a.k, ef := a.ef, maxVisit := a.maxVisit, mask := a.attrMask, flags := a.chflags, shard := 0 }

/-- Are the fields of a CHAIN outside the ranges of R587? -/
def chainBad (a : ChainArgs) : Bool :=
  a.queryLen == 0 || decide (65536 < a.queryLen) || decide (2 < a.policy) || decide (a.k < a.rrCnt) ||
    (a.rrCnt == 0 && a.rrImg ≠ 0xFFFF) ||
    (a.rrCnt ≠ 0 && (a.rrTop == 0 || decide (a.rrCnt < a.rrTop) || decide (a.rrPairLimit < 32) || decide (8192 < a.rrPairLimit)))

/-- Is the vocabulary one that cannot take a policy (11_text_engine R372)? -/
def policyBad (v : Vocab) (policy : Nat) : Bool := policy == 2 && v.alg == 1 && !v.byteFallback

/-- The handles, the index fields, the session and the channel of a CHAIN (18_queues R567 step 7, R587; 05 R178). -/
def State.chainChecks (s : State) (p q tag : Nat) (a : ChainArgs) : List (Bool × Nat) :=
  let enc := s.image? p a.encImg
  let ix := s.index? p a.index tag
  let ses := s.session? p a.session
  [(enc.isNone || (a.rrCnt ≠ 0 && (s.image? p a.rrImg).isNone), Code.imageNotLoaded),
   (enc.elim false (fun i => i.kind ≠ 3), Code.fieldInvalid),
   ((s.vocab? p a.qvocab).isNone, Code.vocabNotLoaded),
   ((s.vocab? p a.qvocab).elim false (fun v => policyBad v a.policy), Code.byteFallbackAbsent),
   (ix.isNone, Code.indexInvalid), (ix.elim false (fun x => decide (x.npart < a.nprobe)), Code.searchParamInvalid),
   ((s.template? p a.template 0).isNone, Code.templateInvalid),
   (ses.isNone, Code.sessionInvalid), (ses.elim false (fun v => !(v.st == .idle)), Code.sessionBusy),
   (s.barred p q a.encImg || (a.rrCnt ≠ 0 && s.barred p q a.rrImg) || ses.elim false (s.sessBarred p q), Code.dataflowInvalid)]

/-- A per-stage completion, where STAGE_CPL asks for it (09_vector_search R326). -/
def State.stagePost (s : State) (e : CmdE) (n status result : Nat) : State :=
  if bit (argsChain e.pb).stageCpl n then s.stageOver e n status result else s

/-- A template kept no longer by a command (18_queues R589). -/
def State.dropUser (s : State) (p h tag : Nat) : State :=
  s.modPart p (fun w => { w with templates := KMap.mod w.templates h (fun t => { t with users := t.users.filter (fun x => x ≠ tag) }) })

/-- What a CHAIN holds until its PACK stage is over: the pin and the template (09_vector_search R297, 18_queues R589). -/
def State.chainRelease (s : State) (e : CmdE) : State :=
  let a := argsChain e.pb
  (s.unpinIndex e.part a.index e.tag).dropUser e.part a.template e.tag

/-- Stage n of a CHAIN failed with a status that writes no results: its intermediate results are given up (01_architecture R28;
09_vector_search R327). -/
def State.chainFail (s : State) (e : CmdE) (n status result : Nat) : State :=
  let p := s.stagePost e n status result
  let q := match KMap.find p.chains e.tag with | none => p | some c => p.chainPages c
  let t := { q with chains := KMap.del q.chains e.tag }
  (t.done (t.entry e) Code.chainStageFailed n).chainRelease e

/-! ## Intermediate results (01_architecture R28; which pages hold them, and how: DESIGN CHOICE, log 39) -/

/-- Result k of a CHAIN: query tokens, code, candidates, ranking, prompt. -/
def State.chainResult (s : State) (c : Chain) (k : Nat) : List Byte :=
  match KMap.find c.results k with
  | none => []
  | some (p, n) => s.dev.readN (65536 * p) n

/-- The CHAIN with result k in pages of its partition, taken for it; none where the partition has none left. -/
def State.chainStore (s : State) (c : Chain) (k : Nat) (bs : List Byte) : Option State :=
  (s.alloc c.part (ceilDiv bs.length 65536) 1 (BitVec.ofNat 16 0)).map (fun a =>
    let t := a.2.devPut (65536 * a.1) bs
    { t with chains := KMap.put t.chains c.tag { c with results := KMap.put c.results k (a.1, bs.length) } })

/-- The pages that hold a CHAIN's results. -/
def Chain.pages (c : Chain) : List Nat := c.results.flatMap (fun e => (List.range (ceilDiv e.2.2 65536)).map (fun i => e.2.1 + i))

/-- The query's tokens, its code, the candidates, and the order in which they are packed. -/
def State.chainToks (s : State) (c : Chain) : List Nat := words 4 (s.chainResult c 0)
def State.chainCode (s : State) (c : Chain) : Nat := leNat (s.chainResult c 1)
def State.chainItems (s : State) (c : Chain) : List ItemEl :=
  let b := s.chainResult c 2
  InRec.items { hdr := readHdr b, bytes := b }
def State.chainOrder (s : State) (c : Chain) : List Nat :=
  let b := s.chainResult c 3
  if b.isEmpty then List.range (s.chainItems c).length else (pieces 8 (readHdr b).valid (b.drop 32)).map (fun x => field x 4 4)

/-- CHAIN: accepted, its query read and tokenised (18_queues R587; 05 R178; 11_text_engine R381, R384). -/
def execChain (r : Ref) (a : ChainArgs) (s : State) : Host.Outcome State Fault Refusal :=
  s.command r 0x70 (fun e => argsChain e.pb == a) (fun s e =>
    s.checked e
      ([(chainBad a, Code.fieldInvalid), ((chainQ a).bad, Code.searchParamInvalid)] ++ s.chainChecks e.part e.queue e.tag a)
      (fun _ => match s.readBuf e.part (bit a.chflags 3) a.queryAddr a.queryLen with
        | .error c => s.reject e c
        | .ok (bs, t) =>
          let v := KMap.findD s.vocabs a.qvocab {}
          let held := t.modPart e.part (fun w => { w with templates := KMap.mod w.templates a.template (fun x =>
            { x with users := x.users ++ [e.tag] }) })
          let k := held.keep { e with aux := [a.encImg, a.rrImg] }
          match v.segment a.qvocab a.policy true {} bs with
          | .error off => k.chainFail e 0 Code.inputIllFormed off
          | .ok o => match k.chainStore { tag := e.tag, part := e.part } 0 (o.toks.flatMap (leBytes 4)) with
            | none => k.chainFail e 0 Code.poolExhausted 0
            | some u => ((u.count e.part Ctr.tokBytesIn a.queryLen).count e.part Ctr.tokTokensOut o.toks.length).count e.part
                Ctr.illformedSub o.ill))

/-! ## Stages (09_vector_search R325, R326; 01_architecture R29) -/

/-- EMBED: the encoder's code of the query (09_vector_search R325; log 11). -/
def State.chainEmbed (s : State) (e : CmdE) (a : ChainArgs) (c : Chain) (code : Nat) : State :=
  if s.tooWide e.part a.encImg then s.chainFail e 0 Code.gangSizeInvalid 0
  else match KMap.find (s.part e.part).indexes a.index with
    | none => (s.stagePost e 0 0 0).chainFail e 1 Code.indexInvalid 0
    | some ix => match s.chainStore { c with stage := 1 } 1 (leBytes (ix.bits / 8) (code % 2 ^ ix.bits)) with
      | none => s.chainFail e 0 Code.poolExhausted 0
      | some t => t.stagePost e 0 0 0

/-- SEARCH with QCNT 1, pinned until PACK is over (09_vector_search R297, R325, R326; log 14). -/
def State.chainSearch (s : State) (e : CmdE) (a : ChainArgs) (c : Chain) : State :=
  match s.index? e.part a.index e.tag with
  | none => s.chainFail e 1 Code.indexInvalid 0
  | some ix =>
    let ep := ix.readEpoch e.tag
    let r := s.searchOne ix (chainQ a) ep (s.chainCode c)
    match s.chainStore { c with stage := if a.rrCnt = 0 then 3 else 2 } 2 r.1 with
    | none => s.chainFail e 1 Code.poolExhausted 0
    | some t => (t.searched e.part a.index 1 [r]).stagePost e 1 0 (ep + 2 ^ 48 * (readHdr r.1).valid)

/-- RERANK of the first RR_CNT entries (09_vector_search R319, R320, R325, R326; logs 11, 14). -/
def State.chainRerank (s : State) (e : CmdE) (a : ChainArgs) (c : Chain) (scores : List Word) : State :=
  match KMap.find (s.part e.part).images a.rrImg, s.index? e.part a.index e.tag with
  | some im, some ix =>
    let items := ((s.chainItems c).take a.rrCnt).map (fun i => (i.id, i.epoch))
    if s.tooWide e.part a.rrImg then s.chainFail e 2 Code.gangSizeInvalid 0
    else if rerankBad im ix then s.chainFail e 2 Code.searchParamInvalid 0
    else if scores.length ≠ items.length then s
    else
      let els := ix.scored items scores
      let gone := items.length - els.length
      let row := topkRow true false a.rrTop els
      match s.chainStore { c with stage := 3 } 3 row with
      | none => s.chainFail e 2 Code.poolExhausted 0
      | some t => (t.modIndex e.part a.index (fun x => { x with ctr := bump x.ctr IxCtr.passageGoneCnt gone })).stagePost e 2
          (if gone = 0 then 0 else Code.passageGone) (field row 32 4 + 2 ^ 32 * (readHdr row).valid)
  | _, _ => s.chainFail e 2 Code.searchParamInvalid 0

/-- The GENERATE stage begins: the session's prefill and turns; the intermediate results are over (01_architecture R28;
09_vector_search R325; 13_serving R430 to R432; 18_queues R568). -/
def State.chainGenerate (s : State) (e : CmdE) (a : ChainArgs) (toks : List Nat) : State :=
  match s.session? e.part a.session with
  | none => s.chainFail e 4 Code.sessionInvalid 0
  | some v =>
    if !(v.st == .idle) then s.chainFail e 4 Code.sessionBusy 0
    else if v.ctx.length + toks.length = 0 || decide (v.maxCtx < v.ctx.length + toks.length) then s.chainFail e 4 Code.contextExceeded 0
    else
      let t := s.beginGen a.session e.tag toks a.maxNew a.firstDl a.endDl e.acceptTurn true
      match KMap.find t.chains e.tag with
      | none => t
      | some c => { t.chainPages c with chains := KMap.put t.chains e.tag { c with results := [] } }

/-- PACK with the passages the chain has, then the GENERATE stage (09_vector_search R297, R320 to R327; log 14). -/
def State.chainPack (s : State) (e : CmdE) (a : ChainArgs) (c : Chain) : State :=
  match s.template? e.part a.template e.tag, s.index? e.part a.index e.tag with
  | some t, some ix =>
    let q := s.chainToks c
    if t.vocab ≠ ix.vocab || t.vocabId ≠ ix.vocabId || decide (a.budget < t.fixed q) then s.chainFail e 3 Code.packBudgetInvalid 0
    else
      let psgs := (s.chainOrder c).map (fun i => ((s.chainItems c)[i]?).bind (fun x => ix.passage x.id x.epoch))
      let gone := (psgs.filter Option.isNone).length
      let o := t.pack (bit a.chflags 2) a.budget (psgs.filterMap id) q
      match s.chainStore { c with stage := 4 } 4 (o.1.flatMap (leBytes 4)) with
      | none => s.chainFail e 3 Code.poolExhausted 0
      | some u =>
        (((u.modIndex e.part a.index (fun x => { x with ctr := bump x.ctr IxCtr.passageGoneCnt gone })).stagePost e 3
          (if gone = 0 then 0 else Code.passageGone) (o.1.length + 2 ^ 32 * o.2.used)).chainRelease e).chainGenerate e a o.1
  | _, _ => s.chainFail e 3 Code.templateInvalid 0

/-- Pages that a CHAIN's next stage reads: its results, with the encoder's, the probed blocks' or the cross-encoder's (08_memory_tiers
R250, R264, R268; 09_vector_search R304). -/
def State.chainReads (s : State) (e : CmdE) (a : ChainArgs) (c : Chain) : List Nat :=
  c.pages ++ (match c.stage with
    | 0 => (KMap.findD (s.part e.part).images a.encImg {}).passPages
    | 1 => (match s.index? e.part a.index e.tag with | none => [] | some ix => s.searchPages ix a.nprobe [s.chainCode c])
    | 2 => (KMap.findD (s.part e.part).images a.rrImg {}).passPages
    | _ => [])

/-- CHAIN_STAGE_COMPLETE: the chain's next stage has run, in a turn in which batch formation placed it, once its pages are at hand;
EMBED has the encoder's code, RERANK the cross-encoder's scores (01_architecture R29; 09_vector_search R297, R325 to R327; log 11). -/
def execChainStageComplete (r : Ref) (code : Nat) (scores : List Word) (s : State) : Host.Outcome State Fault Refusal :=
  match s.inflight.find? (fun e => e.part = r.part && e.queue = r.queue && e.cid = r.cid && e.opc = 0x70 && e.st == .running) with
  | none => .next s
  | some e => match KMap.find s.chains e.tag with
    | none => .next s
    | some c =>
      let a := argsChain e.pb
      if c.placed ≤ c.stage || decide (4 ≤ c.stage) || s.moduleLost then .next s
      else
        let p := if c.stage = 1 && (s.index? e.part a.index e.tag).isSome then s.pinIndex e.part a.index e.tag else s
        let ks := p.chainReads e a c
        if p.anyLost ks then .next (p.chainFail e c.stage Code.pageLost 0)
        else match p.hold e ks with
          | some held => .next held
          | none =>
            let t := (p.setCmd { e with wait := [] }).readPages e.part ks
            match c.stage with
            | 0 => .next (t.chainEmbed e a c code)
            | 1 => .next (t.chainSearch e a c)
            | 2 => .next (t.chainRerank e a c scores)
            | _ => .next (t.chainPack e a c)

end Sys2Proof.Machine
end

