-- ==== Sys2Proof/Machine/Commit.lean ====
section
/-! DEFINITION. The commit of a turn: carrying and firing, detokenising and stop strings, the committed grammar state, newly full
blocks, stream records, completions, tails and vectors (15_wheel R495 to R499; 14_speculation R473, R477 to R479; 13_serving
R436, R442, R444, R453 to R456, R458, R460; 12_constrained_decoding R409, R414, R420, R421; 11_text_engine R385 to R391;
18_queues R573 to R576; 21_reliability R645, R647). -/

namespace Sys2Proof.Machine

/-! ## Stream records (13_serving R453; 18_queues R574, R575) -/

/-- Bits of RFLAGS below PACE (13_serving R453). -/
structure RFlags where
  final : Bool := false
  stopped : Bool := false
  late : Bool := false
  carried : Bool := false
  dropped : Bool := false
  prompt : Bool := false
  deriving DecidableEq, Repr

/-- RFLAGS under a pacing state (13_serving R453; 15_wheel R488). -/
def RFlags.code (f : RFlags) (pace : Nat) : Nat :=
  flag f.final 0 + flag f.stopped 1 + flag f.late 2 + flag f.carried 3 + flag f.dropped 4 + flag f.prompt 5 + 64 * (pace % 4)

/-- A stream record (13_serving R453). -/
def streamRecord (rflags status session genSeq turn fired total : Nat) (bytes : List Byte) (ids : List Nat) : List Byte :=
  let body := bytes ++ zeros (roundUp bytes.length 4 - bytes.length) ++ ids.flatMap (leBytes 4)
  let len := roundUp (40 + body.length) 16
  leBytes 4 len ++ leBytes 2 rflags ++ leBytes 2 status ++ leBytes 4 session ++ leBytes 4 genSeq ++ leBytes 8 turn ++
    leBytes 2 fired ++ leBytes 2 bytes.length ++ leBytes 4 ids.length ++ leBytes 4 total ++ zeros 4 ++ body ++
    zeros (len - 40 - body.length)

/-- A pad record of n bytes (18_queues R574). -/
def padRecord (n : Nat) : List Byte := leBytes 4 n ++ zeros 4 ++ leBytes 4 0xFFFFFFFF ++ zeros (n - 12)

/-- One record at the write offset of a stream ring, after a pad where it would cross the end; or counted in DISABLE_DROP, or
nothing once the module is lost or locked (18_queues R574; 16 R533; 21 R650). -/
def State.putRecord (s : State) (p q : Nat) (bs : List Byte) : State :=
  if !s.ringsLive then s
  else if !s.ringOk p q then s.count p Ctr.disableDrop 1
  else
    let k := s.queue p q
    let size := 2 ^ k.strLog2
    let pad := if size < k.strWr + bs.length then size - k.strWr else 0
    let at' := if pad = 0 then k.strWr else 0
    let m := if pad = 0 then s.hostMem else s.hostMem.writeN (k.sqBase + k.strWr) (padRecord pad)
    ({ s with hostMem := m.writeN (k.sqBase + at') bs }.modQueue p q (fun v => { v with
      strWr := (at' + bs.length) % size, strDirty := true })).count p Ctr.streamBytes (pad + bs.length)

/-- The record of session i as it stands now (13_serving R453). -/
def State.record (s : State) (i : Nat) (f : RFlags) (status fired : Nat) (bytes : List Byte) (ids : List Nat) : State :=
  match KMap.find s.sessions i with
  | none => s
  | some v => s.putRecord v.part v.streamQ
      (streamRecord (f.code s.wheel.pace) status i v.genSeq s.turn fired v.tokTotal bytes ids)

/-- GEN_SEQ risen at the first commit of a generation (13_serving R453; 14_speculation R466). -/
def State.seqUp (s : State) (i : Nat) : State :=
  s.modSess i (fun v => if v.seqDue then { v with genSeq := v.genSeq + 1, seqDue := false } else v)

/-! ## Detokenising (11_text_engine R385 to R391) -/

/-- A session's detokeniser in a commit, and the U+FFFD made. -/
structure Detok where
  text : Utf8
  stop : StopSt
  repl : Nat
  deriving DecidableEq, Repr

/-- The detokeniser of a session as it stands (11_text_engine R386, R387). -/
def Session.detok (v : Session) : Detok :=
  { text := { held := v.utf8Held, first := v.dropSpace }, stop := { held := v.stopHeld, out := [], stopped := false }, repl := 0 }

/-- Bytes of one token, one after another until a stop string ends them: what the UTF-8 stage holds then is discarded
(11_text_engine R389). -/
def Detok.bytes (addPrefix incl : Bool) (stops : List (List Byte)) : List Byte → Detok → Detok
  | [], d => d
  | b :: t, d =>
    if d.stop.stopped then { d with text := { d.text with held := [] } }
    else
      let u := d.text.take addPrefix [b]
      let q := d.stop.chars stops incl u.1
      Detok.bytes addPrefix incl stops t { text := if q.stopped then { u.2.1 with held := [] } else u.2.1, stop := q
                                           repl := d.repl + u.2.2 }

/-- The flush of an end without a stop match (11_text_engine R391). -/
def Detok.flush (addPrefix incl : Bool) (stops : List (List Byte)) (d : Detok) : Detok :=
  if d.stop.stopped then d
  else
    let u := d.text.flush addPrefix
    let q := d.stop.chars stops incl u.1
    { text := u.2.1, stop := if q.stopped then q else { q with out := q.out ++ q.held, held := [] }, repl := d.repl + u.2.2 }

/-- The flush of session v (11_text_engine R391). -/
def State.flushOf (s : State) (v : Session) (d : Detok) : Detok := d.flush (s.sessVocab v).addPrefix (v.sf 1) v.stops

/-- What a flush or a firing counts (11_text_engine R395). -/
def State.countDetok (s : State) (p : Nat) (d : Detok) : State :=
  (s.count p Ctr.detokReplaced d.repl).count p Ctr.stopMatches (if d.stop.stopped then 1 else 0)

/-! ## Firing (14_speculation R477; 12 R409, R414, R420, R421; 13 R433) -/

/-- Candidates fired so far: tokens, detokeniser, grammar state, end reason. -/
structure Fired where
  toks : List Nat
  detok : Detok
  pos : GPos
  reason : Option Nat
  deriving DecidableEq, Repr

/-- Candidates fired in order until one ends the list (14_speculation R477; 11_text_engine R389 to R391). -/
def fireAll (v : Session) (voc : Vocab) (g : Option Grammar) : List Nat → Fired → Fired
  | [], f => f
  | x :: t, f =>
    if f.reason.isSome then f
    else if v.maxCtx ≤ v.all.length + f.toks.length then { f with reason := some 3 }
    else
      let n := f.toks.length + 1
      if (voc.toks.getD x {}).eos then { f with toks := f.toks ++ [x], reason := some 0 }
      else
        let d := f.detok.bytes voc.addPrefix (v.sf 1) v.stops (voc.tokBytes x)
        let q := ((g.bind (fun h => h.move f.pos x)).getD f.pos)
        fireAll v voc g t {
          toks := f.toks ++ [x], detok := d, pos := q
          reason := if d.stop.stopped then some 1
            else if v.genMax ≤ v.tokTotal + n then some 2
            else if v.maxCtx ≤ v.all.length + n then some 3
            else none }

/-- How the firing of a commit ends: reason and status, none where the generation goes on, and M0 where one is built
(13 R433; 12 R411, R414, R420, R421). -/
def State.fireEnd (s : State) (v : Session) (f : Fired) : Option (Nat × Nat) × Option Nat :=
  let voc := s.sessVocab v
  let g := s.sessGrammar v
  let m := g.map (fun h => h.mask voc f.pos)
  match f.reason with
  | some r =>
    let limit := (r == 2 || r == 3) && (match m with | none => false | some x => x &&& voc.eosMask == 0)
    (some (if limit then (4, Code.grammarIncomplete) else (r, 0)), none)
  | none =>
    if v.badLogits then (some (5, Code.logitsNonfinite), none)
    else if m = some 0 then (some (4, Code.grammarDeadEnd), m)
    else (none, m)

/-- Status of an end counted (12 R424). -/
def State.countEnd (s : State) (p status : Nat) : State :=
  if status = Code.grammarIncomplete then s.count p Ctr.grammarIncompleteCnt 1
  else if status = Code.logitsNonfinite then s.count p Ctr.logitsNonfiniteCnt 1
  else if status = Code.grammarDeadEnd then s.count p Ctr.grammarDeadEndCnt 1
  else s

/-! ## Proposals of the n-gram proposer (14_speculation R473) -/

/-- The proposals after a context, at most `max` (14_speculation R473). -/
def ngram (fired : List Nat) (max : Nat) : List Nat :=
  let ctx := fired.drop (fired.length - 4096)
  (([4, 3, 2] : List Nat).findSome? (fun n =>
    if ctx.length ≤ n then none
    else
      let tail := ctx.drop (ctx.length - n)
      ((List.range (ctx.length - n)).reverse.find? (fun j => (ctx.drop j).take n == tail)).map (fun j =>
        (ctx.drop (j + n)).take max))).getD []

/-! ## Blocks after a commit (13_serving R436, R442; 14_speculation R478; 21_reliability R645) -/

/-- Full blocks of a context whose first `kv` positions are computed, the pending last one counted as fired (13_serving R436). -/
def fullBlocks (ctx kv : Nat) : Nat := if ctx ≤ kv + 1 then ctx / 32 else kv / 32

/-- Leading blocks of a table that are sealed already. -/
def State.sealedLen (s : State) (l : List BlkRef) : Nat :=
  (l.takeWhile (fun r => (s.kvBlk r).elim false KvBlk.sealed)).length

/-- The newly full blocks of session i inserted and sealed (13_serving R442; 21_reliability R645; 14_speculation R472). -/
def State.fillSession (s : State) (i : Nat) : State :=
  match KMap.find s.sessions i with
  | none => s
  | some v =>
    let t := s.fillBlocks v v.image v.glaze v.ctx v.blocks (s.sealedLen v.blocks) (fullBlocks v.ctx.length v.kvLen)
    if v.draft = 0xFFFF then t
    else t.fillBlocks v v.draft 0 v.ctx v.draftBlocks (t.sealedLen v.draftBlocks) (min v.ctx.length v.draftKv / 32)

/-! ## The positions of a finished step (13_serving R436, R463; 21_reliability R647) -/

/-- Where a finished step of session v has computed up to. -/
def Session.stepTo (v : Session) : Nat := min v.all.length (v.from' + v.placed)

/-- Positions of a finished step that a recovery recomputes (21_reliability R647, R653). -/
def Session.recovered (v : Session) : Nat :=
  if v.recovering then min v.stepTo (if v.prompt.isEmpty then v.ctx.length - 1 else v.ctx.length) - v.from' else 0

/-- Prompt positions that a finished step computes (13_serving R463). -/
def Session.promptDone (v : Session) : Nat := v.stepTo - max v.from' v.ctx.length

/-- A finished step's positions: computed, its prompt tokens fired, what it took from the prefix index counted (13_serving R436,
R463; 21_reliability R653). -/
def State.stepDone (s : State) (i : Nat) (v : Session) : State :=
  let n := max v.ctx.length v.stepTo
  (((s.modSess i (fun w => { w with
    ctx := v.all.take n, prompt := v.all.drop n, kvLen := max w.kvLen v.stepTo, hitsDue := 0 })).count v.part Ctr.promptTokens
      v.promptDone).count v.part Ctr.prefixHitTokens v.hitsDue).devCount Ctr.kvRecoverPos v.recovered

/-! ## Late ends (13_serving R444, R461) -/

/-- Is the turn past the end deadline of a generation (13_serving R444)? -/
def Session.endLate (v : Session) (turn : Nat) : Bool := v.endDl ≠ 0 && decide (v.arrival + v.endDl ≤ turn)

/-- Is the turn past the deadline of the first token, which fires in this commit (13_serving R444)? -/
def Session.firstLate (v : Session) (turn : Nat) : Bool :=
  v.firstDl ≠ 0 && !v.hitFirst && decide (v.arrival + v.firstDl ≤ turn)

/-- A generation retired late with no token fired; a carried one's record brings no bytes, what it holds goes with its session
(03 R91; 13_serving R444, R455; log 27). -/
def State.retireLate (s : State) (i : Nat) (v : Session) (carried : Bool) : State :=
  let t := s.count v.part Ctr.deadlineMissedCnt 1
  let w := KMap.findD t.sessions i v
  if v.sf 0 && carried then
    ((t.record i { final := true, late := true, carried := true } Code.deadlineMissed 0 [] []).genDone w Code.deadlineMissed 6 w.tokTotal
      false).endSession i
  else if v.sf 0 then
    let d := t.flushOf w w.detok
    ((((t.countDetok v.part d).record i { final := true, late := true, stopped := d.stop.stopped } Code.deadlineMissed 0
        d.stop.out []).genDone w Code.deadlineMissed 6 w.tokTotal false)).endSession i
  else
    ((t.record i { final := true, late := true, dropped := true, carried := carried } Code.deadlineMissed 0 [] []).genDone w
      Code.deadlineMissed 6 w.tokTotal true).endSession i

/-! ## Cancelled sessions (13_serving R456; 21_reliability R631) -/

/-- What has become of the step of a session at t + P − c. -/
inductive StepEnd where
  /-- none was placed. -/
  | none
  /-- its batch never got a gang (16_scheduling R518). -/
  | notRun
  /-- it is carried (15_wheel R495). -/
  | carried
  /-- it has finished. -/
  | done
  deriving DecidableEq, Repr

/-- The step of session i at the end of the compute window (15_wheel R495; 16_scheduling R518; 21_reliability R647). -/
def State.stepEnd (s : State) (i : Nat) (v : Session) : StepEnd :=
  if v.placed = 0 then .none
  else match s.batchOf i with
    | none => .carried
    | some (_, b) =>
      let waits := match KMap.find s.tasks b.task with
        | none => false
        | some k => k.tiles.isEmpty
      if !b.done && !b.carried && b.recDone.isEmpty && waits then .notRun
      else if b.carried || !b.done || (v.st == .running && v.final v.placed && !v.verified) then .carried
      else .done

/-- A session whose cancellation takes effect, freed: the positions of a finished step are computed all the same, its output is
dropped (13_serving R456; 14_speculation R477; 21_reliability R631). -/
def State.commitCancel (s : State) (i : Nat) (v : Session) : State :=
  let status := if v.cancelStatus = 0 then Code.cancelled else v.cancelStatus
  let t := if status = Code.cancelled then s.count v.part Ctr.cancelledCnt 1 else s
  if v.st == .queued || v.st == .running then
    let a := (t.count v.part Ctr.specCut v.cand.length).seqUp i
    let b := if s.stepEnd i v = .done then (a.stepDone i v).fillSession i else a
    ((b.record i { final := true, dropped := true } status 0 [] []).genDone v status 7 v.tokTotal true).endSession i
  else t.endSession i

/-! ## Carried steps (03_narrow_arithmetic R89, R90; 14_speculation R479; 15_wheel R498, R499) -/

/-- The counter of a carried sequence (15_wheel R499). -/
def carryCtr (v : Session) : Option Batch → Nat
  | none => Ctr.faultCarrySeq
  | some b =>
    if b.lrsCarry then Ctr.refireCarrySeq
    else if v.recovering || b.faultCarry || b.faulted || b.anchorLost || (b.faults ≠ 0 && !b.done) then Ctr.faultCarrySeq
    else if b.stalled && !b.done then Ctr.tierCarrySeq
    else if b.refired.isSome && !b.done then Ctr.refireCarrySeq
    else Ctr.wheelCarrySeq

/-- The layers that the next step of a carried sequence runs wide: the one whose trip caused the carry (03 R90; 15 R498). -/
def carryWide (v : Session) (b : Option Batch) : List Nat :=
  if carryCtr v b ≠ Ctr.refireCarrySeq then []
  else match b with
    | none => []
    | some x => if x.lrsCarry then [x.layer] else x.refired.toList

/-- Session i carried: counted, its greenware gone (14_speculation R479; 15_wheel R498, R499). -/
def State.carry (s : State) (i : Nat) (v : Session) : State :=
  let b := (s.batchOf i).map Prod.snd
  ((((s.modSess i (fun w => { w with
    carried := true, wide := carryWide v b, cand := [], badLogits := false, verified := false, drafts := [], shadow := []
    chainStop := false, draftKv := min w.draftKv w.ctx.length, placed := 0, hitsDue := 0 })).count v.part Ctr.specCut
      v.cand.length).count v.part (carryCtr v b) 1).count v.part Ctr.prefixHitTokens v.hitsDue)

/-- A carried generation: its late check, or its record flagged CARRIED (13_serving R444, R455, R461). -/
def State.commitCarry (s : State) (i : Nat) (v : Session) : State :=
  let t := (s.carry i v).seqUp i
  if v.endLate s.turn then t.retireLate i v true else t.record i { carried := true } 0 0 [] []

/-! ## Finished steps -/

/-- A finished chunk that leaves prompt positions to compute: a record with nothing fired; a recovering session's is CARRIED
(13_serving R453; 21_reliability R647). -/
def State.commitChunk (s : State) (i : Nat) (v : Session) : State :=
  let t := (s.seqUp i).stepDone i v
  let u := (t.modSess i (fun w => { w with placed := 0, carried := v.recovering, wide := [] })).fillSession i
  let c := if v.recovering then u.count v.part Ctr.faultCarrySeq 1 else u
  if v.endLate s.turn then c.retireLate i v v.recovering else c.record i { carried := v.recovering } 0 0 [] []

/-- The PROMPT record of a generation whose prefill is complete (13_serving R454). -/
def State.echo (s : State) (i : Nat) (v : Session) : State :=
  if v.sf 4 && !v.echoed && !v.promptToks.isEmpty then
    (s.record i { prompt := true } 0 0 [] v.promptToks).modSess i (fun w => { w with echoed := true })
  else s

/-- The stage 4 completion of a CHAIN, in the commit that fires its first token (18_queues R587). -/
def State.firstFired (s : State) (v : Session) (fired : List Nat) : State :=
  match s.cmd v.genTag with
  | none => s
  | some e =>
    if v.chain && !v.hitFirst && !fired.isEmpty && bit (argsChain e.pb).stageCpl 4 then s.stageOver e 4 0 (s.turn % 2 ^ 64) else s

/-- Session i after its candidates have fired: context, KV, detokeniser and grammar state, block table (14_speculation R478;
12_constrained_decoding R409; 11_text_engine R385 to R389). -/
def State.settleFired (s : State) (i : Nat) (v : Session) (f : Fired) (d : Detok) (m0 : Option Nat) : State :=
  let ctx := v.all ++ f.toks
  let keep := ceilDiv ctx.length 32
  ((s.unrefAll (v.blocks.drop keep)).unrefAll (v.draftBlocks.drop keep)).modSess i (fun w => { w with
    ctx := ctx, prompt := [], kvLen := ctx.length - 1, draftKv := min w.draftKv (ctx.length - 1)
    blocks := w.blocks.take keep, draftBlocks := w.draftBlocks.take keep
    gst := f.pos.st, gstack := f.pos.stack, mask0 := m0, shadow := [], drafts := [], cand := [], chainStop := false, badLogits := false
    utf8Held := d.text.held, stopHeld := d.stop.held, dropSpace := d.text.first, emitted := w.emitted || !d.stop.out.isEmpty
    tokTotal := w.tokTotal + f.toks.length, hitFirst := w.hitFirst || !f.toks.isEmpty
    nextDrafts := if w.proposer = 2 then ngram ctx w.specMax else w.nextDrafts
    recovering := false, carried := false, wide := [], placed := 0, verified := false })

/-- The commit of a step that has sampled: the candidates fire, or none in a late commit under DROP_LATE (13_serving R444, R461;
14_speculation R477, R478; 15_wheel R496). -/
def State.commitFire (s : State) (i : Nat) (v : Session) : State :=
  let voc := s.sessVocab v
  let g := s.sessGrammar v
  let t := ((s.seqUp i).stepDone i v).echo i v
  let f := fireAll v voc g v.cand { toks := [], detok := v.detok, pos := v.gpos, reason := if v.maxCtx ≤ v.all.length then some 3 else none }
  let late := v.endLate s.turn || (v.firstLate s.turn && !f.toks.isEmpty)
  if late && !v.sf 0 then
    ((t.fillSession i).count v.part Ctr.specCut v.cand.length).retireLate i v false
  else
    let e := s.fireEnd v f
    let ends := late || e.1.isSome
    let d := if ends then s.flushOf v f.detok else f.detok
    let status := if late then Code.deadlineMissed else if d.stop.stopped && f.reason ≠ some 1 then 0 else (e.1.map Prod.snd).getD 0
    let reason := if late then 6 else if d.stop.stopped then 1 else (e.1.map Prod.fst).getD 0
    let a := (((((t.count v.part Ctr.specCut (v.cand.length - f.toks.length)).count v.part Ctr.genTokens f.toks.length).count v.part
      Ctr.detokTokens f.toks.length).countDetok v.part d).countEnd v.part status).count v.part Ctr.masksBuilt
        (if e.2.isSome then 1 else 0)
    let b := (a.settleFired i v f d (if ends then none else e.2)).fillSession i
    let r := b.record i { final := ends, stopped := d.stop.stopped, late := late } (if ends then status else 0) f.toks.length d.stop.out
      (if v.sf 3 then f.toks else [])
    let w := r.firstFired v f.toks
    let x := KMap.findD w.sessions i v
    if late then ((w.count v.part Ctr.deadlineMissedCnt 1).genDone x status reason x.tokTotal false).endSession i
    else if ends then (w.genDone x status reason x.tokTotal false).idle i
    else w

/-- A generation that has found no KV block for 8 turns: flushed, FINAL, IDLE (13_serving R437). -/
def State.commitKvOut (s : State) (i : Nat) (v : Session) : State :=
  let d := s.flushOf v v.detok
  let t := (((s.seqUp i).countDetok v.part d).modSess i (fun w => { w with
    utf8Held := [], stopHeld := [], dropSpace := d.text.first, emitted := w.emitted || !d.stop.out.isEmpty }))
  (((t.record i { final := true, stopped := d.stop.stopped } Code.kvExhausted 0 d.stop.out []).genDone v Code.kvExhausted 8 v.tokTotal
    false).idle i)

/-! ## Shadows (13_serving R458, R460) -/

/-- The first feed of a shadow complete: context, KV, grammar state and full blocks (13_serving R458). -/
def State.feedDone (s : State) (i : Nat) (v : Session) : State :=
  match v.feeds with
  | [] => s
  | f :: rest =>
    let ctx := v.ctx ++ f.toks
    let voc := s.sessVocab v
    let q := match s.sessGrammar v with
      | none => v.gpos
      | some g => f.toks.foldl (fun (a : GPos) x => if (voc.toks.getD x {}).eos then a else (g.move a x).getD a) v.gpos
    let t := (s.modSess i (fun w => { w with
      ctx := ctx, kvLen := if w.kvLen = v.ctx.length then ctx.length else w.kvLen, gst := q.st, gstack := q.stack, feeds := rest
      placed := 0, carried := false, wide := [] })).fillSession i
    match t.cmd f.tag with
    | none => t
    | some e => t.done e 0 (ctx.length + f.pturn * 2 ^ 32)

/-- A shadow promoted: IDLE, its detokeniser empty; feeds not yet in are turned away (13_serving R460; log 12). -/
def State.promote (s : State) (i : Nat) : State :=
  match KMap.find s.sessions i with
  | none => s
  | some v =>
    if v.promoteTags.isEmpty then s
    else ((s.modSess i (fun w => { w with
      st := .idle, promoteTags := [], feeds := [], utf8Held := [], stopHeld := [], dropSpace := true, emitted := false })).doneTags
        (v.feeds.map Feed.tag) Code.shadowInvalid 0).doneTags v.promoteTags 0 0

/-- A shadow at a commit. -/
def State.commitShadow (s : State) (i : Nat) (v : Session) : State :=
  let t := match s.stepEnd i v with
    | .none => s
    | .notRun => s.modSess i (fun w => { w with placed := 0 })
    | .carried => s.carry i v
    | .done => s.feedDone i v
  t.promote i

/-! ## One session, and the window (15_wheel R495 to R497) -/

/-- Session i at the commit (15_wheel R496). -/
def State.commitSession (s : State) (i : Nat) : State :=
  match KMap.find s.sessions i with
  | none => s
  | some v =>
    if (match v.cancelAt with | none => false | some n => decide (n ≤ s.turn)) then s.commitCancel i v
    else match v.st with
      | .idle => s
      | .shadow => s.commitShadow i v
      | _ =>
        if v.kvOut then (if v.st == .running && v.endLate s.turn then (s.seqUp i).retireLate i v false else s.commitKvOut i v)
        else if v.st == .queued then s
        else match s.stepEnd i v with
          | .carried => s.commitCarry i v
          | .done => if v.final v.placed then s.commitFire i v else s.commitChunk i v
          | _ =>
            let t := s.modSess i (fun w => { w with placed := 0 })
            if v.endLate s.turn then (t.seqUp i).retireLate i v false else t

/-- The tail writeback of a stream ring that received records in this turn (18_queues R575). -/
def State.tail (s : State) (p q : Nat) : State :=
  let k := s.queue p q
  if !k.strDirty then s
  else (({ s with hostMem := s.hostMem.writeN k.cqBase (leBytes 4 k.strWr ++ zeros 4 ++ leBytes 8 s.turn) }.modQueue p q
    (fun v => { v with strDirty := false })).due p k.vector)

/-- Every ring's tail, then the vectors that are due, each once (15_wheel R497; 18_queues R573, R575). -/
def State.signal (s : State) : State :=
  let t := s.parts.foldl (fun (a : State) e => (KMap.keys e.2.queues).foldl (fun (b : State) q => b.tail e.1 q) a) s
  let u := t.vecDue.foldl (fun (a : State) e => a.raise e.1 e.2) t
  { u with vecDue := [] }

/-- The batches of the turn over: tables unpinned, tasks that never got a gang gone, ring reservations of the turn's steps
released (10_embedding_tables R351; 16_scheduling R518; 18_queues R576). -/
def State.endBatches (s : State) : State :=
  let t := s.batches.foldl (fun (a : State) e =>
    let b := a.unpinTables e.2.part (2 * e.1 + 1)
    match KMap.find b.tasks e.2.task with
    | none => b
    | some k => if k.tiles.isEmpty then b.endTask e.2.task else b) s
  { t with
    batches := []
    parts := KMap.each t.parts (fun _ (v : Part) => { v with queues := KMap.each v.queues (fun _ (k : Queue) => { k with strStep := 0 }) }) }

/-- The tile time of a re-fire that the end of the window cuts off (03 R89, R96). -/
def State.refireOver (s : State) (v : Batch) : State :=
  if v.closed || v.faulted || v.carried || v.done then s else s.refireTime v s.wheel.now

/-- The end of the compute window: the commit of the turn, session by session in ascending ID (15_wheel R495 to R497). -/
def State.windowEnd (s : State) : State :=
  let w := { s.wheel with now := max s.wheel.now (s.wheel.len - s.wheel.window) }
  let t := (s.batches.foldl (fun (a : State) e => a.refireOver e.2) { s with wheel := w }).parityDue
  let u := (KMap.keys t.sessions).foldl State.commitSession t
  let x := u.endBatches.signal
  { x with wheel := { x.wheel with commit := true } }

/-- COMPUTE_WINDOW_END, which the wheel controller runs while DX is up (01_architecture R11; 15_wheel R495 to R499; log 12). -/
def execComputeWindowEnd (s : State) : Host.Outcome State Fault Refusal :=
  if !s.wheel.started || s.wheel.commit || s.moduleLost then .next s else .next s.windowEnd

end Sys2Proof.Machine
end

