-- ==== Sys2Proof/Machine/Faults.lean ====
section
/-! DEFINITION. Lost domains and dies, memory errors that patrol scrub finds, hub SRAM reloads, Renob links (20_power_thermal R613,
R621; 21_reliability R630 to R635, R638 to R643, R647, R650; 08_memory_tiers R276). -/

namespace Sys2Proof.Machine

/-! ## A lost compute die (21_reliability R630, R639 to R641; 20_power_thermal R627) -/

/-- Has layer l of an image an anchor in its gang's scratchpads (06_operations R186, 21_reliability R639)? -/
def Image.anchors (im : Image) (l : Nat) : Bool :=
  (im.recs.map recOf).any (fun r => r.layer == l && r.opnds.any (fun o => o.present && o.anchor && o.loc == 0))

/-- A batch that held tiles of a lost die: its layer waits for its re-execution, or the batch carries where an anchor was lost or
at a third detection (21_reliability R639). -/
def Batch.dieLost (v : Batch) (im : Image) : Batch :=
  let hit := im.anchors v.layer
  let out := hit || decide (3 ≤ v.faults + 1)
  { v with faulted := true, faults := v.faults + 1, anchorLost := v.anchorLost || hit, carried := v.carried || out
           faultCarry := v.faultCarry || out }

/-- A run whose record held tiles of a lost die: the record waits for its re-execution, what the run's records left in
scratchpads is lost (21_reliability R640). -/
def Run.dieLost (x : Run) (i : Nat) : Run :=
  { x with faulted := some i, lost := (x.lost ++ x.scratch.map (fun (c : Host.Cell) => c.1 / 8 * 8)).dedup }

/-- The work of one task that held tiles of a lost die (21_reliability R630, R641). -/
def State.dieTask (s : State) (k : Task) : State :=
  match k.work with
  | .stage _ => s
  | .record n i => { s with runs := KMap.mod s.runs n (fun x => x.dieLost i) }
  | .batch b => match KMap.find s.batches b with
    | none => s
    | some v => match KMap.find (s.part v.part).images v.image with
      | none => s
      | some im => if v.done || v.carried then s else { s with batches := KMap.put s.batches b (v.dieLost im) }

/-- The tiles of a lost die hold nothing that can be read. -/
def State.dieTiles (s : State) (d : Nat) : State :=
  { s with tiles := KMap.each s.tiles (fun t v => if t / 128 = d then { v.quiet with
      scratch := [], acc := [], vregs := none, act := {}, nxt := none, untrusted := true } else v) }

/-- DLd lost: its 128 tiles quarantined, the work on them to be re-executed (21_reliability R641). -/
def State.loseDie (s : State) (d : Nat) : State :=
  let hit := s.tasks.filter (fun e => e.2.tiles.any (fun t => t / 128 == d))
  let t := hit.foldl (fun (a : State) e => a.dieTask e.2) { s with dieLost := s.dieLost.set d true }
  ((t.dieTiles d).quarantine ((List.range 128).map (fun i => 128 * d + i))).degrade

/-! ## A lost stack (08_memory_tiers R276; 21_reliability R647; 13_serving R438) -/

/-- Is a page gone with stack n: it stands there, or on a stack lost before, and neither parity nor a mirror gives it back
(08_memory_tiers R276, 21_reliability R629, R647)? -/
def Page.goneWith (g : Page) (n : Nat) (broken : Bool) : Bool :=
  decide (g.tier < 2) && !g.flag 5 && ((g.die == n && (!g.flag 2 || broken)) || (g.rebuild && broken))

/-- A page as the loss of stack n leaves it (08_memory_tiers R276). -/
def Page.afterLoss (g : Page) (n : Nat) (broken : Bool) : Page :=
  if broken && decide (g.tier < 2) && (g.rebuild || (g.die == n && g.flag 2)) && !g.flag 5 then
    (if g.flag 6 then { g.dropped with rebuild := false } else { g with rebuild := false }.setFlag 7 true)
  else g.stackLost n

/-- Migrations from or to a lost stack given up (08_memory_tiers R262). -/
def State.dropMoves (s : State) (n : Nat) : State :=
  (s.pages.filter (fun e => e.2.flag 4 && ((decide (e.2.dstTier < 2) && e.2.dstDie == n) || (decide (e.2.tier < 2) && e.2.die == n)))).foldl
    (fun (a : State) e => a.abandon e.1 e.2) s

/-- Has a block a page that satisfies `q`? -/
def State.blkAny (s : State) (q : Page → Bool) (r : BlkRef) : Bool :=
  (s.blkPages r).any (fun k => match KMap.find s.pages k with | none => false | some g => q g)

/-- Has the recovery from a lost stack not ended yet (21_reliability R629)? -/
def State.recoveringStack (s : State) : Bool :=
  s.pages.any (fun e => e.2.rebuild || e.2.remirror) || s.sessions.any (fun e => e.2.recovering)

/-- Sessions whose two journal copies a second stack loss has destroyed end at the commit with 0x0802; where the copies lie the
spec leaves open (21_reliability R631, R646, R654; log 10). -/
def State.loseJournals (s : State) : State :=
  let gone := fun (i : Nat) => Config.freeNat (s.fresh + i) % 2 = 1
  { s with
    sessions := KMap.each s.sessions (fun i v => if gone i then { v with cancelAt := some s.turn, cancelStatus := Code.faultUnrecovered } else v)
    fresh := s.fresh + s.nextSess }.devCount Ctr.unrecovered (s.sessions.filter (fun (e : Nat × Session) => decide (gone e.1))).length

/-- DMn lost: migrations given up, cached blocks on it dropped, sessions with KV there without parity recovering, every page
with a frame there handled (08_memory_tiers R276, 13_serving R438, 21_reliability R647). -/
def State.loseStack (s : State) (n : Nat) : State :=
  let t := { s.dropMoves n with stackLost := s.stackLost.set n true }
  let here := fun (r : BlkRef) => t.blkAny (fun g => decide (g.tier < 2) && g.die == n) r
  let gone := fun (r : BlkRef) => t.blkAny (fun g => g.goneWith n (t.groupBroken n g)) r
  let u := ((t.cached (fun _ _ => true)).filter here).foldl (fun (a : State) r => a.dropBlock r.1 r.2.1 r.2.2) t
  let v := u.loseBlocks gone
  let w := if s.recoveringStack then v.loseJournals else v
  { w with pages := KMap.each w.pages (fun _ g => g.afterLoss n (t.groupBroken n g)) }.settle.degrade

/-! ## Domains (20_power_thermal R612, R613; 21_reliability R630, R650) -/

/-- The sequences of the batches that hold tiles of die d (21_reliability R652). -/
def State.seqsOnDie (s : State) (d : Nat) : Nat :=
  ((s.tasks.filter (fun e => e.2.tiles.any (fun t => t / 128 == d))).map (fun e => match e.2.work with
    | .batch b => (KMap.findD s.batches b {}).members.length
    | _ => 0)).sum

/-- Sessions that recover from a lost stack (21_reliability R647). -/
def State.recoveries (s : State) : Nat := (s.sessions.filter (fun e => e.2.recovering)).length

/-- A domain lost: counted, what its loss means, and its record with the sequences affected; DH, DX or DA asserts ALERT_N
(20_power_thermal R613; 21_reliability R630, R650, R652, R653). -/
def State.loseDomain (s : State) (d : Nat) : State :=
  let t := { s with power := { s.power with domLost := s.power.domLost.set d true, domUp := s.power.domUp.set d false } }
  let u := t.devCount Ctr.domainsLost 1
  if d < 8 then (u.loseDie d).logFault 5 d 0xFFFF 0xFF 1 (s.seqsOnDie d) 0 0
  else if d < 16 then
    let v := u.loseStack (d - 8)
    let n := v.recoveries - s.recoveries
    v.logFault 5 d 0xFFFF 0xFF (if n = 0 then 3 else 4) n 0 0
  else
    let v := u.logFault 5 d 0xFFFF 0xFF 5 0 0 0
    if d = 18 then v else { v with mgmt := { v.mgmt with alertN := true } }

/-- DOMAIN_LOST: a rail of a domain that is up stays out of tolerance for more than 5 us (20_power_thermal R613). -/
def execDomainLost (domain : Nat) (s : State) : Host.Outcome State Fault Refusal :=
  if decide (20 ≤ domain) || !s.power.domUp.getD domain false || s.power.domLost.getD domain false then .next s
  else .next (s.loseDomain domain)

/-- DIE_TRIP: a sensor of CDn at 120 degrees or above for 100 us: DLn is gated, as a loss of it (20_power_thermal R621). -/
def execDieTrip (die : Nat) (s : State) : Host.Outcome State Fault Refusal :=
  if decide (8 ≤ die) || !s.power.domUp.getD die false || s.power.dieTripped.getD die false then .next s
  else .next (({ s with power := { s.power with dieTripped := s.power.dieTripped.set die true } }.powCount Ctr.dieTrips 1).loseDomain die)

/-! ## Memory errors (21_reliability R632 to R635) -/

/-- PATROL_SCRUB: an error found in a region (04_tile R133; 21_reliability R632 to R635, R638). Hub SRAM is 0.5 GiB (01_architecture
R9). -/
def execPatrolScrub (region : Region) (uncorrectable : Bool) (s : State) : Host.Outcome State Fault Refusal :=
  match region with
  | .tileWord t a =>
    if decide (1024 ≤ t) || s.tileGated t || !s.healthy t then .next s
    else if uncorrectable then .next (s.strike t (.uncorrectable a))
    else .next (s.tileWordCe t a)
  | .frame _ _ _ => .next (if uncorrectable then s.brokenFrame region else s.corrected region)
  | .hubSram a =>
    if 2 ^ 29 ≤ a then .next s
    else if uncorrectable then
      .next { ((s.devCount Ctr.memUe 1).logFault 1 17 0xFFFF 0xFF 3 0 a 0) with sramBad := (s.sramBad ++ [a / 4096]).dedup }
    else .next (s.hubWordCe a)

/-- HUB_SRAM_RELOAD: the 4 KiB at an address are read again from their tier T1 copy (21_reliability R635). -/
def execHubSramReload (addr : Nat) (s : State) : Host.Outcome State Fault Refusal :=
  if 2 ^ 29 ≤ addr || s.moduleLost then .next s else .next { s with sramBad := s.sramBad.filter (fun x => x ≠ addr / 4096) }

/-! ## Renob links (01_architecture R20; 21_reliability R643) -/

/-- RENOB_LINK_FAIL: a link, numbered as `linkEnds` numbers it, runs on with the lanes that remain; with none it is bypassed through
the hub (21_reliability R643, R652). DETAIL of the record is the link's number with the lanes left (DESIGN CHOICE, log 40). -/
def execRenobLinkFail (link lanes : Nat) (s : State) : Host.Outcome State Fault Refusal :=
  if (linkEnds link).isNone || decide (s.renob.getD link 0 ≤ lanes) then .next s
  else .next ({ s with renob := s.renob.set link lanes }.logFault 6 0xFF 0xFFFF 0xFF 0 0 0 (link + 2 ^ 32 * lanes))

end Sys2Proof.Machine
end

