-- ==== Sys2Proof/Machine/Flash.lean ====
section
/-! DEFINITION. Flash reads of pages on their way up from tier T2: arrival, recovery from the stripe, loss
(08_memory_tiers R268, R278, R280). -/

namespace Sys2Proof.Machine

/-- What waits for page k fails with MEDIA_ERROR: a command that is held, the SEARCH stage of a CHAIN, a record of a run
(08_memory_tiers R280; 09_vector_search R327). -/
def State.mediaFails (s : State) (k : Nat) : State :=
  let t := (s.inflight.filter (fun e => e.wait.contains k)).foldl (fun (a : State) e =>
    if e.opc = 0x70 then a.chainFail e 1 Code.mediaError 0 else a.reject e Code.mediaError) s
  (t.runs.flatMap (fun r => (r.2.held.filter (fun h => h.2.contains k)).map (fun h => (r.1, h.1)))).foldl
    (fun (a : State) x => a.finishRecord x.1 x.2 Code.mediaError) t

/-- The moves that wait for page k end with MEDIA_ERROR (08_memory_tiers R280). -/
def State.mediaMoves (s : State) (k : Nat) : State :=
  (s.inflight.filter (fun e => e.st == .running && [0x82, 0x83, 0x85].contains e.opc && e.aux.contains k)).foldl
    (fun (a : State) e => a.endMove e Code.mediaError) s

/-- Page k lost to a read that failed media ECC and the stripe: LOST, sessions with KV on it recover, what waits for it fails
(08_memory_tiers R280; 21_reliability R634). -/
def State.mediaLost (s : State) (k : Nat) (g : Page) : State :=
  let t := (s.flashCount Ctr.mediaUe 1).modPage k (fun v => ({ v with
    mstate := 0, queued := false, moveTag := 0, demand := false, asked := false }.setFlag 4 false).setFlag 7 true)
  let u := if g.poolKv then t.loseBlocks (fun r => (t.blkPages r).contains k) else t
  ((u.mediaMoves k).mediaFails k).settle

/-- The FAULT record of a flash read of page k of partition p (21_reliability R652). -/
def State.flashFault (s : State) (p k outcome : Nat) : State := s.logFault 7 18 0xFFFF p outcome 0 (65536 * k) 0

/-- T2_PAGE_READ: flash data of a page on its way up arrives (0), arrives after a retry or from the stripe (1: a hold for it is
then held for a media error), or is lost (2); the last two write a FAULT record (08_memory_tiers R268, R278, R280; 21_reliability
R630, R652). Asleep, nothing arrives (20_power_thermal R614; log 38). -/
def execT2PageRead (page media : Nat) (s : State) : Host.Outcome State Fault Refusal :=
  match KMap.find s.pages page with
  | none => .next s
  | some g =>
    if g.mstate ≠ 1 || g.tier ≠ 2 || !s.flashUp || s.asleep then .next s
    else if media = 0 then .next (s.arrive page g g.dstSpot)
    else if media = 1 then
      let t := (s.flashCount Ctr.mediaCe 1).flashFault g.owner page 3
      .next ((if g.demand then t.count g.owner Ctr.stallT2medEvt 1 else t).arrive page g g.dstSpot)
    else .next ((s.mediaLost page g).flashFault g.owner page 5)

end Sys2Proof.Machine
end

