-- ==== Sys2Proof/Machine/Manage.lean ====
section
/-! DEFINITION. Askux: MCTP, PLDM monitoring and control, firmware update (23_management R676 to R688, 25_module R718). -/

namespace Sys2Proof.Machine

/-- MCTP_CONTROL: endpoint discovery; command 1 assigns the EID (23_management R676). In boot recovery only PLDM firmware update
is answered (R677). -/
def execMctpControl (command eid : Nat) (s : State) : Host.Outcome State Fault Refusal :=
  if !s.askuxUp || s.recovery then .next { s with reply := .none }
  else
    let t := if command = 1 then { s with mgmt := { s.mgmt with eid := eid } } else s
    .next (t.answers 0x100 [command, t.mgmt.eid])

/-- A counter reported through PLDM: the sum over partitions for those of a partition (23_management R679). -/
def State.pldmCounter (s : State) (g i : Nat) : Nat :=
  if g ≤ 5 ∨ g = 7 ∨ g = 8 ∨ (g = 6 ∧ 7 ≤ i) then ((List.range 16).map (fun p => s.ctrVal p (0x100 * g + i))).sum
  else if g = 6 ∨ g = 13 then KMap.findD s.dctr (0x100 * g + i) 0
  else if g = 9 then KMap.findD s.flashCtrs (0x900 + i) 0
  else if g = 10 ∨ g = 11 then KMap.findD (s.head (g - 10)).ctr (0xA00 + i) 0
  else if g = 12 then KMap.findD s.power.ctr (0xC00 + i) 0
  else 0

/-- How many counters group g has: those of COUNTER_QUERY, then R283, R560 of each head, R628 and R653 (23_management R679). -/
def pldmSize (g : Nat) : Nat := if g ≤ 8 then groupSize g else [8, 7, 7, 12, 13].getD (g - 9) 0

/-- Reading of a PLDM sensor or effecter by its ID (23_management R678, R679, R684). -/
def State.pldmReading (s : State) (id : Nat) : Option Int :=
  if id = 224 then some ((KMap.findD s.flashCtrs Ctr.percentUsed 0 : Nat) : Int)
  else if id = 225 then some ((KMap.findD s.flash.ctr Ctr.sparePercent 0 : Nat) : Int)
  else if id = 256 then some s.power.pstate
  else if id = 257 then some s.wheel.pace
  else if id = 258 then some s.sagger.alarmLevel
  else if id = 259 then some (if s.ready then (if s.degraded then 2 else 1) else 0)
  else if id = 260 then some s.power.maint
  else if id = 512 then some s.power.powerCap
  else if id = 0x1E00 then some ((s.mgmt.logDropped % 2 ^ 32 : Nat) : Int)
  else if 0x1000 ≤ id ∧ id < 0x1E00 ∧ id % 256 < pldmSize ((id - 0x1000) / 256) then some ((s.pldmCounter ((id - 0x1000) / 256) (id % 256) % 2 ^ 32 : Nat) : Int)
  else if (sensorRange id).isSome then some (s.reading id)
  else none

/-- PLDM_REQUEST of a supported type; command 4 of type 2 registers the event receiver; a reading carries its value
(23_management R677, R678, R680). -/
def execPldmRequest (type command id : Nat) (s : State) : Host.Outcome State Fault Refusal :=
  if !s.askuxUp || (s.recovery && type ≠ 5) then .next { s with reply := .none }
  else if !([0, 2, 4, 5].contains type) then .next { s with reply := .code retUnsupported }
  else if type = 2 && command = 4 then
    .next ({ s with mgmt := { s.mgmt with receiver := true } }.answers 0x200 [type, command])
  else if type = 2 && (command = 0x11 || command = 0x21 || command = 0x32) then
    match s.pldmReading id with
    | none => .next { s with reply := .code retInvalid }
    | some v => .next (s.answers 0x200 [type, command, id, unsigned 64 v])
  else .next (s.answers 0x200 [type, command, id])

/-- POWER_CAP: 600 to 1,800 W in 10 W steps (20_power_thermal R620, 23_management R678, R680). -/
def execPowerCap (watts : Nat) (s : State) : Host.Outcome State Fault Refusal :=
  if !s.askuxUp || s.recovery then .next { s with reply := .none }
  else if watts < 600 ∨ 1800 < watts ∨ watts % 10 ≠ 0 then .next { s with reply := .code retInvalid }
  else .next ({ s with power := { s.power with powerCap := watts } }.answers 0x200 [2, 0x31, 512, watts])

/-- REQUEST_UPDATE: slot A is copied to slot B, the new image is written to slot A and verified: 0x90 signature, 0x91 below the
floor, 0x92 another device; a rejected component leaves slot A invalid (23_management R686). -/
def execRequestUpdate (component version : Nat) (sigOk deviceOk : Bool) (s : State) : Host.Outcome State Fault Refusal :=
  if !s.askuxUp || decide (5 ≤ component) then .next { s with reply := .none }
  else
    let c := s.mgmt.comps.getD component {}
    let b : Comp := if c.slotA.isSome then { c with slotB := c.slotA, sigB := c.sigA } else c
    let bad := if !sigOk then 0x90 else if version < c.floor then 0x91 else if !deviceOk then 0x92 else 0
    let d : Comp := if bad = 0 then { b with slotA := some version, sigA := true } else { b with slotA := none }
    let t := { s with mgmt := { s.mgmt with comps := s.mgmt.comps.set component d } }
    if bad = 0 then .next (t.logEv 8 1 0xFF component component 0 |>.answers 0x500 [component, 0])
    else .next (t.logEv 8 3 0xFF component bad 0 |>.answers 0x500 [component, bad])

/-- One component activated: Askux firmware runs at once, the others at their reset (23_management R687). -/
def State.activate (s : State) (i : Nat) : State :=
  let c := s.mgmt.comps.getD i {}
  match c.slotA with
  | none => s
  | some v =>
    if i = 1 then
      let t := s.measure 3 0 (Config.componentDigest 1 v)
      { t with mgmt := { t.mgmt with
          comps := t.mgmt.comps.set 1 { c with running := v }, askuxRestarts := t.mgmt.askuxRestarts + 1 } }.logEv 8 2 0xFF i i 0
    else { s with mgmt := { s.mgmt with comps := s.mgmt.comps.set i { c with pending := true } } }.logEv 8 2 0xFF i i 0

/-- ACTIVATE_FIRMWARE: the named components, and the floors of a package's version record, kept until every activated one has
run to READY and only where none is lowered (23_management R687, R688). -/
def execActivateFirmware (components : List Nat) (floors : Option (List Nat)) (s : State) : Host.Outcome State Fault Refusal :=
  if !s.askuxUp then .next { s with reply := .none }
  else
    let t := (components.filter (fun i => decide (i < 5))).dedup.foldl State.activate s
    let u := match floors with
      | none => t
      | some l =>
        if t.mgmt.comps.zipIdx.any (fun e => decide (l.getD e.2 e.1.floor < e.1.floor)) then t
        else { t with mgmt := { t.mgmt with comps := t.mgmt.comps.zipIdx.map (fun (e : Comp × Nat) =>
          { e.1 with newFloor := some (l.getD e.2 e.1.floor) }) } }
    let w := if u.ready then u.writeFloors else u
    .next (w.answers 0x501 components)

/-- I3C_TARGET_RESET: SCL held low for more than 25 ms (25_module R718). -/
def execI3cTargetReset (heldUs : Nat) (s : State) : Host.Outcome State Fault Refusal :=
  if heldUs ≤ 25000 || s.stage = .off || !s.daUp then .next s
  else .next { s with mgmt := { s.mgmt with i3cReset := s.mgmt.i3cReset + 1 } }

end Sys2Proof.Machine
end

