-- ==== Sys2Proof/Machine/Wheel.lean ====
section
/-! DEFINITION. The wheel, which DA holds (01_architecture R11): pacing inputs and states, time of day, the length of a turn (15_wheel R482 to R493). How far an
event lies from another is what its command tells (log 17). -/

namespace Sys2Proof.Machine

/-- Time in HOLDOVER brought up to now, in whole ms (15_wheel R506, 19_registers R602). -/
def State.holdTime (s : State) : State :=
  if s.wheel.pace ≠ 1 then s
  else
    let ms := (s.wheel.abs - s.wheel.holdAt) / 1000000
    { s with wheel := { s.wheel with holdMs := ms } }.devCount Ctr.holdoverMs (ms - s.wheel.holdMs)

/-- The wheel in pacing state `x`: an entry to HOLDOVER or FREERUN counted, the change reported as sensor 257
(15_wheel R485, R506, 23_management R678). -/
def State.setPace (s : State) (x : Nat) : State :=
  let t := s.holdTime
  let w := { t.wheel with
    pace := x, ppsGood := 0, slewing := false, lockDue := false
    holdMs := if x = 1 then 0 else t.wheel.holdMs
    holdAt := if x = 1 then t.wheel.abs else t.wheel.holdAt }
  let u := ({ t with wheel := w }).platformEvent 257 (x : Int)
  match x with
  | 1 => u.devCount Ctr.paceLoss 1
  | 2 => u.devCount Ctr.freerunEntries 1
  | _ => u

/-- The reference lost: HOLDOVER from LOCKED; elsewhere qualification begins again (15_wheel R484, R485, R505). -/
def State.refLost (s : State) : State :=
  if s.wheel.pace = 0 then s.setPace 1
  else { s with wheel := { s.wheel with
    ppsGood := 0, slewing := false, transition := s.wheel.transition && !s.wheel.lockDue, lockDue := false } }

/-- The inputs qualified with phase error e: HOLDOVER slews an error of at most 100 us, every other case realigns with a
transition turn (15_wheel R485, R487). -/
def State.qualified (s : State) (e : Int) : State :=
  let small := s.wheel.pace == 1 && decide (e.natAbs ≤ 100000)
  { s with wheel := { s.wheel with
    phaseErr := e, slewRem := e, slewing := true, lockDue := !small, transition := s.wheel.transition || !small, ppsGood := 0 } }

/-- PPS_EDGE: a pulse of `widthNs`, its edge `errNs` off the prediction (LOCKED) or off 1 s after the last, with the boundaries
`phaseNs` late against it (15_wheel R482 to R487). -/
def execPpsEdge (widthNs : Nat) (errNs : Int) (phaseNs : Int) (s : State) : Host.Outcome State Fault Refusal :=
  let w := s.wheel
  let near := decide (errNs.natAbs ≤ 1000)
  if widthNs < 100 || s.stage = .off || !s.daUp then .next s
  else if w.pace = 0 then (if near then .next s else .next (s.devCount Ctr.ppsReject 1))
  else if w.slewing then .next s
  else
    let n := if near && w.ppsGood ≠ 0 then w.ppsGood + 1 else 1
    let t := { s with wheel := { w with ppsGood := n } }
    if 3 ≤ n && w.refPresent then .next (t.qualified phaseNs) else .next t

/-- REF_PRESENCE_LOSS: a gap of more than 10 cycles (15_wheel R483, R484). -/
def execRefPresenceLoss (s : State) : Host.Outcome State Fault Refusal :=
  if !s.daUp then .next s
  else .next ({ s with wheel := { s.wheel with refPresent := false, ref25 := false, refPpb := 0 } }.refLost)

/-- REF_FREQUENCY_CHECK: which of the two frequencies was measured and its offset; beyond 50 ppm the reference is lost
(15_wheel R482 to R484, 19_registers R602). -/
def execRefFrequencyCheck (ref25 : Bool) (ppb : Int) (s : State) : Host.Outcome State Fault Refusal :=
  if s.stage = .off || !s.daUp then .next s
  else if ppb.natAbs ≤ 50000 then .next { s with wheel := { s.wheel with refPresent := true, ref25 := ref25, refPpb := ppb } }
  else .next ({ s with wheel := { s.wheel with refPresent := false, ref25 := false, refPpb := 0 } }.refLost)

/-- PPS_CONTINUITY_LOSS: no accepted edge for 2.5 s (15_wheel R483, R484, R505). -/
def execPpsContinuityLoss (s : State) : Host.Outcome State Fault Refusal :=
  if s.daUp then .next s.refLost else .next s

/-- HOLDOVER_LIMIT: 600 s without qualified reference (15_wheel R485). -/
def execHoldoverLimit (s : State) : Host.Outcome State Fault Refusal :=
  if s.wheel.pace = 1 && !s.wheel.slewing && s.daUp then .next (s.setPace 2) else .next s

/-- ACQUIRE_TIMEOUT: no reference edge within 5 s (15_wheel R485). -/
def execAcquireTimeout (s : State) : Host.Outcome State Fault Refusal :=
  if s.wheel.pace = 3 && !s.wheel.refPresent && s.stage ≠ .off && s.daUp then .next (s.setPace 2) else .next s

/-- SECOND_MARK, `intoTurnNs` after the boundary: the seconds count advances, from 0 at the first; TIME_SETs accepted 100 ms
before take effect and complete, and realign the turns; log classes count afresh (15_wheel R489, R490, R505,
23_management R684). -/
def execSecondMark (intoTurnNs : Nat) (s : State) : Host.Outcome State Fault Refusal :=
  let w := s.wheel
  if s.stage = .off || !s.daUp then .next s
  else
    let due := w.timeSet.filter (fun e => decide (e.2.2 + 100000000 ≤ w.base + intoTurnNs))
    let secs := match due.getLast? with
      | some e => e.1
      | none => if w.marks = 0 then 0 else (w.todS + 1) % 2 ^ 48
    let t := { s with
      wheel := { w with
        todS := secs, marks := w.marks + 1, mark := some intoTurnNs
        timeSet := w.timeSet.filter (fun e => !decide (e.2.2 + 100000000 ≤ w.base + intoTurnNs))
        transition := w.transition || due ≠ []
        lockDue := w.lockDue || (w.slewing && due ≠ [])
        slewRem := if due ≠ [] then 0 else w.slewRem
        now := max w.now intoTurnNs }
      mgmt := { s.mgmt with logCnt := [] } }
    .next (due.foldl (fun (a : State) e => match a.cmd e.2.1 with | none => a | some c => a.done c 0 0) t)

/-! ## The boundary (15_wheel R487, R489, R491 to R493) -/

/-- TOD in ns at the boundary that ends the running turn. -/
def Wheel.todNext (w : Wheel) : Nat :=
  if !w.started then w.todNs
  else match w.mark with
    | some m => w.len - m
    | none => w.todNs + w.len

/-- Distance past the last ideal boundary of TOD `tod` and period `p`; a boundary within 200 ns of an ideal one is on it
(15_wheel R485, R489). -/
def pastIdeal (tod p : Nat) : Nat :=
  let off := tod % p
  if off ≤ 200 ∨ p - off ≤ 200 then 0 else off

/-- What the next boundary starts: length, whether it is a transition turn, whether it is an adjusted turn, error left, and
whether the wheel is LOCKED from it on. -/
structure TurnPlan where
  len : Nat
  transition : Bool
  slewed : Bool
  rem : Int
  locked : Bool
  todNs : Nat
  deriving DecidableEq, Repr

/-- The turn that starts at the next boundary, under the TOD and the P then in force (15_wheel R487, R491). -/
def Wheel.plan (w : Wheel) (newP : Bool) : TurnPlan :=
  let p := w.period
  let shifted := ((w.todNext : Int) + (if w.lockDue && !w.inTransition then w.slewRem else 0)).toNat
  if w.transition || newP then
    let off := pastIdeal (1000000000 * w.todS + shifted) p
    if off = 0 then
      { len := p, transition := false, slewed := false, rem := if w.lockDue then 0 else w.slewRem, locked := w.lockDue
        todNs := shifted }
    else
      { len := 2 * p - off, transition := true, slewed := false, rem := if w.lockDue then 0 else w.slewRem, locked := false
        todNs := shifted }
  else if w.lockDue && w.inTransition then
    { len := p, transition := false, slewed := false, rem := 0, locked := true, todNs := w.todNext }
  else if w.slewing && !w.lockDue then
    let a : Int := min 2000 (w.slewRem.natAbs : Int)
    if w.slewRem.natAbs ≤ 200 then
      { len := p, transition := false, slewed := false, rem := 0, locked := true, todNs := w.todNext }
    else if 0 < w.slewRem then
      { len := p - a.toNat, transition := false, slewed := true, rem := w.slewRem - a, locked := false, todNs := w.todNext }
    else
      { len := p + a.toNat, transition := false, slewed := true, rem := w.slewRem + a, locked := false, todNs := w.todNext }
  else { len := p, transition := false, slewed := false, rem := w.slewRem, locked := false, todNs := w.todNext }

/-- The wheel at a boundary: the written fields in force, the turn number one higher (0 at the first), TOD at the boundary
latched, the turn's length fixed (15_wheel R491 to R493, 19_registers R597, R602). -/
def State.wheelTurn (s : State) : State :=
  let t := { s with wheel := { s.wheel with now := s.wheel.len } }.holdTime
  let newP := t.wheel.turnPeriodWr ≠ t.wheel.turnPeriod
  let w := { t.wheel with
    turnPeriod := t.wheel.turnPeriodWr, commitWin := t.wheel.commitWinWr, batchDl := t.wheel.batchDlWr, cfgPend := false }
  let n := w.plan newP
  let w' := { w with
    turn := if w.started then (w.turn + 1) % 2 ^ 64 else 0
    base := if w.started then w.base + w.len else w.base
    started := true, todNs := n.todNs, lastTodS := w.todS, mark := none, len := n.len, inTransition := n.transition
    transition := false, slewRem := n.rem, now := 0, commit := false, released := false }
  let u := { t with wheel := w' }
  let u := if n.transition then u.devCount Ctr.transitionTurns 1 else u
  let u := if n.slewed then u.devCount Ctr.slewTurns 1 else u
  if n.locked then u.setPace 0 else u

end Sys2Proof.Machine
end

