-- ==== Sys2Proof/Machine/Turn.lean ====
section
/-! DEFINITION. The turn boundary: written fields in force, sharing domains, disables and resets, a lock, admission and preemption
(15_wheel R491, R494; 16_scheduling R509, R523, R532, R533; 13_serving R440, R441, R445; 18_queues R580; 19_registers R597;
20_power_thermal R616; 22_security R671). -/

namespace Sys2Proof.Machine

/-! ## Fields in force (19_registers R597; 16_scheduling R509, R519; 13_serving R445) -/

/-- A partition at a boundary: written fields in force, a set of EN in force with its usage cleared, class weights in force, the
logs of the turn open again (16_scheduling R509, R519; 13_serving R445; 18_queues R564; 08_memory_tiers R274). -/
def Part.turn (v : Part) : Part :=
  { v with
    eff := v.wr, cfgPend := false, enPend := false, live := v.live || v.enPend, usage := if v.enPend then 0 else v.usage
    weights := v.weightsWr, quantum := v.quantumWr, memLog := []
    queues := KMap.each v.queues (fun _ (k : Queue) => { k with dbLogged := false }) }

/-! ## Sharing domains (13_serving R440) -/

/-- The live partitions of a sharing domain. -/
def State.domainOf (s : State) (d : Nat) : List Nat := (s.parts.filter (fun e => e.2.live && e.2.eff.domain == d)).map Prod.fst

/-- A new salt for domain d: its index is empty, what no table names is dropped (13_serving R440; log 10). -/
def State.newSalt (s : State) (d : Nat) : State :=
  let cached := (s.cached (fun _ _ => true)).filter (fun r => match s.kvBlk r with | none => false | some b => b.dom == d && b.hash.isSome)
  let t := cached.foldl (fun (a : State) r => a.dropBlock r.1 r.2.1 r.2.2) s
  { t with
    parts := KMap.each t.parts (fun _ v => { v with kv := KMap.each v.kv (fun _ (k : KvPool) => { k with
      blocks := KMap.each k.blocks (fun _ (b : KvBlk) => if b.dom = d then { b with hash := none } else b) }) })
    sagger := { t.sagger with saltDraw := KMap.put t.sagger.saltDraw d t.fresh }
    fresh := t.fresh + 1 }

/-- New salts for the domains whose members have changed since `old` (13_serving R440). -/
def State.salts (s old : State) : State :=
  ((List.range 16).filter (fun d => s.domainOf d ≠ (if old.wheel.started then old.domainOf d else []))).foldl State.newSalt s

/-! ## Work that has lost its command (16_scheduling R532, R533) -/

/-- Runs and CHAINs whose commands are gone: their tasks end, their pins are released. -/
def State.dropOrphans (s : State) : State :=
  let dead := s.runs.filter (fun e => (s.cmd e.2.tag).isNone)
  let t := dead.foldl (fun (a : State) e =>
    let b := a.unpinTables e.2.part (2 * e.1)
    let mine := b.tasks.filter (fun k => match k.2.work with
      | .record n _ => n == e.1
      | _ => false)
    mine.foldl (fun (c : State) k => c.endTask k.1) { b with runs := KMap.del b.runs e.1 }) s
  let gone := t.chains.filter (fun e => (t.cmd e.1).isNone)
  let u := gone.foldl (fun (a : State) e => a.chainPages e.2) t
  { u with chains := u.chains.filter (fun e => (u.cmd e.1).isSome) }

/-- The boundary t_b of partition p's disable: WORK commands complete with 0x0120, sessions are freed without records, tasks end
(16_scheduling R532, R533; 18_queues R581). -/
def State.disableAt (s : State) (p : Nat) : State :=
  let t := s.abort (fun e => e.part == p && e.queue ≠ 0) Code.functionDisabled
  let own := (t.sessions.filter (fun e => e.2.part == p)).map Prod.fst
  ((own.foldl State.freeSession t).endTasks p).modPart p (fun v => { v with live := false })

/-- The boundary t_b of a queue's reset or disable: its unfinished commands complete with 0x0121 or 0x0120 (18_queues R580,
R581; 16_scheduling R532). -/
def State.queueAt (s : State) (p q : Nat) : State :=
  let k := s.queue p q
  let mine := fun (e : CmdE) => e.part == p && e.queue == q
  if q = 0 || decide (s.turn < k.tb) then s
  else match k.state with
    | .resetting => (s.abort mine Code.abortedByReset).modQueue p q (fun v => { v with aborted := v.aborted + (s.inflight.filter mine).length })
    | .disablePending => s.abort mine Code.functionDisabled
    | _ => s

/-- Every disable and reset whose boundary this is. -/
def State.disables (s : State) : State :=
  let t := s.parts.foldl (fun (a : State) e =>
    if e.2.disablePending && decide (e.2.tb ≤ s.turn) then a.disableAt e.1
    else (KMap.keys e.2.queues).foldl (fun (b : State) q => b.queueAt e.1 q) a) s
  t.dropOrphans

/-! ## LOCK (22_security R671) -/

/-- The boundary at which a LOCK takes hold: generating sessions write their records, every command completes with 0x0703,
secured SPDM sessions end, nothing runs on (22_security R671). -/
def State.lock (s : State) : State :=
  if !s.sagger.lockDue then s
  else
    let gen := s.sessions.filter (fun e => e.2.st == .queued || e.2.st == .running)
    let t := gen.foldl (fun (a : State) e =>
      let b := (a.seqUp e.1).record e.1 { final := true, dropped := true } Code.securityLocked 0 [] []
      (b.genDone e.2 Code.securityLocked 7 e.2.tokTotal true).idle e.1) s
    let u := (t.abort (fun _ => true) Code.securityLocked).signal
    let v := (KMap.keys u.parts).foldl State.endTasks u.endSpdm
    { v.chains.foldl (fun (a : State) e => a.chainPages e.2) v with runs := [], chains := [], batches := [], sagger := { v.sagger with lockDue := false } }

/-! ## TURN_BOUNDARY -/

/-- Preemption at a boundary; the entry into NAP or DEEP preempts every task (16_scheduling R523; 20_power_thermal R616). -/
def State.preemptions (s : State) : State :=
  if s.power.entering && decide (2 ≤ s.power.target) then s.preemptAll else s.preemption

/-- Save-area slots that the tasks of partition p need: those of tasks that are saved, save or restore, and one for each tile held, which
R534 may still preempt (08_memory_tiers R260; 16_scheduling R527, R528, R534). -/
def State.slotsNeeded (s : State) (p : Nat) : Nat :=
  let own := (s.tasks.filter (fun e => e.2.part == p)).map Prod.snd
  max (own.map (fun k => if k.slots.isEmpty && k.st == .saving then k.tiles.length else k.slots.length)).sum
    (own.map (fun k => k.tiles.length)).sum

/-- The slots of partition p that its lowered TILE_LIMIT leaves over and no task needs are free (16_scheduling R510; log 12). -/
def State.trimSave (s : State) (p : Nat) : State :=
  s.modPart p (fun v => if v.en then { v with saveArea := min v.saveArea (max v.wr.tileLimit (s.slotsNeeded p)) } else v)

/-- TURN_BOUNDARY (15_wheel R491, R494; log 12). A boundary lies after the end of the turn's compute window, which is run first
where no command has told it. -/
def execTurnBoundary (s : State) : Host.Outcome State Fault Refusal :=
  if s.stage = .off || !s.daUp then .next s
  else
    let s := if s.wheel.started && !s.wheel.commit && !s.moduleLost then s.windowEnd else s
    let w := { s.glazesOver.wheelTurn with vectors := [] }
    let t := { w with parts := KMap.each w.parts (fun _ v => v.turn) }
    let u := (t.disables.salts s).lock
    if u.locked || u.moduleLost then .next u
    else
      let x := ((KMap.keys u.sessions).foldl State.letIn u).preemptions
      .next ((KMap.keys x.parts).foldl State.trimSave x)

end Sys2Proof.Machine
end

