-- ==== Sys2Proof/Machine/Dispatch.lean ====
section
/-! DEFINITION. One arm per command: each calls its meaning, or is rejected by name while it has none. -/

namespace Sys2Proof.Machine

def exec (i : Instr) (s : State) : Host.Outcome State Fault Refusal :=
  match i with
  | .identify r a => Sys2Proof.Machine.execIdentify r a s
  | .queueReset r a => Sys2Proof.Machine.execQueueReset r a s
  | .counterQuery r a => Sys2Proof.Machine.execCounterQuery r a s
  | .diagQuery r a => Sys2Proof.Machine.execDiagQuery r a s
  | .coneProgram r a => Sys2Proof.Machine.execConeProgram r a s
  | .snapshotRead r a => Sys2Proof.Machine.execSnapshotRead r a s
  | .logRead r a => Sys2Proof.Machine.execLogRead r a s
  | .powerSet r state => Sys2Proof.Machine.execPowerSet r state s
  | .timeSet r seconds => Sys2Proof.Machine.execTimeSet r seconds s
  | .linkQuery r a => Sys2Proof.Machine.execLinkQuery r a s
  | .imageLoad r a => Sys2Proof.Machine.execImageLoad r a s
  | .imageUnload r a => Sys2Proof.Machine.execImageUnload r a s
  | .graphRun r image binds => Sys2Proof.Machine.execGraphRun r image binds s
  | .imageQuery r a => Sys2Proof.Machine.execImageQuery r a s
  | .indexCreate r a => Sys2Proof.Machine.execIndexCreate r a s
  | .indexLoad r a => Sys2Proof.Machine.execIndexLoad r a s
  | .indexDrop r a => Sys2Proof.Machine.execIndexDrop r a s
  | .indexQuery r a => Sys2Proof.Machine.execIndexQuery r a s
  | .insert r a => Sys2Proof.Machine.execInsert r a s
  | .delete r a => Sys2Proof.Machine.execDelete r a s
  | .search r a => Sys2Proof.Machine.execSearch r a s
  | .wedge r a => Sys2Proof.Machine.execWedge r a s
  | .shardMerge r a => Sys2Proof.Machine.execShardMerge r a s
  | .rerank r a scores => Sys2Proof.Machine.execRerank r a scores s
  | .pack r a => Sys2Proof.Machine.execPack r a s
  | .templateLoad r a => Sys2Proof.Machine.execTemplateLoad r a s
  | .templateUnload r a => Sys2Proof.Machine.execTemplateUnload r a s
  | .tableCreate r a => Sys2Proof.Machine.execTableCreate r a s
  | .tableDrop r a => Sys2Proof.Machine.execTableDrop r a s
  | .tableStage r a => Sys2Proof.Machine.execTableStage r a s
  | .tableWrite r a => Sys2Proof.Machine.execTableWrite r a s
  | .tablePublish r a => Sys2Proof.Machine.execTablePublish r a s
  | .tableDiscard r a => Sys2Proof.Machine.execTableDiscard r a s
  | .embedLookup r a => Sys2Proof.Machine.execEmbedLookup r a s
  | .embedUpdate r a => Sys2Proof.Machine.execEmbedUpdate r a s
  | .tableRead r a => Sys2Proof.Machine.execTableRead r a s
  | .tableQuery r a => Sys2Proof.Machine.execTableQuery r a s
  | .vocabLoad r a => Sys2Proof.Machine.execVocabLoad r a s
  | .vocabUnload r a => Sys2Proof.Machine.execVocabUnload r a s
  | .vocabQuery r a => Sys2Proof.Machine.execVocabQuery r a s
  | .tokenise r a => Sys2Proof.Machine.execTokenise r a s
  | .detokenise r a => Sys2Proof.Machine.execDetokenise r a s
  | .grammarLoad r a => Sys2Proof.Machine.execGrammarLoad r a s
  | .grammarUnload r a => Sys2Proof.Machine.execGrammarUnload r a s
  | .grammarQuery r a => Sys2Proof.Machine.execGrammarQuery r a s
  | .grammarMask r a => Sys2Proof.Machine.execGrammarMask r a s
  | .sessionOpen r a => Sys2Proof.Machine.execSessionOpen r a s
  | .generate r a => Sys2Proof.Machine.execGenerate r a s
  | .sessionCancel r a => Sys2Proof.Machine.execSessionCancel r a s
  | .sessionClose r a => Sys2Proof.Machine.execSessionClose r a s
  | .sessionQuery r a => Sys2Proof.Machine.execSessionQuery r a s
  | .glazeRegister r a => Sys2Proof.Machine.execGlazeRegister r a s
  | .glazeDeregister r a => Sys2Proof.Machine.execGlazeDeregister r a s
  | .glazeQuery r a => Sys2Proof.Machine.execGlazeQuery r a s
  | .prefixFlush r => Sys2Proof.Machine.execPrefixFlush r s
  | .shadowFeed r a => Sys2Proof.Machine.execShadowFeed r a s
  | .sessionPromote r a => Sys2Proof.Machine.execSessionPromote r a s
  | .classSet r a => Sys2Proof.Machine.execClassSet r a s
  | .chain r a => Sys2Proof.Machine.execChain r a s
  | .pageAlloc r a => Sys2Proof.Machine.execPageAlloc r a s
  | .pageFree r a => Sys2Proof.Machine.execPageFree r a s
  | .pageMove r a => Sys2Proof.Machine.execPageMove r a s
  | .pagePin r a => Sys2Proof.Machine.execPagePin r a s
  | .pageUnpin r a => Sys2Proof.Machine.execPageUnpin r a s
  | .hdmMap r a => Sys2Proof.Machine.execHdmMap r a s
  | .hdmUnmap r a => Sys2Proof.Machine.execHdmUnmap r a s
  | .pageWrite r a => Sys2Proof.Machine.execPageWrite r a s
  | .pageRead r a => Sys2Proof.Machine.execPageRead r a s
  | .tierQuery r a => Sys2Proof.Machine.execTierQuery r a s
  | .poolStats r a => Sys2Proof.Machine.execPoolStats r a s
  | .extentCreate r a => Sys2Proof.Machine.execExtentCreate r a s
  | .extentWrite r a => Sys2Proof.Machine.execExtentWrite r a s
  | .extentRead r a => Sys2Proof.Machine.execExtentRead r a s
  | .extentDelete r a => Sys2Proof.Machine.execExtentDelete r a s
  | .flashHealth r a => Sys2Proof.Machine.execFlashHealth r a s
  | .sqTail part queue len value stores => Sys2Proof.Machine.execSqTail part queue len value stores s
  | .cqHead part queue len value => Sys2Proof.Machine.execCqHead part queue len value s
  | .strHead part queue len value => Sys2Proof.Machine.execStrHead part queue len value s
  | .descriptorFetch part queue => Sys2Proof.Machine.execDescriptorFetch part queue s
  | .parameterBlockRead r => Sys2Proof.Machine.execParameterBlockRead r s
  | .hostReadTimeout part queue cid => Sys2Proof.Machine.execHostReadTimeout part queue cid s
  | .orderedStart r => Sys2Proof.Machine.execOrderedStart r s
  | .registerWrite part offset size value => Sys2Proof.Machine.execRegisterWrite part offset size value s
  | .refuseLogClear part value => Sys2Proof.Machine.execRefuseLogClear part value s
  | .queueEnable part queue value => Sys2Proof.Machine.execQueueEnable part queue value s
  | .queueDisable part queue value => Sys2Proof.Machine.execQueueDisable part queue value s
  | .partitionEnable part slot value => Sys2Proof.Machine.execPartitionEnable part slot value s
  | .partitionDisable part slot value => Sys2Proof.Machine.execPartitionDisable part slot value s
  | .coneFire part value => Sys2Proof.Machine.execConeFire part value s
  | .disablePendingClear part queue => Sys2Proof.Machine.execDisablePendingClear part queue s
  | .queueResetDone part queue => Sys2Proof.Machine.execQueueResetDone part queue s
  | .turnBoundary => Sys2Proof.Machine.execTurnBoundary s
  | .kvExhausted session => Sys2Proof.Machine.execKvExhausted session s
  | .batchRelease pol => Sys2Proof.Machine.execBatchRelease pol s
  | .batchFallback => Sys2Proof.Machine.execBatchFallback s
  | .taskPlace task => Sys2Proof.Machine.execTaskPlace task s
  | .affinityQueueJoin task bytesOnDie => Sys2Proof.Machine.execAffinityQueueJoin task bytesOnDie s
  | .tileRelease task heldNs => Sys2Proof.Machine.execTileRelease task heldNs s
  | .tileZeroing tile => Sys2Proof.Machine.execTileZeroing tile s
  | .saveComplete task => Sys2Proof.Machine.execSaveComplete task s
  | .restoreComplete task => Sys2Proof.Machine.execRestoreComplete task s
  | .recordIssue o index fault => Sys2Proof.Machine.execRecordIssue o index fault s
  | .regulatorPiece part reg bytes refill => Sys2Proof.Machine.execRegulatorPiece part reg bytes refill s
  | .layerClose batch closeNs => Sys2Proof.Machine.execLayerClose batch closeNs s
  | .refireDecision batch => Sys2Proof.Machine.execRefireDecision batch s
  | .draftPass session logits tileUs => Sys2Proof.Machine.execDraftPass session logits tileUs s
  | .maskBuild session => Sys2Proof.Machine.execMaskBuild session s
  | .lvs batch => Sys2Proof.Machine.execLvs batch s
  | .verification session logits => Sys2Proof.Machine.execVerification session logits s
  | .reExecution o startNs => Sys2Proof.Machine.execReExecution o startNs s
  | .computeWindowEnd => Sys2Proof.Machine.execComputeWindowEnd s
  | .chainStageComplete r code scores => Sys2Proof.Machine.execChainStageComplete r code scores s
  | .migrationStart engine => Sys2Proof.Machine.execMigrationStart engine s
  | .migrationSwitch page destOk => Sys2Proof.Machine.execMigrationSwitch page destOk s
  | .t2PageRead page media => Sys2Proof.Machine.execT2PageRead page media s
  | .extentCommit extent => Sys2Proof.Machine.execExtentCommit extent s
  | .flashRefresh blocks mediaBytes => Sys2Proof.Machine.execFlashRefresh blocks mediaBytes s
  | .patrolRead passDone => Sys2Proof.Machine.execPatrolRead passDone s
  | .tierReadonly spare => Sys2Proof.Machine.execTierReadonly spare s
  | .pageFreeComplete r => Sys2Proof.Machine.execPageFreeComplete r s
  | .imageUnloadComplete part image => Sys2Proof.Machine.execImageUnloadComplete part image s
  | .templateFree part template => Sys2Proof.Machine.execTemplateFree part template s
  | .versionRetire part table version => Sys2Proof.Machine.execVersionRetire part table version s
  | .wedgeRelease part index => Sys2Proof.Machine.execWedgeRelease part index s
  | .wedgeForced part index => Sys2Proof.Machine.execWedgeForced part index s
  | .patrolScrub region uncorrectable => Sys2Proof.Machine.execPatrolScrub region uncorrectable s
  | .hubSramReload addr => Sys2Proof.Machine.execHubSramReload addr s
  | .parityRebuild page => Sys2Proof.Machine.execParityRebuild page s
  | .knownAnswerTest tile pass => Sys2Proof.Machine.execKnownAnswerTest tile pass s
  | .domainLost domain => Sys2Proof.Machine.execDomainLost domain s
  | .renobLinkFail link lanes => Sys2Proof.Machine.execRenobLinkFail link lanes s
  | .governorStep fractions withheld => Sys2Proof.Machine.execGovernorStep fractions withheld s
  | .currentClamp => Sys2Proof.Machine.execCurrentClamp s
  | .clampHoldEnd => Sys2Proof.Machine.execClampHoldEnd s
  | .clampRelease => Sys2Proof.Machine.execClampRelease s
  | .sustainedLimit => Sys2Proof.Machine.execSustainedLimit s
  | .sustainedLimitRelease => Sys2Proof.Machine.execSustainedLimitRelease s
  | .dieHot die temps => Sys2Proof.Machine.execDieHot die temps s
  | .dieTrip die => Sys2Proof.Machine.execDieTrip die s
  | .sensorSample sensor value => Sys2Proof.Machine.execSensorSample sensor value s
  | .sensorStale sensor => Sys2Proof.Machine.execSensorStale sensor s
  | .inputLow low => Sys2Proof.Machine.execInputLow low s
  | .inputLoss => Sys2Proof.Machine.execInputLoss s
  | .inputOvervoltage => Sys2Proof.Machine.execInputOvervoltage s
  | .quiescence => Sys2Proof.Machine.execQuiescence s
  | .t0Evacuation => Sys2Proof.Machine.execT0Evacuation s
  | .powerStateExit => Sys2Proof.Machine.execPowerStateExit s
  | .ppsEdge widthNs errNs phaseNs => Sys2Proof.Machine.execPpsEdge widthNs errNs phaseNs s
  | .refPresenceLoss => Sys2Proof.Machine.execRefPresenceLoss s
  | .refFrequencyCheck ref25 ppb => Sys2Proof.Machine.execRefFrequencyCheck ref25 ppb s
  | .ppsContinuityLoss => Sys2Proof.Machine.execPpsContinuityLoss s
  | .holdoverLimit => Sys2Proof.Machine.execHoldoverLimit s
  | .acquireTimeout => Sys2Proof.Machine.execAcquireTimeout s
  | .secondMark intoTurnNs => Sys2Proof.Machine.execSecondMark intoTurnNs s
  | .logFlush => Sys2Proof.Machine.execLogFlush s
  | .coneIn widthNs => Sys2Proof.Machine.execConeIn widthNs s
  | .programmedTrigger part slot => Sys2Proof.Machine.execProgrammedTrigger part slot s
  | .snapshotStore => Sys2Proof.Machine.execSnapshotStore s
  | .linkTraining head a => Sys2Proof.Machine.execLinkTraining head a s
  | .laneExcluded head lane => Sys2Proof.Machine.execLaneExcluded head lane s
  | .ideFailure head => Sys2Proof.Machine.execIdeFailure head s
  | .viral head => Sys2Proof.Machine.execViral head s
  | .cxlMemRead part offset len => Sys2Proof.Machine.execCxlMemRead part offset len s
  | .cxlMemWrite part offset data => Sys2Proof.Machine.execCxlMemWrite part offset data s
  | .coldStart meshOk loopOk => Sys2Proof.Machine.execColdStart meshOk loopOk s
  | .firmwareVerify component => Sys2Proof.Machine.execFirmwareVerify component s
  | .ftlMount => Sys2Proof.Machine.execFtlMount s
  | .hbmTraining failed => Sys2Proof.Machine.execHbmTraining failed s
  | .t0March failed => Sys2Proof.Machine.execT0March failed s
  | .tileBist failed railFault => Sys2Proof.Machine.execTileBist failed railFault s
  | .ready hubOk => Sys2Proof.Machine.execReady hubOk s
  | .perstAssert head us => Sys2Proof.Machine.execPerstAssert head us s
  | .perstDeassert head => Sys2Proof.Machine.execPerstDeassert head s
  | .functionLevelReset part => Sys2Proof.Machine.execFunctionLevelReset part s
  | .alarm source within1s => Sys2Proof.Machine.execAlarm source within1s s
  | .debugChallenge => Sys2Proof.Machine.execDebugChallenge s
  | .debugResponse scope signature => Sys2Proof.Machine.execDebugResponse scope signature s
  | .getVersion part => Sys2Proof.Machine.execGetVersion part s
  | .getCapabilities part => Sys2Proof.Machine.execGetCapabilities part s
  | .negotiateAlgorithms part offersAll => Sys2Proof.Machine.execNegotiateAlgorithms part offersAll s
  | .getDigests part => Sys2Proof.Machine.execGetDigests part s
  | .getCertificate part slot => Sys2Proof.Machine.execGetCertificate part slot s
  | .challenge part nonce => Sys2Proof.Machine.execChallenge part nonce s
  | .getMeasurements part index signed => Sys2Proof.Machine.execGetMeasurements part index signed s
  | .keyExchange part encapKey => Sys2Proof.Machine.execKeyExchange part encapKey s
  | .finish part ok => Sys2Proof.Machine.execFinish part ok s
  | .endSession part => Sys2Proof.Machine.execEndSession part s
  | .heartbeat part => Sys2Proof.Machine.execHeartbeat part s
  | .keyUpdate part => Sys2Proof.Machine.execKeyUpdate part s
  | .ideKm part memStream skid => Sys2Proof.Machine.execIdeKm part memStream skid s
  | .trustGet part => Sys2Proof.Machine.execTrustGet part s
  | .trustSet part cnt list signature => Sys2Proof.Machine.execTrustSet part cnt list signature s
  | .keyRotate part => Sys2Proof.Machine.execKeyRotate part s
  | .mctpControl command eid => Sys2Proof.Machine.execMctpControl command eid s
  | .pldmRequest type command id => Sys2Proof.Machine.execPldmRequest type command id s
  | .powerCap watts => Sys2Proof.Machine.execPowerCap watts s
  | .requestUpdate component version sigOk deviceOk => Sys2Proof.Machine.execRequestUpdate component version sigOk deviceOk s
  | .activateFirmware components floors => Sys2Proof.Machine.execActivateFirmware components floors s
  | .fmIdentify => Sys2Proof.Machine.execFmIdentify s
  | .getLdInfo => Sys2Proof.Machine.execGetLdInfo s
  | .getLdAllocations => Sys2Proof.Machine.execGetLdAllocations s
  | .setLdAllocations first sizes => Sys2Proof.Machine.execSetLdAllocations first sizes s
  | .getQosControl head => Sys2Proof.Machine.execGetQosControl head s
  | .setQosControl head control thresholds => Sys2Proof.Machine.execSetQosControl head control thresholds s
  | .getQosStatus head => Sys2Proof.Machine.execGetQosStatus head s
  | .getQosAllocatedBw reg => Sys2Proof.Machine.execGetQosAllocatedBw reg s
  | .setQosAllocatedBw reg first fractions => Sys2Proof.Machine.execSetQosAllocatedBw reg first fractions s
  | .getQosBwLimit reg => Sys2Proof.Machine.execGetQosBwLimit reg s
  | .setQosBwLimit reg first fractions => Sys2Proof.Machine.execSetQosBwLimit reg first fractions s
  | .getMultiHeadedInfo => Sys2Proof.Machine.execGetMultiHeadedInfo s
  | .getHeadInfo => Sys2Proof.Machine.execGetHeadInfo s
  | .identifyMemoryDevice part => Sys2Proof.Machine.execIdentifyMemoryDevice part s
  | .getSupportedLogs part => Sys2Proof.Machine.execGetSupportedLogs part s
  | .getLog part => Sys2Proof.Machine.execGetLog part s
  | .getEventRecords part => Sys2Proof.Machine.execGetEventRecords part s
  | .clearEventRecords part => Sys2Proof.Machine.execClearEventRecords part s
  | .getHealthInfo part => Sys2Proof.Machine.execGetHealthInfo part s
  | .getPoisonList part => Sys2Proof.Machine.execGetPoisonList part s
  | .mailboxUnsupported part opcode => Sys2Proof.Machine.execMailboxUnsupported part opcode s
  | .i3cTargetReset heldUs => Sys2Proof.Machine.execI3cTargetReset heldUs s
  | .hostReadError part queue cid kind => Sys2Proof.Machine.execHostReadError part queue cid kind s
  | .hdmDecoderCommit part ways => Sys2Proof.Machine.execHdmDecoderCommit part ways s
  | .mirrorRebuild page => Sys2Proof.Machine.execMirrorRebuild page s
  | .powerStateEntry => Sys2Proof.Machine.execPowerStateEntry s
  | .linkRecovery head flits lateRecs lanes => Sys2Proof.Machine.execLinkRecovery head flits lateRecs lanes s

end Sys2Proof.Machine
end

