-- ==== Sys2Proof/Safety.lean ====
section
/-! DEFINITION. The terms in which statements are made: what it takes for a row's premise to hold, and the canonical form of the
block's memories. -/

namespace Sys2Proof.Machine

/-- The command of reference `r` and opcode `opc` is fetched and has passed steps 1 to 5 as the entry `e` and nothing holds it
(18_queues R567, R568, R577). -/
def State.fetched (s : State) (r : Ref) (opc : Nat) (e : CmdE) : Bool := s.ready? r opc == some e && s.admits e && s.ringsLive

/-- Such a command may start: it executes in every power state, or the module is in ACTIVE or IDLE with no entry into NAP or DEEP
(18_queues R582). -/
def State.starts (s : State) (r : Ref) (opc : Nat) (e : CmdE) : Bool :=
  s.fetched r opc e &&
    (napExempt opc || (decide (s.power.pstate < 2) && !(s.power.entering && decide (2 ≤ s.power.target))))

/-- A store to partition p's windows arrives: its head presents it, IDE does not hold it off, the module is in service, its decoder
decodes (17_host_link R541, R545, R546, R551; 22_security R671). -/
def State.hears (s : State) (p : Nat) : Bool :=
  s.reach p && !s.ideBlocked p && !s.locked && !s.sagger.erased && !s.moduleLost && !(s.part p).commitErr

/-- A BAR0 access of partition p's function arrives (17_host_link R541, R551). -/
def State.barOpen (s : State) (p : Nat) : Bool := s.reach p && !s.ideBlocked p

/-! ## What a command reads and writes -/

/-- May partition p read `n` bytes at an address: any host address, and by DUA its own pages, none of them lost (04_tile R123,
08_memory_tiers R245, R276)? -/
def State.readable (s : State) (p : Nat) (dua : Bool) (a n : Nat) : Bool := !dua || s.readErr p a n == 0

/-- May partition p write `n` bytes at an address: as for a read, and no page READONLY (08_memory_tiers R251)? -/
def State.writable (s : State) (p : Nat) (dua : Bool) (a n : Nat) : Bool := !dua || s.writeErr p a n == 0

/-- The `n` bytes at a DUA or a host address. -/
def State.bytesAt (s : State) (dua : Bool) (a n : Nat) : List Byte := (if dua then s.dev else s.hostMem).readN a n

/-- The state once partition p has read them (08_memory_tiers R250). -/
def State.seen (s : State) (p : Nat) (dua : Bool) (a n : Nat) : State := if dua then s.readPages p (pagesOf a n) else s

/-- The state with bytes stored at a DUA or a host address. -/
def State.stored (s : State) (dua : Bool) (a : Nat) (bs : List Byte) : State := if dua then s.devPut a bs else s.hostPut a bs

/-- May partition p read the bytes that layout S names (18_queues R583)? -/
def State.sourceOk (s : State) (p : Nat) (a : SArgs) : Bool :=
  match a.src with
  | 0 => true
  | 1 => s.readable p true a.addr a.len
  | 2 => s.extentOk p a.extent a.addr a.len
  | _ => false

/-- The bytes that layout S names. -/
def State.sourceBytes (s : State) (a : SArgs) : List Byte :=
  if a.src = 2 then s.extentRead a.extent a.addr a.len else s.bytesAt (a.src == 1) a.addr a.len

/-- The state once they are read. -/
def State.sourceSeen (s : State) (p : Nat) (a : SArgs) : State := s.seen p (a.src == 1) a.addr a.len

/-- A query command's record of these items fits the output buffer, and the buffer may be written (18_queues R584). -/
def State.delivers (s : State) (e : CmdE) (a : QArgs) (items : List (List Byte)) : Bool :=
  decide ((qRecord e.opc items).length ≤ a.outCap) &&
    s.writable e.part (bit a.qflags 0) a.outAddr (qRecord e.opc items).length

/-- The state with that record in the output buffer. -/
def State.delivered (s : State) (e : CmdE) (a : QArgs) (items : List (List Byte)) : State :=
  s.stored (bit a.qflags 0) a.outAddr (qRecord e.opc items)

/-- May partition p read the record at an address, of kind `ekind` and `entry` bytes an entry, its header naming no more entries than
its capacity (07_selection R226, R235)? -/
def State.recordOk (s : State) (p : Nat) (dua : Bool) (a ekind entry : Nat) : Bool :=
  let h := readHdr (s.bytesAt dua a 32)
  s.readable p dua a 32 && decide (h.valid ≤ h.kcap) && h.ekind == ekind && s.readable p dua a (32 + entry * h.valid)

/-- The record of items at an address (07_selection R226, R235). -/
def State.itemsAt (s : State) (dua : Bool) (a : Nat) : InRec :=
  let h := readHdr (s.bytesAt dua a 32)
  { hdr := h, bytes := s.bytesAt dua a (32 + 16 * h.valid) }

/-- The tags of the record of selections at an address (07_selection R226). -/
def State.tagsAt (s : State) (dua : Bool) (a : Nat) : List Nat :=
  let n := (readHdr (s.bytesAt dua a 32)).valid
  (pieces 8 n ((s.bytesAt dua a (32 + 8 * n)).drop 32)).map (fun x => field x 4 4)

/-- Host memory and the bytes of the DUA range are in canonical form: addresses strictly rising, no byte listed at the value an
unlisted address reads as (logs 3 and 4). -/
def State.canonical (s : State) : Prop := s.hostMem.wf = true ∧ s.dev.wf = true

end Sys2Proof.Machine
end

