-- ==== Sys2Proof/Certificates/Slice0/Obligations.lean ====
section
/-! DEFINITION. The statements: what the commands of each family do, what they leave unchanged, what reset leaves, and the
invariants every step keeps. -/

open Sys2Proof Sys2Proof.Machine

/-! ## The block's step and its reset -/

/-- One step runs the command at the front of the queue on the state with the queue's rest (log 1).
On an empty queue the block idles: the model's own choice (log 1). -/
def Obligations.StepRunsTheFrontCommand : Prop :=
  (
  ∀ (c : Instr) (rest : List Instr) (s : State), s.pending = c :: rest → step s = exec c { s with pending := rest }) ∧
  (
  ∀ s : State, s.pending = [] → step s = .next s)

/-- 19_registers R599, R609; 18_queues R579: the reset values of a partition's slot and of a queue's slot. -/
def Obligations.ResetRegisterValues : Prop :=
  (∀ p, p < 16 →
    (State.reset.part p).en = (p == 0) ∧ (State.reset.part p).disablePending = false ∧ (State.reset.part p).enFail = 0 ∧
    (State.reset.part p).usage = 0 ∧ (State.reset.part p).refuseValid = false ∧ (State.reset.part p).refuseCnt = 0 ∧
    (State.reset.part p).wr = {
      ideRequired := false, head := 0, domain := p, homeDie := p % 8, preemptBound := 2, weight := 1
      tileLimit := 1024, waitBudget := 20, hdmSize := 0, t0Min := 0, t0Max := 983040, t1Min := 0, t1Max := 12582912
      rate := [0, 0, 0, 0, 0, 0], burst := [0, 0, 0, 0, 0, 0] }) ∧
  (∀ p q, p < 16 → q < 64 →
    (State.reset.queue p q).reg 0x00 = (if q = 0 then 0 else 2 ^ 20) + 20 * 2 ^ 15 ∧
    (State.reset.queue p q).reg 0x04 = 2 ^ 16 + 1 ∧ (State.reset.queue p q).state = .disabled ∧
    ∀ o ∈ [0x08, 0x0C, 0x10, 0x14, 0x18, 0x1C], (State.reset.queue p q).reg o = 0)

/-- Host memory and the DUA range are in canonical form after reset (logs 3 and 4). -/
def Obligations.MemoriesCanonicalAtReset : Prop :=
  State.reset.canonical

/-- Every step keeps host memory and the DUA range in canonical form (logs 3 and 4). -/
def Obligations.MemoriesStayCanonical : Prop :=
  ∀ s s' : State, s.canonical → step s = .next s' → s'.canonical

/-- No command of the block ends in a fault or a refusal: every step answers a next state. -/
def Obligations.EveryStepAnswersANextState : Prop :=
  ∀ s : State, ∃ t, step s = .next t

/-! ## Queues (18_queues R563 to R580) -/

/-- 18_queues R564: an accepted SQ_TAIL, CQ_HEAD or STR_HEAD is stored in its queue, after the host's own stores (log 3), and
nothing else changes.
18_queues R564: each listed ignored write stores nothing in any queue and raises DB_IGNORED by one. -/
def Obligations.DoorbellsAreStoredOrIgnored : Prop :=
  (
  ∀ (s : State) (p q len : Nat) (v : BitVec 64) (cells : List Host.Cell), s.hears p = true → q < 64 →
    (doorbellBad (s.part p) (s.queue p q) 0 len v.toNat = false →
      exec (.sqTail p q len v cells) s =
        .next ({ s with hostMem := cells.foldl (fun (m : Mem) (c : Host.Cell) => m.write c.1 c.2) s.hostMem }.modQueue p q
          (fun k => { k with sqTailDb := v.toNat }))) ∧
    (doorbellBad (s.part p) (s.queue p q) 1 len v.toNat = false →
      exec (.cqHead p q len v) s = .next (s.modQueue p q (fun k => { k with cqHeadDb := v.toNat }))) ∧
    (doorbellBad (s.part p) (s.queue p q) 2 len v.toNat = false →
      exec (.strHead p q len v) s = .next (s.modQueue p q (fun k => { k with strHeadDb := v.toNat })))) ∧
  (
  ∀ (s : State) (p q len : Nat) (v : BitVec 64), s.hears p = true → q < 64 →
    (len ≠ 8 ∨ (s.part p).disablePending = true ∨ (s.queue p q).state = .disabled ∨ (s.queue p q).state = .resetting ∨
      (s.queue p q).state = .disablePending ∨ (s.queue p q).cls ≠ 2 ∨ v.toNat % 16 ≠ 0 ∨ 2 ^ (s.queue p q).strLog2 ≤ v.toNat) →
    (KMap.find s.parts p).isSome →
    ∃ t, exec (.strHead p q len v) s = .next t ∧ (t.queue p q).strHeadDb = (s.queue p q).strHeadDb ∧
      KMap.findD (t.part p).ctr Ctr.dbIgnored 0 = satAdd (KMap.findD (s.part p).ctr Ctr.dbIgnored 0) 1 ∧
      t.hostMem = s.hostMem ∧ t.dev = s.dev ∧ t.inflight = s.inflight)

/-- 18_queues R565, R566, R567, R570, R590: a fetch takes the entry at SQ_HEAD, reserves its completion slots, advances SQ_HEAD round
the ring and counts; a command without a parameter block may start, one with a block waits for it, one that fails steps 1 to 3
completes with that status.
18_queues R567: the order of steps 1 to 3: an opcode outside the table or of the other class, reserved bits, the parameter
block's length and address.
18_queues R565, R567, R577: a parameter block read in full lets the command start, or wait behind earlier ones under ORDERED,
unless its reserved bytes are set; ORDERED_START lets it start once they have completed.
18_queues R578: a fetch that the host's memory fails stops the queue in FETCH_ERROR with vector 128 and a log record; a
command whose block or data it fails completes with 0x0110, 0x0111 or 0x0112 and has no other effect. -/
def Obligations.DescriptorsAreFetchedAndChecked : Prop :=
  (
  ∀ (s : State) (p q : Nat), s.fetches p q = true →
    let k := s.queue p q
    let d := s.descriptor k
    let e := entryOf s.nextTag p q d
    let n := s.reserves k.cls d e
    let f : CmdE := { e with resv := n, st := if e.pbLen = 0 then s.startSt e else .pbWait }
    let t := ({ s with nextTag := s.nextTag + 1, inflight := s.inflight ++ [f] }.count p Ctr.cmdFetched 1).modQueue p q (fun v => { v with
      sqHead := (if v.sqHead = v.sqSizeM1 then 0 else v.sqHead + 1), reserved := v.reserved + n })
    n ≤ k.freeSlots →
      (descriptorErr k.cls d e = 0 → exec (.descriptorFetch p q) s = .next t) ∧
      (descriptorErr k.cls d e ≠ 0 → exec (.descriptorFetch p q) s = .next (t.reject f (descriptorErr k.cls d e)))) ∧
  (
  ∀ (cls : Nat) (d : List Byte) (e : CmdE),
    (areaFields e.opc = none → descriptorErr cls d e = 0x0101) ∧
    (∀ l, areaFields e.opc = some l →
      (opcClass e.opc ≠ cls → descriptorErr cls d e = 0x0101) ∧
      (opcClass e.opc = cls →
        (8 ≤ field d 1 1 ∨ resvOk l e.area = false → descriptorErr cls d e = 0x0103) ∧
        (field d 1 1 < 8 → resvOk l e.area = true →
          (pbLenOk e.opc e.pbLen = false ∨ e.pbAddr % 16 ≠ 0 ∨ e.pbLen = 0 ∧ e.pbAddr ≠ 0 → descriptorErr cls d e = 0x0104) ∧
          (pbLenOk e.opc e.pbLen = true → e.pbAddr % 16 = 0 → (e.pbLen = 0 → e.pbAddr = 0) → descriptorErr cls d e = 0))))) ∧
  (
  ∀ (s : State) (r : Ref) (e : CmdE),
    (s.at? r .pbWait = some e → s.readable e.part e.pbDua e.pbAddr e.pbLen = true →
      let pb := s.bytesAt e.pbDua e.pbAddr e.pbLen
      let t := s.seen e.part e.pbDua e.pbAddr e.pbLen
      (pbResvOk e.opc pb = true → exec (.parameterBlockRead r) s = .next (t.setCmd { e with pb := pb, st := t.startSt e })) ∧
      (pbResvOk e.opc pb = false → exec (.parameterBlockRead r) s = .next (t.reject { e with pb := pb, st := t.startSt e } 0x0103))) ∧
    (s.at? r .ordWait = some e → s.startSt e = .ready →
      exec (.orderedStart r) s = .next (s.setCmd { e with st := .ready }))) ∧
  (
  ∀ (s : State) (p q cid : Nat) (e : CmdE),
    (s.fetches p q = true →
      let t := (((s.modQueue p q (fun v => { v with state := .fetchError })).count p Ctr.fetchErrors 1).raise p 128).logEv 5 2 p q q 0
      exec (.hostReadTimeout p q none) s = .next t ∧ ∀ k, exec (.hostReadError p q none k) s = .next t) ∧
    (s.inflight.find? (fun c => c.part = p && c.queue = q && c.cid = cid && (c.st == .pbWait || c.st == .ready)) = some e →
      exec (.hostReadTimeout p q (some cid)) s = .next (s.reject e Code.hostReadTimeout) ∧
      exec (.hostReadError p q (some cid) .unsupported) s = .next (s.reject e Code.hostReadError) ∧
      exec (.hostReadError p q (some cid) .abort) s = .next (s.reject e Code.hostReadError) ∧
      exec (.hostReadError p q (some cid) .poisoned) s = .next (s.reject e Code.hostDataPoisoned)))

/-- 18_queues R580, 16_scheduling R532, R533: a QUEUE_RESET aborts what has not started on its queue, cancels the generations there
and leaves the queue RESETTING until its t_b; it ends with the offsets at 0, the next PHASE 1 and the queue ENABLED, and the command
answers how many it aborted; a disable's end leaves the queue, or every queue of the partition, DISABLED and raises vector 128. -/
def Obligations.QueueResetAndDisableEnd : Prop :=
  ∀ (s : State),
    (∀ (r : Ref) (a : HArgs) (e : CmdE), s.starts r 0x01 e = true → argsH e.area = a → 0 < a.handle → a.handle < 64 →
      ((s.queue e.part a.handle).state = .enabled ∨ (s.queue e.part a.handle).state = .fetchError) →
      let waits := fun (c : CmdE) => decide (c.part = e.part) && decide (c.queue = a.handle) && !(c.st == .running)
      let t := s.abort waits Code.abortedByReset
      exec (.queueReset r a) s = .next (((t.cancelAt (fun _ v => t.onQueue e.part a.handle v) s.boundaryAfter).modQueue e.part a.handle
        (fun v => { v with state := .resetting, tb := s.boundaryAfter, ptbReset := e.tag
                           aborted := (s.inflight.filter waits).length })).keep { e with aux := [a.handle] }) ∧
      t.dev = s.dev ∧ t.wheel = s.wheel ∧ t.sessions = s.sessions ∧
      ((KMap.find s.parts e.part).isSome → (KMap.find (s.part e.part).queues a.handle).isSome →
        ∃ u, exec (.queueReset r a) s = .next u ∧ (u.queue e.part a.handle).state = .resetting ∧
          (u.queue e.part a.handle).tb = s.boundaryAfter)) ∧
    (∀ p q, (s.queue p q).state = .resetting → (s.queue p q).tb ≤ s.turn →
      s.inflight.any (fun c => c.part = p && c.queue = q) = false →
      let t := ((s.modQueue p q (fun v => { v.cleared .enabled with ptbReset := 0, aborted := 0 })).count p Ctr.queueResets 1).raise p 128
      (s.cmd (s.queue p q).ptbReset = none → exec (.queueResetDone p q) s = .next t) ∧
      (∀ e, s.cmd (s.queue p q).ptbReset = some e →
        exec (.queueResetDone p q) s = .next (t.done e 0 (s.queue p q).aborted))) ∧
    (∀ p q, (s.queue p q).state = .disablePending → (s.queue p q).tb ≤ s.turn →
      s.inflight.any (fun c => c.part = p && c.queue = q) = false →
      exec (.disablePendingClear p (some q)) s = .next ((s.modQueue p q (fun w => w.cleared .disabled)).raise p 128)) ∧
    (∀ p, (s.part p).disablePending = true → (s.part p).tb ≤ s.turn → s.inflight.any (fun c => c.part = p) = false →
      exec (.disablePendingClear p none) s = .next ((s.modPart p (fun w => { w with
        disablePending := false, saveArea := 0
        queues := KMap.each w.queues (fun _ k => { k.cleared .disabled with enable := false }) })).raise p 128))

/-- 18_queues R569, R571: a posted completion writes its 32 bytes at the hub's next slot, advances the slot, inverts PHASE at the
end of the ring, and changes no other byte of host memory.
18_queues R570, R572: a command complete leaves the block and gives its reservation back; with QUIET and status 0 it posts
nothing; a per-stage completion gives one slot of the command's reservation back and leaves the command there. -/
def Obligations.CompletionsArePosted : Prop :=
  (
  ∀ (s : State) (e : CmdE) (status result : Nat), s.canonical → s.ringsLive = true → s.ringOk e.part e.queue = true →
    (KMap.find s.parts e.part).isSome → (KMap.find (s.part e.part).queues e.queue).isSome →
    let k := s.queue e.part e.queue
    let t := s.post e none status result
    t.hostMem.readN (k.cqBase + 32 * k.cqTail) 32 = cplBytes e k none status result s.turn ∧
    (∀ a, (a < k.cqBase + 32 * k.cqTail ∨ k.cqBase + 32 * k.cqTail + 32 ≤ a) → t.hostMem.read a = s.hostMem.read a) ∧
    t.dev = s.dev ∧ t.sessions = s.sessions ∧ t.wheel = s.wheel ∧ t.inflight = s.inflight ∧
    (t.queue e.part e.queue).cqTail = (if k.cqTail = k.cqSizeM1 then 0 else k.cqTail + 1) ∧
    (t.queue e.part e.queue).phase = (if k.cqTail = k.cqSizeM1 then !k.phase else k.phase)) ∧
  (
  ∀ (s : State) (e : CmdE) (status result : Nat),
    (∀ c ∈ (s.done e status result).inflight, c ∈ s.inflight ∧ c.tag ≠ e.tag) ∧
    (e.quiet = true → status = 0 →
      s.done e status result = ({ s with inflight := s.inflight.filter (fun c => c.tag ≠ e.tag) }.modQueue e.part e.queue
        (fun v => { v with reserved := v.reserved - e.resv }))) ∧
    (e.quiet = false ∨ status ≠ 0 →
      s.done e status result =
        ({ s.post e none status result with
            inflight := (s.post e none status result).inflight.filter (fun c => c.tag ≠ e.tag) }.modQueue e.part e.queue
          (fun v => { v with reserved := v.reserved - e.resv }))) ∧
    (∀ n, (KMap.find s.parts e.part).isSome = true → (KMap.find (s.part e.part).queues e.queue).isSome = true →
      s.cmd e.tag = some e →
      (s.stageOver e n status result).cmd e.tag = some { e with resv := e.resv - 1 } ∧
      ((s.stageOver e n status result).queue e.part e.queue).reserved = (s.queue e.part e.queue).reserved - 1))

/-! ## Set-up registers (19_registers R593 to R611) -/

/-- 19_registers R595, R600, R604, R606, R610; 16_scheduling R532; 23_management R689: the writes that named rows make.
19_registers R594, R596, R609: a write of partition p other than 0 to the device-global block is refused with cause
SYSTEM_ONLY: REFUSE_LOG and REFUSE_CNT of p alone change. -/
def Obligations.RegisterWritesTakeEffectOrAreRefused : Prop :=
  (
  ∀ (s : State) (p : Nat), s.barOpen p = true →
    (∀ v : BitVec 64, (1 ≤ v.toNat ∧ v.toNat ≤ 1000 ∨ v.toNat = 0xFFFF) →
      exec (.registerWrite p 0x8000 4 v) s =
        .next ((s.modPart p (fun w => { w with heldLow := none })).modPart p (fun w => { w with stickyN := v.toNat }))) ∧
    (∀ v : Word, v.getLsbD 31 = true → v.toNat &&& 0x70000000 = 0 →
      exec (.refuseLogClear p v) s = .next ((s.modPart p (fun w => { w with heldLow := none })).modPart p (fun w => { w with
        refuseValid := false, refuseCause := 0, refuseOff := 0 }))) ∧
    (∀ v : Word, v.getLsbD 0 = true → v.toNat &&& 0xFFFFFFFE = 0 →
      exec (.coneFire p v) s = .next ((s.modPart p (fun w => { w with heldLow := none })).trigger 1 0) ∧
      (s.stage = .up → s.sagger.erased = false → s.moduleLost = false → s.mgmt.snapBusy = false →
        ∃ t, exec (.coneFire p v) s = .next t ∧ t.mgmt.snapBusy = true ∧ t.mgmt.snapSource = 1 ∧
          t.mgmt.lastSnap = (s.mgmt.lastSnap + 1) % 2 ^ 16)) ∧
    (∀ (q : Nat) (v : Word), q < 64 → v.toNat &&& 0x0F007F80 = 0 →
      let t := s.modPart p (fun w => { w with heldLow := none })
      let k := t.queue p q
      let n := k.written q (0x1000 + 64 * q) [(0x1000 + 64 * q, v.toNat)]
      k.refusal n p q (t.part p).dbInWindow (t.ringMapped p n) = 0 →
      (v.getLsbD 31 = true → k.enable = false →
        exec (.queueEnable p q v) s = .next (t.modQueue p q (fun _ => n.cleared .enabled))) ∧
      (v.getLsbD 31 = false → k.enable = true →
        (t.queueBusy p q = false →
          exec (.queueDisable p q v) s = .next (t.modQueue p q (fun _ => { n with state := .disabled }))) ∧
        (t.queueBusy p q = true →
          exec (.queueDisable p q v) s =
            .next ((t.cancelAt (fun _ w => decide (w.part = p) && decide (w.openQ = q)) t.boundaryAfter).modQueue p q (fun _ =>
              { n with state := .disablePending, tb := t.boundaryAfter }))))) ∧
    (p = 0 → ∀ (n : Nat) (v : Word), n < 16 → v.toNat &&& 0x008FFF00 = 0 →
      let t := s.modPart 0 (fun w => { w with heldLow := none })
      let w := (t.part n).slotWritten (0x21000 + 256 * n) [(0x21000 + 256 * n, v.toNat)]
      t.slotRefusal n w (v.getLsbD 31) = 0 →
      (v.getLsbD 31 = true → (t.part n).en = false → w.t0Min ≤ t.freeable 0 n → w.t1Min ≤ t.freeable 1 n →
        144 * w.tileLimit ≤ t.saveFree n w.t1Min →
        exec (.partitionEnable 0 n v) s = .next (t.modPart n (fun x => { x with
          wr := w, cfgPend := true, saveArea := x.saveArea + w.tileLimit, en := true, enPend := true }))) ∧
      (v.getLsbD 31 = false → (t.part n).en = true → w.tileLimit ≤ (t.part n).saveArea →
        exec (.partitionDisable 0 n v) s = .next ((t.modPart n (fun x => { x with
          wr := w, cfgPend := x.cfgPend || decide (w ≠ x.wr) })).disablePart n)))) ∧
  (
  ∀ (s : State) (p : Nat) (off : Nat) (v : BitVec 64), s.barOpen p = true → p ≠ 0 →
    (KMap.find s.parts p).isSome → off % 4 = 0 → 0x20000 ≤ off → off < 0x22000 → (rsvMask off).isSome →
    exec (.registerWrite p off 4 v) s = .next ((s.modPart p (fun w => { w with heldLow := none })).modPart p (fun w => { w with
      refuseValid := true, refuseCause := 4, refuseOff := off, refuseCnt := min (w.refuseCnt + 1) (2 ^ 32 - 1) })))

/-- 19_registers R607: a trigger while BUSY takes no snapshot and merges; the matcher disarms itself; CONE_CTRL and MATCH_CFG
refuse other partitions. -/
def Obligations.TriggerWhileBusyMerges : Prop :=
  ∀ (s : State), s.stage = .up → s.sagger.erased = false → s.moduleLost = false →
    (s.mgmt.snapBusy = true → ∀ src w,
      (s.trigger src w).mgmt.lastSnap = s.mgmt.lastSnap ∧ (s.trigger src w).mgmt.snaps.length = s.mgmt.snaps.length ∧
      (s.trigger src w).mgmt.snapMerged = min (s.mgmt.snapMerged + 1) (2 ^ 32 - 1) ∧
      (s.trigger src w).mgmt.conePulses = s.mgmt.conePulses + (if s.mgmt.coneOutEn = true then 1 else 0)) ∧
    (∀ w, (s.trigger 2 w).mgmt.matchEn = false) ∧
    (∀ p off v, off = 0x10000 ∨ off = 0x10008 → s.barOpen p = true → p ≠ 0 →
      (KMap.find s.parts p).isSome → v < 2 ^ 32 → v &&& (rsvMask off).getD 0 = 0 →
      ((s.barWrite p off 4 v).part p).refuseCause = 4 ∧ (s.barWrite p off 4 v).mgmt = s.mgmt)

/-! ## ADMIN commands, the log and the cone (18_queues R584 to R586; 23_management; 15_wheel R490; 20_power_thermal R616) -/

/-- 18_queues R584 to R586, R595; 17_host_link R555; 23_management R693: a query of the ADMIN set writes its record to the output
buffer, completes with 0 and changes nothing else.
18_queues R586: COUNTER_QUERY of any group above 8 is rejected with 0x0102, and the counters of a group are as many as its
table has.
23_management R685; 15_wheel R490; 18_queues R582; 20_power_thermal R616: LOG_READ writes the records its buffer holds and answers
the next RECNO; TIME_SET of partition 0 waits for its second; POWER_SET completes in the state it names, or starts the way there; in
NAP and DEEP a command that does not execute there wakes the module and waits. -/
def Obligations.AdminQueriesAnswer : Prop :=
  (
  ∀ (s : State) (r : Ref) (a : QArgs) (e : CmdE), argsQ e.area = a →
    (s.starts r 0x00 e = true → a.handle = 0 → s.delivers e a (s.identItems e.part) = true →
      exec (.identify r a) s = .next ((s.delivered e a (s.identItems e.part)).done e 0 0)) ∧
    (s.starts r 0x02 e = true → a.handle ≤ 8 → s.delivers e a (s.ctrItems e.part a.handle) = true →
      exec (.counterQuery r a) s = .next ((s.delivered e a (s.ctrItems e.part a.handle)).done e 0 0)) ∧
    (s.starts r 0x03 e = true → a.handle ≤ 1023 → e.part = 0 → s.delivers e a (s.diagItems a.handle) = true →
      exec (.diagQuery r a) s = .next ((s.delivered e a (s.diagItems a.handle)).done e 0 0)) ∧
    (s.starts r 0x0D e = true → a.handle = 0 → s.delivers e a (s.linkItems (s.part e.part).eff.head) = true →
      exec (.linkQuery r a) s = .next ((s.delivered e a (s.linkItems (s.part e.part).eff.head)).done e 0 0)) ∧
    (∀ n, s.starts r 0x05 e = true → s.snap? a.handle = some n → s.delivers e a (n.items e.part) = true →
      exec (.snapshotRead r a) s = .next ((s.delivered e a (n.items e.part)).done e 0 0))) ∧
  (
  (∀ (s : State) (r : Ref) (a : QArgs) (e : CmdE), s.starts r 0x02 e = true → argsQ e.area = a → 8 < a.handle →
    exec (.counterQuery r a) s = .next (s.reject e 0x0102)) ∧
  (∀ (s : State) (p g : Nat), ∀ i ∈ s.ctrItems p g, i.length = 8 * groupSize g)) ∧
  (
  ∀ (s : State) (r : Ref) (e : CmdE),
    (∀ (a : LogArgs), s.starts r 0x06 e = true → argsLog e.area = a → 128 ≤ a.outCap →
      let recs := (s.mgmt.logFlash ++ s.mgmt.logBuf).filter (fun l => a.first ≤ l.recno)
      (recs = [] → exec (.logRead r a) s = .next (s.done e 0 s.mgmt.logNext)) ∧
      (∀ l u, recs = l :: u →
        let w := logWalk e.part recs (a.outCap / 128) l.recno
        s.writable e.part (bit a.dua 0) a.outAddr w.1.length = true →
        exec (.logRead r a) s = .next ((s.stored (bit a.dua 0) a.outAddr w.1).done e 0 w.2))) ∧
    (∀ n, s.starts r 0x0C e = true → field e.area 0 6 = n → e.part = 0 →
      exec (.timeSet r n) s = .next ({ s with wheel := { s.wheel with
        timeSet := s.wheel.timeSet ++ [(n, e.tag, s.wheel.base + s.wheel.now)] } }.keep e)) ∧
    (∀ n, s.starts r 0x07 e = true → field e.area 0 1 = n → n ≤ 3 → e.part = 0 → s.power.entering = false →
      (s.power.pstate = n → exec (.powerSet r n) s = .next (s.done e 0 n)) ∧
      (s.power.pstate < n →
        exec (.powerSet r n) s = .next { s.keep { e with aux := [n] } with
          power := { s.power with entering := true, target := n, quiescent := false, entryFrom := 0 } }) ∧
      (s.power.pstate ≠ 0 → n = 0 ∨ n = 1 ∧ 2 ≤ s.power.pstate →
        exec (.powerSet r n) s = .next { s.keep { e with aux := [n] } with power := { s.power with exiting := true } })) ∧
    (∀ a, s.fetched r 0x64 e = true → argsQ e.area = a → s.power.entering = false → 2 ≤ s.power.pstate →
      exec (.sessionQuery r a) s = .next { s with power := { s.power with exiting := true } }))

/-- 23_management R691: CONE_PROGRAM arms the lowest free of four slots, or with CANCEL disarms the slot of that time, and answers
its number; with no free slot, or no such slot, it is rejected with 0x0102; a slot disarms as it fires.
23_management R689, R692: an edge of CONE_IN of 10 ns or longer triggers the cone while it is enabled; the snapshot's store
clears BUSY. 23_management R681, R684: a flush moves the buffered records to the ring in flash. -/
def Obligations.ConeTriggersAndLogFlush : Prop :=
  (
  ∀ (s : State),
    (∀ (r : Ref) (a : ConeArgs) (e : CmdE), s.starts r 0x04 e = true → argsCone e.area = a →
      (bit a.cancel 0 = true →
        (∀ c, (s.part e.part).cone.find? (fun c => c.2 == (a.turn, a.offset)) = some c →
          exec (.coneProgram r a) s = .next ((s.modPart e.part (fun v => { v with cone := KMap.del v.cone c.1 })).done e 0 c.1)) ∧
        ((s.part e.part).cone.find? (fun c => c.2 == (a.turn, a.offset)) = none →
          exec (.coneProgram r a) s = .next (s.reject e 0x0102))) ∧
      (bit a.cancel 0 = false → a.offset < s.wheel.period → (s.turn < a.turn ∨ s.turn = a.turn ∧ s.wheel.now ≤ a.offset) →
        (∀ n, KMap.free (s.part e.part).cone 4 = some n →
          exec (.coneProgram r a) s =
            .next ((s.modPart e.part (fun v => { v with cone := KMap.put v.cone n (a.turn, a.offset) })).done e 0 n)) ∧
        (KMap.free (s.part e.part).cone 4 = none → exec (.coneProgram r a) s = .next (s.reject e 0x0102)))) ∧
    (∀ p n o, KMap.find (s.part p).cone n = some (s.turn, o) →
      exec (.programmedTrigger p n) s = .next (({ s with wheel := { s.wheel with now := max s.wheel.now o } }.modPart p
        (fun v => { v with cone := KMap.del v.cone n })).trigger 3 0))) ∧
  (
  ∀ (s : State),
    (∀ w, exec (.coneIn w) s = .next (if s.mgmt.coneInEn = true ∧ 10 ≤ w then s.trigger 0 0 else s)) ∧
    (s.mgmt.snapBusy = true →
      exec .snapshotStore s =
        .next ({ s with mgmt := { s.mgmt with snapBusy := false } }.logEv 10 1 0xFF 0xFFFF s.mgmt.lastSnap s.mgmt.snapSource)) ∧
    (s.daUp = true → s.flashUp = true → s.mgmt.logFlash.length + s.mgmt.logBuf.length ≤ 524288 →
      exec .logFlush s = .next { s with mgmt := { s.mgmt with logFlash := s.mgmt.logFlash ++ s.mgmt.logBuf, logBuf := [] } }))

/-! ## The host link (17_host_link) -/

/-- 17_host_link R538, R542, R554, R558: a head that trains holds what its partner negotiated, in full, and no excluded lane; its
mode and the partition it presents are latched; nothing outside the head changes but the log.
17_host_link R551, R556, R557, R559, R560: a lane excluded, a recovery, an IDE failure and a viral condition, each with all it
changes.
17_host_link R556, R557: the width after an exclusion is the largest of 8, 4, 2 and 1 whose run of lanes, from the head's lane
0 or from its highest lane, holds no excluded lane. -/
def Obligations.HeadsTrainAndNarrow : Prop :=
  (
  ∀ (s : State) (h : Nat) (a : TrainArgs), s.headUsed h = true → (s.head h).perst = false → s.moduleLost = false →
    h < s.heads.length → a.ok = true → a.rate ≤ 2 → a.width ∈ [1, 2, 4, 8, 16] → a.width ≤ (s.headLanes h).length →
    ∃ t, exec (.linkTraining h a) s = .next t ∧
      (t.head h).up = true ∧ (t.head h).mld = a.mld ∧ (t.head h).rate = a.rate ∧ (t.head h).width = a.width ∧
      (t.head h).laneFail = [] ∧ (t.head h).recoveries = 0 ∧ (t.head h).partner = a.partner ∧
      ((t.head h).speedDeg = true ↔ a.rate = 0) ∧ ((t.head h).widthDeg = true ↔ a.width < (s.headLanes h).length) ∧
      ((t.head h).flit256 = true ↔ a.rate = 2 ∨ a.rate = 1 ∧ a.flit256 = true) ∧
      (t.head h).sldPart = s.sldPart.getD h 0 ∧ (∀ g, g ≠ h → t.head g = s.head g) ∧
      (∃ m, t = { s with heads := t.heads, mgmt := m })) ∧
  (
  ∀ (s : State) (h : Nat),
    ((s.head h).up = true → ∀ lane, lane ∈ s.headLanes h → lane ∉ (s.head h).laneFail →
      let fail := (s.head h).laneFail ++ [lane]
      let w := s.runWidth h fail
      let t := ((s.modHead h (fun v => { v with
        laneFail := fail, width := min v.width w, widthDeg := true, recoveries := v.recoveries + 1, inRecovery := true
        up := decide (0 < w) })).headCount h Ctr.linkRecovery 1).logEv 6 2 0xFF h (bitmap fail) 0
      exec (.laneExcluded h lane) s = .next (if w < (s.head h).width then t.headCount h Ctr.linkDowntrain 1 else t)) ∧
    ((s.head h).up = true → (s.head h).inRecovery = false → ∀ flits late fec figures,
      exec (.linkRecovery h ⟨flits, fec⟩ late figures) s =
        .next ((((((s.modHead h (fun v => { v with recoveries := v.recoveries + 1 })).headCount h Ctr.linkRecovery 1).modHead h
          (fun v => { v with inRecovery := false, lanes := s.laneMap h figures })).headCount h Ctr.flitReplay flits).headCount h
            Ctr.linkLateRec late).headCount h Ctr.fecCorrected fec)) ∧
    ((s.head h).up = true → (s.head h).inRecovery = true → ∀ flits late fec figures,
      exec (.linkRecovery h ⟨flits, fec⟩ late figures) s =
        .next ((((s.modHead h (fun v => { v with inRecovery := false, lanes := s.laneMap h figures })).headCount h Ctr.flitReplay
          flits).headCount h Ctr.linkLateRec late).headCount h Ctr.fecCorrected fec)) ∧
    (((s.head h).ideIo = true ∨ (s.head h).ideMem = true) →
      exec (.ideFailure h) s = .next (((s.modHead h (fun v => { v with ideIo := false, ideMem := false })).headCount h
        Ctr.ideFail 1).logEv 1 4 0xFF h h 0)) ∧
    ((s.head h).up = true →
      exec (.viral h) s = .next (((s.parts.filter (fun e => e.2.en && e.2.eff.head == h)).foldl
        (fun t e => t.disablePart e.1) s).logEv 6 3 0xFF h h 0))) ∧
  (
  ∀ (s : State) (h : Nat) (fail : List Nat) (w : Nat), w ∈ [8, 4, 2, 1] →
    (s.runWidth h fail = w →
      (∀ l ∈ (s.headLanes h).take w, l ∉ fail) ∨
      (∀ l ∈ (s.headLanes h).drop ((s.headLanes h).length - w), l ∉ fail)) ∧
    (((∀ l ∈ (s.headLanes h).take w, l ∉ fail) ∨
      (∀ l ∈ (s.headLanes h).drop ((s.headLanes h).length - w), l ∉ fail)) → w ≤ s.runWidth h fail))

/-- 08_memory_tiers R272, R274; 17_host_link R546, R549: a read of a mapped part of the window answers the page's bytes and sets
AGE; a read of an unmapped offset answers poison; a write of a mapped, writable part stores its bytes and no others; a decoder is
committed with one way. -/
def Obligations.HdmWindowReadsAndWrites : Prop :=
  ∀ (s : State) (p o : Nat), s.windowReached p = true → s.windowClosed p = false → (s.part p).dbInWindow = false →
    (∀ len, 0 < len → o + len ≤ (s.part p).eff.hdmSize * 2 ^ 28 →
      (∀ a b, (s.part p).windowDua o = some a → (s.part p).windowDua (o + len - 1) = some b →
        ((pagesOf a 1 ++ pagesOf b 1).dedup.any (fun k => match KMap.find s.pages k with
          | none => true
          | some g => g.flag 7)) = false →
        exec (.cxlMemRead p o len) s = .next { s.readPages p (pagesOf a 1 ++ pagesOf b 1).dedup with
          reply := .data ((List.range len).map (fun i => match (s.part p).windowDua (o + i) with
            | none => 0
            | some d => s.dev.read d)) }) ∧
      ((s.part p).windowDua o = none →
        exec (.cxlMemRead p o len) s = .next ((s.poisoned p).memEvent p 1 o (some Ctr.hostPoisonRd)))) ∧
    (∀ (data : List Byte) (a b : Nat) (ga gb : Page), 0 < data.length → o + data.length ≤ (s.part p).eff.hdmSize * 2 ^ 28 →
      (s.part p).windowDua o = some a → (s.part p).windowDua (o + data.length - 1) = some b →
      KMap.find s.pages (a / 65536) = some ga → KMap.find s.pages (b / 65536) = some gb →
      ga.flag 3 = false → gb.flag 3 = false → ga.flag 7 = false → gb.flag 7 = false →
      ∃ t, exec (.cxlMemWrite p o data) s = .next t ∧ t.hostMem = s.hostMem ∧ t.parts = s.parts ∧
        ∀ x, (∀ i, i < data.length → (s.part p).windowDua (o + i) ≠ some x) → t.dev.read x = s.dev.read x) ∧
    (∀ ways, exec (.hdmDecoderCommit p ways) s =
      .next (s.modPart p (fun v => { v with decoder := ways == 1, commitErr := decide (ways ≠ 1) })))

/-- 17_host_link R544, R549: each command of an LD's primary mailbox is answered from the partition's own state, and every other
opcode returns Unsupported; the standard's own bytes and the numbers of return codes are the model's (logs 7 and 14).
17_host_link R541, R552: the FM-API's queries are answered from the fields they name, and change nothing else.
17_host_link R552, R553: the FM-API's writes of one partition or head: HDM_SIZE while EN is 0, congestion control, and a
regulator's RATE and BURST from a fraction in 1/256 (the fraction's resolution is the model's, log 19). -/
def Obligations.MailboxAndFabricManagerAnswer : Prop :=
  (
  ∀ (s : State) (p : Nat), s.reach p = true → s.moduleLost = false → s.ideBlocked p = false →
    exec (.identifyMemoryDevice p) s = .next (s.answers 0x4000 [p, (s.part p).eff.hdmSize]) ∧
    exec (.getSupportedLogs p) s = .next (s.answers 0x0400 [p]) ∧
    exec (.getLog p) s = .next (s.answers 0x0401 [p]) ∧
    exec (.getEventRecords p) s = .next (s.answers 0x0100 (s.part p).events) ∧
    exec (.clearEventRecords p) s = .next ((s.modPart p (fun v => { v with events := [] })).answers 0x0101 [p]) ∧
    exec (.getHealthInfo p) s = .next (s.answers 0x4200 [p, s.power.maint, if s.degraded = true then 1 else 0]) ∧
    exec (.getPoisonList p) s = .next (s.answers 0x4300 (s.part p).poison) ∧
    (∀ op, op ∉ [0x4000, 0x0400, 0x0401, 0x0100, 0x0101, 0x4200, 0x4300] →
      exec (.mailboxUnsupported p op) s = .next { s with reply := .code retUnsupported })) ∧
  (
  ∀ (s : State), s.fmServed = true →
    exec .fmIdentify s = .next (s.answers 0x0001 []) ∧
    exec .getLdInfo s = .next (s.answers 0x5400 [65536 * (8 * s.framesPer 0 + 8 * s.framesPer 1), 16]) ∧
    exec .getLdAllocations s = .next (s.answers 0x5401 ((List.range 16).map (fun p => (s.part p).wr.hdmSize))) ∧
    (∀ h, exec (.getQosControl h) s = .next (s.answers 0x5403 [(s.head h).qosOn, (s.head h).qosThr])) ∧
    (∀ h, s.headUsed h = true →
      exec (.getQosStatus h) s = .next ({ s with fresh := s.fresh + 1 }.answers 0x5405 [Config.freeNat s.fresh])) ∧
    (∀ g, g = 3 ∨ g = 4 →
      exec (.getQosAllocatedBw g) s = .next (s.answers 0x5406 ((List.range 16).map (fun p =>
        fracOf ((s.part p).wr.rate.getD g 0 * 250000000) (s.head (s.part p).wr.head).raw))) ∧
      exec (.getQosBwLimit g) s = .next (s.answers 0x5408 ((List.range 16).map (fun p =>
        fracOf ((s.part p).wr.burst.getD g 0 * 1024) (s.head (s.part p).wr.head).halfMs)))) ∧
    exec .getMultiHeadedInfo s = .next (s.answers 0x5500
      ((if s.headMode = true then 2 else 1) :: (List.range 16).map (fun p => (s.part p).eff.head))) ∧
    (s.headMode = false → exec .getHeadInfo s = .next (s.answers 0x5501
      [flag (s.head 0).mld 0, (s.head 0).rate, (s.head 0).width, flag (s.head 0).flit256 0]))) ∧
  (
  ∀ (s : State) (p : Nat), s.fmServed = true →
    (∀ z, s.fmNames p = true → z ≤ 32768 → (s.part p).en = false → (s.part p).enPend = false →
      exec (.setLdAllocations p [z]) s =
        .next ((s.modPart p (fun v => { v with wr := { v.wr with hdmSize := z }, cfgPend := true })).answers 0x5402 [z])) ∧
    (∀ h c th, s.headUsed h = true →
      exec (.setQosControl h c th) s =
        .next ((s.modHead h (fun v => { v with qosOn := c, qosThr := th })).answers 0x5404 [c, th])) ∧
    (∀ g x, s.fmNames p = true → g = 3 ∨ g = 4 → x ≤ 256 → g < (s.part p).wr.rate.length → g < (s.part p).wr.burst.length →
      let h := s.head (s.part p).wr.head
      (0 < x * h.raw / 256 / 250000000 → 0 < (s.part p).wr.burst.getD g 0 →
        exec (.setQosAllocatedBw g p [x]) s = .next ((s.modPart p (fun v => { v with
          wr := { v.wr with rate := v.wr.rate.set g (x * (s.head v.wr.head).raw / 256 / 250000000) }
          cfgPend := true })).answers 0x5407 [x])) ∧
      (0 < x → 0 < (s.part p).wr.rate.getD g 0 →
        exec (.setQosBwLimit g p [x]) s = .next ((s.modPart p (fun v => { v with
          wr := { v.wr with burst := v.wr.burst.set g (max 1 (min 65535 (x * (s.head v.wr.head).halfMs / 256 / 1024))) }
          cfgPend := true })).answers 0x5409 [x]))))

/-! ## Power, sensors and the wheel (20_power_thermal, 15_wheel) -/

/-- 05_array_dataflow R163; 20_power_thermal R619 to R621: what each limit of the issue slots does, and all it changes; a slot
withheld on a die holds the array of each of its powered tiles for an ACLK, and no other tile's.
20_power_thermal R619, R621, R626: the effective fraction of a die is never above any limit in force.
20_power_thermal R622; 21_reliability R650; 23_management R684: the low input limit; the converters off, by loss or
overvoltage, with ALERT_N asserted and the buffered log committed. -/
def Obligations.LimitsAndSupply : Prop :=
  (
  ∀ (s : State),
    (∀ fr n, exec (.governorStep fr n) s = .next (({ s with power := { s.power with
      slot := (List.range 8).map (fun d => min 64 (max 1 (fr.getD d (s.power.slot.getD d 64)))) } }.withhold n).powCount
        Ctr.govWithheldSlots (n.take 8).sum)) ∧
    (∀ n t, t < 1024 → let u := s.withhold n
      KMap.findD (u.tile t).ctr TileCtr.arrayHoldCyc 0 =
        (if n.getD (t / 128) 0 = 0 ∨ s.tileGated t = true then KMap.findD (s.tile t).ctr TileCtr.arrayHoldCyc 0
         else min (KMap.findD (s.tile t).ctr TileCtr.arrayHoldCyc 0 + n.getD (t / 128) 0) (2 ^ 48 - 1)) ∧
      (u.tile t).scratch = (s.tile t).scratch ∧ u.hostMem = s.hostMem ∧ u.dev = s.dev ∧ u.power = s.power) ∧
    (s.power.clampPh ≠ 1 →
      exec .currentClamp s = .next ({ s with power := { s.power with clampPh := 1 } }.powCount Ctr.clampTrips 1)) ∧
    (s.power.clampPh = 1 → exec .clampHoldEnd s = .next { s with power := { s.power with clampPh := 2 } }) ∧
    (s.power.clampPh = 2 → exec .clampRelease s = .next { s with power := { s.power with clampPh := 0 } }) ∧
    (s.power.sustained = false →
      exec .sustainedLimit s = .next ({ s with power := { s.power with sustained := true } }.powCount Ctr.sustainedLimits 1)) ∧
    exec .sustainedLimitRelease s = .next { s with power := { s.power with sustained := false } } ∧
    (∀ d temps, d < 8 →
      (temps.any (fun t => decide (110000 ≤ t)) = true → s.power.dieHot.getD d false = false →
        exec (.dieHot d temps) s =
          .next ({ s with power := { s.power with dieHot := s.power.dieHot.set d true } }.powCount Ctr.dieHotEvents 1)) ∧
      ((∀ t ∈ temps, t < 100000) →
        exec (.dieHot d temps) s = .next { s with power := { s.power with dieHot := s.power.dieHot.set d false } }))) ∧
  (
  ∀ (w : Power) (d : Nat),
    w.fraction d ≤ 64 ∧ w.fraction d ≤ w.slot.getD d 64 ∧ (w.clampPh = 1 → w.fraction d = 0) ∧
    (w.clampPh = 2 → w.fraction d ≤ 32) ∧ (w.sustained = true → w.fraction d ≤ 48) ∧
    (w.dieHot.getD d false = true → w.fraction d ≤ 16) ∧ (w.sensLimit.getD d false = true → w.fraction d ≤ 32) ∧
    (w.clampPh = 0 → w.sustained = false → w.dieHot.getD d false = false → w.sensLimit.getD d false = false →
      w.fraction d = min 64 (w.slot.getD d 64))) ∧
  (
  ∀ (s : State),
    exec (.inputLow false) s = .next { s with power := { s.power with inputLow := false } } ∧
    (s.power.inputLow = false →
      exec (.inputLow true) s = .next ({ s with power := { s.power with inputLow := true } }.logEv 7 1 0xFF 1 1 0)) ∧
    (s.mgmt.logFlash.length + s.mgmt.logBuf.length ≤ 524288 →
      let t := { s with
        power := { s.power with inputOk := false }
        mgmt := { s.mgmt with alertN := true, logFlash := s.mgmt.logFlash ++ s.mgmt.logBuf, logBuf := [] } }
      exec .inputLoss s = .next t ∧ exec .inputOvervoltage s = .next t))

/-- 20_power_thermal R614 to R618: quiescence, the end of an entry, and an exit; an entry into NAP or DEEP empties the tiles, the
state is reported and its POWER_SETs complete, and the exit releases no batch before the next boundary; an evacuation, which ends the moves under way, that moves every
T0 page lets the entry to DEEP go on, any other ends the request in NAP.
20_power_thermal R612, R614: which domains are up in each power state. -/
def Obligations.PowerStateTransitions : Prop :=
  (
  ∀ (s : State),
    (s.power.entering = true → 2 ≤ s.power.target → s.power.quiescent = false →
      (∀ e ∈ s.tasks, e.2.tiles = []) →
      exec .quiescence s = .next { s with power := { s.power with quiescent := true, entryFrom := 1 } }) ∧
    (s.power.entering = true → s.power.target = 3 → s.power.quiescent = true → s.power.entryFrom ≠ 2 →
      let m := s.endMoves
      let r := State.evacuate (m.pages.filter (fun e => e.2.tier == 0)) m
      (r.2 = true → exec .t0Evacuation s = .next { r.1 with power := { r.1.power with entryFrom := 2 } }) ∧
      (r.2 = false → exec .t0Evacuation s = .next (({ r.1 with
        power := { r.1.power with target := 2, entryFrom := 2 }
        inflight := r.1.inflight.map (fun (e : CmdE) =>
          if e.opc = 0x07 && e.st == CmdSt.running && e.aux == [3] then { e with aux := [2] } else e) }.powCount
            Ctr.deepFallbacks 1).logEv 7 6 0xFF 256 2 0))) ∧
    (s.power.entering = true → s.power.target = 1 →
      exec .powerStateEntry s = .next ({ s with power := { s.power with
        entering := false, quiescent := false, entryFrom := 0, woke := false, exiting := s.power.woke
        domUp := domainsUp 1 s.power.domLost } }.enterState 1)) ∧
    (∀ x, x = 2 ∨ x = 3 → s.power.entering = true → s.power.target = x → s.power.quiescent = true → (x = 3 → s.power.entryFrom = 2) →
      exec .powerStateEntry s = .next ({ s with power := { s.power with
        entering := false, quiescent := false, entryFrom := 0, woke := false, exiting := s.power.woke
        domUp := domainsUp x s.power.domLost } }.emptyTiles.enterState x)) ∧
    (s.power.exiting = true → s.power.entering = false →
      let up := { s with power := { s.power with exiting := false, domUp := domainsUp 0 s.power.domLost } }
      let t := (if 2 ≤ s.power.pstate then { up.emptyTiles with wheel := { s.wheel with released := true } } else up).enterState 0
      let idle := t.inflight.any (fun e => e.opc = 0x07 && e.st == .running && e.aux == [1])
      (idle = false → exec .powerStateExit s = .next t) ∧
      (idle = true → exec .powerStateExit s = .next { t with power := { t.power with entering := true, target := 1 } }))) ∧
  (
  ∀ (x d : Nat) (lost : List Bool), d < 20 →
    ((domainsUp x lost).getD d false = true ↔
      lost.getD d false = false ∧ (d < 8 → x < 2) ∧ (8 ≤ d → d < 16 → x ≠ 3)))

/-- 20_power_thermal R623, R626: a sample outside the sensor's range is discarded and its third in a row marks the sensor FAULTY; an
accepted one enters the median of three and the filter, the source impedance the median of its last 16 estimates; sixteen accepted in
a row end FAULTY and STALE; no sample for ten periods marks the sensor STALE. -/
def Obligations.SensorSamplesAreJudged : Prop :=
  ∀ (s : State) (id : Nat) (lo hi x : Int), sensorRange id = some (lo, hi) → s.daUp = true →
    let v := s.sensor id
    ((x < lo ∨ hi < x) →
      (v.faulty = false → v.discards + 1 < 3 →
        exec (.sensorSample id x) s = .next (s.setSensor id { v with discards := v.discards + 1, good := 0 })) ∧
      (v.faulty = false → 3 ≤ v.discards + 1 →
        exec (.sensorSample id x) s = .next (s.sensorActs (((s.setSensor id { v with discards := v.discards + 1, good := 0, faulty := true }).powCount
          Ctr.sensorFaulty 1).logEv 7 4 0xFF id id 0) id))) ∧
    (lo ≤ x → x ≤ hi →
      let recent := (v.recent ++ [x]).drop (v.recent.length - 2)
      let filt := Config.filterStep v.filt (median3 recent)
      let low := if id = 194 ∧ filt < 1000 then v.low + 1 else 0
      (id ≠ 4 → v.faulty = false → v.stale = false →
        exec (.sensorSample id x) s = .next (s.sensorActs (s.setSensor id { v with
          filt := some filt, recent := recent, discards := 0, good := 0, low := low }) id)) ∧
      (id ≠ 4 → v.faulty = true ∨ v.stale = true → v.good + 1 < 16 →
        exec (.sensorSample id x) s = .next (s.sensorActs (s.setSensor id { v with
          filt := some filt, recent := recent, discards := 0, good := v.good + 1, low := low }) id)) ∧
      (id ≠ 4 → v.faulty = true ∨ v.stale = true → 16 ≤ v.good + 1 →
        exec (.sensorSample id x) s = .next (s.sensorActs (s.setSensor id { v with
          filt := some filt, recent := recent, discards := 0, good := 0, faulty := false, stale := false, low := low }) id)) ∧
      (id = 4 → v.faulty = false → v.stale = false →
        let est := (s.power.impEst ++ [x.toNat]).drop (s.power.impEst.length - 15)
        let mid : Nat := (sortBy (fun (a b : Nat) => decide (a < b)) est).getD (est.length / 2) 0
        exec (.sensorSample 4 x) s = .next (s.sensorActs ({ s with power := { s.power with impEst := est } }.setSensor 4 { v with
          filt := some (mid : Int), recent := recent, discards := 0, good := 0, low := 0 }) 4))) ∧
    (v.stale = false →
      exec (.sensorStale id) s = .next (s.sensorActs (((s.setSensor id { v with stale := true, good := 0 }).powCount Ctr.sensorStale 1).logEv
        7 5 0xFF id id 0) id))

/-- 15_wheel R482 to R487: pacing inputs and the changes of state they make.
15_wheel R485, R506; 23_management R678: a change of pacing state sets PACE and nothing outside the wheel, its counters and
its reports; HOLDOVER counts PACE_LOSS, FREERUN its entries.
15_wheel R489, R490; 23_management R684: a second mark advances the seconds from 0, a TIME_SET accepted 100 ms before takes
effect at it and realigns the turns; the log's class counts start afresh. -/
def Obligations.PacingAndSeconds : Prop :=
  (
  ∀ (s : State), s.stage ≠ .off → s.daUp = true →
    (∀ w e ph, 100 ≤ w → s.wheel.pace = 0 → 1000 < e.natAbs →
      exec (.ppsEdge w e ph) s = .next (s.devCount Ctr.ppsReject 1)) ∧
    (∀ w e ph, 100 ≤ w → s.wheel.pace ≠ 0 → s.wheel.slewing = false → s.wheel.ppsGood = 0 →
      exec (.ppsEdge w e ph) s = .next { s with wheel := { s.wheel with ppsGood := 1 } }) ∧
    (∀ w e ph, 100 ≤ w → s.wheel.pace ≠ 0 → s.wheel.slewing = false → s.wheel.ppsGood = 2 → e.natAbs ≤ 1000 →
      s.wheel.refPresent = true →
      exec (.ppsEdge w e ph) s = .next ({ s with wheel := { s.wheel with ppsGood := 3 } }.qualified ph)) ∧
    (∀ b ppb, ppb.natAbs ≤ 50000 →
      exec (.refFrequencyCheck b ppb) s =
        .next { s with wheel := { s.wheel with refPresent := true, ref25 := b, refPpb := ppb } }) ∧
    (s.wheel.pace = 0 →
      exec .refPresenceLoss s =
        .next ({ s with wheel := { s.wheel with refPresent := false, ref25 := false, refPpb := 0 } }.setPace 1) ∧
      exec .ppsContinuityLoss s = .next (s.setPace 1)) ∧
    (s.wheel.pace ≠ 0 →
      let w := { s.wheel with ppsGood := 0, slewing := false, transition := s.wheel.transition && !s.wheel.lockDue, lockDue := false }
      exec .ppsContinuityLoss s = .next { s with wheel := w } ∧
      exec .refPresenceLoss s = .next { s with wheel := { w with refPresent := false, ref25 := false, refPpb := 0 } }) ∧
    (s.wheel.pace = 1 → s.wheel.slewing = false → exec .holdoverLimit s = .next (s.setPace 2)) ∧
    (s.wheel.pace = 3 → s.wheel.refPresent = false → exec .acquireTimeout s = .next (s.setPace 2))) ∧
  (
  ∀ (s : State) (x : Nat),
    (s.setPace x).wheel.pace = x ∧ (s.setPace x).wheel.slewing = false ∧ (s.setPace x).wheel.turn = s.wheel.turn ∧
    (∃ d m w, s.setPace x = { s with wheel := w, mgmt := m, dctr := d }) ∧
    (s.wheel.pace = 0 → KMap.findD (s.setPace 1).dctr Ctr.paceLoss 0 = satAdd (KMap.findD s.dctr Ctr.paceLoss 0) 1)) ∧
  (
  ∀ (s : State) (n : Nat), s.stage ≠ .off → s.daUp = true →
    (s.wheel.timeSet = [] →
      exec (.secondMark n) s = .next { s with
        wheel := { s.wheel with
          todS := if s.wheel.marks = 0 then 0 else (s.wheel.todS + 1) % 2 ^ 48
          marks := s.wheel.marks + 1, mark := some n, now := max s.wheel.now n }
        mgmt := { s.mgmt with logCnt := [] } }) ∧
    (∀ sec tag at', s.wheel.timeSet = [(sec, tag, at')] → at' + 100000000 ≤ s.wheel.base + n →
      ∃ t, exec (.secondMark n) s = .next t ∧ t.wheel.todS = sec ∧ t.wheel.transition = true ∧ t.wheel.timeSet = []))

/-! ## Management (23_management, 25_module R718) -/

/-- 23_management R676 to R680, R686, R687; 20_power_thermal R620; 25_module R718: what each management command does where Askux
serves it. -/
def Obligations.ManagementCommands : Prop :=
  ∀ (s : State), s.askuxUp = true → s.recovery = false →
    (∀ eid, exec (.mctpControl 1 eid) s =
      .next ({ s with mgmt := { s.mgmt with eid := eid } }.answers 0x100 [1, eid])) ∧
    (∀ id, exec (.pldmRequest 2 4 id) s =
      .next ({ s with mgmt := { s.mgmt with receiver := true } }.answers 0x200 [2, 4])) ∧
    (∀ id v, s.pldmReading id = some v →
      exec (.pldmRequest 2 0x11 id) s = .next (s.answers 0x200 [2, 0x11, id, unsigned 64 v])) ∧
    (∀ w, 600 ≤ w → w ≤ 1800 → w % 10 = 0 →
      exec (.powerCap w) s = .next ({ s with power := { s.power with powerCap := w } }.answers 0x200 [2, 0x31, 512, w])) ∧
    (∀ us, 25000 < us → exec (.i3cTargetReset us) s =
      .next { s with mgmt := { s.mgmt with i3cReset := s.mgmt.i3cReset + 1 } }) ∧
    (∀ c ver, c < 5 → (s.mgmt.comps.getD c {}).floor ≤ ver → (s.mgmt.comps.getD c {}).slotA.isSome →
      let old := s.mgmt.comps.getD c {}
      let now : Comp := { old with slotB := old.slotA, sigB := old.sigA, slotA := some ver, sigA := true }
      exec (.requestUpdate c ver true true) s =
        .next (({ s with mgmt := { s.mgmt with comps := s.mgmt.comps.set c now } }.logEv 8 1 0xFF c c 0).answers 0x500 [c, 0])) ∧
    (∀ c v, c < 5 → c ≠ 1 → (s.mgmt.comps.getD c {}).slotA = some v → s.ready = false →
      let now : Comp := { s.mgmt.comps.getD c {} with pending := true }
      exec (.activateFirmware [c] none) s =
        .next (({ s with mgmt := { s.mgmt with comps := s.mgmt.comps.set c now } }.logEv 8 2 0xFF c c 0).answers 0x501 [c]))

/-! ## Security (22_security; 17_host_link R550) -/

/-- 22_security R670, R671: an alarm raises ALARM_LEVEL to its level and counts; LOCK asks for the lock at the next boundary; ERASE,
by its level or by a second trip within 1 s, zeroises the keys and the configuration records and asserts ALERT_N.
22_security R672 to R674: a challenge is drawn and held; a response uses it up, and unlocks its SCOPE where the signature
verifies; otherwise it counts, the third raising the debug alarm. -/
def Obligations.AlarmsAndDebugUnlock : Prop :=
  (
  ∀ (s : State) (src : AlarmSource) (again : Bool), s.stage ≠ .off → s.daUp = true →
    let level := if again = true then 3 else s.sagger.levels.getD (alarmNum src) 1
    ∃ t, exec (.alarm src again) s = .next t ∧
      t.sagger.alarmLevel = max s.sagger.alarmLevel level ∧
      t.sagger.alarmEvents = min (s.sagger.alarmEvents + 1) (2 ^ 32 - 1) ∧
      (level = 1 → t.sagger.secLock = s.sagger.secLock ∧ t.parts = s.parts ∧ t.heads = s.heads) ∧
      (level = 2 → s.sagger.secLock = false → t.sagger.secLock = true ∧ t.sagger.lockDue = true ∧ t.parts = s.parts) ∧
      (level = 3 → t.sagger.kRoot = false ∧ t.sagger.pufOk = false ∧ t.sagger.erased = true ∧ t.sagger.secLock = true ∧
        t.mgmt.alertN = true ∧ ∀ e ∈ t.parts, e.2.genP = 0 ∧ e.2.trust = [] ∧ e.2.trustCnt = 0 ∧ e.2.spdm = none) ∧
      t.hostMem = s.hostMem ∧ t.dev = s.dev ∧ t.sessions = s.sessions ∧ t.pages = s.pages ∧ t.inflight = s.inflight) ∧
  (
  ∀ (s : State), s.debugRefused = false →
    (∃ t c, exec .debugChallenge s = .next t ∧ t = { s with
      fresh := s.fresh + 1, sagger := { s.sagger with challenge := some c }, reply := .data (c ++ debugTag c) } ∧ c.length = 32) ∧
    (∀ c scope sig, s.sagger.challenge = some c →
      let u := { s with sagger := { s.sagger with challenge := none } }
      let good := Config.mlDsaVerify (leBytes 8 Config.serial.toNat ++ c ++ leBytes 1 scope ++ debugTag c) sig 3 []
      (1 ≤ scope → scope ≤ 3 → good = true → exec (.debugResponse scope sig) s = .next (u.unlock scope)) ∧
      (good = false ∨ scope = 0 ∨ 3 < scope → s.sagger.debugFails + 1 < 3 →
        exec (.debugResponse scope sig) s =
          .next { u with sagger := { u.sagger with debugFails := s.sagger.debugFails + 1 } })) ∧
    (s.sagger.challenge = none → ∀ scope sig, exec (.debugResponse scope sig) s = .next s))

/-- 22_security R658, R665 to R667: the handshake of an SPDM session on partition p's function, step by step, each with all it
changes; request and answer bytes that the SPDM standard fixes are the model's (logs 7 and 14).
17_host_link R550; 22_security R658, R666, R668, R669: the requests of a secured session: its end, heartbeat, key update, IDE
keys, the trust list and GEN_p. -/
def Obligations.SpdmSessions : Prop :=
  (
  ∀ (s : State) (p : Nat), s.spdmServed p = true →
    let v := s.part p
    (v.spdm = none →
      exec (.getVersion p) s = .next ((s.modPart p (fun w => { w with spdmState := 1 })).spdmAnswer 0x04 [0x13] [])) ∧
    (1 ≤ v.spdmState → exec (.getCapabilities p) s =
      .next ((s.modPart p (fun w => { w with spdmState := max v.spdmState 2 })).spdmAnswer 0x61 [] (Config.standardAnswer 0x61 []))) ∧
    (2 ≤ v.spdmState → exec (.negotiateAlgorithms p true) s =
      .next ((s.modPart p (fun w => { w with spdmState := max v.spdmState 3 })).spdmAnswer 0x63 [0x9601, 0x9602, 0x9603] [])) ∧
    (3 ≤ v.spdmState →
      exec (.getDigests p) s = .next (s.spdmAnswer 0x01 [if s.partKey p = true then 3 else 1]
        (([0, 1].filterMap (s.slotCert p)).flatMap (fun c => Config.shake256 c 64))) ∧
      (∀ n c, s.slotCert p n = some c → exec (.getCertificate p n) s = .next (s.spdmAnswer 0x02 [n] c)) ∧
      (s.noSigning = false → ∀ nonce, exec (.challenge p nonce) s = .next (s.spdmAnswer 0x03 [] (Config.mlDsaSign nonce))) ∧
      (∀ i, (1 ≤ i ∧ i ≤ 8 ∨ i = 16 + p) →
        exec (.getMeasurements p i false) s = .next (s.spdmAnswer 0x60 [i] (s.sagger.value i ++ []))) ∧
      (v.spdm = none → s.noSigning = false → s.locked = false → s.sagger.erased = false → ∀ key, key.length = 1184 →
        let r := Config.mlKemEncaps key s.fresh
        exec (.keyExchange p key) s = .next (({ s with fresh := s.fresh + 1 }.modPart p (fun w => { w with
          spdm := some r.2, spdmState := 4, spdmUpd := 0 })).spdmAnswer 0x64 [] (r.1 ++ Config.mlDsaSign r.1)))) ∧
    (v.spdmState = 4 → exec (.finish p true) s =
      .next ((s.modPart p (fun w => { w with spdmState := 5 })).spdmAnswer 0x65 [] []))) ∧
  (
  ∀ (s : State) (p : Nat), s.spdmServed p = true → 5 ≤ (s.part p).spdmState →
    exec (.endSession p) s =
      .next ((s.modPart p (fun w => { w with spdm := none, spdmState := 3, spdmUpd := 0 })).spdmAnswer 0x6C [] []) ∧
    exec (.heartbeat p) s = .next (s.spdmAnswer 0x68 [] []) ∧
    exec (.keyUpdate p) s = .next ((s.modPart p (fun w => { w with spdmUpd := w.spdmUpd + 1 })).spdmAnswer 0x69 [] []) ∧
    (s.sagger.debugScope ≠ 3 →
      (∀ skid, exec (.ideKm p false skid) s =
        .next ((s.modHead (s.part p).eff.head (fun h => { h with ideIo := true })).spdmAnswer 0x7E [] [])) ∧
      (∀ skid, exec (.ideKm p true skid) s =
        .next ((s.modHead (s.part p).eff.head (fun h => { h with ideMem := true, skid := skid })).spdmAnswer 0x7E [] []))) ∧
    exec (.trustGet p) s =
      .next (s.spdmAnswer 0x7E [1, (s.part p).trustCnt, (s.part p).trustList.length] (s.part p).trustList.flatten) ∧
    (∀ cnt l sig, l ≠ [] → l.length ≤ 8 → (∀ h ∈ l, h.length = 32) → cnt = (s.part p).trustCnt + 1 →
      Config.mlDsaVerify (leBytes 8 Config.serial.toNat ++ leBytes 1 p ++ leBytes 4 cnt ++ l.flatten) sig 2 (s.part p).trustList = true →
      exec (.trustSet p cnt l sig) s =
        .next ((s.modPart p (fun w => { w with trust := l, trustCnt := cnt })).spdmAnswer 0x7E [2, cnt] [])) ∧
    ((s.part p).images.any (fun e => e.2.encrypted) = false →
      exec (.keyRotate p) s =
        .next ((s.modPart p (fun w => { w with genP := (w.genP + 1) % 2 ^ 32 })).spdmAnswer 0x7E [3, (s.part p).genP + 1] [])))

/-! ## Start-up and reset (24_startup) -/

/-- 24_startup R696, R704; 22_security R655, R656: a cold start with mesh and loop whole enters verification with DA alone up, the
wheel in ACQUIRE, host memory, the extent store's sizes and the log kept, and boot recovery exactly where K_ROOT is not formed.
24_startup R696, R699: each stage ends in the next; a component that verifies runs; what fails is left out, retired or
quarantined.
24_startup R700: READY is set with at most one die and one stack left out and DEGRADED where there is one; with more, or where
the hub's self-test fails, start-up fails: READY stays 0 and ALERT_N is asserted. -/
def Obligations.StartUpRunsToReady : Prop :=
  (
  ∀ (s : State), s.stage = .off →
    ∃ t, exec (.coldStart true true) s = .next t ∧ t.stage = .verify ∧ t.wheel.pace = 3 ∧ t.ready = false ∧
      (t.sagger.kRoot = true ↔ s.sagger.pufOk = true ∧ s.sagger.identityOk = true) ∧ (t.recovery = true ↔ t.sagger.kRoot = false) ∧
      t.sagger.alarmLevel = 0 ∧ t.hostMem = s.hostMem ∧ t.dev = [] ∧ t.sessions = [] ∧ t.pages = [] ∧
      t.flash.extents.map Prod.fst = s.flash.extents.map Prod.fst ∧ t.mgmt.logFlash = s.mgmt.logFlash ∧
      (∀ d, d < 20 → (t.power.domUp.getD d false = true ↔ d = 19))) ∧
  (
  ∀ (s : State),
    (s.stage = .mount → exec .ftlMount s = .next { s with
      stage := .hbm, flash := { s.flash with mounted := true }, mgmt := { s.mgmt with served := true } }) ∧
    (s.stage = .hbm → ∀ l, exec (.hbmTraining l) s =
      .next { (l.filter (fun d => decide (d < 8))).dedup.foldl (fun (t : State) d => t.leaveOut (8 + d)) s with stage := .march }) ∧
    (s.stage = .march → exec (.t0March []) s = .next { s with stage := .bist }) ∧
    (s.stage = .march → ∀ d f, d < 8 → exec (.t0March [(d, f)]) s = .next { s.retire 0 d f with stage := .bist }) ∧
    (s.stage = .bist → (∀ d, d < 8 → s.power.dieTripped.getD d false = false) → ∀ k, k < 1024 →
      exec (.tileBist [k] []) s =
        .next { (s.quarantine [k]).logFault 3 (k / 128) k 0xFF 5 0 0 0 with stage := .wait }) ∧
    (s.stage = .verify → s.recovery = false → ∀ c v, c < 5 → (s.mgmt.comps.getD c {}).running = 0 →
      (∀ i, i < min c 2 → (s.mgmt.comps.getD i {}).running ≠ 0) → (s.mgmt.comps.getD c {}).boots = some (v, 0) →
      c < s.mgmt.comps.length →
      ∃ t, exec (.firmwareVerify c) s = .next t ∧ (t.mgmt.comps.getD c {}).running = v ∧
        t.sagger.measLog = s.sagger.measLog ++ [(2 + c, 0, Config.componentDigest c v)] ∧
        (t.stage = .mount ↔ ∀ d ∈ t.mgmt.comps, d.running ≠ 0) ∧ t.parts = s.parts ∧ t.hostMem = s.hostMem)) ∧
  (
  ∀ (s : State) (hubOk : Bool), s.stage = .wait → s.ready = false →
    let n := fun (l : List Bool) => (l.filter (fun b => b)).length
    ∃ t, exec (.ready hubOk) s = .next t ∧
      (hubOk = true → n s.dieLost ≤ 1 → n s.stackLost ≤ 1 →
        t.ready = true ∧ t.stage = .up ∧ (s.degraded = false → (t.degraded = true ↔ n s.dieLost = 1 ∨ n s.stackLost = 1))) ∧
      ((hubOk = false ∨ 1 < n s.dieLost ∨ 1 < n s.stackLost) →
        t.ready = false ∧ t.startFail = true ∧ t.mgmt.alertN = true ∧ t.stage = .failed))

/-- 17_host_link R540; 24_startup R697, R702, R704, R705; 19_registers R598: PERST of the last head in use resets the module but
keeps the wheel, the log and host memory; its end resumes start-up; a function-level reset returns every queue of the partition to
DISABLED, frees its work without a record, and keeps EN, the save area and the device-global fields. -/
def Obligations.ResetsHaveTheirScope : Prop :=
  ∀ (s : State),
    (∀ us, 10 ≤ us → s.stage ≠ .off → s.headMode = false → (s.head 0).perst = false → 0 < s.heads.length →
      s.power.inputOk = true → s.startFail = false →
      ∃ t, exec (.perstAssert 0 us) s = .next t ∧ t.stage = .held ∧ t.wheel = s.wheel ∧ t.mgmt.logFlash = s.mgmt.logFlash ∧
        t.mgmt.logBuf = s.mgmt.logBuf ∧ t.hostMem = s.hostMem ∧ t.sagger.measLog = s.sagger.measLog ∧
        t.sagger.alarmLevel = s.sagger.alarmLevel ∧ t.retired = s.retired ∧ t.dev = [] ∧ t.sessions = [] ∧ t.inflight = [] ∧
        t.ready = false ∧ (t.head 0).up = false) ∧
    (s.stage = .held → s.headMode = false → (s.head 0).perst = true → 0 < s.heads.length →
      exec (.perstDeassert 0) s = .next { s.modHead 0 (fun h => { h with perst := false }) with stage := .verify }) ∧
    (∀ p, p < 16 → s.reach p = true → (KMap.find s.parts p).isSome →
      ∃ t, exec (.functionLevelReset p) s = .next t ∧ t.hostMem = s.hostMem ∧ t.wheel = s.wheel ∧
        (t.part p).en = (s.part p).en ∧ (t.part p).saveArea = (s.part p).saveArea ∧ (t.part p).wr = (s.part p).wr ∧
        (t.part p).eff = (s.part p).eff ∧ (t.part p).queues = Queue.resetAll ∧ (∀ e ∈ t.inflight, e.part ≠ p) ∧
        (∀ e ∈ t.sessions, e.2.part ≠ p) ∧ (t.part p).images = [] ∧ (t.part p).tables = [])

/-! ## Memory tiers (08_memory_tiers) -/

/-- 08_memory_tiers R256, R284: PAGE_ALLOC answers the base DUA of the pages it has allocated; PAGE_FREE waits for the runs admitted
before it and the batches that read its pages, and then frees its pages' entries and bytes.
08_memory_tiers R248, R250, R256, R284: an allocated page has an entry of its partition, its flags and the running turn's AGE,
in the tier asked for or a lower one.
08_memory_tiers R251: pages given back are in no entry of the page table, and their bytes of the DUA range read 0. -/
def Obligations.PagesAreAllocatedAndFreed : Prop :=
  (
  ∀ (s : State) (r : Ref) (a : MArgs) (e : CmdE),
    (s.starts r 0x80 e = true → argsM e.area = a → a.pages ≠ 0 → a.tier < 3 → (bit a.pgflags 2 = true → bit a.pgflags 3 = true) →
      ((s.alloc e.part a.pages a.tier (hostFlags a.pgflags)).isSome = true → ∃ k t,
        s.alloc e.part a.pages a.tier (hostFlags a.pgflags) = some (k, t) ∧
        exec (.pageAlloc r a) s = .next (t.done e 0 (65536 * k))) ∧
      (s.alloc e.part a.pages a.tier (hostFlags a.pgflags) = none →
        exec (.pageAlloc r a) s = .next (s.reject e Code.poolExhausted))) ∧
    (s.starts r 0x81 e = true → argsM e.area = a → (s.pagesErr e.part a = 0 ∨ s.pagesErr e.part a = Code.pageLost) →
      s.anyPage a (fun g => g.flag 1) = false → exec (.pageFree r a) s = .next (s.keep { e with aux := pageNums a })) ∧
    (s.at? r .running = some e → e.opc = 0x81 → (∀ x ∈ s.runs, x.2.part = e.part → e.tag ≤ x.2.tag) →
      (∀ k ∈ e.aux, s.batchReads k = false) →
      exec (.pageFreeComplete r) s = .next ((e.aux.foldl (fun t k => t.freePages k 1) s).done e 0 0))) ∧
  (
  ∀ (s t : State) (p k tier : Nat) (flags : BitVec 16), s.allocPage p k tier flags = some t →
    ∃ g, KMap.find t.pages k = some g ∧ g.owner = p ∧ g.flags = flags ∧ g.age = s.turn % 2 ^ 48 ∧ g.mstate = 0 ∧
      tier ≤ g.tier ∧ g.tier ≤ 2 ∧ (g.tier = 2 → flags.getLsbD 0 = false ∧ flags.getLsbD 1 = false)) ∧
  (
  ∀ (s : State) (k n : Nat), s.dev.wf = true →
    (∀ i, k ≤ i → i < k + n → KMap.find (s.freePages k n).pages i = none) ∧
    (∀ i, i < k ∨ k + n ≤ i → KMap.find (s.freePages k n).pages i = KMap.find s.pages i) ∧
    (∀ a, 65536 * k ≤ a → a < 65536 * (k + n) → (s.freePages k n).dev.read a = 0) ∧
    (∀ a, a < 65536 * k ∨ 65536 * (k + n) ≤ a → (s.freePages k n).dev.read a = s.dev.read a))

/-- 08_memory_tiers R272, R273, R275, R284, R285: PAGE_MOVE, PAGE_PIN and HDM_MAP queue the pages that have to move and complete when
they stand there; PAGE_UNPIN and HDM_UNMAP complete at once. -/
def Obligations.PagesAreMovedPinnedAndMapped : Prop :=
  ∀ (s : State) (r : Ref) (a : MArgs) (e : CmdE), argsM e.area = a →
    let c := s.pagesErr e.part a
    (s.starts r 0x82 e = true → c = 0 → a.tier < 3 →
      (a.tier = 2 → s.anyPage a (fun g => g.flag 0 || g.flag 1) = false ∧ s.flash.readonly = false) →
      exec (.pageMove r a) s = .next (s.moveAll e (pageNums a) (fun g => g.leaves a.tier) (fun _ => a.tier))) ∧
    (s.starts r 0x83 e = true → c = 0 →
      exec (.pagePin r a) s = .next (s.moveAll e (pageNums a) Page.toT2 Page.raiseTier)) ∧
    (s.starts r 0x84 e = true → c = 0 →
      exec (.pageUnpin r a) s = .next (((pageNums a).foldl (fun t k => t.modPage k (fun g =>
        if g.flag 1 then { g with pinCmd := false } else { g.setFlag 0 false with pinCmd := false })) s).done e 0 0)) ∧
    (s.starts r 0x85 e = true → c = 0 → a.tier < 2 → s.anyPage a (fun g => g.poolKv) = false →
      (s.part e.part).rangeBad a.winOff a.pages = false →
      let mapped := (pageNums a).foldl (fun o k => o.bind (fun (u : State) => u.mapPage k)) (some s)
      (mapped.isSome = true → ∃ t, mapped = some t ∧
        exec (.hdmMap r a) s = .next ((t.modPart e.part (fun v => { v with maps := v.maps ++
          [{ off := a.winOff, page := a.dua / 65536, pages := a.pages, tag := e.tag }] })).moveAll e (pageNums a)
            Page.toT2 Page.raiseTier)) ∧
      (mapped = none → exec (.hdmMap r a) s = .next (s.reject e Code.poolExhausted))) ∧
    (s.starts r 0x86 e = true → (c = 0 ∨ c = Code.pageLost) →
      exec (.hdmUnmap r a) s = .next ((((pageNums a).foldl (fun t k => t.modPage k (fun g =>
        if g.pinCmd then g.setFlag 1 false else (g.setFlag 1 false).setFlag 0 false)) s).modPart e.part (fun v => { v with
          maps := v.maps.flatMap (fun m => m.without (a.dua / 65536) a.pages) })).done e 0 0))

/-- 08_memory_tiers R251, R284: PAGE_WRITE stores the source's bytes in its pages and, where none is READONLY, changes no other byte
of the DUA range; PAGE_READ writes the pages' bytes to its buffer and changes no byte of the DUA range where that is host memory.
08_memory_tiers R251, R262: bytes written by DUA reach exactly their own addresses, and mark every line they touch of a page on
the move. -/
def Obligations.PageBytesAreWrittenAndRead : Prop :=
  (
  ∀ (s : State) (r : Ref) (a : MArgs) (e : CmdE), s.canonical → argsM e.area = a → s.pagesErr e.part a = 0 →
    let dua := bit a.mflags 0
    let n := 65536 * a.pages
    (s.starts r 0x87 e = true → s.readable e.part dua a.hostAddr n = true →
      let t := s.seen e.part dua a.hostAddr n
      ((t.rewrite (pageNums a)).isSome = true → ∃ u, t.rewrite (pageNums a) = some u ∧
        exec (.pageWrite r a) s = .next ((u.devPut a.dua (s.bytesAt dua a.hostAddr n)).done e 0 0)) ∧
      (t.rewrite (pageNums a) = none → exec (.pageWrite r a) s = .next (s.reject e Code.poolExhausted)) ∧
      (dua = false → s.anyPage a (fun g => g.flag 3) = false →
        ∃ t, exec (.pageWrite r a) s = .next t ∧
          t.dev.readN a.dua n = s.hostMem.readN a.hostAddr n ∧
          ∀ x, x < a.dua ∨ a.dua + n ≤ x → t.dev.read x = s.dev.read x)) ∧
    (s.starts r 0x88 e = true → (s.readPages e.part (pageNums a)).writable e.part dua a.hostAddr n = true →
      exec (.pageRead r a) s = .next (((s.readPages e.part (pageNums a)).stored dua a.hostAddr (s.dev.readN a.dua n)).done e 0 0)) ∧
    (s.starts r 0x88 e = true → dua = false →
      exec (.pageRead r a) s = .next ({ s.readPages e.part (pageNums a) with
        hostMem := s.hostMem.writeN a.hostAddr (s.dev.readN a.dua n) }.done e 0 0))) ∧
  (
  ∀ (s : State) (a : Nat) (bs : List Byte), s.canonical →
    (∀ i (h : i < bs.length), (s.devPut a bs).dev.read (a + i) = bs[i]) ∧
    (∀ x, x < a ∨ a + bs.length ≤ x → (s.devPut a bs).dev.read x = s.dev.read x) ∧
    (s.devPut a bs).hostMem = s.hostMem ∧ (s.devPut a bs).parts = s.parts ∧ (s.devPut a bs).sessions = s.sessions ∧
    (∀ k g, KMap.find s.pages k = some g → k ∈ pagesOf a bs.length → (g.mstate = 1 ∨ g.mstate = 2) →
      ∃ h, KMap.find (s.devPut a bs).pages k = some h ∧ h.flag 6 = false ∧
        ∀ l, l < 1024 → a < k * 65536 + 64 * l + 64 → k * 65536 + 64 * l < a + bs.length → l ∈ h.dirty))

/-- 08_memory_tiers R248, R271, R283, R284: TIER_QUERY, POOL_STATS and FLASH_HEALTH write what they report and complete.
08_memory_tiers R281, R282, R284, R286: an extent is created where the store has room (its ID is a free choice, log 10), a write
of it completes when it is durable, a read answers its durable bytes, a deleted one is gone.
01_architecture R11; 08_memory_tiers R279, R282, R283: while the flash domain is up, refresh and patrol are counted; spare below 2 % makes tier T2 read-only and raises the
maintenance state. -/
def Obligations.TiersExtentsAndFlash : Prop :=
  (
  ∀ (s : State) (r : Ref) (e : CmdE),
    (∀ a, s.starts r 0x89 e = true → argsM e.area = a → a.dua % 65536 = 0 → a.pages ≠ 0 →
      inWindow e.part a.dua (65536 * a.pages) = true →
      let bs := (pageNums a).flatMap (fun k => tierEntry (KMap.find s.pages k))
      s.writable e.part (bit a.mflags 0) a.hostAddr bs.length = true →
      exec (.tierQuery r a) s = .next ((s.stored (bit a.mflags 0) a.hostAddr bs).done e 0 0)) ∧
    (∀ a, s.starts r 0x8A e = true → argsQ e.area = a →
      let items := [(List.range 3).flatMap (fun n => leBytes 4 (s.framesOf e.part n)), ctrBytes (s.part e.part).ctr 0x100 22]
      s.delivers e a items = true → exec (.poolStats r a) s = .next ((s.delivered e a items).done e 0 0)) ∧
    (∀ a, s.starts r 0x8F e = true → argsQ e.area = a → s.delivers e a [ctrBytes s.flashCtrs 0x900 8] = true →
      exec (.flashHealth r a) s = .next ((s.delivered e a [ctrBytes s.flashCtrs 0x900 8]).done e 0 0))) ∧
  (
  ∀ (s : State) (r : Ref) (a : EArgs) (e : CmdE), argsE e.area = a →
    (s.starts r 0x8B e = true → s.extentBytes + s.flash.pagingSizeWr * 2 ^ 30 + a.len ≤ flashBytes →
      ∃ id, exec (.extentCreate r a) s = .next ({ s with
        fresh := s.fresh + 1
        flash := { s.flash with
          extents := KMap.put s.flash.extents id { owner := e.part, size := a.len }
          nextExtent := max s.flash.nextExtent (id + 1) } }.done e 0 id)) ∧
    (s.starts r 0x8C e = true → s.extentOk e.part a.extent a.offset a.len = true → s.flash.readonly = false →
      s.readable e.part (bit a.eflags 0) a.addr a.len = true →
        let bs := s.bytesAt (bit a.eflags 0) a.addr a.len
        let t := s.seen e.part (bit a.eflags 0) a.addr a.len
        exec (.extentWrite r a) s = .next ({ t with flash := { t.flash with
          extents := KMap.mod t.flash.extents a.extent (fun v => { v with pend := v.pend ++ [(e.tag, a.offset, bs)] }) } }.keep e)) ∧
    (∀ v tag o bs rest c, KMap.find s.flash.extents a.extent = some v → v.pend = (tag, o, bs) :: rest → s.cmd tag = some c → s.flashUp = true →
      exec (.extentCommit a.extent) s = .next (((({ s with flash := { s.flash with
        extents := KMap.put s.flash.extents a.extent { v with pend := rest, data := v.data.writeN o bs } } }.flashCount
          Ctr.hostBytesWritten bs.length).flashCount Ctr.mediaBytesWritten bs.length)).done c 0 0)) ∧
    (s.starts r 0x8D e = true → s.extentOk e.part a.extent a.offset a.len = true →
      let bs := s.extentRead a.extent a.offset a.len
      s.writable e.part (bit a.eflags 0) a.addr bs.length = true →
        exec (.extentRead r a) s = .next ((s.stored (bit a.eflags 0) a.addr bs).done e 0 0)) ∧
    (s.starts r 0x8E e = true → s.extentOk e.part a.extent 0 0 = true →
      exec (.extentDelete r a) s =
        .next ({ s with flash := { s.flash with extents := KMap.del s.flash.extents a.extent } }.done e 0 0))) ∧
  (
  ∀ (s : State),
    (s.flashUp = true → ∀ n m, exec (.flashRefresh n m) s = .next ((s.flashCount Ctr.refreshBlocks n).flashCount Ctr.mediaBytesWritten m)) ∧
    (s.flashUp = true → exec (.patrolRead true) s = .next (s.flashCount Ctr.patrolPasses 1) ∧
      exec (.patrolRead false) s = .next s) ∧
    (s.flashUp = false → exec (.patrolRead true) s = .next s) ∧
    (∀ sp, 2 ≤ sp → exec (.tierReadonly sp) s =
      .next { s with flash := { s.flash with ctr := KMap.put s.flash.ctr Ctr.sparePercent sp } }) ∧
    (∀ sp, sp < 2 → ∃ t, exec (.tierReadonly sp) s = .next t ∧ t.flash.readonly = true ∧ t.power.maint ≠ 0 ∧
      t.dev = s.dev ∧ t.pages = s.pages ∧ t.flash.extents = s.flash.extents))

/-- 08_memory_tiers R250, R258, R261, R262, R263, R266: an engine takes the page of its queue with the earliest deadline, a die's engine
to a frame of its own die where that is in tier T0, keeps it where it stands and marks it, or drops a prefetch that finds no room; the end of a copy with clean lines makes the entry name the destination,
with the running turn's AGE, or the next one's where the batch that asked for the page has been carried; dirty lines are copied again
at most four times; a failed destination abandons it.
08_memory_tiers R250, R254, R276, R278, R280; 21_reliability R652: flash data that arrives puts the page at its destination, lost
data marks it LOST and fails the command that waits, each read that fails is logged; a rebuild and a new mirror make the page whole; a page whose group has lost its parity frame goes
to another group. -/
def Obligations.MigrationsSwitchWholeAndRebuild : Prop :=
  (
  ∀ (s : State) (k : Nat) (g : Page), KMap.find s.pages k = some g → s.asleep = false →
    (∀ (t : State) (n : Nat) (y x : Spot), t.engineSpot n g y = some x → x.tier = y.tier ∨ x.tier = 0) ∧
    (∀ (t : State) (n : Nat) (y x : Spot), n ≠ 8 → y.tier = 0 → t.engineSpot n g y = some x → x.die = n ∧ x.tier = 0) ∧
    (∀ n, leastBy (fun a b => decide (a.2.deadline.1 < b.2.deadline.1) ||
        (a.2.deadline.1 == b.2.deadline.1 && (decide (a.2.deadline.2 < b.2.deadline.2) ||
          (a.2.deadline.2 == b.2.deadline.2 && decide (a.1 < b.1))))) (s.pages.filter (engineTakes n)) = some (k, g) →
      (n = 8 → s.flashUp = true) →
      let got := s.placeIn g.owner (if g.tier = 1 then g.wantTier else 1) (g.flag 2) g.mirrored
        (if g.demand then .demand else if g.moveTag = 0 then .prefetch else .alloc)
      (∀ t y x, got = some (t, y) → t.engineSpot n g y = some x →
        exec (.migrationStart n) s = .next ((t.thrash s g).modPage k (fun v => ({ v with
          mstate := 1, age := s.turn % 2 ^ 48, dstTier := x.tier, dstDie := x.die, dstFrame := x.frame
          dstMirror := x.mirror, dirty := [], rounds := 0 }).setFlag 4 true))) ∧
      (got = none → g.moveTag = 0 → g.demand = false →
        exec (.migrationStart n) s = .next ((s.modPage k (fun v => { v with queued := false, asked := false })).count g.owner
          Ctr.prefetchDrop 1))) ∧
    ((g.mstate = 1 ∨ g.mstate = 2) → g.tier ≠ 2 → (g.dstTier = 2 → s.flashUp = true) →
      exec (.migrationSwitch k false) s = .next (s.abandon k g) ∧
      (g.dirty = [] → g.dstTier ≠ 2 → exec (.migrationSwitch k true) s = .next (s.arrive k g g.dstSpot)) ∧
      (g.dirty = [] → g.dstTier = 2 →
        exec (.migrationSwitch k true) s = .next (s.pageOut.arrive k (g.setFlag 6 true) g.dstSpot)) ∧
      (g.dirty ≠ [] → s.tablePage k = none → g.rounds < 4 →
        exec (.migrationSwitch k true) s =
          .next (s.modPage k (fun v => { v with mstate := 2, dirty := [], rounds := v.rounds + 1 }))) ∧
      (g.dirty ≠ [] → s.tablePage k = none → 4 ≤ g.rounds →
        exec (.migrationSwitch k true) s = .next (s.abandon k g)) ∧
      (g.dirty ≠ [] → ∀ p h, s.tablePage k = some (p, h) →
        exec (.migrationSwitch k true) s =
          .next ((s.modPage k (fun v => { v with mstate := 2, dirty := [], rounds := v.rounds + 1 })).modPart p (fun v => { v with
            tables := KMap.mod v.tables h (fun t => { t with ctr := bump t.ctr TbCtr.migRowReplay g.dirty.length }) })))) ∧
    (∀ x, ∃ h, KMap.find (s.arrive k g x).pages k = some h ∧ h.tier = x.tier ∧ h.die = x.die ∧ h.frame = x.frame ∧ h.mstate = 0 ∧
      (KMap.find s.batches g.forBatch = none → h.age = s.turn % 2 ^ 48) ∧
      (∀ b, KMap.find s.batches g.forBatch = some b → h.age = (if b.carried then s.turn + 1 else s.turn) % 2 ^ 48) ∧
      (s.arrive k g x).dev = s.dev)) ∧
  (
  ∀ (s : State) (k : Nat) (g : Page), KMap.find s.pages k = some g →
    (g.mstate = 1 → g.tier = 2 → s.flashUp = true → s.asleep = false →
      exec (.t2PageRead k 0) s = .next (s.arrive k g g.dstSpot) ∧
      (g.demand = true → exec (.t2PageRead k 1) s =
        .next ((((s.flashCount Ctr.mediaCe 1).flashFault g.owner k 3).count g.owner Ctr.stallT2medEvt 1).arrive k g g.dstSpot)) ∧
      (g.demand = false → exec (.t2PageRead k 1) s =
        .next (((s.flashCount Ctr.mediaCe 1).flashFault g.owner k 3).arrive k g g.dstSpot)) ∧
      exec (.t2PageRead k 2) s = .next ((s.mediaLost k g).flashFault g.owner k 5) ∧
      (s.inflight = [] → s.runs = [] → g.poolKv = false → ∃ h, KMap.find (s.mediaLost k g).pages k = some h ∧
        h.flag 7 = true ∧ h.flag 4 = false ∧ h.mstate = 0 ∧ (∀ j, j ≠ k → KMap.find (s.mediaLost k g).pages j = KMap.find s.pages j) ∧
        (s.mediaLost k g).dev = s.dev ∧ (s.mediaLost k g).hostMem = s.hostMem) ∧
      (∀ e, s.inflight = [e] → s.runs = [] → g.poolKv = false → e.st = .running → e.opc = 0x82 → k ∈ e.aux →
        exec (.t2PageRead k 2) s = .next ((((s.flashCount Ctr.mediaUe 1).modPage k (fun v => ({ v with
          mstate := 0, queued := false, moveTag := 0, demand := false, asked := false }.setFlag 4 false).setFlag 7 true)).endMove e
            Code.mediaError).flashFault g.owner k 5))) ∧
    (g.rebuild = true → ((g.flag 0 && g.flag 1 && g.flag 3) = true ∨
        ∀ x ∈ s.pages, x.2.rebuild = true → (x.2.flag 0 && x.2.flag 1 && x.2.flag 3) = false) →
      (s.pickSpot g.tier false (g.flag 5)).isSome = true → ∃ x, s.pickSpot g.tier false (g.flag 5) = some x ∧
        exec (.parityRebuild k) s = .next (({ s with fresh := s.fresh + 1 }.modPage k (fun v =>
          (s.copied { v with rebuild := false, remirror := v.remirror || (v.flag 1 && !v.flag 5) } x).setFlag 2 false)).count
            g.owner Ctr.parityReconPages 1)) ∧
    (g.rebuild = false → g.flag 2 = true → g.tier < 2 → g.flag 4 = false → s.stackLost.getD (g.frame % 8) false = true →
      (s.pickSpot g.tier true (g.flag 5)).isSome = true → ∃ x, s.pickSpot g.tier true (g.flag 5) = some x ∧
        exec (.parityRebuild k) s = .next ({ s with fresh := s.fresh + 1 }.modPage k (fun v => s.copied v x))) ∧
    (g.remirror = true → g.flag 7 = false →
      let third := (s.dies g.tier).find? (fun m => m ≠ g.die && !s.held g.tier m g.frame && !s.parityFrame g.tier m g.frame)
      (third.isSome = true → ∃ m, third = some m ∧
        exec (.mirrorRebuild k) s = .next (s.modPage k (fun v => ({ v with
          remirror := false, mirrorDie := m, age := s.turn % 2 ^ 48 }).setFlag 5 true)).settle) ∧
      (third = none → (s.placeIn g.owner g.tier (g.flag 2) true .alloc).isSome = true →
        ∃ t x, s.placeIn g.owner g.tier (g.flag 2) true .alloc = some (t, x) ∧
          exec (.mirrorRebuild k) s = .next (t.modPage k (fun v => (t.copied { v with remirror := false } x).setFlag 5 true)).settle)))

/-! ## Gangs and runs (16_scheduling, 04_tile, 06_operations, 21_reliability) -/

/-- 16_scheduling R512, R513: the tiles of a position of g = 2^n tiles are as many as g, all different, all of the module; two
positions of one size share none; a position of up to 128 tiles lies on one die, in a block of the width and height of R512, tile k
at local row k / w and local column k mod w. -/
def Obligations.PositionsHoldTheirTiles : Prop :=
  ∀ (n p : Nat), n ≤ 10 → p < positionsIn (2 ^ n) →
    (posTiles (2 ^ n) p).length = 2 ^ n ∧ (posTiles (2 ^ n) p).Nodup ∧ (∀ t ∈ posTiles (2 ^ n) p, t < 1024) ∧
    (∀ q, q < positionsIn (2 ^ n) → q ≠ p → ∀ t ∈ posTiles (2 ^ n) p, t ∉ posTiles (2 ^ n) q) ∧
    (n ≤ 7 → ∀ k, k < 2 ^ n →
      let w := gangW (2 ^ n)
      let q := p % perDie (2 ^ n)
      (posTiles (2 ^ n) p).getD k 0 =
        128 * (p / perDie (2 ^ n)) + 16 * (q / (16 / w) * gangH (2 ^ n) + k / w) + (q % (16 / w) * w + k % w)) ∧
    (7 < n → ∀ k, k < 2 ^ n → (posTiles (2 ^ n) p).getD k 0 = p * 2 ^ n + k) ∧
    (∀ home, (scanOrder (2 ^ n) home).length = positionsIn (2 ^ n) ∧ p ∈ scanOrder (2 ^ n) home)

/-- 16_scheduling R514 to R521; 04_tile R132: a task takes the gang it wants where the arbiter grants it; joins the affinity queue of
the position whose dies hold most of its inputs; releases its tiles, its partition charged; a tile zeroes its memories.
01_architecture R22; 04_tile R131; 16_scheduling R526 to R528, R530, R531: a save puts each tile's memories into the slot of its gang-relative index,
a restore puts them back by index; a regulator's piece starts only where its bucket holds its bytes, and drains them, that of the paths
between dies once for every link crossed. -/
def Obligations.TasksHoldTheirGangs : Prop :=
  (
  ∀ (s : State) (n : Nat) (k : Task), KMap.find s.tasks n = some k →
    (s.stage = .up → s.moduleLost = false → s.power.pstate = 0 → s.power.entering = false → s.power.exiting = false →
      (s.wanted n k).isSome = true → ∃ pos gang, s.wanted n k = some (pos, gang) ∧
        (s.granted n k gang = true → exec (.taskPlace n) s = .next (s.assign n k pos gang)) ∧
        (s.granted n k gang = false → exec (.taskPlace n) s = .next s) ∧
        ∃ g, KMap.find (s.assign n k pos gang).tasks n = some g ∧ g.tiles = gang ∧ g.pos = pos ∧ g.part = k.part ∧
          g.st = (if k.st = .saved then .restoring else .placed) ∧ ∀ t ∈ gang, ((s.assign n k pos gang).tile t).task = n) ∧
    (k.st = .scanning → s.tilesHeld k.part + s.runSize k.size ≤ (s.part k.part).eff.tileLimit → ∀ onDie, ∃ pos, exec (.affinityQueueJoin n onDie) s = .next { s with
        tasks := KMap.put s.tasks n { k with st := .affinity, pos := pos, joined := s.wheel.abs } } ∧
      (∀ p, p ∈ scanOrder (s.runSize k.size) (s.part k.part).eff.homeDie →
        posBytes (s.runSize k.size) p onDie ≤ posBytes (s.runSize k.size) pos onDie)) ∧
    (k.tiles ≠ [] → k.st = .placed → s.workEnded k = true → ∀ ns,
      exec (.tileRelease n ns) s = .next (((s.charge k.part (k.tiles.length * ns)).freeTiles n).endTask n)) ∧
    (k.tiles ≠ [] → k.st = .saved → ∀ ns,
      let t := (s.charge k.part (k.tiles.length * ns)).freeTiles n
      exec (.tileRelease n ns) s = .next { t with tasks := KMap.put t.tasks n { k with tiles := [], since := s.wheel.abs } }) ∧
    (∀ t, (s.tile t).zeroing = true →
      exec (.tileZeroing t) s = .next (s.modTile t (fun v => { v with
        scratch := [], acc := [], vregs := none, zeroing := false, untrusted := true })))) ∧
  (
  ∀ (s : State),
    (∀ n k, KMap.find s.tasks n = some k → k.st = .saving →
      exec (.saveComplete n) s = .next ({ s with tasks := KMap.put s.tasks n { k with
        st := .saved, slots := k.tiles.map (fun t => ((s.tile t).scratch, (s.tile t).acc)) } }.count k.part Ctr.saveBytes
          (4718592 * k.tiles.length))) ∧
    (∀ n k, KMap.find s.tasks n = some k → k.st = .restoring → (∀ t ∈ k.tiles, (s.tile t).zeroing = false) →
      k.tiles.Nodup → k.slots.length = k.tiles.length →
      ∃ t, exec (.restoreComplete n) s = .next t ∧
        (∀ i, i < k.tiles.length →
          ((t.tile (k.tiles.getD i 0)).scratch, (t.tile (k.tiles.getD i 0)).acc) = k.slots.getD i ([], []) ∧
          (t.tile (k.tiles.getD i 0)).untrusted = true) ∧
        (∀ x, x ∉ k.tiles → t.tile x = s.tile x) ∧
        t = { s with tiles := t.tiles, tasks := KMap.put s.tasks n { k with st := .placed, slots := [] } }) ∧
    (∀ p g bytes refill dies, g < 6 → (s.part p).eff.rate.getD g 0 ≠ 0 →
      let burst := 1024 * (s.part p).eff.burst.getD g 0
      let held := min ((s.part p).bucket.getD g 0 + refill) burst
      let n := min (if g = 5 then bytes * s.crossings dies.1 dies.2 else bytes) (min 65536 burst)
      (n ≤ held → exec (.regulatorPiece p ⟨g, dies⟩ bytes refill) s =
        .next (s.modPart p (fun w => { w with bucket := w.bucket.set g (held - n) }))) ∧
      (held < n → exec (.regulatorPiece p ⟨g, dies⟩ bytes refill) s =
        .next ((s.modPart p (fun w => { w with bucket := w.bucket.set g held })).count p Ctr.stallRegEvt 1))))

/-- 06_operations R202, R203, R205, R206; 10_embedding_tables R350: GRAPH_RUN pins the tables its records name and starts its tasks;
a NOP record completes; a record whose gang holds its tiles runs, its bench's effects made, its status kept; one that finds pages in tier
T2 is held; one whose packet meets a foreign tile ends with MESH_PARTITION_FAULT; the last record ends the run. Records are one step, and a gang's memories are held by the run (log 13).
06_operations R203: a record that did not write its results keeps every record that depends on it, directly or through others,
from running; a run's status is that of its first failed record, else of its first partial one, else 0. -/
def Obligations.RunsIssueTheirRecords : Prop :=
  (
  ∀ (s : State),
    (∀ (r : Ref) (image : Nat) (binds : List Nat) (e : CmdE) (im : Image), s.starts r 0x12 e = true → field e.area 0 2 = image →
      words 8 e.pb = binds → s.image? e.part image = some im → im.kind = 4 →
      (im.needsPriv = true → s.privileged e.part e.queue = true) →
      im.tablesNamed.any (fun h => (s.table? e.part h).isNone) = false →
      let pins := s.pinTables e.part (2 * s.nextRun) im.tablesNamed
      exec (.graphRun r image binds) s = .next (({ pins.2 with
        runs := KMap.put s.runs s.nextRun { part := e.part, tag := e.tag, image := image
                                            privileged := s.privileged e.part e.queue
                                            binds := binds, pinned := pins.1 }
        nextRun := s.nextRun + 1 }.keep e).spawn s.nextRun)) ∧
    (∀ n x im i o, KMap.find s.runs n = some x → KMap.find (s.part x.part).images x.image = some im → s.moduleLost = false →
      x.mayIssue im i = true →
      let r := im.record i
      let a := fun (k : Task) => (s.quietTiles k.tiles).told k.tiles o
      let err := fun (t : State) (tiles : List Nat) =>
        r.err x.privileged false (some x.binds) (entrySize (t.runBench x i tiles) t r)
      (r.opc = 0 → exec (.recordIssue (.run n) i o) s = .next (s.finishRecord n i (err s []))) ∧
      (r.opc ≠ 0 → (s.part x.part).eff.tileLimit < r.gang →
        exec (.recordIssue (.run n) i o) s = .next (s.finishRecord n i 0x0230)) ∧
      (∀ m k, r.opc ≠ 0 → r.gang ≤ (s.part x.part).eff.tileLimit → s.taskOf (.record n i) = some (m, k) → s.taskReady k = true →
        (∀ tile kind, o.strike = some (tile, kind) → k.tiles.contains tile = true →
          exec (.recordIssue (.run n) i o) s = .next ((s.quietTiles k.tiles).strike tile kind)) ∧
        (o.strike = none → err (a k) k.tiles ≠ 0 →
          exec (.recordIssue (.run n) i o) s = .next ((a k).finishRecord n i (err (a k) k.tiles))) ∧
        (o.strike = none → err (a k) k.tiles = 0 → ∀ t, (a k).dropAt x.part o = some t →
          exec (.recordIssue (.run n) i o) s = .next (((a k).dropPacket x.part t).finishRecord n i 0x0801)) ∧
        (o.strike = none → err (a k) k.tiles = 0 → (a k).dropAt x.part o = none → r.opc = 0x2C → o.gang ≠ 0 →
          exec (.recordIssue (.run n) i o) s = .next ((a k).finishRecord n i o.gang)) ∧
        (o.strike = none → err (a k) k.tiles = 0 → (a k).dropAt x.part o = none → (r.opc = 0x2C → o.gang = 0) →
          exec (.recordIssue (.run n) i o) s = .next (
            match (a k).runRecord x.part x.pinned (some x.tag) ((a k).runBench x i k.tiles) r (im.recs.getD i []) with
            | .error c => (a k).finishRecord n i c
            | .ok y =>
              let need := (y.bench.reads.flatMap (fun (g : Nat × Nat) => pagesOf g.1 g.2) ++
                y.bench.puts.flatMap (fun (g : Nat × List Byte) => pagesOf g.1 g.2.length) ++ (y.pages ++ [])).dedup
              if y.wait then a k
              else match (a k).demand 0 need with
                | some t => (t.holdTiles k.tiles i x.image).holdRecord n i x.part ((a k).inT2 need)
                | none =>
                  let t := ((y.after.loadTiles r k.tiles).applyBench x.part r k.tiles y.bench (y.pages ++ [])).measured x.part
                    x.image i o.passNs
                  { t with runs := KMap.mod t.runs n (fun z => z.after y.bench) }.finishRecord n i y.bench.status))))) ∧
  (
  ∀ (x : Run) (rs : List Rec),
    (∀ i, i ∈ x.doomed rs ↔ i < rs.length ∧ KMap.find x.status i = none ∧
      ∃ d ∈ Rec.above rs i, failed (KMap.findD x.status d 0) = true) ∧
    (∀ i d, d ∈ (rs.getD i (recOf [])).preds → d ∈ Rec.above rs i) ∧
    ((∀ e ∈ x.status, e.2 = 0) → x.outcome = (0, 0xFFFF + 2 ^ 16 * x.skipped.length)) ∧
    (∀ e, x.status.find? (fun e => failed e.2) = some e → x.outcome = (e.2, e.1 + 2 ^ 16 * x.skipped.length)) ∧
    (∀ e, x.status.find? (fun e => failed e.2) = none → x.status.find? (fun e => decide (e.2 ≠ 0)) = some e →
      x.outcome = (e.2, e.1 + 2 ^ 16 * x.skipped.length)))

/-- 03_narrow_arithmetic R78, R79, R82 to R96: a layer closes when its records are done, its count of closed layers going on where it
has no threshold entry, and counts the tile time of a re-fire; the decision of a layer with one goes on where nothing tripped, counts a trip of a wide layer, and re-fires
where something tripped, a wider form exists and the layer's latest re-fire start has not passed.
03_narrow_arithmetic R82: which of the three causes trip, from the entry's limits and the monitors of its slots. -/
def Obligations.LayersCloseAndReFire : Prop :=
  (
  ∀ (s : State) (b : Nat) (v : Batch) (im : Image), KMap.find s.batches b = some v →
    KMap.find (s.part v.part).images v.image = some im → v.carried = false → v.faulted = false → s.wheel.commit = false →
    s.moduleLost = false →
    (∀ at', v.closed = false → v.layer < im.layerCnt → v.layerOver im = true →
      exec (.layerClose b at') s = .next { ({ s with wheel := { s.wheel with now := max s.wheel.now at' } }.refireTime v at') with
        batches := KMap.put s.batches b (if (KMap.find im.cal v.layer).isSome then { v with closed := true, closeAt := at' }
          else { v with closed := true, closeAt := at' }.advance im) }) ∧
    (∀ e, v.closed = true → KMap.find im.cal v.layer = some e →
      (tripBits e v.mon = 0 →
        exec (.refireDecision b) s = .next { s with batches := KMap.put s.batches b (v.advance im) }) ∧
      (tripBits e v.mon ≠ 0 → v.wide = true →
        exec (.refireDecision b) s = .next { s.count v.part Ctr.refireWideTrip 1 with
          batches := KMap.put s.batches b (v.advance im) }) ∧
      (tripBits e v.mon ≠ 0 → v.wide = false →
        let t := s.trip v im e (tripBits e v.mon)
        ((bit (field e 2 1) 4 = true ∨ im.canWiden v.layer = false) →
          let u := t.count v.part Ctr.refireNone 1
          exec (.refireDecision b) s = .next { u with batches := KMap.put u.batches b (v.advance im) }) ∧
        (bit (field e 2 1) 4 = false → im.canWiden v.layer = true →
          (s.lrs v < v.closeAt →
            ∃ u w, exec (.refireDecision b) s = .next u ∧ KMap.find u.batches b = some w ∧ w.carried = true ∧ w.lrsCarry = true ∧
              u.hostMem = s.hostMem ∧ u.dev = s.dev) ∧
          (v.closeAt ≤ s.lrs v →
            ∃ u w, exec (.refireDecision b) s = .next u ∧ KMap.find u.batches b = some w ∧ w.refire = true ∧
              w.refired = some v.layer ∧ w.closed = false ∧ w.layer = v.layer ∧
              (∀ i, i ∈ w.recDone ↔ i ∈ v.recDone ∧ (im.record i).layer ≠ v.layer) ∧
              (w.shadow = true → bit (field e 2 1) 3 = true) ∧
              u.hostMem = s.hostMem ∧ u.dev = s.dev ∧ u.sessions = s.sessions))))) ∧
  (
  ∀ (e : List Byte) (mon : List (Nat × Nat × Nat × BitVec 32)),
    let f := field e 2 1
    let slot := fun (i : Nat) => mon.getD i (0, 0, 0, 0)
    let n := field e 3 1
    (bit (tripBits e mon) 0 = true ↔
      bit f 0 = true ∧ ∃ i, i < n ∧ field e 4 2 * (slot i).2.2.1 < (slot i).1 * 65536) ∧
    (bit (tripBits e mon) 1 = true ↔
      bit f 1 = true ∧ ∃ i, i < n ∧
        (mul32 (f32 (.fin false (field e 6 2) (-12))) (fp32.decode (field e (12 + 4 * i) 4))).lt
          (fp32.decode (slot i).2.2.2.toNat) = true) ∧
    (bit (tripBits e mon) 2 = true ↔ bit f 2 = true ∧ ∃ i, i < n ∧ field e 8 2 < (slot i).2.1) ∧
    tripBits e mon < 8)

/-- 21_reliability R637 to R640, R653: a known-answer mismatch strikes the tile's work; a struck tile is quarantined and counted; a
run's faulted record is re-executed on a gang formed again; a batch whose layer's latest start has passed carries instead. -/
def Obligations.ComputeFaultsAreReExecuted : Prop :=
  ∀ (s : State),
    (∀ t, t < 1024 → s.healthy t = true → s.tileGated t = false →
      exec (.knownAnswerTest t false) s = .next (s.strike t .knownAnswer) ∧
      ((s.strike t .knownAnswer).tile t).quarantined = true ∧ (s.strike t .knownAnswer).hostMem = s.hostMem ∧
      (s.strike t .knownAnswer).dev = s.dev ∧ (s.strike t .knownAnswer).sessions = s.sessions) ∧
    (∀ t, exec (.knownAnswerTest t true) s = .next s) ∧
    (∀ n x i at', KMap.find s.runs n = some x → x.faulted = some i → s.moduleLost = false →
      exec (.reExecution (.run n) at') s = .next (s.reexecRun n x i) ∧
      ∀ m k im, s.taskOf (.record n i) = some (m, k) → KMap.find (s.part x.part).images x.image = some im → k.tiles ≠ [] →
        k.st = .placed → (s.reform m k).isSome = true →
        ∃ y, KMap.find (s.reexecRun n x i).runs n = some y ∧ y.faulted = none ∧ y.lost = [] ∧ y.status = x.status ∧
          (s.reexecRun n x i).hostMem = s.hostMem ∧ (s.reexecRun n x i).dev = s.dev) ∧
    (∀ b v k im at', KMap.find s.batches b = some v → v.faulted = true → v.carried = false → s.moduleLost = false →
      at' ≤ s.lrs v → KMap.find s.tasks v.task = some k →
      KMap.find (s.part v.part).images v.image = some im → k.tiles ≠ [] → (s.reform v.task k).isSome = true →
      ∃ t w, exec (.reExecution (.batch b) at') s = .next t ∧ KMap.find t.batches b = some w ∧ w.faulted = false ∧
        w.closed = false ∧ w.layer = v.layer ∧ (∀ i ∈ w.recDone, i ∈ v.recDone ∧ (i < im.recs.length → (im.record i).layer ≠ v.layer)) ∧
        t.hostMem = s.hostMem ∧ t.dev = s.dev ∧ t.sessions = s.sessions) ∧
    (∀ b v at', KMap.find s.batches b = some v → v.faulted = true → v.carried = false → s.moduleLost = false → s.lrs v < at' →
      exec (.reExecution (.batch b) at') s =
        .next { s with batches := KMap.put s.batches b { v with carried := true, faultCarry := true } })

/-! ## Images (06_operations R206 to R214, R728; 22_security R659, R664) -/

/-- 06_operations R213, R728; 22_security R659, R664; 24_startup R703: an image whose eleven steps all hold takes the lowest free of
the partition's 64 handles, its pages and its place in the measurements; the first step that fails gives the status. A load is one
step (log 13); after a debug unlock of scope 3 none is accepted, with a status of the model's choice (log 33).
06_operations R206, R214, R728: an image that a session names is not unloaded; any other leaves at once for new work, and its
pages, its handle and its sticky layers go when the last run that uses it has ended; the query answers its header and where its pages
lie. -/
def Obligations.ImagesAreLoadedAndUnloaded : Prop :=
  (
  ∀ (s : State) (r : Ref) (a : SArgs) (e : CmdE), s.starts r 0x10 e = true → argsS e.area = a → s.sourceOk e.part a = true →
    let bs := s.sourceBytes a
    let h := bs.take 128
    let v := s.part e.part
    let ps := plains v.genP bs
    let rs := (recsOf ps).map recOf
    let input := signedInput bs ps
    let badForm := headerBad bs || contentBad bs ps || (!imgEnc h && sealedBad h ps)
    let badKey := imgEnc h && (field h 56 1 ≠ e.part || !s.partKey e.part || (sectsOf bs).any (fun x => (KMap.find ps x.typ).isNone))
    let signed := Config.mlDsaVerify input (((sectRaw bs 0xFF).drop 4).take 3309) 1 v.trustList
    let badCal := decide ((KMap.findD ps 5 []).length % 32 ≠ 0) ||
      (calOf ps).any (calBad h rs ((shadowOf ps).map Prod.fst) (calOf ps))
    let stops := fun (c : Nat) => exec (.imageLoad r a) s = .next (s.reject e c)
    (s.sagger.debugScope = 3 → stops Code.imageKeyInvalid) ∧
    (s.sagger.debugScope ≠ 3 →
      (badForm = true → stops Code.imageFormatInvalid) ∧
      (badForm = false → (s.mgmt.comps.getD 2 {}).running < field h 52 4 → stops Code.imageFormatInvalid) ∧
      (badForm = false → field h 52 4 ≤ (s.mgmt.comps.getD 2 {}).running →
        (badKey = true → stops Code.imageKeyInvalid) ∧
        (badKey = false → imgEnc h = true → sealedBad h ps = true → stops Code.imageFormatInvalid) ∧
        (badKey = false → (imgEnc h = true → sealedBad h ps = false) →
          (signed = false → stops Code.imageSignatureInvalid) ∧
          (signed = true →
            (∀ k, s.samePresent e.part h = some k →
              exec (.imageLoad r a) s = .next ((s.count e.part Ctr.cmdRejected 1).done e Code.imageAlreadyLoaded k)) ∧
            (s.samePresent e.part h = none → KMap.free v.images 64 = none → stops Code.imageLimit) ∧
            (∀ k, s.samePresent e.part h = none → KMap.free v.images 64 = some k →
              (256 ≤ s.imagesHeld → stops Code.imageLimit) ∧
              (s.imagesHeld < 256 → recordsErr h rs ≠ 0 → stops (recordsErr h rs)) ∧
              (s.imagesHeld < 256 → recordsErr h rs = 0 → badCal = true → stops Code.thresholdInvalid) ∧
              (s.imagesHeld < 256 → recordsErr h rs = 0 → badCal = false → step8Bad h ps rs = true → stops Code.imageFormatInvalid) ∧
              (s.imagesHeld < 256 → recordsErr h rs = 0 → badCal = false → step8Bad h ps rs = false →
                let placed := (s.sourceSeen e.part a).loadPages e.part (imagePages ps (a.src == 2))
                (placed = none → stops Code.poolExhausted) ∧
                (placed.isSome = true → ∃ base t, placed = some (base, t) ∧
                  (codebookBad t base (recsOf ps) = true → stops Code.codebookInvalid) ∧
                  (codebookBad t base (recsOf ps) = false →
                    exec (.imageLoad r a) s = .next (((t.measure (16 + e.part) 0 (Config.shake256 input 64)).modPart e.part
                      (fun w => { w with
                        images := KMap.put w.images k (imageOf bs ps base ((recsOf ps).map (relocate base))) })).done e 0 k)))))))))) ∧
  (
  ∀ (s : State) (r : Ref) (e : CmdE),
    (∀ a im, s.starts r 0x11 e = true → argsH e.area = a → s.image? e.part a.handle = some im →
      (s.imageNamed e.part a.handle = true → exec (.imageUnload r a) s = .next (s.reject e Code.imageInUse)) ∧
      (s.imageNamed e.part a.handle = false →
        exec (.imageUnload r a) s = .next ((s.modPart e.part (fun v => { v with images := KMap.mod v.images a.handle (fun i =>
          { i with ready := false, leaving := true, unloadTag := e.tag }) })).keep e))) ∧
    (∀ p n im c, KMap.find (s.part p).images n = some im → im.leaving = true → s.imageBusy p n = false →
      s.cmd im.unloadTag = some c →
      exec (.imageUnloadComplete p n) s =
        .next (((s.freePages im.pageBase im.pageCnt).modPart p (fun v => { v with images := KMap.del v.images n })).done c 0 0)) ∧
    (∀ a im, s.starts r 0x13 e = true → argsQ e.area = a → s.image? e.part a.handle = some im →
      s.delivers e a (s.imageItems im) = true →
      exec (.imageQuery r a) s = .next ((s.delivered e a (s.imageItems im)).done e 0 0)))

/-! ## Vector search (09_vector_search; 18_queues R588, R589) -/

/-- 18_queues R588; 09_vector_search R287 to R293, R316, R329: an index takes its planes from the block's fields and the lowest free
handle, PUB 1 when it is created, the loaded one when it is loaded; dropping it stops new commands and frees it once no pin is left;
the query answers its parameters and counters. What a passage store extent holds is free (log 9).
18_queues R589, R729: TEMPLATE_LOAD takes the lowest free handle for its five lists; TEMPLATE_UNLOAD makes the handle invalid at
once and completes when the last accepted user has ended. -/
def Obligations.IndexesAndTemplatesComeAndGo : Prop :=
  (
  ∀ (s : State) (r : Ref) (e : CmdE),
    (∀ a v, argsIndex e.pb = a → ixBad a = false → s.vocab? e.part a.vocab = some v → s.ixFull e.part = false →
      let n := 2 ^ a.npartLog2
      (s.starts r 0x30 e = true → s.readable e.part (bit a.ixflags 1) a.centAddr (n * (a.codeBits / 8)) = true →
        ∀ h, KMap.free (s.part e.part).indexes 64 = some h →
          let made := (s.seen e.part (bit a.ixflags 1) a.centAddr (n * (a.codeBits / 8))).newIndex e.part h a v
            (s.bytesAt (bit a.ixflags 1) a.centAddr (n * (a.codeBits / 8))) 1 [] (emptyBlock a) false
          (made.isSome = true → ∃ u, made = some u ∧ exec (.indexCreate r a) s = .next (u.done e 0 (h + 2 ^ 16 * 1))) ∧
          (made = none → exec (.indexCreate r a) s = .next (s.reject e Code.poolExhausted))) ∧
      (s.starts r 0x31 e = true →
        let blk := fun (q : Nat) => s.extentRead a.extent (a.blkOff + q * (65536 * a.blkPages)) (65536 * a.blkPages)
        let live := ((List.range n).map (fun q => ((pieces (nodeStride a.codeBits) (field (blk q) 4 2) ((blk q).drop 256)).map
          (readNode a.codeBits)).filter (fun x => !x.tomb && !x.free) |>.length)).sum
        s.extentOk e.part a.extent a.centOff (n * (a.codeBits / 8)) = true →
        s.extentOk e.part a.extent a.blkOff (n * (65536 * a.blkPages)) = true → s.extentOk e.part a.psgExtent 0 0 = true →
        ((∃ q, q < n ∧ blockOk a q (blk q) = false) →
          exec (.indexLoad r a) s = .next (s.reject e Code.indexFormatInvalid)) ∧
        ((∀ q, q < n → blockOk a q (blk q) = true) → s.liveAll + live ≤ 2 ^ 33 → ∀ h,
          KMap.free (s.part e.part).indexes 64 = some h →
          let made := s.newIndex e.part h a v (s.extentRead a.extent a.centOff (n * (a.codeBits / 8))) a.pub
            (Config.passageStore (s.extentRead a.psgExtent 0 (KMap.findD s.flash.extents a.psgExtent {}).size)) blk true
          (made.isSome = true → ∃ u, made = some u ∧ exec (.indexLoad r a) s = .next (u.done e 0 (h + 2 ^ 16 * a.pub))) ∧
          (made = none → exec (.indexLoad r a) s = .next (s.reject e Code.poolExhausted))))) ∧
    (∀ a ix, s.starts r 0x32 e = true → argsH e.area = a → s.index? e.part a.handle e.tag = some ix →
      exec (.indexDrop r a) s =
        .next (((s.modIndex e.part a.handle (fun x => { x with dropped := true })).sweepIndex e.part a.handle).done e 0 0)) ∧
    (∀ a ix, s.starts r 0x3A e = true → argsQ e.area = a → s.index? e.part a.handle e.tag = some ix →
      s.delivers e a (s.indexItems ix) = true →
      exec (.indexQuery r a) s = .next ((s.delivered e a (s.indexItems ix)).done e 0 0))) ∧
  (
  ∀ (s : State) (r : Ref) (e : CmdE),
    (∀ a h v, s.starts r 0x3B e = true → argsTemplate e.pb = a → (∀ n ∈ a.lens, n ≤ 4096) → e.pbLen = 32 + 4 * a.lens.sum →
      KMap.free (s.part e.part).templates 64 = some h → s.vocab? e.part a.vocab = some v → (∀ x ∈ a.toks, x < v.toks.length) →
      exec (.templateLoad r a) s = .next ((s.modPart e.part (fun w => { w with
        templates := KMap.put w.templates h ({ vocab := a.vocab, vocabId := v.vocabId, lists := cutAt a.lens a.toks } : Template)
        })).done e 0 h)) ∧
    (∀ a tp, s.starts r 0x3C e = true → argsH e.area = a → s.template? e.part a.handle 0 = some tp →
      exec (.templateUnload r a) s = .next ((s.modPart e.part (fun w => { w with
        templates := KMap.mod w.templates a.handle (fun t => { t with dropped := true, unloadTag := e.tag }) })).keep e)) ∧
    (∀ p h tp c, KMap.find (s.part p).templates h = some tp → tp.dropped = true → (∀ u ∈ tp.users, s.cmd u = none) →
      s.cmd tp.unloadTag = some c →
      exec (.templateFree p h) s =
        .next ((s.modPart p (fun w => { w with templates := KMap.del w.templates h })).done c 0 0)))

/-- 09_vector_search R294, R298, R306 to R309: INSERT and DELETE append to the slip list at the epoch after PUB and publish it; a
delete reports how many of its IDs had no visible version; no other index changes. -/
def Obligations.InsertsAndDeletesPublish : Prop :=
  ∀ (s : State) (r : Ref) (e : CmdE) (a : InsertArgs) (ix : Index), argsInsert e.area = a →
    s.index? e.part a.index e.tag = some ix → 0 < a.cnt → a.cnt ≤ 65536 →
    (s.starts r 0x33 e = true →
      let n := 24 + ix.bits / 8
      let ks := (List.range ix.centPages).map (fun i => ix.centPage + i)
      let dua := bit a.lflags 0
      (s.anyLost ks = true → exec (.insert r a) s = .next (s.reject e Code.pageLost)) ∧
      (s.anyLost ks = false → s.inT2 ks ≠ [] → ∃ u, s.hold e ks = some u ∧ exec (.insert r a) s = .next u) ∧
      (s.anyLost ks = false → s.inT2 ks = [] → s.readable e.part dua a.listAddr (n * a.cnt) = true →
      let t := s.seen e.part dua a.listAddr (n * a.cnt)
      let es := (pieces n a.cnt (s.bytesAt dua a.listAddr (n * a.cnt))).map (readIns ix.bits)
      let ps := es.map (fun x => (x, words 4 (s.bytesAt dua (a.tokAddr + x.off) (4 * x.tok))))
      (idsBad (es.map InsEntry.id) = true → es.any InsEntry.rsv = false →
        exec (.insert r a) s = .next (s.reject e Code.itemDuplicate)) ∧
      (es.any InsEntry.rsv = false → idsBad (es.map InsEntry.id) = false → (∀ x ∈ es, x.tok ≤ 8192) →
        (∀ x ∈ es, s.readable e.part dua (a.tokAddr + x.off) (4 * x.tok) = true) →
        (∀ p ∈ ps, ∀ y ∈ p.2, y < ix.tokenCnt) → s.commitErr ix a.cnt a.cnt = none →
        exec (.insert r a) s = .next ((t.modIndex e.part a.index (fun x => { x with
          slip := x.slip ++ es.map (fun y => ({ item := y.id, epoch := ix.pub + 1, code := y.code, attr := y.attr
                                                part := (s.nearParts ix y.code).headD 0 } : Slip))
          pub := ix.pub + 1
          passages := x.passages ++ ps.map (fun p => (p.1.id, ix.pub + 1, p.2)) })).done e 0 (ix.pub + 1))))) ∧
    (s.starts r 0x34 e = true → s.readable e.part (bit a.lflags 0) a.listAddr (8 * a.cnt) = true →
      let bs := s.bytesAt (bit a.lflags 0) a.listAddr (8 * a.cnt)
      let t := s.seen e.part (bit a.lflags 0) a.listAddr (8 * a.cnt)
      (idsBad (words 8 bs) = true → exec (.delete r a) s = .next (s.reject e Code.itemDuplicate)) ∧
      (idsBad (words 8 bs) = false → s.commitErr ix a.cnt 0 = none →
        exec (.delete r a) s = .next ((t.modIndex e.part a.index (fun x => { x with
          slip := x.slip ++ (words 8 bs).map (fun i => ({ item := i, del := true, epoch := ix.pub + 1 } : Slip))
          pub := ix.pub + 1 })).done e 0
            (ix.pub + 1 + 2 ^ 48 * min ((words 8 bs).filter (fun i => !s.idVisible ix i)).length 0xFFFF))))

/-- 09_vector_search R295, R297, R299 to R305: a search whose pages are at hand writes one list for each query, read at the epoch its
pin holds, counts, and answers the epoch and how many lists are short; fields outside their ranges and pages lost stop it.
09_vector_search R296, R300, R301, R302: a walk answers at most EF different slots of the block, all eligible, nearest first, and
expands at most MAX_VISIT nodes; a version is visible at its own epoch unless it is deleted or superseded at or before it. -/
def Obligations.SearchAnswersItsQueries : Prop :=
  (
  ∀ (s : State) (r : Ref) (e : CmdE) (a : SearchArgs), s.starts r 0x35 e = true → argsSearch e.area = a →
    let q := searchQ a
    ((q.bad = true ∨ a.qcnt = 0 ∨ 64 < a.qcnt) → exec (.search r a) s = .next (s.reject e Code.searchParamInvalid)) ∧
    (q.bad = false → 0 < a.qcnt → a.qcnt ≤ 64 → ∀ ix, s.index? e.part a.index e.tag = some ix →
      (ix.npart < a.nprobe → exec (.search r a) s = .next (s.reject e Code.searchParamInvalid)) ∧
      (a.nprobe ≤ ix.npart → s.readable e.part (bit a.flags 2) a.queryAddr (a.qcnt * (ix.bits / 8)) = true →
        let t := s.seen e.part (bit a.flags 2) a.queryAddr (a.qcnt * (ix.bits / 8))
        let qs := words (ix.bits / 8) (s.bytesAt (bit a.flags 2) a.queryAddr (a.qcnt * (ix.bits / 8)))
        let ks := s.searchPages ix a.nprobe qs
        (s.anyLost ks = true → exec (.search r a) s = .next ((s.reject e Code.pageLost).unpinIndex e.part a.index e.tag)) ∧
        let rs := qs.map (s.searchOne ix q (ix.readEpoch e.tag))
        let bs := rs.flatMap (fun x => x.1)
        let hs := ks ++ s.duaPages e.part (bit a.flags 2) a.queryAddr (a.qcnt * (ix.bits / 8)) ++
          s.duaPages e.part (bit a.flags 3) a.outAddr bs.length
        (s.anyLost ks = false → (t.pinIndex e.part a.index e.tag).inT2 hs ≠ [] →
          ∃ u, (t.pinIndex e.part a.index e.tag).hold e hs = some u ∧ exec (.search r a) s = .next u) ∧
        (s.anyLost ks = false → (t.pinIndex e.part a.index e.tag).inT2 hs = [] →
          (t.readPages e.part ks).writable e.part (bit a.flags 3) a.outAddr bs.length = true →
            exec (.search r a) s = .next (((((t.readPages e.part ks).stored (bit a.flags 3) a.outAddr bs).searched e.part a.index
              a.qcnt rs).done e 0 (ix.readEpoch e.tag + 2 ^ 48 * (rs.filter (fun x => recShort a.k x.1)).length)).unpinIndex
                e.part a.index e.tag))))) ∧
  (
  (∀ (w : Nat) (b : Block) (q ef visits : Nat) (elig : Nat → Node → Bool),
    (walk w b q ef visits elig).x ≤ visits ∧ (walk w b q ef visits elig).res.length ≤ ef ∧
    ((walk w b q ef visits elig).res.map Prod.snd).Nodup ∧
    List.Pairwise (fun x y => pairLt x y = true) (walk w b q ef visits elig).res ∧
    ∀ c ∈ (walk w b q ef visits elig).res, ∃ n, b.nodes[c.2]? = some n ∧ elig c.2 n = true ∧ c.1 = hamming w q n.code) ∧
  (∀ (vers : List (Nat × Nat)) (slip : List Slip) (id ins x : Nat) (tomb : Bool),
    (visible vers slip id ins tomb x = true ↔
      ins ≤ x ∧ tomb = false ∧ (∀ d ∈ slip, d.del = true → d.item = id → ins < d.epoch → x < d.epoch) ∧
      (∀ u ∈ vers, u.1 = id → ins < u.2 → x < u.2))))

/-- 09_vector_search R298, R310 to R316, R320: WEDGE builds the blocks of the partitions named and answers how many it built; a slip
list at its level forces a wedge; what no pin needs any more is released. A wedge is one step (log 13). -/
def Obligations.WedgesMoveTheSlipList : Prop :=
  ∀ (s : State),
    (∀ (r : Ref) (e : CmdE) (a : WedgeArgs) (ix : Index), s.starts r 0x36 e = true → argsWedge e.area = a →
      s.index? e.part a.index e.tag = some ix → ix.pub < epochMax →
      (bit a.wflags 1 = false → 0 < a.partCnt ∧ a.partFirst + a.partCnt ≤ ix.npart) →
      let qs := if bit a.wflags 1 = true then List.range ix.npart else (List.range a.partCnt).map (fun i => a.partFirst + i)
      s.anyLost (blockPages (qs.map (s.block ix))) = false → s.inT2 (blockPages (qs.map (s.block ix))) = [] →
      let w := s.wedgeAll e.part a.index (bit a.wflags 0) qs
      exec (.wedge r a) s = .next (w.1.done e
        (if Wedged.deferred ∈ w.2 then Code.wedgeDeferred else if Wedged.exhausted ∈ w.2 then Code.epochExhausted else 0)
        (w.2.filter (fun x => x == .done)).length)) ∧
    (∀ p h ix, KMap.find (s.part p).indexes h = some ix →
      (ix.dropped = false → slipForce ≤ ix.slip.length →
        let qs := (List.range ix.npart).filter (fun q => ix.slip.any (fun x => !x.wedged && s.slipPart ix x == q))
        s.anyLost (blockPages (qs.map (s.block ix))) = false → s.inT2 (blockPages (qs.map (s.block ix))) = [] →
        exec (.wedgeForced p h) s = .next ((s.modIndex p h (fun x => { x with
          ctr := bump x.ctr IxCtr.wedgeForced qs.length })).wedgeAll p h false qs).1) ∧
      (ix.dropped = false →
        let free := fun (f : Nat) => ∀ c ∈ s.livePins ix, f ≤ c.2
        ∃ t jx, exec (.wedgeRelease p h) s = .next t ∧ KMap.find (t.part p).indexes h = some jx ∧ jx.pub = ix.pub ∧
          (∀ y, y ∈ jx.slip ↔ y ∈ ix.slip ∧ (y.wedged = false ∨ ¬ free y.f)) ∧
          (∀ o, o ∈ jx.oldBlocks ↔ o ∈ ix.oldBlocks ∧ ¬ free o.1) ∧ (∀ y ∈ jx.passages, y ∈ ix.passages) ∧
          t.hostMem = s.hostMem ∧ t.sessions = s.sessions ∧ t.inflight = s.inflight))

/-- 08_memory_tiers R268; 09_vector_search R318 to R324; 18_queues R589: SHARD_MERGE merges item records; RERANK orders the candidates that have their
passage by the cross-encoder's scores (operands, log 11); PACK joins passages to the template within its budget. -/
def Obligations.MergedRerankedPacked : Prop :=
  ∀ (s : State) (r : Ref) (e : CmdE),
    (∀ a, s.starts r 0x37 e = true → argsShard e.area = a → 0 < a.k → a.k ≤ 4096 → 0 < a.inCnt → a.inCnt ≤ 1024 →
      (∀ i, i < a.inCnt → s.recordOk e.part (bit a.dua 0) (a.inAddr + i * a.inStride) 1 16 = true) →
      let ins := (List.range a.inCnt).map (fun i => s.itemsAt (bit a.dua 0) (a.inAddr + i * a.inStride))
      let out := mergeItems a.k ins
      ((∃ x ∈ ins, x.itemsOk = false) → exec (.shardMerge r a) s = .next (s.reject e Code.listInvalid)) ∧
      let ks := ins.zipIdx.flatMap (fun x => s.duaPages e.part (bit a.dua 0) (a.inAddr + x.2 * a.inStride) (32 + 16 * x.1.hdr.valid))
      let hs := ks ++ s.duaPages e.part (bit a.dua 0) a.outAddr out.length
      ((∀ x ∈ ins, x.itemsOk = true) → s.inT2 hs ≠ [] → ∃ u, s.hold e hs = some u ∧ exec (.shardMerge r a) s = .next u) ∧
      ((∀ x ∈ ins, x.itemsOk = true) → s.inT2 hs = [] → (s.readPages e.part ks).writable e.part (bit a.dua 0) a.outAddr out.length = true →
        exec (.shardMerge r a) s =
          .next (((s.readPages e.part ks).stored (bit a.dua 0) a.outAddr out).done e 0 (readHdr out).valid))) ∧
    (∀ a im ix scores, s.starts r 0x38 e = true → argsRerank e.area = a → 32 ≤ a.pairLimit → a.pairLimit ≤ 8192 → 0 < a.top →
      s.image? e.part a.image = some im → s.index? e.part a.index e.tag = some ix → rerankBad im ix = false →
      s.barred e.part e.queue a.image = false → s.readable e.part (bit a.dua 0) a.qtokAddr (4 * a.qtokCnt) = true →
      s.recordOk e.part (bit a.dua 0) a.inAddr 1 16 = true →
      let x := s.itemsAt (bit a.dua 0) a.inAddr
      let els := ix.scored (x.items.map (fun i => (i.id, i.epoch))) scores
      let bs := topkRow true false a.top els
      let ks := im.passPages ++ s.duaPages e.part (bit a.dua 0) a.qtokAddr (4 * a.qtokCnt) ++
        s.duaPages e.part (bit a.dua 0) a.inAddr (32 + 16 * x.hdr.valid)
      let hs := ks ++ s.duaPages e.part (bit a.dua 0) a.outAddr bs.length
      x.items.length ≤ 4096 → a.top ≤ x.items.length →
      (s.tooWide e.part a.image = true → exec (.rerank r a scores) s = .next (s.done e Code.gangSizeInvalid 0)) ∧
      (s.tooWide e.part a.image = false → scores.length = x.items.length →
      (s.anyLost im.passPages = true → exec (.rerank r a scores) s = .next (s.reject e Code.pageLost)) ∧
      (s.anyLost im.passPages = false → s.inT2 hs ≠ [] → ∃ u, s.hold e hs = some u ∧ exec (.rerank r a scores) s = .next u) ∧
      (s.anyLost im.passPages = false → s.inT2 hs = [] →
      let gone := x.items.length - els.length
      (s.readPages e.part ks).writable e.part (bit a.dua 0) a.outAddr bs.length = true →
      exec (.rerank r a scores) s = .next ((((s.readPages e.part ks).stored (bit a.dua 0) a.outAddr bs).modIndex e.part a.index (fun y => { y with
        ctr := bump y.ctr IxCtr.passageGoneCnt gone })).done e (if gone = 0 then 0 else Code.passageGone) gone)))) ∧
    (∀ a tp ix, s.starts r 0x39 e = true → argsPack e.area = a → s.template? e.part a.template e.tag = some tp →
      s.index? e.part a.index e.tag = some ix → tp.vocab = ix.vocab → tp.vocabId = ix.vocabId →
      tp.fixed [] + a.qtokCnt ≤ a.budget → s.readable e.part (bit a.flags 1) a.qtokAddr (4 * a.qtokCnt) = true →
      s.recordOk e.part (bit a.flags 1) a.itemAddr 1 16 = true →
      let qb := s.bytesAt (bit a.flags 1) a.qtokAddr (4 * a.qtokCnt)
      let x := s.itemsAt (bit a.flags 1) a.itemAddr
      (bit a.flags 2 = true → s.recordOk e.part (bit a.flags 1) a.rrAddr 0 8 = true ∧
        ∀ g ∈ s.tagsAt (bit a.flags 1) a.rrAddr, g < x.items.length) →
      let order := if bit a.flags 2 = true then s.tagsAt (bit a.flags 1) a.rrAddr else List.range x.items.length
      let psgs := order.map (fun i => (x.items[i]?).bind (fun y => ix.passage y.id y.epoch))
      let gone := (psgs.filter Option.isNone).length
      let o := tp.pack (bit a.flags 0) a.budget (psgs.filterMap id) (words 4 qb)
      s.writable e.part (bit a.flags 1) a.outAddr (packRecord o.1 o.2).length = true →
      exec (.pack r a) s = .next (((s.stored (bit a.flags 1) a.outAddr (packRecord o.1 o.2)).modIndex e.part a.index (fun y => { y with
        ctr := bump y.ctr IxCtr.passageGoneCnt gone })).done e (if gone = 0 then 0 else Code.passageGone) o.1.length)) ∧
    (∀ (tp : Template) (cut : Bool) (budget : Nat) (psgs : List (List Nat)) (q : List Nat), tp.fixed q ≤ budget →
      (tp.pack cut budget psgs q).1.length ≤ budget ∧ (tp.pack cut budget psgs q).2.used ≤ psgs.length)

/-! ## Embedding tables (10_embedding_tables) -/

/-- 10_embedding_tables R331 to R334, R349, R351, R352, R354, R355, R359, R360: a table is created with version 1 current, its pages
zero; a stage adds one version, empty or a copy, that a publish makes current and a discard frees; the version replaced retires and is
freed when the last user, a command that waits among them, has ended; a dropped table refuses new commands. -/
def Obligations.TableVersionsChange : Prop :=
  ∀ (s : State) (r : Ref) (e : CmdE),
    (∀ a h, s.starts r 0x40 e = true → argsTable e.area = a → 0 < a.rows → a.rows ≤ 2 ^ 34 → 0 < a.dim → a.dim ≤ 4096 →
      a.rfmt ≤ 2 → bits a.flags 3 2 ≠ 3 → (bit a.flags 0 = true → a.rfmt = 0 ∧ bit a.flags 2 = false) →
      (bit a.flags 1 = true → bit a.flags 0 = true) → KMap.free (s.part e.part).tables 1024 = some h →
      let t : Table := { rows := a.rows, dim := a.dim, rfmt := a.rfmt, updatable := bit a.flags 0, hasState := bit a.flags 1
                         parity := bit a.flags 2, tierPref := bits a.flags 3 2 }
      (s.newVersion e.part t 1 = none → exec (.tableCreate r a) s = .next (s.reject e Code.poolExhausted)) ∧
      ((s.newVersion e.part t 1).isSome = true → ∃ v u, s.newVersion e.part t 1 = some (v, u) ∧
        exec (.tableCreate r a) s =
          .next ((u.modPart e.part (fun w => { w with tables := KMap.put w.tables h { t with cur := v } })).done e 0 h))) ∧
    (∀ a t, s.starts r 0x42 e = true → argsStage e.area = a → s.table? e.part a.handle = some t →
      (t.staged.isSome = true → a.mode ≤ 1 → exec (.tableStage r a) s = .next (s.reject e Code.tableVersionBusy)) ∧
      let ks := (List.range t.cur.rowPages).map (fun i => t.cur.rowBase + i) ++
        (List.range t.cur.stPages).map (fun i => t.cur.stBase + i)
      (t.staged = none → a.mode = 1 → s.inT2 ks ≠ [] → ∃ u, s.hold e ks = some u ∧ exec (.tableStage r a) s = .next u) ∧
      let s1 := if a.mode = 1 then s.readPages e.part ks else s
      (t.staged = none → a.mode ≤ 1 → (a.mode = 1 → s.inT2 ks = []) → s1.newVersion e.part t t.verNext = none →
        exec (.tableStage r a) s = .next (s.reject e Code.poolExhausted)) ∧
      (t.staged = none → (s1.newVersion e.part t t.verNext).isSome = true → ∃ v u, s1.newVersion e.part t t.verNext = some (v, u) ∧
        (a.mode = 0 → exec (.tableStage r a) s = .next ((u.modTable e.part a.handle (fun x => { x with
          staged := some v, verNext := (x.verNext + 1) % 2 ^ 32 })).done e 0 t.verNext)) ∧
        (a.mode = 1 → s.inT2 ks = [] →
          exec (.tableStage r a) s = .next (({ u with
            dev := (u.dev.writeN (65536 * v.rowBase) (s.dev.readN (65536 * t.cur.rowBase) (65536 * v.rowPages))).writeN
              (65536 * v.stBase) (s.dev.readN (65536 * t.cur.stBase) (65536 * v.stPages)) }.modTable e.part a.handle (fun x =>
                { x with staged := some v, verNext := (x.verNext + 1) % 2 ^ 32 })).done e 0 t.verNext)))) ∧
    (∀ a t v, argsH e.area = a → s.table? e.part a.handle = some t → t.staged = some v →
      (s.starts r 0x44 e = true → t.retiring.length < 2 →
        exec (.tablePublish r a) s = .next ((s.modTable e.part a.handle (fun x => { x with
          cur := v, staged := none, retiring := x.retiring ++ [x.cur]
          ctr := bump x.ctr TbCtr.versionsPublished 1 })).done e 0 v.num)) ∧
      (s.starts r 0x45 e = true →
        exec (.tableDiscard r a) s =
          .next (((s.dropVersion v).modTable e.part a.handle (fun x => { x with staged := none })).done e 0 0))) ∧
    (∀ p h n t v, KMap.find (s.part p).tables h = some t → t.cur.num ≠ n → t.retiring.find? (fun w => w.num == n && s.verFree p h w) = some v →
      exec (.versionRetire p h n) s =
        .next ((s.dropVersion v).modTable p h (fun x => { x with retiring := x.retiring.filter (fun y => y.num ≠ n) }))) ∧
    (∀ a t, s.starts r 0x41 e = true → argsH e.area = a → s.table? e.part a.handle = some t →
      let all := t.cur :: (t.staged.toList ++ t.retiring)
      ((∀ v ∈ all, s.verFree e.part a.handle v = true) →
        exec (.tableDrop r a) s = .next (((all.foldl State.dropVersion s).modPart e.part (fun w => { w with
          tables := KMap.del w.tables a.handle })).done e 0 0)) ∧
      ((∃ v ∈ all, s.verFree e.part a.handle v = false) →
        exec (.tableDrop r a) s = .next (((t.staged.toList.foldl State.dropVersion s).modTable e.part a.handle (fun x => { x with
          dropped := true, staged := none })).done e 0 0)))

/-- 10_embedding_tables R335, R337 to R342, R350, R354, R359, R360; 08_memory_tiers R251, R268: rows are written to the staged version, its READONLY
pages through fresh frames, and read from the current
one at their stride; a lookup answers its pooled bags, its status and its unique rows; the query answers the table's attributes.
10_embedding_tables R343 to R348, R350, R356: an update steps every unique row of the index list and counts; a row whose gradient
is not finite keeps its bytes; only bytes of the version's rows and states change. -/
def Obligations.TableRowsReadPooledAndStepped : Prop :=
  (
  ∀ (s : State) (r : Ref) (e : CmdE),
    (∀ a t v, s.starts r 0x43 e = true → argsS e.area = a → s.table? e.part a.arg16 = some t → t.staged = some v → 0 < t.stride →
      a.len % t.stride = 0 → a.arg64 + a.len / t.stride ≤ t.rows → s.sourceOk e.part a = true →
      let n := a.len / t.stride
      let bs := s.sourceBytes a
      let u := s.sourceSeen e.part a
      let got := u.rewrite (t.pagesOfRows v ((List.range n).map (fun i => a.arg64 + i)) false)
      (got = none → exec (.tableWrite r a) s = .next (s.reject e Code.poolExhausted)) ∧
      (∀ w, got = some w → exec (.tableWrite r a) s = .next (((pieces t.stride n bs).zipIdx.foldl (fun (b : State) (x : List Byte × Nat) =>
        b.devPut (t.rowAddr v (a.arg64 + x.2)) (x.1.take (tbRow t.rfmt t.dim) ++ zeros (t.stride - tbRow t.rfmt t.dim))) w).done e 0 0))) ∧
    (∀ a t, s.starts r 0x48 e = true → argsTRead e.area = a → s.table? e.part a.table = some t → a.first + a.rows ≤ t.rows →
      let is := (List.range a.rows).map (fun i => a.first + i)
      let ks := t.pagesOfRows t.cur is false
      (s.anyLost ks = true → exec (.tableRead r a) s = .next (s.reject e Code.pageLost)) ∧
      (s.anyLost ks = false → s.inT2 ks ≠ [] → ∃ u, s.hold e ks = some u ∧ exec (.tableRead r a) s = .next u) ∧
      (s.anyLost ks = false → s.inT2 ks = [] →
      let bs := is.flatMap (fun i => s.dev.readN (t.rowAddr t.cur i) t.stride)
      (s.readPages e.part ks).writable e.part (bit a.dua 0) a.outAddr bs.length = true →
      exec (.tableRead r a) s = .next (((s.readPages e.part ks).stored (bit a.dua 0) a.outAddr bs).done e 0 0))) ∧
    (∀ a t v, s.starts r 0x46 e = true → argsEmbed e.area = a → a.mode ≤ 1 → 0 < a.n → a.n ≤ 65536 → 0 < a.bags →
      a.bags ≤ 65536 → a.fmt ≤ 1 → s.pinnedBy e a.table = some (t, v) → (2 ^ 32 < t.rows → bit a.flags 0 = true) →
      let dua := bit a.flags 1
      let w := (if bit a.flags 0 then 8 else 4) * a.n
      let s1 := s.seen e.part dua a.idxAddr w
      s.readable e.part dua a.idxAddr w = true → s1.readable e.part dua a.aux (4 * (a.bags + 1)) = true →
      let ib := s.bytesAt dua a.idxAddr w
      let ob := s1.bytesAt dua a.aux (4 * (a.bags + 1))
      let s2 := s1.seen e.part dua a.aux (4 * (a.bags + 1))
      (bagsOk (words 4 ob) a.n = false → exec (.embedLookup r a) s = .next (s.reject e Code.bagInvalid)) ∧
      (bagsOk (words 4 ob) a.n = true →
        let ks := t.pagesOfRows v (embedIdx a ib) false
        let l := s.lookup t v (a.mode == 1) 1 (embedIdx a ib) (words 4 ob)
        let bs := plainBytes a.fmt t.dim l.rows
        let x := (writeTensor a.fmt false (fun _ => none) t.dim l.rows).2
        let u := { s2 with fresh := s2.fresh + 2 ^ 64 }.readPages e.part ks
        (s.anyLost ks = true → exec (.embedLookup r a) s = .next (s.reject e Code.pageLost)) ∧
        let hs := ks ++ s.duaPages e.part dua a.idxAddr w ++ s.duaPages e.part dua a.aux (4 * (a.bags + 1)) ++
          s.duaPages e.part dua a.outAddr bs.length
        (s.anyLost ks = false → s.inT2 hs ≠ [] →
          ∃ h, s.hold { e with aux := [v.num] } hs = some h ∧ exec (.embedLookup r a) s = .next h) ∧
        (s.anyLost ks = false → s.inT2 hs = [] → u.writable e.part dua a.outAddr bs.length = true →
        exec (.embedLookup r a) s = .next ((((u.stored dua a.outAddr bs).modTable e.part a.table (fun x => x.looked a.n l)).convEvents
          s.builtinTile (x.countP Conv.sat) (x.countP Conv.nan)).done e l.status l.uniq)))) ∧
    (∀ a t, s.starts r 0x49 e = true → argsQ e.area = a → s.table? e.part a.handle = some t →
      s.delivers e a (s.tableItems e.part a.handle t) = true →
      exec (.tableQuery r a) s = .next ((s.delivered e a (s.tableItems e.part a.handle t)).done e 0 0))) ∧
  (
  ∀ (s : State),
    (∀ (r : Ref) (e : CmdE) (a : EmbedArgs) t v, s.starts r 0x47 e = true → argsEmbed e.area = a → a.mode ≤ 1 → 0 < a.n →
      a.n ≤ 65536 → a.fmt ≤ 1 → s.pinnedBy e a.table = some (t, v) → updateErr t a.mode a.lr a.eps = 0 →
      (2 ^ 32 < t.rows → bit a.flags 0 = true) →
      let dua := bit a.flags 1
      let w := (if bit a.flags 0 then 8 else 4) * a.n
      let gn := rowBytes (fmtBits a.fmt) t.dim * a.n
      let s1 := s.seen e.part dua a.idxAddr w
      s.readable e.part dua a.idxAddr w = true → s1.readable e.part dua a.aux gn = true →
      let is := embedIdx a (s.bytesAt dua a.idxAddr w)
      let gb := s1.bytesAt dua a.aux gn
      let s2 := s1.seen e.part dua a.aux gn
      let ks := t.pagesOfRows v is (a.mode == 1)
      (s.anyLost ks = true → exec (.embedUpdate r a) s = .next (s.reject e Code.pageLost)) ∧
      (s.anyLost ks = false → s.updateWaits ks = true ∨ s.updateQueued e.part a.table v.num e.tag = true →
        exec (.embedUpdate r a) s = .next (s.setCmd { e with aux := [v.num] })) ∧
      (s.anyLost ks = false → s.updateWaits ks = false → s.updateQueued e.part a.table v.num e.tag = false →
        s.inT2 (ks ++ s.duaPages e.part dua a.idxAddr w ++ s.duaPages e.part dua a.aux gn) = [] →
      let u := s2.update t v (a.mode == 1) (fp32.decode a.lr) (fp32.decode a.eps) is (readTensor a.fmt false t.dim a.n gb).vals
      exec (.embedUpdate r a) s = .next ((({ u.state with fresh := u.state.fresh + 2 ^ 64 }.modTable e.part a.table (fun x =>
        x.updated v u.rows u.skipped)).convEvents s.builtinTile u.sat 0).done e
          (if u.skipped ≠ 0 then Code.gradientNonfinite else if is.any (fun i => decide (t.rows ≤ i)) = true then Code.indexOutOfRange else 0)
          ((sortUnique is).1.countP (fun i => decide (i < t.rows)))))) ∧
    (∀ (t : Table) (v : TVer) (ada : Bool) (lr eps : Machine.Num) (is : List Nat) (grads : List (List Machine.Num)), s.dev.wf = true →
      let u := s.update t v ada lr eps is grads
      u.rows + u.skipped = (is.dedup.filter (fun i => decide (i < t.rows))).length ∧
      u.state.hostMem = s.hostMem ∧ u.state.parts = s.parts ∧
      (∀ x, (∀ i ∈ is, i < t.rows → x < t.rowAddr v i ∨ t.rowAddr v i + 2 * t.dim ≤ x) →
        (ada = true → ∀ i ∈ is, i < t.rows → x < v.stAddr i ∨ v.stAddr i + 4 ≤ x) → u.state.dev.read x = s.dev.read x)))

/-! ## Text and grammars (11_text_engine, 12_constrained_decoding) -/

/-- 11_text_engine R362, R363, R366, R368; 12_constrained_decoding R397, R398, R404, R422: vocabularies and grammars are loaded
under the lowest free handle, queried, and unloaded by their owner while nothing names them. -/
def Obligations.VocabulariesAndGrammarsComeAndGo : Prop :=
  ∀ (s : State) (r : Ref) (e : CmdE),
    (∀ a h, s.starts r 0x50 e = true → argsS e.area = a → a.src ≤ 2 → (bit a.lflags 0 = true → e.part = 0) →
      s.vocabs.length < 16 →
      (s.vocabs.map (fun v => v.2.footprint)).sum + roundUp (4 * a.len) (2 ^ 20) ≤ 192 * 2 ^ 20 → s.sourceOk e.part a = true →
      KMap.free s.vocabs 16 = some h →
      let t := s.sourceSeen e.part a
      match readVocab e.part (bit a.lflags 0) (s.sourceBytes a) with
      | none => exec (.vocabLoad r a) s = .next (s.reject e Code.vocabInvalid)
      | some v => exec (.vocabLoad r a) s = .next ({ t with vocabs := KMap.put t.vocabs h v }.done e 0 h)) ∧
    (∀ a v, argsH e.area = a → s.vocab? e.part a.handle = some v → s.starts r 0x51 e = true →
      (v.owner ≠ e.part → exec (.vocabUnload r a) s = .next (s.reject e Code.privRequired)) ∧
      (v.owner = e.part → s.vocabUsers a.handle ≠ 0 → exec (.vocabUnload r a) s = .next (s.reject e Code.vocabInUse)) ∧
      (v.owner = e.part → s.vocabUsers a.handle = 0 →
        exec (.vocabUnload r a) s = .next ({ s with vocabs := KMap.del s.vocabs a.handle }.done e 0 0))) ∧
    (∀ a v, argsQ e.area = a → s.vocab? e.part a.handle = some v → s.starts r 0x52 e = true →
      let items := [v.hdr, leBytes 8 v.footprint, leBytes 8 (s.vocabUsers a.handle)]
      s.delivers e a items = true → exec (.vocabQuery r a) s = .next ((s.delivered e a items).done e 0 0)) ∧
    (∀ a v, s.starts r 0x55 e = true → argsS e.area = a → a.src ≤ 2 → (bit a.lflags 0 = true → e.part = 0) →
      s.vocab? e.part a.arg16 = some v → s.grammars.length < 64 → a.len ≤ 64 * 2 ^ 20 →
      (s.grammars.map (fun g => g.2.footprint)).sum + roundUp (a.len + 4 * v.toks.length) (2 ^ 20) ≤ 160 * 2 ^ 20 →
      s.sourceOk e.part a = true →
      let bs := s.sourceBytes a
      let t := s.sourceSeen e.part a
      (64 ≤ bs.length → field bs 32 16 ≠ v.vocabId ∨ field bs 48 4 ≠ v.toks.length →
        exec (.grammarLoad r a) s = .next (s.reject e Code.grammarVocabMismatch)) ∧
      (field bs 32 16 = v.vocabId → field bs 48 4 = v.toks.length → ∀ h, KMap.free s.grammars 64 = some h →
        match readGrammar e.part a.arg16 (bit a.lflags 0) v bs with
        | none => exec (.grammarLoad r a) s = .next (s.reject e Code.grammarInvalid)
        | some g => exec (.grammarLoad r a) s = .next ({ t with grammars := KMap.put t.grammars h g }.done e 0 h))) ∧
    (∀ a g, argsH e.area = a → s.grammar? e.part a.handle = some g → s.starts r 0x56 e = true →
      (g.owner ≠ e.part → exec (.grammarUnload r a) s = .next (s.reject e Code.privRequired)) ∧
      (g.owner = e.part → s.grammarUsers a.handle ≠ 0 → exec (.grammarUnload r a) s = .next (s.reject e Code.grammarInUse)) ∧
      (g.owner = e.part → s.grammarUsers a.handle = 0 →
        exec (.grammarUnload r a) s = .next ({ s with grammars := KMap.del s.grammars a.handle }.done e 0 0))) ∧
    (∀ a g, argsQ e.area = a → s.grammar? e.part a.handle = some g → s.starts r 0x57 e = true →
      let items := [g.hdr, leBytes 8 g.footprint, leBytes 8 (s.grammarUsers a.handle)]
      s.delivers e a items = true → exec (.grammarQuery r a) s = .next ((s.delivered e a items).done e 0 0))

/-- 11_text_engine R371, R374, R375, R378, R381 to R383; 12_constrained_decoding R408, R423: TOKENISE writes the tokens of the segment
and keeps or frees its context; STRICT input that is ill-formed is rejected with its offset; DETOKENISE writes the characters its
UTF-8 stage releases; GRAMMAR_MASK writes the state a token list leads to and the mask there. -/
def Obligations.TextIsTokenisedAndMasked : Prop :=
  ∀ (s : State) (r : Ref) (e : CmdE),
    (∀ a v c, s.starts r 0x53 e = true → argsText e.area = a → textBad a 16777216 = false → s.vocab? e.part a.vocab = some v →
      (a.policy = 2 → v.alg = 1 → v.byteFallback = true) → s.textCtx e.part a false = some c →
      s.readable e.part (bit a.tflags 4) a.inAddr a.inLen = true →
      let t := s.seen e.part (bit a.tflags 4) a.inAddr a.inLen
      match v.segment a.vocab a.policy (bit a.tflags 1) c (s.bytesAt (bit a.tflags 4) a.inAddr a.inLen) with
      | .error off =>
        exec (.tokenise r a) s = .next (((if bit a.tflags 0 && bit a.tflags 1 then s
          else s.modPart e.part (fun w => { w with ctxs := KMap.del w.ctxs a.ctx })).count e.part Ctr.cmdRejected 1).done e
            Code.inputIllFormed off)
      | .ok o =>
        let toks := (if bit a.tflags 0 && bit a.tflags 2 then v.bos else []) ++ o.toks ++
          (if bit a.tflags 1 && bit a.tflags 3 then v.eosId else [])
        (a.outCap < toks.length → exec (.tokenise r a) s = .next (s.reject e Code.tokenBufferFull)) ∧
        (toks.length ≤ a.outCap → t.writable e.part (bit a.tflags 5) a.outAddr (toks.flatMap (leBytes 4)).length = true →
          exec (.tokenise r a) s = .next ((((((t.stored (bit a.tflags 5) a.outAddr (toks.flatMap (leBytes 4))).putCtx e.part a o.ctx).count e.part Ctr.tokBytesIn a.inLen).count e.part
            Ctr.tokTokensOut toks.length).count e.part Ctr.illformedSub o.ill).done e 0 (toks.length + o.carried * 2 ^ 32)))) ∧
    (∀ a v c, s.starts r 0x54 e = true → argsText e.area = a → a.policy = 0 → bit a.tflags 2 = false → bit a.tflags 3 = false →
      textBad a 16777216 = false → s.vocab? e.part a.vocab = some v → s.textCtx e.part a true = some c →
      s.readable e.part (bit a.tflags 4) a.inAddr (4 * a.inLen) = true →
      let bs := s.bytesAt (bit a.tflags 4) a.inAddr (4 * a.inLen)
      let t := s.seen e.part (bit a.tflags 4) a.inAddr (4 * a.inLen)
      ((∃ x ∈ words 4 bs, v.toks.length ≤ x) → exec (.detokenise r a) s = .next (s.reject e Code.tokenInvalid)) ∧
      ((∀ x ∈ words 4 bs, x < v.toks.length) →
      let o := ({ held := c.carry, first := !c.started } : Utf8).take v.addPrefix ((words 4 bs).flatMap v.tokBytes)
      let f := if bit a.tflags 1 then o.2.1.flush v.addPrefix else ([], o.2.1, 0)
      let out := (o.1 ++ f.1).flatten
      (a.outCap < out.length → exec (.detokenise r a) s = .next (s.reject e Code.tokenBufferFull)) ∧
      (out.length ≤ a.outCap → t.writable e.part (bit a.tflags 5) a.outAddr out.length = true →
      let ctx : TextCtx := { active := true, vocab := a.vocab, detok := true, carry := f.2.1.held, started := !f.2.1.first }
      exec (.detokenise r a) s = .next ((((t.stored (bit a.tflags 5) a.outAddr out).putCtx e.part a ctx).count e.part Ctr.detokReplaced
        (o.2.2 + f.2.2)).done e 0 (out.length + f.2.1.held.length * 2 ^ 32))))) ∧
    (∀ a g, s.starts r 0x58 e = true → argsMask e.area = a → s.grammar? e.part a.grammar = some g →
      let need := 16 + maskBytes g.tokenCnt
      (a.outCap < need → exec (.grammarMask r a) s = .next ((s.count e.part Ctr.cmdRejected 1).done e Code.outputTooSmall need)) ∧
      (need ≤ a.outCap → s.readable e.part (bit a.dua 0) a.inAddr (4 * a.cnt) = true →
      let bs := s.bytesAt (bit a.dua 0) a.inAddr (4 * a.cnt)
      let t := s.seen e.part (bit a.dua 0) a.inAddr (4 * a.cnt)
      let v := KMap.findD s.vocabs g.vocab {}
      let w := g.walk v (words 4 bs) 0 g.open false
      let out := leBytes 4 w.1.st ++ leBytes 2 w.1.stack.length ++ zeros 2 ++
        leBytes 4 (w.2.1.getD 0xFFFFFFFF) ++ zeros 4 ++ leBytes (maskBytes g.tokenCnt) (if w.2.2 then 0 else g.mask v w.1)
      t.writable e.part (bit a.dua 0) a.outAddr out.length = true →
      exec (.grammarMask r a) s = .next (((t.stored (bit a.dua 0) a.outAddr out).count e.part Ctr.masksBuilt (if w.2.2 then 0 else 1)).done e 0 0)))

/-- 11_text_engine R372: BYTES on a unigram vocabulary without HAS_BYTE_FALLBACK is rejected with 0x0506. -/
def Obligations.BytesNeedAFallback : Prop :=
  ∀ (s : State) (r : Ref) (e : CmdE) (a : TextArgs) (v : Vocab), s.starts r 0x53 e = true → argsText e.area = a →
    textBad a 16777216 = false → s.vocab? e.part a.vocab = some v → a.policy = 2 → v.alg = 1 → v.byteFallback = false →
    exec (.tokenise r a) s = .next (s.reject e 0x0506)

/-- 11_text_engine R369, R370, R386: the cut of a byte list loses no byte; its characters are well-formed, and what stays is at most
three bytes that begin a character.
11_text_engine R387, R389: the stop stage lets no byte pass that may belong to a stop string: until one matches, what it emitted
and holds is what it received, no stop string having ended in it; the first that ends, the longest of those, ends the output. -/
def Obligations.TextStagesKeepEveryByte : Prop :=
  (
  ∀ (bs : List Byte),
    ((scanBytes bs).1.map Prod.fst).flatten ++ (scanBytes bs).2 = bs ∧ (scanBytes bs).2.length ≤ 3 ∧
    (∀ c ∈ (scanBytes bs).1, 1 ≤ c.1.length ∧ c.1.length ≤ 4 ∧ (c.2 = true → lead c.1 = .char c.1.length)) ∧
    (utf8Ok bs = true ↔ (scanBytes bs).2 = [] ∧ ∀ c ∈ (scanBytes bs).1, c.2 = true)) ∧
  (
  ∀ (stops : List (List Byte)) (incl : Bool) (l : List Byte), (∀ p ∈ stops, p ≠ []) →
    let q := l.foldl (StopSt.byte stops incl) { held := [], out := [], stopped := false }
    (q.stopped = false → q.out ++ q.held = l ∧ (∀ p ∈ stops, ¬ p <:+: l) ∧
      (q.held = [] ∨ ∃ p ∈ stops, q.held <+: p ∧ q.held.length < p.length)) ∧
    (q.stopped = true → ∃ a m b, m ∈ stops ∧ l = a ++ m ++ b ∧ (∀ p ∈ stops, ¬ p <:+: (a ++ m).dropLast) ∧
      (∀ p ∈ stops, p <:+ a ++ m → p.length ≤ m.length) ∧ q.held = [] ∧ q.out = if incl = true then a ++ m else a))

/-- 12_constrained_decoding R415, R416: the sampler gives −∞ to every token outside the mask, a NaN logit included; with TEMP +0 it
takes the first of the largest masked logits. -/
def Obligations.SamplerMasksAndTakesTheBest : Prop :=
  ∀ (q : Sampler) (pos mask : Nat) (logits : List Machine.Num),
    (q.keys pos mask logits).length = logits.length ∧
    (∀ i, i < logits.length → bit mask i = false → (q.keys pos mask logits)[i]? = some (.inf true)) ∧
    (q.temp = 0 → ∀ i, i < logits.length → bit mask i = true → (q.keys pos mask logits)[i]? = logits[i]?) ∧
    (∀ j, q.pick pos mask logits = some j → j < logits.length ∧ bit mask j = true) ∧
    (q.temp = 0 → (∃ i, i < logits.length ∧ bit mask i = true ∧ logits.getD i .nan ≠ .nan ∧ logits.getD i .nan ≠ .inf true) →
      (q.pick pos mask logits).isSome = true) ∧
    (q.temp = 0 → ∀ j, q.pick pos mask logits = some j → ∀ i, i < logits.length → i ≠ j →
      selBefore true { key := (q.keys pos mask logits).getD j .nan, raw := 0, tag := j }
        { key := (q.keys pos mask logits).getD i .nan, raw := 0, tag := i } = true)

/-- 12_constrained_decoding R418: the noise, as numbers: 32-bit arithmetic that wraps, pos and j taken modulo 2^32. -/
def Obligations.NoiseIsTheHashOfTheRule : Prop :=
  let mix' := fun (h : Nat) =>
    let a := (h ^^^ h / 2 ^ 16) * 0x7FEB352D % 2 ^ 32
    let b := (a ^^^ a / 2 ^ 15) * 0x846CA68B % 2 ^ 32
    b ^^^ b / 2 ^ 16
  ∀ (seed : BitVec 64) (pos j : Nat),
    noise seed pos j =
      mix' (mix' (mix' (seed.toNat % 2 ^ 32 ^^^ pos % 2 ^ 32 * 0x9E3779B1 % 2 ^ 32) ^^^ seed.toNat / 2 ^ 32) ^^^
        j % 2 ^ 32 * 0x85EBCA77 % 2 ^ 32) / 2 ^ 9

/-! ## Serving (13_serving; 14_speculation; 12_constrained_decoding R410 to R420) -/

/-- 13_serving R426 to R433, R451, R456, R457, R460, R462: a session that opens takes the next ID, IDLE or SHADOW, with an empty
context; GENERATE queues its tokens on an idle session; a cancellation waits for a commit; an idle or shadow session closes at once; a
promotion waits for the commit; the query answers state, context and usage. -/
def Obligations.SessionsOpenGenerateAndClose : Prop :=
  ∀ (s : State) (r : Ref) (e : CmdE),
    (∀ a im v, s.starts r 0x60 e = true → argsOpen e.area e.pb = a → s.image? e.part a.model = some im →
      s.vocab? e.part a.vocab = some v → (a.grammar ≠ 0xFFFF → (s.grammar? e.part a.grammar).isSome = true) →
      (a.draft ≠ 0xFFFF → (s.image? e.part a.draft).isSome = true) →
      let g := if a.grammar = 0xFFFF then none else KMap.find s.grammars a.grammar
      let dr := if a.draft = 0xFFFF then none else KMap.find (s.part e.part).images a.draft
      openParamBad a im v (g.map Grammar.vocab) dr = false → stopsOk (stopPairs a) = true → tempOk a.temp = true →
      s.glazeBad e.part a.glaze im = false → s.sessions.length < 8192 → (s.queue e.part a.streamQ).cls = 2 → a.streamQ < 64 →
      s.tooWide e.part a.model = false → s.tooWide e.part a.draft = false →
      (s.barred e.part e.queue a.model = true ∨ s.barred e.part e.queue a.draft = true →
        exec (.sessionOpen r a) s = .next (s.reject e Code.dataflowInvalid)) ∧
      (s.barred e.part e.queue a.model = false → s.barred e.part e.queue a.draft = false →
      let pools := (s.openPool e.part a.model a.kvBlocks im).bind (fun (u : State) => match dr with
        | none => some u
        | some d => u.openPool e.part a.draft a.kvBlocks d)
      (pools = none → exec (.sessionOpen r a) s = .next (s.reject e Code.poolExhausted)) ∧
      (pools.isSome = true → ∃ t, pools = some t ∧
      let sd := if a.seed = 0 then Config.freeNat t.fresh % 2 ^ 64 else a.seed
      ∃ n : Session,
        exec (.sessionOpen r a) s = .next ({ t with
          sessions := KMap.put t.sessions t.nextSess n, nextSess := t.nextSess + 1, fresh := t.fresh + 1
          }.done e 0 (t.nextSess + 2 ^ 32 * sd)) ∧
        n.part = e.part ∧ n.image = a.model ∧ n.vocab = a.vocab ∧ n.grammar = a.grammar ∧ n.cls = a.cls ∧ n.ctx = [] ∧
        n.st = (if bit a.sflags 2 = true then .shadow else .idle) ∧ n.seed = BitVec.ofNat 64 sd ∧ n.streamQ = a.streamQ ∧
        n.openQ = e.queue ∧
        n.maxCtx = a.maxCtx ∧ n.maxNew = a.maxNew ∧ n.stops = (stopPairs a).map (fun x => x.2.take x.1)))) ∧
    (∀ a v, s.starts r 0x61 e = true → argsGen e.area = a → (bit a.gflags 0 = true → a.policy ≤ 2) →
      (bit a.gflags 0 = false → a.policy = 0) → s.session? e.part a.session = some v →
      (v.st ≠ .idle → exec (.generate r a) s = .next (s.reject e Code.sessionBusy)) ∧
      (v.st = .idle → s.sessBarred e.part e.queue v = true → exec (.generate r a) s = .next (s.reject e Code.dataflowInvalid)) ∧
      (v.st = .idle → s.sessBarred e.part e.queue v = false →
        match s.genInput e.part v a with
        | .error c => exec (.generate r a) s = .next ((s.count e.part Ctr.cmdRejected 1).done e c.1 c.2)
        | .ok (toks, ill, t) =>
          (v.ctx.length + toks.length = 0 ∨ v.maxCtx < v.ctx.length + toks.length →
            exec (.generate r a) s = .next (s.reject e Code.contextExceeded)) ∧
          (0 < v.ctx.length + toks.length → v.ctx.length + toks.length ≤ v.maxCtx →
            let u := (t.beginGen a.session e.tag toks a.maxNew a.firstDl a.endDl s.arrivalTurn false).keep e
            exec (.generate r a) s = .next (if bit a.gflags 0 = true then
              ((u.count e.part Ctr.tokBytesIn a.inLen).count e.part Ctr.tokTokensOut toks.length).count e.part Ctr.illformedSub ill
              else u)))) ∧
    (∀ a v, argsH e.area = a → s.session? e.part a.handle = some v →
      (s.starts r 0x62 e = true → exec (.sessionCancel r a) s = .next ((s.modSess a.handle (fun v => { v with
        cancelAt := some (min (v.cancelAt.getD (s.boundaryAfter - 1)) (s.boundaryAfter - 1))
        cancelTags := v.cancelTags ++ [e.tag] })).keep e)) ∧
      (s.starts r 0x63 e = true →
        (v.st = .queued ∨ v.st = .running → exec (.sessionClose r a) s = .next (s.reject e Code.sessionBusy)) ∧
        (v.st = .idle ∨ v.st = .shadow →
          exec (.sessionClose r a) s = .next ((s.endSession a.handle).done e 0 0) ∧
          KMap.find (s.endSession a.handle).sessions a.handle = none)) ∧
      (s.starts r 0x6A e = true →
        (v.st ≠ .shadow → exec (.sessionPromote r a) s = .next (s.reject e Code.shadowInvalid)) ∧
        (v.st = .shadow → exec (.sessionPromote r a) s =
          .next ((s.modSess a.handle (fun w => { w with promoteTags := w.promoteTags ++ [e.tag] })).keep e)))) ∧
    (∀ a v, s.starts r 0x64 e = true → argsQ e.area = a → s.session? e.part a.handle = some v →
      let items := [leBytes 4 v.st.num, leBytes 4 v.ctx.length, leBytes 4 v.blocks.length, leBytes 4 v.tokTotal, leBytes 4 v.genSeq]
      s.delivers e a items = true → exec (.sessionQuery r a) s = .next ((s.delivered e a items).done e 0 0))

/-- 06_operations R196; 13_serving R434, R435, R445, R449 to R451, R458, R459, R462: feeds wait on their shadow; class weights are set; cached blocks of
the domain are flushed; a glaze is registered under its ID with its pages and goes while no session names it, its pages staying while a batch of the turn uses them.
13_serving R434, R435, R457: a reference given up leaves a block that others hold or the prefix index lists, with one reference
less, and frees any other; no other block and no byte of host memory changes. -/
def Obligations.FeedsClassesPrefixesAndGlazes : Prop :=
  (
  ∀ (s : State) (r : Ref) (e : CmdE),
    (∀ a v, s.starts r 0x69 e = true → argsFeed e.area = a → 0 < a.cnt → a.cnt ≤ 65536 → s.session? e.part a.session = some v →
      v.st = .shadow → s.sessBarred e.part e.queue v = false → s.readable e.part (bit a.dua 0) a.addr (4 * a.cnt) = true →
      let bs := s.bytesAt (bit a.dua 0) a.addr (4 * a.cnt)
      let t := s.seen e.part (bit a.dua 0) a.addr (4 * a.cnt)
      (∀ x ∈ words 4 bs, x < (s.sessVocab v).toks.length) → v.fedCtx.length + (words 4 bs).length ≤ v.maxCtx →
      (∀ i, s.feedBad v (words 4 bs) = some i →
        exec (.shadowFeed r a) s = .next ((s.count e.part Ctr.cmdRejected 1).done e Code.shadowInvalid i)) ∧
      (s.feedBad v (words 4 bs) = none → exec (.shadowFeed r a) s = .next ((t.modSess a.session (fun w => { w with
        feeds := w.feeds ++ [{ tag := e.tag, toks := words 4 bs, pturn := a.pturn }] })).keep e))) ∧
    (∀ a, s.starts r 0x6B e = true → argsClass e.area = a → 0 < a.weight → (bit a.setQuantum 0 = true → 0 < a.quantum) →
      exec (.classSet r a) s = .next ((s.modPart e.part (fun v => { v with
        weightsWr := KMap.put v.weightsWr a.cls a.weight
        quantumWr := if bit a.setQuantum 0 = true then a.quantum else v.quantumWr })).done e 0 0)) ∧
    (s.starts r 0x68 e = true →
      let l := (s.cached (fun _ _ => true)).filter (fun q => match s.kvBlk q with
        | none => false
        | some b => b.hash.isSome && b.dom == (s.part e.part).eff.domain)
      exec (.prefixFlush r) s = .next ((l.foldl (fun (a : State) q => a.dropBlock q.1 q.2.1 q.2.2) s).done e 0 l.length)) ∧
    (∀ a, s.starts r 0x65 e = true → argsS e.area = a → s.sourceOk e.part a = true →
      let bs := s.sourceBytes a
      glazeBadForm bs = false → (glazeProjs bs).all (s.projKnown e.part (field bs 16 16) (field bs 32 4)) = true →
      (KMap.find (s.part e.part).glazes (field bs 8 4)).isSome = true →
        exec (.glazeRegister r a) s = .next (s.reject e Code.glazeInvalid)) ∧
    (∀ a, s.starts r 0x65 e = true → argsS e.area = a → s.sourceOk e.part a = true →
      let bs := s.sourceBytes a
      glazeBadForm bs = false → (glazeProjs bs).all (s.projKnown e.part (field bs 16 16) (field bs 32 4)) = true →
      KMap.find (s.part e.part).glazes (field bs 8 4) = none → s.glazeCount < 65536 →
      let placed := (s.sourceSeen e.part a).loadPages e.part (glazePages bs (a.src == 2))
      (placed = none → exec (.glazeRegister r a) s = .next (s.reject e Code.poolExhausted)) ∧
      (placed.isSome = true → ∃ base u, placed = some (base, u) ∧ ∃ z : Glaze,
        exec (.glazeRegister r a) s =
          .next ((u.modPart e.part (fun w => { w with glazes := KMap.put w.glazes (field bs 8 4) z })).done e 0 (field bs 8 4)) ∧
        z.gfmt = field bs 6 1 ∧ z.rank = field bs 7 1 ∧ z.alpha = BitVec.ofNat 32 (field bs 12 4) ∧ z.modelId = field bs 16 16 ∧
        z.modelVer = field bs 32 4 ∧ z.hdr = bs.take 64 ∧ z.pageBase = base ∧ z.pages = ceilDiv bs.length 65536 ∧
        z.proj = (glazeProjs bs).map (fun x => (x.proj, x.din, x.dout, 65536 * base + x.aOff, 65536 * base + x.bOff)))) ∧
    (∀ a z, s.starts r 0x66 e = true → argsH e.area = a → KMap.find (s.part e.part).glazes a.handle = some z →
      (s.glazeUsers e.part a.handle ≠ 0 → exec (.glazeDeregister r a) s = .next (s.reject e Code.glazeInUse)) ∧
      (s.glazeUsers e.part a.handle = 0 → exec (.glazeDeregister r a) s = .next (((s.dropGlaze e.part a.handle z).modPart e.part
        (fun w => { w with glazes := KMap.del w.glazes a.handle })).done e 0 0))) ∧
    (∀ p id (z : Glaze), (∀ b ∈ s.batches, b.2.part = p → KMap.find b.2.glazes id = none) →
      s.dropGlaze p id z = s.freePages z.pageBase z.pages) ∧
    (∀ p id (z : Glaze), (∃ b ∈ s.batches, b.2.part = p ∧ (KMap.find b.2.glazes id).isSome = true) →
      (s.dropGlaze p id z).pages = s.pages ∧ (s.dropGlaze p id z).dev = s.dev) ∧
    (∀ a z, s.starts r 0x67 e = true → argsQ e.area = a → KMap.find (s.part e.part).glazes a.handle = some z →
      let items := [z.hdr, leBytes 4 (s.glazeUsers e.part a.handle)]
      s.delivers e a items = true → exec (.glazeQuery r a) s = .next ((s.delivered e a items).done e 0 0))) ∧
  (
  ∀ (s : State) (q : BlkRef) (b : KvBlk), s.kvBlk q = some b →
    (1 < b.refs ∨ b.hash.isSome = true → (s.unref q).kvBlk q = some { b with refs := b.refs - 1 } ∧ (s.unref q).dev = s.dev) ∧
    (b.refs ≤ 1 → b.hash = none → (s.unref q).kvBlk q = none) ∧
    (∀ x, x ≠ q → (s.unref q).kvBlk x = s.kvBlk x) ∧ (s.unref q).hostMem = s.hostMem ∧ (s.unref q).sessions = s.sessions)

/-- 01_architecture R29; 13_serving R437, R443, R446 to R448, R452; 15_wheel R503, R504; 16_scheduling R522; 18_queues R576: a batch is released once a
turn: late generations refused, allowances set, each partition's steps placed, a batch formed for each image; the fallback takes the
turn before's batch; a generation that has found no KV for 8 turns is marked to end. What firmware decides is the row's operand
(log 12).
16_scheduling R522: no partition is granted more sequences than it has queued, and together no more than there are. -/
def Obligations.BatchesAreReleased : Prop :=
  (
  ∀ (s : State),
    (s.mayRelease = true →
      (∀ pol, exec (.batchRelease pol) s = .next (((((KMap.keys ((s.refuseLate pol.unreachable).allow pol.bMod).parts).foldl
        (fun (a : State) p => a.placeSteps p pol.chunk) ((s.refuseLate pol.unreachable).allow pol.bMod)).waitsOver s).formBatches
          pol.lrs pol.lvs).placeChains pol.chains).released) ∧
      (let place := fun (a : State) (i n : Nat) =>
         if 2048 ≤ (a.sessions.filter (fun x => x.2.placed ≠ 0)).length then a else (a.offer i n).1
       let carried := s.parts.flatMap (fun x => s.carriedSteps x.1)
       let t := carried.foldl (fun (a : State) i => place a i (a.stepCost i
         (((s.prevBatch.find? (fun x => x.1 == i)).map Prod.snd).getD 8192))) s
       let again := s.prevBatch.filter (fun x => !carried.contains x.1 && (match KMap.find s.sessions x.1 with
         | none => false
         | some v => (v.st == .running && !v.kvOut) || (v.st == .shadow && !v.feeds.isEmpty)))
       let u := again.foldl (fun (a : State) x => place a x.1 (a.stepCost x.1 x.2)) t
       exec .batchFallback s = .next (((u.waitsOver s).formBatches [] []).released.devCount Ctr.batchFallback 1))) ∧
    (s.mayRelease = false → ∀ pol, exec (.batchRelease pol) s = .next s ∧ exec .batchFallback s = .next s) ∧
    (∀ i v, KMap.find s.sessions i = some v → 8 ≤ v.kvWait → (v.st = .queued ∨ v.st = .running) →
      ∃ t, exec (.kvExhausted i) s = .next t ∧ KMap.find t.sessions i = some { v with kvOut := true } ∧
        (∀ j, j ≠ i → KMap.find t.sessions j = KMap.find s.sessions j) ∧ t = { s with sessions := t.sessions })) ∧
  (
  ∀ (n rem : Nat) (l : List Share), (l.map Share.part).Nodup → (∀ x ∈ l, x.got = 0) →
    ((shareOut n rem l).map Share.got).sum ≤ rem ∧ (shareOut n rem l).map Share.part = l.map Share.part ∧
    (∀ x ∈ shareOut n rem l, x.got ≤ x.want))

/-- 12_constrained_decoding R410, R413, R415 to R420; 14_speculation R472 to R475, R481: a draft pass appends one proposed token; LVS
stops the draft passes of its batch; a mask is built for the next draft position, or ends the chain; verification keeps the target's
samples. Logits are the row's operand (log 11).
14_speculation R475: verification takes the target's own samples: the drafts accepted are the longest run that equals them, one
more sample follows, and each candidate is what the target samples at its position under its mask. -/
def Obligations.DraftsAreProposedAndVerified : Prop :=
  (
  ∀ (s : State) (i : Nat) (v : Session), KMap.find s.sessions i = some v →
    (∀ bn b m logits us, s.proposing v = true → v.proposer = 1 → v.chainStop = false → v.lvsHit = false → v.drafts.length < v.specMax →
      s.batchOf i = some (bn, b) → b.lvsReached = false → b.carried = false → s.maskAt v v.drafts.length = some m →
      let t := ((s.readPages v.part (KMap.findD (s.part v.part).images v.draft {}).passPages).charge v.part (1000 * us)).count v.part
        Ctr.draftTileUs us
      (∀ d, v.sampler.pick (v.all.length + v.drafts.length) m (logitsOf logits) = some d →
        exec (.draftPass i logits us) s = .next (t.modSess i (fun w => { w with
          drafts := w.drafts ++ [d], proposed := w.proposed + 1, draftKv := v.all.length + v.drafts.length
          chainStop := decide (v.grammar = 0xFFFF) && ((s.sessVocab v).toks.getD d {}).eos }))) ∧
      (v.sampler.pick (v.all.length + v.drafts.length) m (logitsOf logits) = none →
        exec (.draftPass i logits us) s = .next (t.modSess i (fun w => { w with
          chainStop := true, draftKv := v.all.length + v.drafts.length })))) ∧
    (∀ g d m, s.sessGrammar v = some g → s.proposing v = true → v.chainStop = false → s.sramBad = [] →
      v.drafts[v.shadow.length]? = some d → s.maskAt v v.shadow.length = some m →
      (bit m d = false →
        exec (.maskBuild i) s = .next ((s.modSess i (fun w => { w with
          drafts := v.drafts.take v.shadow.length, chainStop := true })).count v.part Ctr.draftMasked 1)) ∧
      (bit m d = true → ((s.sessVocab v).toks.getD d {}).eos = true →
        exec (.maskBuild i) s = .next (s.modSess i (fun w => { w with
          drafts := v.drafts.take (v.shadow.length + 1), chainStop := true }))) ∧
      (bit m d = true → ((s.sessVocab v).toks.getD d {}).eos = false → ∀ q, g.move (v.posAt v.shadow.length) d = some q →
        g.mask (s.sessVocab v) q ≠ 0 →
        exec (.maskBuild i) s = .next (((s.count v.part Ctr.shadowSteps 1).count v.part Ctr.masksBuilt 1).modSess i (fun w => { w with
          shadow := w.shadow ++ [(q.st, q.stack, g.mask (s.sessVocab v) q)] })))) ∧
    (∀ bn b, KMap.find s.batches bn = some b → b.lvsReached = false → s.wheel.commit = false → s.moduleLost = false →
      ∃ t, exec (.lvs bn) s = .next t ∧ t.batches = KMap.put s.batches bn { b with lvsReached := true } ∧
        t.hostMem = s.hostMem ∧ t.dev = s.dev ∧ t.inflight = s.inflight) ∧
    (∀ bn b logits ns, s.batchOf i = some (bn, b) → v.placed ≠ 0 → v.verified = false → v.st = .running → s.wheel.commit = false → s.moduleLost = false →
      b.done = true → b.carried = false → v.final v.placed = true → s.masksReady v = true → v.drafts.length < logits.length →
      let r := verify v.sampler (fun k => (s.maskAt v k).getD 0) (logits.map logitsOf) v.drafts 0 v.all.length
      let t := (s.count v.part Ctr.maskWaitNs ns).modSess i (fun w => { w with cand := r.cand, badLogits := r.bad, verified := true })
      ((v.generates && v.spec) = false → exec (.verification i ⟨logits, ns⟩) s = .next t) ∧
      ((v.generates && v.spec) = true → exec (.verification i ⟨logits, ns⟩) s = .next
        (((((t.count v.part Ctr.specSteps 1).count v.part Ctr.specProposed v.proposed).count v.part Ctr.specAccepted
          r.accepted).count v.part Ctr.specRejected (v.drafts.length - r.accepted)).count v.part Ctr.specBonus
            (if r.bonus = true then 1 else 0))))) ∧
  (
  ∀ (q : Sampler) (mask : Nat → Nat) (rows : List (List Machine.Num)) (drafts : List Nat) (i pos : Nat),
    let r := verify q mask rows drafts i pos
    r.accepted ≤ drafts.length ∧ r.cand.take r.accepted = drafts.take r.accepted ∧
    r.cand.length = r.accepted + (if r.bad = true then 0 else 1) ∧
    (r.bonus = true ↔ r.accepted = drafts.length ∧ r.bad = false) ∧
    (∀ j, j < r.cand.length → r.cand[j]? = q.pick (pos + j) (mask (i + j)) (rows.getD (i + j) [])) ∧
    (r.bad = false → r.accepted < drafts.length → r.cand[r.accepted]? ≠ drafts[r.accepted]?) ∧
    (r.bad = true → q.pick (pos + r.cand.length) (mask (i + r.cand.length)) (rows.getD (i + r.cand.length) []) = none))

/-! ## Turns, chains and faults (15_wheel, 13_serving, 09_vector_search R325 to R328, 21_reliability) -/

/-- 15_wheel R495 to R497; 13_serving R453; 18_queues R573 to R575: the end of the compute window runs the commit once: batches over,
vectors raised, the commit window open; a stream record is a multiple of 16 bytes that says its own length, and a record written to a
ring changes no byte of host memory outside that ring.
14_speculation R477; 11_text_engine R389 to R391; 13_serving R433: the tokens fired in a commit are the first of the candidates, in
order; nothing fires after an EOS, a stop string, the token limit or the end of the context. -/
def Obligations.TheWindowEndCommitsTheTurn : Prop :=
  (
  (∀ s : State, s.wheel.started = true → s.wheel.commit = false → s.moduleLost = false →
    ∃ t, exec .computeWindowEnd s = .next t ∧ t = s.windowEnd ∧ t.wheel.commit = true ∧ t.batches = [] ∧ t.vecDue = []) ∧
  (∀ s : State, s.wheel.commit = true → exec .computeWindowEnd s = .next s) ∧
  (∀ fl st i gs tn fired tot (bytes : List Byte) (ids : List Nat), bytes.length < 2 ^ 16 → ids.length < 2 ^ 16 →
    let r := streamRecord fl st i gs tn fired tot bytes ids
    r.length % 16 = 0 ∧ 40 + bytes.length + 4 * ids.length ≤ r.length ∧ r.length < 40 + bytes.length + 4 * ids.length + 19 ∧
    field r 0 4 = r.length ∧ field r 26 2 = bytes.length ∧ (r.drop 40).take bytes.length = bytes) ∧
  (∀ (s : State) p q (bs : List Byte), s.canonical → (s.queue p q).strWr < 2 ^ (s.queue p q).strLog2 →
    bs.length ≤ 2 ^ (s.queue p q).strLog2 → (s.queue p q).strWr % 16 = 0 → 16 ≤ 2 ^ (s.queue p q).strLog2 →
    ∀ a, a < (s.queue p q).sqBase ∨ (s.queue p q).sqBase + 2 ^ (s.queue p q).strLog2 ≤ a →
      (s.putRecord p q bs).hostMem.read a = s.hostMem.read a)) ∧
  (
  ∀ (v : Session) (voc : Vocab) (g : Option Grammar) (cand : List Nat) (d : Detok) (q : GPos),
    let f := fireAll v voc g cand { toks := [], detok := d, pos := q, reason := none }
    f.toks <+: cand ∧ (f.reason = none → f.toks = cand) ∧
    (∀ x ∈ f.toks.dropLast, (voc.toks.getD x {}).eos = false) ∧
    (f.reason = some 0 → ∃ x, f.toks.getLast? = some x ∧ (voc.toks.getD x {}).eos = true) ∧
    (v.tokTotal < v.genMax → v.tokTotal + f.toks.length ≤ v.genMax) ∧
    (v.all.length ≤ v.maxCtx → v.all.length + f.toks.length ≤ v.maxCtx) ∧
    (d.stop.stopped = false → (f.reason = some 1 ↔ f.detok.stop.stopped = true)))

/-- 18_queues R587; 09_vector_search R325 to R328; 01_architecture R28, R29: a CHAIN is accepted with its query tokenised, its template
held, its results in pages of its partition (which pages: log 39); its stages run in their order, each once batch formation has placed
it and its pages are at hand, each posting where it is asked to; a query that is ill-formed fails stage 0. The encoder's code and the
scores are the row's operands (log 11). -/
def Obligations.ChainsRunTheirStages : Prop :=
  ∀ (s : State) (r : Ref) (e : CmdE),
    (∀ a, s.starts r 0x70 e = true → argsChain e.pb = a → chainBad a = false → (chainQ a).bad = false →
      (∀ x ∈ s.chainChecks e.part e.queue e.tag a, x.1 = false) →
      s.readable e.part (bit a.chflags 3) a.queryAddr a.queryLen = true →
      let k := ((s.seen e.part (bit a.chflags 3) a.queryAddr a.queryLen).modPart e.part (fun w => { w with
        templates := KMap.mod w.templates a.template (fun x => { x with users := x.users ++ [e.tag] }) })).keep { e with
          aux := [a.encImg, a.rrImg] }
      match (KMap.findD s.vocabs a.qvocab {}).segment a.qvocab a.policy true {}
        (s.bytesAt (bit a.chflags 3) a.queryAddr a.queryLen) with
      | .error off => exec (.chain r a) s = .next (k.chainFail e 0 Code.inputIllFormed off)
      | .ok o =>
        let kept := k.chainStore { tag := e.tag, part := e.part } 0 (o.toks.flatMap (leBytes 4))
        (kept = none → exec (.chain r a) s = .next (k.chainFail e 0 Code.poolExhausted 0)) ∧
        (kept.isSome = true → ∃ u, kept = some u ∧ exec (.chain r a) s = .next (((u.count e.part Ctr.tokBytesIn a.queryLen).count
          e.part Ctr.tokTokensOut o.toks.length).count e.part Ctr.illformedSub o.ill))) ∧
    (∀ c code scores, s.inflight.find? (fun x => x.part = r.part && x.queue = r.queue && x.cid = r.cid && x.opc = 0x70 &&
        x.st == .running) = some e → KMap.find s.chains e.tag = some c → c.stage < 4 → s.moduleLost = false →
      let a := argsChain e.pb
      let p := if c.stage = 1 && (s.index? e.part a.index e.tag).isSome then s.pinIndex e.part a.index e.tag else s
      let ks := p.chainReads e a c
      let t := (p.setCmd { e with wait := [] }).readPages e.part ks
      let go := exec (.chainStageComplete r code scores) s
      (c.placed ≤ c.stage → go = .next s) ∧
      (c.stage < c.placed →
        (p.anyLost ks = true → go = .next (p.chainFail e c.stage Code.pageLost 0)) ∧
        (p.anyLost ks = false → p.inT2 ks ≠ [] → ∃ u, p.hold e ks = some u ∧ go = .next u) ∧
        (p.anyLost ks = false → p.inT2 ks = [] →
          (∀ ix, c.stage = 0 → t.tooWide e.part a.encImg = false → KMap.find (t.part e.part).indexes a.index = some ix →
            let kept := t.chainStore { c with stage := 1 } 1 (leBytes (ix.bits / 8) (code % 2 ^ ix.bits))
            (kept = none → go = .next (t.chainFail e 0 Code.poolExhausted 0)) ∧
            (kept.isSome = true → ∃ u, kept = some u ∧ go = .next (u.stagePost e 0 0 0))) ∧
          (∀ ix, c.stage = 1 → t.index? e.part a.index e.tag = some ix →
            let x := t.searchOne ix (chainQ a) (ix.readEpoch e.tag) (t.chainCode c)
            let kept := t.chainStore { c with stage := if a.rrCnt = 0 then 3 else 2 } 2 x.1
            (kept = none → go = .next (t.chainFail e 1 Code.poolExhausted 0)) ∧
            (kept.isSome = true → ∃ u, kept = some u ∧ go = .next ((u.searched e.part a.index 1 [x]).stagePost e 1 0
              (ix.readEpoch e.tag + 2 ^ 48 * (readHdr x.1).valid)))) ∧
          (∀ im ix, c.stage = 2 → KMap.find (t.part e.part).images a.rrImg = some im → t.index? e.part a.index e.tag = some ix →
            t.tooWide e.part a.rrImg = false → rerankBad im ix = false → scores.length = ((t.chainItems c).take a.rrCnt).length →
            let els := ix.scored (((t.chainItems c).take a.rrCnt).map (fun i => (i.id, i.epoch))) scores
            let gone := ((t.chainItems c).take a.rrCnt).length - els.length
            let row := topkRow true false a.rrTop els
            let kept := t.chainStore { c with stage := 3 } 3 row
            (kept = none → go = .next (t.chainFail e 2 Code.poolExhausted 0)) ∧
            (kept.isSome = true → ∃ u, kept = some u ∧ go = .next ((u.modIndex e.part a.index (fun x => { x with
              ctr := bump x.ctr IxCtr.passageGoneCnt gone })).stagePost e 2 (if gone = 0 then 0 else Code.passageGone)
                (field row 32 4 + 2 ^ 32 * (readHdr row).valid)))) ∧
          (∀ tp ix, c.stage = 3 → t.template? e.part a.template e.tag = some tp → t.index? e.part a.index e.tag = some ix →
            tp.vocab = ix.vocab → tp.vocabId = ix.vocabId → tp.fixed (t.chainToks c) ≤ a.budget →
            let psgs := (t.chainOrder c).map (fun i => ((t.chainItems c)[i]?).bind (fun x => ix.passage x.id x.epoch))
            let gone := (psgs.filter Option.isNone).length
            let o := tp.pack (bit a.chflags 2) a.budget (psgs.filterMap id) (t.chainToks c)
            let kept := t.chainStore { c with stage := 4 } 4 (o.1.flatMap (leBytes 4))
            (kept = none → go = .next (t.chainFail e 3 Code.poolExhausted 0)) ∧
            (kept.isSome = true → ∃ u, kept = some u ∧ go = .next ((((u.modIndex e.part a.index (fun x => { x with
              ctr := bump x.ctr IxCtr.passageGoneCnt gone })).stagePost e 3 (if gone = 0 then 0 else Code.passageGone)
                (o.1.length + 2 ^ 32 * o.2.used)).chainRelease e).chainGenerate e a o.1)))))) ∧
    (∀ a toks v, s.session? e.part a.session = some v → v.st = .idle → 0 < v.ctx.length + toks.length →
      v.ctx.length + toks.length ≤ v.maxCtx →
      let b := s.beginGen a.session e.tag toks a.maxNew a.firstDl a.endDl e.acceptTurn true
      (∀ c, KMap.find b.chains e.tag = some c → s.chainGenerate e a toks =
        { b.chainPages c with chains := KMap.put b.chains e.tag { c with results := [] } }) ∧
      (KMap.find b.chains e.tag = none → s.chainGenerate e a toks = b)) ∧
    (∀ (c : Chain) k bs u, s.canonical → s.chainStore c k bs = some u → ∃ d, KMap.find u.chains c.tag = some d ∧ d.stage = c.stage ∧
      d.placed = c.placed ∧ u.chainResult d k = bs)

/-- 15_wheel R491 to R494; 16_scheduling R509, R510, R519, R523; 13_serving R440, R445; 19_registers R597; 22_security R671: a boundary after
the turn's commit, which it runs where none has told it, puts the written fields in force, disables and resets take effect, admission and preemption follow, and save-area slots that a lowered TILE_LIMIT leaves over are freed; the turn number
is one higher, 0 at the first, and the offset 0. -/
def Obligations.TheBoundaryOpensATurn : Prop :=
  ∀ (s : State),
    (s.stage ≠ .off → s.daUp = true →
      let o := if s.wheel.started && !s.wheel.commit && !s.moduleLost then s.windowEnd else s
      let w := { o.glazesOver.wheelTurn with vectors := [] }
      let t := { w with parts := KMap.each w.parts (fun _ v => v.turn) }
      let u := (t.disables.salts o).lock
      (u.locked = false → u.moduleLost = false →
        let x := ((KMap.keys u.sessions).foldl State.letIn u).preemptions
        exec .turnBoundary s = .next ((KMap.keys x.parts).foldl State.trimSave x)) ∧
      (∀ (x : State) p, (KMap.find x.parts p).isSome → ((x.trimSave p).part p).saveArea =
        if (x.part p).en = true then min (x.part p).saveArea (max (x.part p).wr.tileLimit (x.slotsNeeded p)) else (x.part p).saveArea) ∧
      (u.locked = true → exec .turnBoundary s = .next u)) ∧
    s.wheelTurn.wheel.turn = (if s.wheel.started = true then (s.wheel.turn + 1) % 2 ^ 64 else 0) ∧
    s.wheelTurn.wheel.now = 0 ∧ s.wheelTurn.wheel.commit = false ∧ s.wheelTurn.wheel.released = false ∧
    s.wheelTurn.wheel.started = true ∧ s.wheelTurn.wheel.turnPeriod = s.wheel.turnPeriodWr ∧
    s.wheelTurn.wheel.commitWin = s.wheel.commitWinWr ∧
    (s.wheel.started = true → s.wheelTurn.wheel.base = s.wheel.base + s.wheel.len) ∧
    s.wheelTurn.parts = s.parts ∧ s.wheelTurn.sessions = s.sessions ∧ s.wheelTurn.hostMem = s.hostMem ∧
    (∀ v : Part, v.turn.eff = v.wr ∧ v.turn.usage = (if v.enPend = true then 0 else v.usage) ∧ v.turn.weights = v.weightsWr ∧
      (v.turn.live = true ↔ v.live = true ∨ v.enPend = true) ∧ v.turn.en = v.en ∧ v.turn.wr = v.wr)

/-- 20_power_thermal R613, R621; 21_reliability R630, R632 to R635, R641, R643, R652, R653; 08_memory_tiers R276: a lost domain is
down, logged and counted, a lost die's tiles quarantined, ALERT_N asserted for the hub's domains; a page with parity, a mirror or a
backing copy is not lost with its stack; errors that patrol finds are counted, logged and answered by the region they lie in. -/
def Obligations.FaultsAreMasked : Prop :=
  ∀ (s : State),
    (∀ d, d < 20 → s.power.domUp.getD d false = true → s.power.domLost.getD d false = false → d < s.power.domUp.length →
      d < s.power.domLost.length → d < 8 → d < s.dieLost.length →
      ∃ t, exec (.domainLost d) s = .next t ∧ t.power.domUp.getD d false = false ∧ t.power.domLost.getD d false = true ∧
        t.dieLost.getD d false = true ∧ (∀ k, 128 * d ≤ k → k < 128 * d + 128 → (t.tile k).quarantined = true) ∧
        t.degraded = true ∧ t.hostMem = s.hostMem ∧ t.dev = s.dev ∧ t.sessions = s.sessions) ∧
    (∀ d, d = 16 ∨ d = 17 ∨ d = 19 → s.power.domUp.getD d false = true → s.power.domLost.getD d false = false →
      d < s.power.domUp.length → d < s.power.domLost.length →
      ∃ t, exec (.domainLost d) s = .next t ∧ t.power.domUp.getD d false = false ∧ t.mgmt.alertN = true ∧ t.moduleLost = true ∧
        t.hostMem = s.hostMem ∧ t.dev = s.dev ∧ t.sessions = s.sessions) ∧
    (∀ d, d < 8 → s.power.domUp.getD d false = true → s.power.dieTripped.getD d false = false →
      exec (.dieTrip d) s = .next (({ s with power := { s.power with dieTripped := s.power.dieTripped.set d true } }.powCount
        Ctr.dieTrips 1).loseDomain d)) ∧
    (∀ n, n < 8 → s.power.domUp.getD (8 + n) false = true → s.power.domLost.getD (8 + n) false = false →
      8 + n < s.power.domLost.length → n < s.stackLost.length →
      ∃ t, exec (.domainLost (8 + n)) s = .next t ∧ t.power.domLost.getD (8 + n) false = true ∧ t.stackLost.getD n false = true ∧
        t.degraded = true ∧
        (s.inflight = [] → (∀ e ∈ s.pages, e.2.flag 4 = false) → (∀ e ∈ s.parts, e.2.kv = []) → ∀ k g, KMap.find s.pages k = some g →
          KMap.find t.pages k = some (g.afterLoss n (s.groupBroken n g)))) ∧
    (∀ (g : Page) n broken, g.flag 5 = true ∨ g.flag 6 = true ∨ (g.flag 2 = true ∧ broken = false) →
      (g.afterLoss n broken).flag 7 = g.flag 7) ∧
    (∀ (g : Page) n broken, g.tier < 2 → g.die = n → g.flag 5 = false → g.flag 6 = false → (g.flag 2 = false ∨ broken = true) →
      (g.afterLoss n broken).flag 7 = true) ∧
    (∀ t a, t < 1024 → s.tileGated t = false → s.healthy t = true →
      exec (.patrolScrub (.tileWord t a) true) s = .next (s.strike t (.uncorrectable a)) ∧
      exec (.patrolScrub (.tileWord t a) false) s = .next (s.tileWordCe t a)) ∧
    (∀ t a, let u := s.tileWordCe t a
      KMap.findD (u.tile t).ctr TileCtr.eccCeCnt 0 = min (KMap.findD (s.tile t).ctr TileCtr.eccCeCnt 0 + 1) (2 ^ 48 - 1) ∧
       u.hostMem = s.hostMem ∧ u.dev = s.dev ∧ u.sessions = s.sessions ∧
      (∀ n, s.wheel.marks < n + 86400 → (11, t, a, n) ∈ s.ceCount → u.mgmt = s.mgmt)) ∧
    (∀ tier die f, tier < 2 → (s.dies tier).contains die = true → f < s.framesPer tier →
      (exec (.patrolScrub (.frame tier die f) true) s = .next (s.frameUe tier die f)) ∧
      (exec (.patrolScrub (.frame tier die f) false) s = .next (s.frameCe tier die f)) ∧
      (∀ k g, s.pageAt tier die f = some (k, g) → g.flag 2 = false → g.flag 5 = false →
        g.flag 6 = false → g.poolKv = false → ∃ h, KMap.find (s.frameUe tier die f).pages k = some h ∧ h.flag 7 = true)) ∧
    (∀ a, a < 2 ^ 29 → exec (.patrolScrub (.hubSram a) true) s =
        .next { ((s.devCount Ctr.memUe 1).logFault 1 17 0xFFFF 0xFF 3 0 a 0) with sramBad := (s.sramBad ++ [a / 4096]).dedup } ∧
      exec (.patrolScrub (.hubSram a) false) s = .next (s.hubWordCe a) ∧
      (∀ n, s.wheel.marks < n + 86400 → (12, 0, a, n) ∈ s.ceCount → s.hubWordCe a =
        { s.devCount Ctr.memCe 1 with ceCount := s.ceCount.filter (fun e => decide (s.wheel.marks < e.2.2.2 + 86400)) ++
            [(4, 0, a, s.wheel.marks)] }) ∧
      (s.moduleLost = false → exec (.hubSramReload a) s = .next { s with sramBad := s.sramBad.filter (fun x => x ≠ a / 4096) })) ∧
    (∀ link lanes, link < 18 → lanes < s.renob.getD link 0 →
      exec (.renobLinkFail link lanes) s =
        .next ({ s with renob := s.renob.set link lanes }.logFault 6 0xFF 0xFFFF 0xFF 0 0 0 (link + 2 ^ 32 * lanes)))

/-! ## Number formats and selection (02_number_formats, 07_selection) -/

/-- 02_number_formats R33 to R41, R59, R61: a code that is not NaN comes back unchanged when its value is placed in its own format;
a NaN becomes the canonical one; an integer saturates at its range; T2 and B1 codes stand for their values. -/
def Obligations.FormatsKeepTheirValues : Prop :=
  (∀ f ∈ [fp32, bf16, fp16, fp8e4, fp8e5, fp4], ∀ c, c < 2 ^ (1 + f.eb + f.mb) →
    (f.decode c ≠ .nan → f.convert none (f.decode c) = { code := c, sat := false, nan := false }) ∧
    (f.decode c = .nan → (f.convert none (f.decode c)).code = f.nanCode)) ∧
  (∀ w ∈ [4, 8], ∀ i : Int,
    ((-(2 : Int) ^ (w - 1) ≤ i → i < (2 : Int) ^ (w - 1) →
      (convInt w (Machine.Num.ofInt i)).sat = false ∧ signed w (convInt w (Machine.Num.ofInt i)).code = i) ∧
    ((2 : Int) ^ (w - 1) ≤ i →
      (convInt w (Machine.Num.ofInt i)).sat = true ∧ signed w (convInt w (Machine.Num.ofInt i)).code = (2 : Int) ^ (w - 1) - 1) ∧
    (i < -(2 : Int) ^ (w - 1) →
      (convInt w (Machine.Num.ofInt i)).sat = true ∧ signed w (convInt w (Machine.Num.ofInt i)).code = -(2 : Int) ^ (w - 1)))) ∧
  (∀ book, fmtValue 0xA 0 book = .ofInt 0 ∧ fmtValue 0xA 1 book = .ofInt 1 ∧ fmtValue 0xA 3 book = .ofInt (-1) ∧
    fmtValue 0xB 0 book = .ofInt (-1) ∧ fmtValue 0xB 1 book = .ofInt 1) ∧
  (∀ x, (convT2 x).code ≠ 2 ∧ (convT2 x).code < 4 ∧ (convB1 x).code < 2)

/-- 07_selection R216, R234 to R241; 09_vector_search R318: a merge answers at most K elements, each an element of an input, in
result order, one for each ITEM_ID. -/
def Obligations.MergesKeepTheBest : Prop :=
  ∀ (k : Nat) (ins : List InRec), k ≤ 4096 → (∀ x ∈ ins, x.itemsOk = true) →
    let out : InRec := { hdr := readHdr (mergeItems k ins), bytes := mergeItems k ins }
    out.hdr.valid ≤ k ∧ (∀ i ∈ out.items, i.id ≠ padId ∧ ∃ x ∈ ins, i ∈ x.items) ∧ (out.items.map ItemEl.id).Nodup ∧ List.Pairwise (fun a b => itemBefore b a = false) out.items

/-! ## What commands leave behind where they complete (06_operations, 10_embedding_tables, 18_queues) -/

/-- 18_queues R580, R582; 06_operations R187, R202, R203, R206, R213, R214; 03_narrow_arithmetic R73 to R79; 10_embedding_tables R335,
R337, R341, R354: a command that may start and whose fields and objects are as its rule asks completes, gone from the commands in
flight, with what it leaves behind: a reset queue, a loaded, leaving or freed image, a run, a table's rows, pooled bags, stepped rows, and
a record of a batch issued on its gang. -/
def Obligations.CommandsLeaveTheirEffects : Prop :=
  ∀ (s : State),
    (∀ r a e, s.starts r 0x01 e = true → argsH e.area = a → 0 < a.handle → a.handle < 64 →
      ((s.queue e.part a.handle).state = .enabled ∨ (s.queue e.part a.handle).state = .fetchError) →
      ∃ t, exec (.queueReset r a) s = .next t ∧ t.dev = s.dev ∧ t.pages = s.pages ∧
        ∀ c ∈ t.inflight, c.tag ≠ e.tag → c.part = e.part → c.queue = a.handle → c.st = .running) ∧
    (∀ p q, (s.queue p q).state = .resetting → (s.queue p q).tb ≤ s.turn →
      s.inflight.any (fun c => c.part = p && c.queue = q) = false →
      (KMap.find s.parts p).isSome → (KMap.find (s.part p).queues q).isSome →
      ∃ t, exec (.queueResetDone p q) s = .next t ∧ (t.queue p q).state = .enabled ∧ t.dev = s.dev ∧ t.sessions = s.sessions ∧
        ∀ c ∈ t.inflight, c ∈ s.inflight) ∧
    (∀ p q, (s.queue p q).state = .disablePending → (s.queue p q).tb ≤ s.turn →
      s.inflight.any (fun c => c.part = p && c.queue = q) = false → (KMap.find s.parts p).isSome →
      (KMap.find (s.part p).queues q).isSome →
      ∃ t, exec (.disablePendingClear p (some q)) s = .next t ∧ (t.queue p q).state = .disabled ∧
        t.dev = s.dev ∧ t.hostMem = s.hostMem) ∧
    (∀ r a e k base t, s.starts r 0x10 e = true → argsS e.area = a → s.sourceOk e.part a = true → s.sagger.debugScope ≠ 3 →
      let bs := s.sourceBytes a
      let h := bs.take 128
      let ps := plains (s.part e.part).genP bs
      let rs := (recsOf ps).map recOf
      headerBad bs = false → imgEnc h = false → contentBad bs ps = false → sealedBad h ps = false →
      field h 52 4 ≤ (s.mgmt.comps.getD 2 {}).running →
      Config.mlDsaVerify (signedInput bs ps) (((sectRaw bs 0xFF).drop 4).take 3309) 1 (s.part e.part).trustList = true →
      s.samePresent e.part h = none → KMap.free (s.part e.part).images 64 = some k → s.imagesHeld < 256 → recordsErr h rs = 0 →
      (KMap.findD ps 5 []).length % 32 = 0 → (calOf ps).any (calBad h rs ((shadowOf ps).map Prod.fst) (calOf ps)) = false →
      step8Bad h ps rs = false → (s.sourceSeen e.part a).loadPages e.part (imagePages ps (a.src == 2)) = some (base, t) →
      codebookBad t base (recsOf ps) = false → (KMap.find t.parts e.part).isSome →
      ∃ u, exec (.imageLoad r a) s = .next u ∧
        KMap.find (u.part e.part).images k = some (imageOf bs ps base ((recsOf ps).map (relocate base))) ∧ u.dev = t.dev ∧
        u.pages = t.pages) ∧
    (∀ r a e im, s.starts r 0x11 e = true → argsH e.area = a → s.image? e.part a.handle = some im →
      s.imageNamed e.part a.handle = false →
      ∃ t i, exec (.imageUnload r a) s = .next t ∧ KMap.find (t.part e.part).images a.handle = some i ∧ i.ready = false ∧
        i.leaving = true ∧ i.unloadTag = e.tag ∧ i.recs = im.recs ∧ t.pages = s.pages ∧ t.dev = s.dev) ∧
    (∀ p n im, KMap.find (s.part p).images n = some im → im.leaving = true → s.imageBusy p n = false →
      ∃ t, exec (.imageUnloadComplete p n) s = .next t ∧ KMap.find (t.part p).images n = none ∧
        (∀ k, im.pageBase ≤ k → k < im.pageBase + im.pageCnt → KMap.find t.pages k = none) ∧
        ∀ c ∈ t.inflight, c ∈ s.inflight) ∧
    (∀ r a e im, s.starts r 0x13 e = true → argsQ e.area = a → s.image? e.part a.handle = some im → bit a.qflags 0 = false →
      (qRecord e.opc (s.imageItems im)).length ≤ a.outCap →
      ∃ t, exec (.imageQuery r a) s = .next t ∧ t.inflight = s.inflight.filter (fun c => c.tag ≠ e.tag) ∧ t.dev = s.dev ∧
        t.pages = s.pages) ∧
    (∀ r image binds e im, s.starts r 0x12 e = true → field e.area 0 2 = image → words 8 e.pb = binds →
      s.image? e.part image = some im → im.kind = 4 → im.needsPriv = false → im.tablesNamed = [] →
      ∃ t x, exec (.graphRun r image binds) s = .next t ∧ KMap.find t.runs s.nextRun = some x ∧ x.part = e.part ∧ x.tag = e.tag ∧
        x.image = image ∧ x.binds = binds ∧ x.status = [] ∧ t.nextRun = s.nextRun + 1 ∧ t.dev = s.dev ∧ t.hostMem = s.hostMem) ∧
    (∀ r a e t v, s.starts r 0x43 e = true → argsS e.area = a → s.table? e.part a.arg16 = some t → t.staged = some v → 0 < t.stride →
      a.len = t.stride → a.arg64 < t.rows → a.src = 0 → s.canonical →
      ∀ w, s.rewrite (t.pagesOfRows v [a.arg64] false) = some w → w.canonical →
      ∃ u, exec (.tableWrite r a) s = .next u ∧ u.inflight = w.inflight.filter (fun c => c.tag ≠ e.tag) ∧
        (∀ j, j < tbRow t.rfmt t.dim → j < t.stride → u.dev.read (t.rowAddr v a.arg64 + j) = s.hostMem.read (a.addr + j)) ∧
        ∀ x, (x < t.rowAddr v a.arg64 ∨ t.rowAddr v a.arg64 + t.stride ≤ x) → u.dev.read x = w.dev.read x) ∧
    (∀ r a e t, s.starts r 0x48 e = true → argsTRead e.area = a → s.table? e.part a.table = some t → a.first + a.rows ≤ t.rows →
      let ks := t.pagesOfRows t.cur ((List.range a.rows).map (fun i => a.first + i)) false
      s.anyLost ks = false → s.inT2 ks = [] → bit a.dua 0 = false →
      ∃ u, exec (.tableRead r a) s = .next u ∧ u.inflight = s.inflight.filter (fun c => c.tag ≠ e.tag) ∧ u.dev = s.dev ∧
        u.sessions = s.sessions) ∧
    (∀ r a e t v, s.starts r 0x46 e = true → argsEmbed e.area = a → a.mode ≤ 1 → 0 < a.n → a.n ≤ 65536 → 0 < a.bags →
      a.bags ≤ 65536 → a.fmt ≤ 1 → s.pinnedBy e a.table = some (t, v) → (2 ^ 32 < t.rows → bit a.flags 0 = true) →
      bit a.flags 1 = false →
      let ib := s.hostMem.readN a.idxAddr ((if bit a.flags 0 then 8 else 4) * a.n)
      let ks := t.pagesOfRows v (embedIdx a ib) false
      bagsOk (words 4 (s.hostMem.readN a.aux (4 * (a.bags + 1)))) a.n = true → s.anyLost ks = false → s.inT2 ks = [] →
      ∃ u, exec (.embedLookup r a) s = .next u ∧ u.inflight = s.inflight.filter (fun c => c.tag ≠ e.tag) ∧ u.dev = s.dev ∧
        u.sessions = s.sessions) ∧
    (∀ b v i o im k, KMap.find s.batches b = some v → KMap.find (s.part v.part).images v.image = some im →
      KMap.find s.tasks v.task = some k → s.moduleLost = false → v.mayIssue im i s.wheel.commit = true → s.taskReady k = true →
      let r := im.record i
      let x := (((s.quietTiles k.tiles).told k.tiles o).heldFor v.part o.holds).startLayer b v im r
      let n := x.1.batchBench x.2 im i k.tiles
      let err := r.err v.privileged n.wide none (entrySize n x.1 r)
      let w : Place := { part := v.part, image := v.image, pins := v.pinned, tag := none, batch := b
                         pages := x.1.batchPages x.2 im n r }
      let go := exec (.recordIssue (.batch b) i o) s
      (∀ t kind, o.strike = some (t, kind) → k.tiles.contains t = true → go = .next ((s.quietTiles k.tiles).strike t kind)) ∧
      (o.strike = none →
        (err ≠ 0 → go = .next { x.1 with batches := KMap.put x.1.batches b (x.2.took im i err) }) ∧
        (∀ c t, x.1.perform w i k.tiles n r (im.recs.getD i []) err o = .done c t →
          go = .next { t with batches := KMap.put t.batches b ((x.2.observed im r c).took im i c.status) }) ∧
        (∀ ks t, x.1.perform w i k.tiles n r (im.recs.getD i []) err o = .held ks t →
          ∃ u y, go = .next u ∧ KMap.find u.batches b = some y ∧ y.stalled = true ∧ i ∈ y.held ∧ y.recDone = x.2.recDone) ∧
        (err = 0 → r.opc = 0 → x.1.dropAt v.part o = none →
          ∃ u y, go = .next u ∧ KMap.find u.batches b = some y ∧ i ∈ y.recDone ∧ y.failed = x.2.failed)))
end

