-- ==== Sys2Proof/Laws/Alloc.lean ====
section
/-! SUPPORT. What placing and allocating a page does in a module that holds few pages: it succeeds, and nothing is evicted. -/

namespace Sys2Proof.Machine

/-- A module whose partition p holds at most m plain pages, with no frame retired, no stack lost, no KV region and no save area. -/
structure State.Calm (s : State) (p m : Nat) : Prop where
  len : s.pages.length ≤ m
  plain : ∀ e ∈ s.pages, e.2.flag 2 = false ∧ e.2.flag 4 = false ∧ e.2.flag 5 = false
  noneRetired : s.retired = []
  noneLost : s.stackLost = List.replicate 8 false
  noKv : s.kvRegions = []
  room0 : 64 ≤ (s.part p).eff.t0Max
  room1 : 64 ≤ (s.part p).eff.t1Max
  noSave : (s.parts.map (fun e => 144 * e.2.saveArea)).sum = 0

/-- A number below n that no element of a shorter list is. -/
theorem exists_lt_not_mem (l : List Nat) (n : Nat) (h : l.length < n) : ∃ f, f < n ∧ f ∉ l := by
  obtain ⟨f, hf, hn⟩ := Finset.exists_mem_notMem_of_card_lt_card (s := l.toFinset) (t := Finset.range n)
    (by rw [Finset.card_range]; exact lt_of_le_of_lt l.toFinset_card_le h)
  exact ⟨f, Finset.mem_range.mp hf, fun h => hn (List.mem_toFinset.mpr h)⟩

/-- A tier has a legal place in a calm module. -/
theorem State.Calm.leastSpot {s : State} {p m tier : Nat} (c : s.Calm p m) (hm : m ≤ 16) (ht : tier < 2) :
    (s.leastSpot tier false false).isSome = true := by
  have hd : s.dies tier = List.range 8 := by
    simp only [State.dies, ht, if_true, c.noneLost]; rfl
  have hp : 122880 ≤ s.framesPer tier := by
    interval_cases tier <;> simp [State.framesPer]
  obtain ⟨f, hf, hn⟩ := exists_lt_not_mem (s.pages.map (fun e => e.2.frame)) (s.tries tier) (by
    have := c.len
    simp only [State.tries, c.noneRetired, List.length_map, List.length_nil]
    omega)
  have hff : f < s.framesPer tier := lt_of_lt_of_le hf (Nat.min_le_left _ _)
  have hh : s.held tier 0 f = false := by
    simp only [State.held, c.noneRetired, List.contains_nil, Bool.or_false, List.any_eq_false]
    intro e he
    have hp := c.plain e he
    have : e.2.frame ≠ f := fun h => hn (List.mem_map.mpr ⟨e, he, h⟩)
    simp [hp.2.1, this, show ¬ tier = 2 by omega]
  have hq : s.parityFrame tier 0 f = false := by
    simp only [State.parityFrame, Bool.and_eq_false_iff, List.any_eq_false]
    right
    intro e he
    simp [(c.plain e he).1]
  have ho : s.spotOk false false ⟨tier, 0, f, 0⟩ = true := by
    simp [State.spotOk, hd, hff, hh, hq]
  rw [State.leastSpot, List.findSome?_isSome_iff]
  refine ⟨f, List.mem_range.mpr hf, ?_⟩
  rw [List.findSome?_isSome_iff]
  refine ⟨0, by rw [hd]; decide, ?_⟩
  simp [ho]

/-- A place in tier T0 or T1 of a calm module: nothing but the count of free values changes. -/
theorem State.Calm.placeIn {s : State} {p m tier : Nat} (c : s.Calm p m) (hm : m ≤ 16) (ht : tier < 2) (why : Want) :
    ∃ x : Spot, s.placeIn p tier false false why = some ({ s with fresh := s.fresh + 1 }, x) := by
  have hl := c.leastSpot hm ht
  have hf : ∀ q n, n < 2 → s.framesOf q n ≤ m := by
    intro q n hn
    rw [State.framesOf]
    have h1 : ∀ e ∈ s.pages.filter (fun e => e.2.owner == q && e.2.tier == n),
        1 + (if e.2.flag 5 && n ≠ 2 then 1 else 0) + (if s.leadsGroup e then 1 else 0) = 1 := by
      intro e he
      have hp := c.plain e (List.mem_of_mem_filter he)
      simp [hp.2.2, State.leadsGroup, hp.1]
    rw [List.map_congr_left h1]
    rw [if_neg (by omega), Nat.add_zero]
    simp only [List.map_const', List.sum_replicate, smul_eq_mul, mul_one]
    exact le_trans (List.length_filter_le _ _) c.len
  have hd : s.dies 1 = List.range 8 := by
    simp only [State.dies, c.noneLost]; rfl
  have hu : s.framesUsed 1 ≤ 16 * m := by
    simp only [State.framesUsed, c.noSave, if_true, Nat.add_zero]
    have : ∀ x ∈ (List.range 16).map (fun q => s.framesOf q 1), x ≤ m := by
      intro x hx
      obtain ⟨q, -, rfl⟩ := List.mem_map.mp hx
      exact hf q 1 (by decide)
    have := List.sum_le_card_nsmul _ _ this
    simpa using this
  have hr1 : s.roomT1 (s.pages.length + 1) p false false why = some s ∨ tier = 0 := by
    by_cases h0 : tier = 0
    · exact .inr h0
    · left
      have h1 : tier = 1 := by omega
      subst h1
      rw [State.roomT1, if_pos ⟨by simp only [frameNeed, State.frames, hd, State.framesPer, List.length_range]; simp; omega, hl⟩]
  obtain ⟨x, hx⟩ : ∃ x, s.pickSpot tier false false = some x := by
    obtain ⟨d, hd⟩ := Option.isSome_iff_exists.mp hl
    exact ⟨_, by rw [State.pickSpot, hd]; rfl⟩
  have hb := c.room0
  have hb1 := c.room1
  have h0 := hf p tier ht
  refine ⟨x, ?_⟩
  interval_cases tier
  · rw [State.placeIn, if_neg (by simp [State.maxOf, frameNeed]; omega)]
    simp only [State.roomT0, hl, if_true, Option.bind_some, hx, Option.map_some, Nat.zero_lt_two]
  · rw [State.placeIn, if_neg (by simp [State.maxOf, frameNeed]; omega)]
    simp only [hr1.resolve_right (by decide), Option.bind_some, hx, Option.map_some, Nat.one_lt_two, if_true]

/-- A page allocated in a calm module: its entry is put, nothing else but the count of free values changes. -/
theorem State.Calm.allocPage {s : State} {p m tier k : Nat} {fl : BitVec 16} (c : s.Calm p m) (hm : m ≤ 16) (ht : tier < 2)
    (h2 : fl.getLsbD 2 = false) (h4 : fl.getLsbD 4 = false) (h5 : fl.getLsbD 5 = false) :
    ∃ t, s.allocPage p k tier fl = some t ∧ t.Calm p (m + 1) := by
  obtain ⟨x, hx⟩ := c.placeIn hm ht .alloc
  have hp : s.place p tier false false (!fl.getLsbD 0 && !fl.getLsbD 1) .alloc = some ({ s with fresh := s.fresh + 1 }, x) := by
    rw [State.place]
    interval_cases tier
    · simp [List.filter, List.findSome?, hx]
    · simp [List.filter, List.findSome?, hx]
  refine ⟨_, by rw [State.allocPage, h2, h5, hp]; rfl, ?_⟩
  have hlen : ∀ (l : KMap Page) g, (KMap.put l k g).length ≤ l.length + 1 := by
    intro l g
    induction l with
    | nil => simp [KMap.put]
    | cons a l ih =>
      obtain ⟨j, w⟩ := a
      rw [KMap.put]
      split
      · simp
      · split <;> simp [ih]
  have hmem : ∀ (l : KMap Page) g e, e ∈ KMap.put l k g → e = (k, g) ∨ e ∈ l := by
    intro l g e
    induction l with
    | nil => simp [KMap.put]
    | cons a l ih =>
      obtain ⟨j, w⟩ := a
      rw [KMap.put]
      split
      · simp
      · split
        · intro h; rcases List.mem_cons.mp h with h | h
          · exact .inl h
          · exact .inr (List.mem_cons_of_mem _ h)
        · intro h; rcases List.mem_cons.mp h with h | h
          · exact .inr (h ▸ List.mem_cons_self)
          · exact (ih h).imp id (List.mem_cons_of_mem _)
  exact {
    len := le_trans (hlen _ _) (Nat.succ_le_succ c.len)
    plain := fun e he => by
      rcases hmem _ _ e he with rfl | he
      · exact ⟨h2, h4, h5⟩
      · exact c.plain e he
    noneRetired := c.noneRetired
    noneLost := c.noneLost
    noKv := c.noKv
    room0 := c.room0
    room1 := c.room1
    noSave := c.noSave }

/-- A calm module has a free page number in a window. -/
theorem State.Calm.duaBase {s : State} {p m lo : Nat} (c : s.Calm p m) (hm : m ≤ 16) : (s.duaBase lo 1).isSome = true := by
  have hex : ∃ j, lo + j ∉ s.pages.map (fun e => e.1) := by
    obtain ⟨f, -, hn⟩ := exists_lt_not_mem ((s.pages.map (fun e => e.1)).map (fun k => k - lo)) (s.pages.length + 1) (by simp)
    exact ⟨f, fun h => hn (List.mem_map.mpr ⟨_, h, by omega⟩)⟩
  have hlt : Nat.find hex < s.pages.length + 1 := by
    obtain ⟨f, hf, hn⟩ := exists_lt_not_mem ((s.pages.map (fun e => e.1)).map (fun k => k - lo)) (s.pages.length + 1) (by simp)
    exact lt_of_le_of_lt (Nat.find_min' hex (fun h => hn (List.mem_map.mpr ⟨_, h, by omega⟩))) hf
  have hj := Nat.find_spec hex
  have hmin := fun i (h : i < Nat.find hex) => Nat.find_min hex h
  generalize Nat.find hex = j at hlt hj hmin
  have hl := c.len
  simp only [State.duaBase, Option.isSome_map, List.find?_isSome]
  refine ⟨lo + j, ?_, ?_⟩
  · rcases Nat.eq_zero_or_pos j with rfl | hp
    · exact List.mem_cons_self
    · refine List.mem_cons_of_mem _ (List.mem_filter.mpr ⟨List.mem_append_left _ ?_, ?_⟩)
      · obtain ⟨e, he, h⟩ := List.mem_map.mp (not_not.mp (hmin (j - 1) (by omega)))
        exact List.mem_map.mpr ⟨e, he, by simp only [h]; omega⟩
      · have : 2 ^ 27 = 134217728 := by norm_num
        simp
        omega
  · simp only [State.duaFree, c.noKv, Bool.and_eq_true, decide_eq_true_eq, Bool.not_eq_true', List.any_eq_false, List.any_nil]
    refine ⟨by omega, ?_, trivial⟩
    intro e he h
    exact hj (List.mem_map.mpr ⟨e, he, by omega⟩)

/-- One page allocated in a calm module. -/
theorem State.Calm.alloc {s : State} {p m tier : Nat} {fl : BitVec 16} (c : s.Calm p m) (hm : m ≤ 16) (ht : tier < 2)
    (h2 : fl.getLsbD 2 = false) (h4 : fl.getLsbD 4 = false) (h5 : fl.getLsbD 5 = false) :
    ∃ k t, s.alloc p 1 tier fl = some (k, t) ∧ t.Calm p (m + 1) := by
  obtain ⟨k, hk⟩ := Option.isSome_iff_exists.mp (c.duaBase (lo := p * 2 ^ 27) hm)
  have c' : ({ s with fresh := s.fresh + 1 } : State).Calm p m :=
    ⟨c.len, c.plain, c.noneRetired, c.noneLost, c.noKv, c.room0, c.room1, c.noSave⟩
  obtain ⟨t, ht, hc⟩ := c'.allocPage (k := k) hm ht h2 h4 h5
  exact ⟨k, t, by rw [State.alloc, hk, Option.bind_some, State.allocRun, ht]; rfl, hc⟩

end Sys2Proof.Machine
end

