-- ==== Sys2Proof/Laws/Command.lean ====
section
/-! SUPPORT. What a started command does: the shared frame of every row that names a fetched command. -/

namespace Sys2Proof.Machine

/-- A command that may start and carries the row's operands runs its meaning. -/
theorem State.command_of_starts {s : State} {r : Ref} {opc : Nat} {e : CmdE} {same : CmdE → Bool} {f : State → CmdE → State}
    (h : s.starts r opc e = true) (hs : same e = true) : s.command r opc same f = .next (f s e) := by
  simp only [State.starts, State.fetched, Bool.and_eq_true, Bool.or_eq_true, beq_iff_eq, decide_eq_true_eq, Bool.not_eq_true'] at h
  obtain ⟨⟨⟨h1, h2⟩, h3⟩, h4⟩ := h
  unfold State.command
  rw [h1]
  simp only [hs, h2, h3, Bool.not_true, Bool.or_self, Bool.false_eq_true, if_false]
  rcases h4 with h4 | ⟨h4, h5⟩
  · rw [h4, if_pos rfl]
  · have h4' : ¬ 2 ≤ s.power.pstate := by omega
    simp only [h4', h5, Bool.false_eq_true, if_false, ite_self]

/-- Every row that names a fetched command answers a next state. -/
theorem State.command_next (s : State) (r : Ref) (opc : Nat) (same : CmdE → Bool) (f : State → CmdE → State) :
    ∃ t, s.command r opc same f = .next t := by
  unfold State.command
  split
  · exact ⟨_, rfl⟩
  · split_ifs <;> exact ⟨_, rfl⟩

/-- A command whose checks all pass. -/
theorem State.checked_pass {s : State} {e : CmdE} {cs : List (Bool × Nat)} {f : Unit → State} (h : firstBad cs = none) :
    s.checked e cs f = f () := by
  unfold State.checked; rw [h]

/-- A buffer that may be read is read. -/
theorem State.readBuf_of_readable {s : State} {p : Nat} {dua : Bool} {a n : Nat} (h : s.readable p dua a n = true) :
    s.readBuf p dua a n = .ok (s.bytesAt dua a n, s.seen p dua a n) := by
  cases dua
  · rfl
  · simp only [State.readable, Bool.not_true, Bool.false_or, beq_iff_eq] at h
    simp [State.readBuf, State.bytesAt, State.seen, h]

/-- A buffer that may be written is written. -/
theorem State.writeBuf_of_writable {s : State} {p : Nat} {dua : Bool} {a : Nat} {bs : List Byte}
    (h : s.writable p dua a bs.length = true) : s.writeBuf p dua a bs = .ok (s.stored dua a bs) := by
  cases dua
  · rfl
  · simp only [State.writable, Bool.not_true, Bool.false_or, beq_iff_eq] at h
    simp [State.writeBuf, State.stored, h]

/-- What layout S names is read where it may be. -/
theorem State.source_of_ok {s : State} {p : Nat} {a : SArgs} (h : s.sourceOk p a = true) :
    s.source p a = .ok (s.sourceBytes a, s.sourceSeen p a) := by
  unfold State.sourceOk at h
  unfold State.source State.sourceBytes State.sourceSeen
  split at h <;> rename_i hs
  · simp [hs, State.readBuf, State.bytesAt, State.seen]
  · simpa [hs] using State.readBuf_of_readable h
  · simp [hs, h, State.seen]
  · cases h

/-- A query whose record fits is in its buffer and complete. -/
theorem State.answer_of_delivers {s : State} {e : CmdE} {a : QArgs} {items : List (List Byte)} (h : s.delivers e a items = true) :
    s.answer e a items = (s.delivered e a items).done e 0 0 := by
  simp only [State.delivers, Bool.and_eq_true, decide_eq_true_eq] at h
  obtain ⟨h1, h2⟩ := h
  unfold State.answer
  dsimp only
  rw [if_neg (by omega), State.writeBuf_of_writable h2]
  rfl

/-- A record that fits is delivered to host memory. -/
theorem State.delivers_host {s : State} {e : CmdE} {a : QArgs} {items : List (List Byte)}
    (h : (qRecord e.opc items).length ≤ a.outCap) (hd : bit a.qflags 0 = false) : s.delivers e a items = true := by
  simp [State.delivers, State.writable, h, hd]

/-- A record of items that may be read is read. -/
theorem State.readRec_of_ok {s : State} {p : Nat} {dua : Bool} {a : Nat} (h : s.recordOk p dua a 1 16 = true) :
    s.readRec p dua a = .ok (s.itemsAt dua a) := by
  simp only [State.recordOk, Bool.and_eq_true, decide_eq_true_eq, beq_iff_eq] at h
  obtain ⟨⟨⟨h1, h2⟩, h3⟩, h4⟩ := h
  rw [State.readRec, State.readBuf_of_readable h1]
  simp only
  rw [if_neg (by simp only [not_or, not_lt, not_not]; exact ⟨h2, h3⟩), State.readBuf_of_readable h4]
  rfl

/-- The tags of a record of selections that may be read, none past the items, are the order (09_vector_search R321). -/
theorem State.rankOrder_of_ok {s : State} {p : Nat} {dua : Bool} {a n : Nat} (h : s.recordOk p dua a 0 8 = true)
    (hn : ∀ x ∈ s.tagsAt dua a, x < n) : s.rankOrder p dua a n = .ok (s.tagsAt dua a) := by
  simp only [State.recordOk, Bool.and_eq_true, decide_eq_true_eq, beq_iff_eq] at h
  obtain ⟨⟨⟨h1, h2⟩, h3⟩, h4⟩ := h
  rw [State.rankOrder, State.readBuf_of_readable h1]
  simp only
  rw [if_neg (by simp only [not_or, not_lt, not_not]; exact ⟨h2, h3⟩), State.readBuf_of_readable h4]
  simp only
  rw [if_neg]
  · rfl
  · intro hc
    simp only [List.any_eq_true, decide_eq_true_eq] at hc
    obtain ⟨x, hx, hle⟩ := hc
    have := hn x hx
    omega

/-- A slot given back changes the entries and a queue alone (18_queues R570). -/
@[simp] theorem State.slotBack_hostMem (s : State) (e : CmdE) : (s.slotBack e).hostMem = s.hostMem := rfl
@[simp] theorem State.slotBack_dev (s : State) (e : CmdE) : (s.slotBack e).dev = s.dev := rfl
@[simp] theorem State.slotBack_pages (s : State) (e : CmdE) : (s.slotBack e).pages = s.pages := rfl
@[simp] theorem State.slotBack_sessions (s : State) (e : CmdE) : (s.slotBack e).sessions = s.sessions := rfl

end Sys2Proof.Machine
end

