-- ==== Sys2Proof/Laws/Memory.lean ====
section
/-! SUPPORT. Memories in canonical form: every operation keeps the form; reading what was written, and reading elsewhere. -/

namespace Sys2Proof.Machine

/-- Canonical form said with list predicates. -/
theorem Mem.wf_iff (m : Mem) : Mem.wf m = true ↔ m.Pairwise (fun c d => c.1 < d.1) ∧ ∀ c ∈ m, c.2 ≠ 0 := by
  induction m with
  | nil => simp [Mem.wf]
  | cons c t ih =>
    cases t with
    | nil => simp [Mem.wf]
    | cons d u =>
      rw [Mem.wf, Bool.and_eq_true, Bool.and_eq_true, ih]
      constructor
      · rintro ⟨⟨hc, hd⟩, hp, hz⟩
        have hd' : c.1 < d.1 := of_decide_eq_true hd
        refine ⟨List.pairwise_cons.2 ⟨?_, hp⟩, ?_⟩
        · intro e he
          rcases List.mem_cons.1 he with rfl | he
          · exact hd'
          · exact lt_trans hd' ((List.pairwise_cons.1 hp).1 e he)
        · intro e he
          rcases List.mem_cons.1 he with rfl | he
          · simpa using hc
          · exact hz e he
      · rintro ⟨hp, hz⟩
        have hp' := List.pairwise_cons.1 hp
        refine ⟨⟨?_, decide_eq_true (hp'.1 d (by simp))⟩, hp'.2, fun e he => hz e (List.mem_cons_of_mem _ he)⟩
        simpa using hz c (by simp)

/-- A written memory lists no address but the old ones and the written one. -/
theorem Mem.write_fst {m : Mem} {a : Nat} {b : Byte} {c : Host.Cell} (h : c ∈ Mem.write m a b) :
    c ∈ m ∨ (c = (a, b) ∧ b ≠ 0) := by
  induction m with
  | nil => by_cases hb : b = 0 <;> simp_all [Mem.write]
  | cons d t ih =>
    obtain ⟨j, x⟩ := d
    simp only [Mem.write] at h
    split_ifs at h <;> simp_all <;> aesop

/-- Writing a byte keeps the form. -/
theorem Mem.write_wf {m : Mem} (h : Mem.wf m = true) (a : Nat) (b : Byte) : Mem.wf (Mem.write m a b) = true := by
  induction m with
  | nil =>
    rw [Mem.write]
    split_ifs with hb
    · rfl
    · simpa [Mem.wf] using hb
  | cons d t ih =>
    obtain ⟨j, x⟩ := d
    rw [Mem.wf_iff] at h
    obtain ⟨hp, hz⟩ := h
    have hp' := List.pairwise_cons.1 hp
    have ht : Mem.wf t = true := (Mem.wf_iff t).2 ⟨hp'.2, fun e he => hz e (List.mem_cons_of_mem _ he)⟩
    have hw := (Mem.wf_iff _).1 (ih ht)
    simp only [Mem.write]
    split_ifs with h1 h2 h3 h4
    · exact (Mem.wf_iff _).2 ⟨hp, hz⟩
    · refine (Mem.wf_iff _).2 ⟨List.pairwise_cons.2 ⟨?_, hp⟩, ?_⟩
      · intro e he
        rcases List.mem_cons.1 he with rfl | he
        · exact h1
        · exact lt_trans h1 (hp'.1 e he)
      · intro e he
        rcases List.mem_cons.1 he with rfl | he
        · exact h2
        · exact hz e he
    · exact ht
    · subst h3
      refine (Mem.wf_iff _).2 ⟨List.pairwise_cons.2 ⟨hp'.1, hp'.2⟩, ?_⟩
      intro e he
      rcases List.mem_cons.1 he with rfl | he
      · exact h4
      · exact hz e (List.mem_cons_of_mem _ he)
    · refine (Mem.wf_iff _).2 ⟨List.pairwise_cons.2 ⟨?_, hw.1⟩, ?_⟩
      · intro e he
        rcases Mem.write_fst he with he | ⟨rfl, _⟩
        · exact hp'.1 e he
        · show j < a; omega
      · intro e he
        rcases List.mem_cons.1 he with rfl | he
        · exact hz _ (by simp)
        · exact hw.2 e he

/-- Writing bytes keeps the form. -/
theorem Mem.writeN_wf {m : Mem} (h : Mem.wf m = true) (a : Nat) (bs : List Byte) : Mem.wf (Mem.writeN m a bs) = true := by
  induction bs generalizing m a with
  | nil => exact h
  | cons b t ih => exact ih (Mem.write_wf h a b) (a + 1)

/-- Clearing a range keeps the form. -/
theorem Mem.clear_wf {m : Mem} (h : Mem.wf m = true) (lo n : Nat) : Mem.wf (Mem.clear m lo n) = true := by
  rw [Mem.wf_iff] at h ⊢
  exact ⟨h.1.sublist List.filter_sublist, fun c hc => h.2 c (List.mem_filter.1 hc).1⟩

/-- Writes of single cells keep the form. -/
theorem Mem.foldl_write_wf {m : Mem} (h : Mem.wf m = true) (cs : List Host.Cell) :
    Mem.wf (cs.foldl (fun (m : Mem) (c : Host.Cell) => m.write c.1 c.2) m) = true := by
  induction cs generalizing m with
  | nil => exact h
  | cons c t ih => exact ih (Mem.write_wf h c.1 c.2)

/-- An address below every listed one reads as zero. -/
theorem Mem.read_low {m : Mem} {a : Nat} (h : ∀ c ∈ m, a < c.1) : Mem.read m a = 0 := by
  induction m with
  | nil => rfl
  | cons d t ih =>
    obtain ⟨j, x⟩ := d
    have hj : a < j := h (j, x) (by simp)
    rw [Mem.read, if_neg (by omega)]
    exact ih (fun c hc => h c (List.mem_cons_of_mem _ hc))

/-- A byte written is the byte read. -/
theorem Mem.read_write_same {m : Mem} (h : Mem.wf m = true) (a : Nat) (b : Byte) : Mem.read (Mem.write m a b) a = b := by
  induction m with
  | nil =>
    rw [Mem.write]
    split_ifs with hb
    · rw [hb]; rfl
    · simp [Mem.read]
  | cons d t ih =>
    obtain ⟨j, x⟩ := d
    rw [Mem.wf_iff] at h
    have hp' := List.pairwise_cons.1 h.1
    have ht : Mem.wf t = true := (Mem.wf_iff t).2 ⟨hp'.2, fun e he => h.2 e (List.mem_cons_of_mem _ he)⟩
    simp only [Mem.write]
    split_ifs with h1 h2 h3 h4
    · subst h2
      refine Mem.read_low fun c hc => ?_
      rcases List.mem_cons.1 hc with rfl | hc
      · exact h1
      · exact lt_trans h1 (hp'.1 c hc)
    · simp [Mem.read]
    · subst h4; subst h3
      exact Mem.read_low hp'.1
    · simp [Mem.read]
    · rw [Mem.read, if_neg (by omega)]
      exact ih ht

/-- A write leaves every other byte alone. -/
theorem Mem.read_write_other (m : Mem) {a c : Nat} (b : Byte) (h : c ≠ a) : Mem.read (Mem.write m a b) c = Mem.read m c := by
  induction m with
  | nil =>
    rw [Mem.write]
    split_ifs with hb
    · rfl
    · exact if_neg (Ne.symm h)
  | cons d t ih =>
    obtain ⟨j, x⟩ := d
    simp only [Mem.write]
    split_ifs with h1 h2 h3 h4
    · rfl
    · rw [Mem.read, if_neg (Ne.symm h)]
    · subst h3; rw [Mem.read, if_neg (Ne.symm h)]
    · subst h3; rw [Mem.read, if_neg (Ne.symm h), Mem.read, if_neg (Ne.symm h)]
    · rw [Mem.read, Mem.read, ih]

/-- Bytes written leave every byte outside them alone. -/
theorem Mem.read_writeN_outside (m : Mem) (a : Nat) (bs : List Byte) {c : Nat} (h : c < a ∨ a + bs.length ≤ c) :
    Mem.read (Mem.writeN m a bs) c = Mem.read m c := by
  induction bs generalizing m a with
  | nil => rfl
  | cons b t ih =>
    simp only [List.length_cons] at h
    rw [Mem.writeN, ih _ _ (by omega), Mem.read_write_other _ _ (by omega)]

/-- Reading back bytes written. -/
theorem Mem.read_writeN_inside {m : Mem} (h : Mem.wf m = true) (a : Nat) (bs : List Byte) (i : Nat) (hi : i < bs.length) :
    Mem.read (Mem.writeN m a bs) (a + i) = bs[i] := by
  induction bs generalizing m a i with
  | nil => simp at hi
  | cons b t ih =>
    rw [Mem.writeN]
    cases i with
    | zero =>
      show Mem.read _ a = b
      rw [Mem.read_writeN_outside _ _ _ (by omega), Mem.read_write_same h]
    | succ i =>
      have := ih (Mem.write_wf h a b) (a + 1) i (by simpa using hi)
      rw [show a + (i + 1) = a + 1 + i by omega, this]; rfl

/-- `n` bytes read are `n` bytes. -/
@[simp] theorem Mem.readN_length (m : Mem) (a n : Nat) : (Mem.readN m a n).length = n := by simp [Mem.readN]

end Sys2Proof.Machine
end

