-- ==== Sys2Proof/Laws/State.lean ====
section
/-! SUPPORT. What each named update of State leaves alone: one lemma per field per update. -/

namespace Sys2Proof.Machine

/-! ## modPart -/

@[simp] theorem State.modPart_pending (s : State) (p : Nat) (f : Part → Part) : (s.modPart p f).pending = s.pending := rfl
@[simp] theorem State.modPart_hostMem (s : State) (p : Nat) (f : Part → Part) : (s.modPart p f).hostMem = s.hostMem := rfl
@[simp] theorem State.modPart_dev (s : State) (p : Nat) (f : Part → Part) : (s.modPart p f).dev = s.dev := rfl
@[simp] theorem State.modPart_pages (s : State) (p : Nat) (f : Part → Part) : (s.modPart p f).pages = s.pages := rfl
@[simp] theorem State.modPart_inflight (s : State) (p : Nat) (f : Part → Part) : (s.modPart p f).inflight = s.inflight := rfl
@[simp] theorem State.modPart_nextTag (s : State) (p : Nat) (f : Part → Part) : (s.modPart p f).nextTag = s.nextTag := rfl
@[simp] theorem State.modPart_wheel (s : State) (p : Nat) (f : Part → Part) : (s.modPart p f).wheel = s.wheel := rfl
@[simp] theorem State.modPart_heads (s : State) (p : Nat) (f : Part → Part) : (s.modPart p f).heads = s.heads := rfl
@[simp] theorem State.modPart_headMode (s : State) (p : Nat) (f : Part → Part) : (s.modPart p f).headMode = s.headMode := rfl
@[simp] theorem State.modPart_power (s : State) (p : Nat) (f : Part → Part) : (s.modPart p f).power = s.power := rfl
@[simp] theorem State.modPart_flash (s : State) (p : Nat) (f : Part → Part) : (s.modPart p f).flash = s.flash := rfl
@[simp] theorem State.modPart_sagger (s : State) (p : Nat) (f : Part → Part) : (s.modPart p f).sagger = s.sagger := rfl
@[simp] theorem State.modPart_mgmt (s : State) (p : Nat) (f : Part → Part) : (s.modPart p f).mgmt = s.mgmt := rfl
@[simp] theorem State.modPart_vocabs (s : State) (p : Nat) (f : Part → Part) : (s.modPart p f).vocabs = s.vocabs := rfl
@[simp] theorem State.modPart_grammars (s : State) (p : Nat) (f : Part → Part) : (s.modPart p f).grammars = s.grammars := rfl
@[simp] theorem State.modPart_sessions (s : State) (p : Nat) (f : Part → Part) : (s.modPart p f).sessions = s.sessions := rfl
@[simp] theorem State.modPart_nextSess (s : State) (p : Nat) (f : Part → Part) : (s.modPart p f).nextSess = s.nextSess := rfl
@[simp] theorem State.modPart_batches (s : State) (p : Nat) (f : Part → Part) : (s.modPart p f).batches = s.batches := rfl
@[simp] theorem State.modPart_prevBatch (s : State) (p : Nat) (f : Part → Part) : (s.modPart p f).prevBatch = s.prevBatch := rfl
@[simp] theorem State.modPart_nextBatch (s : State) (p : Nat) (f : Part → Part) : (s.modPart p f).nextBatch = s.nextBatch := rfl
@[simp] theorem State.modPart_runs (s : State) (p : Nat) (f : Part → Part) : (s.modPart p f).runs = s.runs := rfl
@[simp] theorem State.modPart_nextRun (s : State) (p : Nat) (f : Part → Part) : (s.modPart p f).nextRun = s.nextRun := rfl
@[simp] theorem State.modPart_tasks (s : State) (p : Nat) (f : Part → Part) : (s.modPart p f).tasks = s.tasks := rfl
@[simp] theorem State.modPart_nextTask (s : State) (p : Nat) (f : Part → Part) : (s.modPart p f).nextTask = s.nextTask := rfl
@[simp] theorem State.modPart_chains (s : State) (p : Nat) (f : Part → Part) : (s.modPart p f).chains = s.chains := rfl
@[simp] theorem State.modPart_tiles (s : State) (p : Nat) (f : Part → Part) : (s.modPart p f).tiles = s.tiles := rfl
@[simp] theorem State.modPart_retired (s : State) (p : Nat) (f : Part → Part) : (s.modPart p f).retired = s.retired := rfl
@[simp] theorem State.modPart_ceCount (s : State) (p : Nat) (f : Part → Part) : (s.modPart p f).ceCount = s.ceCount := rfl
@[simp] theorem State.modPart_stackLost (s : State) (p : Nat) (f : Part → Part) : (s.modPart p f).stackLost = s.stackLost := rfl
@[simp] theorem State.modPart_dieLost (s : State) (p : Nat) (f : Part → Part) : (s.modPart p f).dieLost = s.dieLost := rfl
@[simp] theorem State.modPart_renob (s : State) (p : Nat) (f : Part → Part) : (s.modPart p f).renob = s.renob := rfl
@[simp] theorem State.modPart_sramBad (s : State) (p : Nat) (f : Part → Part) : (s.modPart p f).sramBad = s.sramBad := rfl
@[simp] theorem State.modPart_dctr (s : State) (p : Nat) (f : Part → Part) : (s.modPart p f).dctr = s.dctr := rfl
@[simp] theorem State.modPart_stage (s : State) (p : Nat) (f : Part → Part) : (s.modPart p f).stage = s.stage := rfl
@[simp] theorem State.modPart_ready (s : State) (p : Nat) (f : Part → Part) : (s.modPart p f).ready = s.ready := rfl
@[simp] theorem State.modPart_degraded (s : State) (p : Nat) (f : Part → Part) : (s.modPart p f).degraded = s.degraded := rfl
@[simp] theorem State.modPart_startFail (s : State) (p : Nat) (f : Part → Part) : (s.modPart p f).startFail = s.startFail := rfl
@[simp] theorem State.modPart_recovery (s : State) (p : Nat) (f : Part → Part) : (s.modPart p f).recovery = s.recovery := rfl
@[simp] theorem State.modPart_sldPart (s : State) (p : Nat) (f : Part → Part) : (s.modPart p f).sldPart = s.sldPart := rfl
@[simp] theorem State.modPart_vectors (s : State) (p : Nat) (f : Part → Part) : (s.modPart p f).vectors = s.vectors := rfl
@[simp] theorem State.modPart_vecDue (s : State) (p : Nat) (f : Part → Part) : (s.modPart p f).vecDue = s.vecDue := rfl
@[simp] theorem State.modPart_reply (s : State) (p : Nat) (f : Part → Part) : (s.modPart p f).reply = s.reply := rfl
@[simp] theorem State.modPart_fresh (s : State) (p : Nat) (f : Part → Part) : (s.modPart p f).fresh = s.fresh := rfl

/-! ## modQueue -/

@[simp] theorem State.modQueue_pending (s : State) (p q : Nat) (f : Queue → Queue) : (s.modQueue p q f).pending = s.pending := rfl
@[simp] theorem State.modQueue_hostMem (s : State) (p q : Nat) (f : Queue → Queue) : (s.modQueue p q f).hostMem = s.hostMem := rfl
@[simp] theorem State.modQueue_dev (s : State) (p q : Nat) (f : Queue → Queue) : (s.modQueue p q f).dev = s.dev := rfl
@[simp] theorem State.modQueue_pages (s : State) (p q : Nat) (f : Queue → Queue) : (s.modQueue p q f).pages = s.pages := rfl
@[simp] theorem State.modQueue_inflight (s : State) (p q : Nat) (f : Queue → Queue) : (s.modQueue p q f).inflight = s.inflight := rfl
@[simp] theorem State.modQueue_nextTag (s : State) (p q : Nat) (f : Queue → Queue) : (s.modQueue p q f).nextTag = s.nextTag := rfl
@[simp] theorem State.modQueue_wheel (s : State) (p q : Nat) (f : Queue → Queue) : (s.modQueue p q f).wheel = s.wheel := rfl
@[simp] theorem State.modQueue_heads (s : State) (p q : Nat) (f : Queue → Queue) : (s.modQueue p q f).heads = s.heads := rfl
@[simp] theorem State.modQueue_headMode (s : State) (p q : Nat) (f : Queue → Queue) : (s.modQueue p q f).headMode = s.headMode := rfl
@[simp] theorem State.modQueue_power (s : State) (p q : Nat) (f : Queue → Queue) : (s.modQueue p q f).power = s.power := rfl
@[simp] theorem State.modQueue_flash (s : State) (p q : Nat) (f : Queue → Queue) : (s.modQueue p q f).flash = s.flash := rfl
@[simp] theorem State.modQueue_sagger (s : State) (p q : Nat) (f : Queue → Queue) : (s.modQueue p q f).sagger = s.sagger := rfl
@[simp] theorem State.modQueue_mgmt (s : State) (p q : Nat) (f : Queue → Queue) : (s.modQueue p q f).mgmt = s.mgmt := rfl
@[simp] theorem State.modQueue_vocabs (s : State) (p q : Nat) (f : Queue → Queue) : (s.modQueue p q f).vocabs = s.vocabs := rfl
@[simp] theorem State.modQueue_grammars (s : State) (p q : Nat) (f : Queue → Queue) : (s.modQueue p q f).grammars = s.grammars := rfl
@[simp] theorem State.modQueue_sessions (s : State) (p q : Nat) (f : Queue → Queue) : (s.modQueue p q f).sessions = s.sessions := rfl
@[simp] theorem State.modQueue_nextSess (s : State) (p q : Nat) (f : Queue → Queue) : (s.modQueue p q f).nextSess = s.nextSess := rfl
@[simp] theorem State.modQueue_batches (s : State) (p q : Nat) (f : Queue → Queue) : (s.modQueue p q f).batches = s.batches := rfl
@[simp] theorem State.modQueue_prevBatch (s : State) (p q : Nat) (f : Queue → Queue) : (s.modQueue p q f).prevBatch = s.prevBatch := rfl
@[simp] theorem State.modQueue_nextBatch (s : State) (p q : Nat) (f : Queue → Queue) : (s.modQueue p q f).nextBatch = s.nextBatch := rfl
@[simp] theorem State.modQueue_runs (s : State) (p q : Nat) (f : Queue → Queue) : (s.modQueue p q f).runs = s.runs := rfl
@[simp] theorem State.modQueue_nextRun (s : State) (p q : Nat) (f : Queue → Queue) : (s.modQueue p q f).nextRun = s.nextRun := rfl
@[simp] theorem State.modQueue_tasks (s : State) (p q : Nat) (f : Queue → Queue) : (s.modQueue p q f).tasks = s.tasks := rfl
@[simp] theorem State.modQueue_nextTask (s : State) (p q : Nat) (f : Queue → Queue) : (s.modQueue p q f).nextTask = s.nextTask := rfl
@[simp] theorem State.modQueue_chains (s : State) (p q : Nat) (f : Queue → Queue) : (s.modQueue p q f).chains = s.chains := rfl
@[simp] theorem State.modQueue_tiles (s : State) (p q : Nat) (f : Queue → Queue) : (s.modQueue p q f).tiles = s.tiles := rfl
@[simp] theorem State.modQueue_retired (s : State) (p q : Nat) (f : Queue → Queue) : (s.modQueue p q f).retired = s.retired := rfl
@[simp] theorem State.modQueue_ceCount (s : State) (p q : Nat) (f : Queue → Queue) : (s.modQueue p q f).ceCount = s.ceCount := rfl
@[simp] theorem State.modQueue_stackLost (s : State) (p q : Nat) (f : Queue → Queue) : (s.modQueue p q f).stackLost = s.stackLost := rfl
@[simp] theorem State.modQueue_dieLost (s : State) (p q : Nat) (f : Queue → Queue) : (s.modQueue p q f).dieLost = s.dieLost := rfl
@[simp] theorem State.modQueue_renob (s : State) (p q : Nat) (f : Queue → Queue) : (s.modQueue p q f).renob = s.renob := rfl
@[simp] theorem State.modQueue_sramBad (s : State) (p q : Nat) (f : Queue → Queue) : (s.modQueue p q f).sramBad = s.sramBad := rfl
@[simp] theorem State.modQueue_dctr (s : State) (p q : Nat) (f : Queue → Queue) : (s.modQueue p q f).dctr = s.dctr := rfl
@[simp] theorem State.modQueue_stage (s : State) (p q : Nat) (f : Queue → Queue) : (s.modQueue p q f).stage = s.stage := rfl
@[simp] theorem State.modQueue_ready (s : State) (p q : Nat) (f : Queue → Queue) : (s.modQueue p q f).ready = s.ready := rfl
@[simp] theorem State.modQueue_degraded (s : State) (p q : Nat) (f : Queue → Queue) : (s.modQueue p q f).degraded = s.degraded := rfl
@[simp] theorem State.modQueue_startFail (s : State) (p q : Nat) (f : Queue → Queue) : (s.modQueue p q f).startFail = s.startFail := rfl
@[simp] theorem State.modQueue_recovery (s : State) (p q : Nat) (f : Queue → Queue) : (s.modQueue p q f).recovery = s.recovery := rfl
@[simp] theorem State.modQueue_sldPart (s : State) (p q : Nat) (f : Queue → Queue) : (s.modQueue p q f).sldPart = s.sldPart := rfl
@[simp] theorem State.modQueue_vectors (s : State) (p q : Nat) (f : Queue → Queue) : (s.modQueue p q f).vectors = s.vectors := rfl
@[simp] theorem State.modQueue_vecDue (s : State) (p q : Nat) (f : Queue → Queue) : (s.modQueue p q f).vecDue = s.vecDue := rfl
@[simp] theorem State.modQueue_reply (s : State) (p q : Nat) (f : Queue → Queue) : (s.modQueue p q f).reply = s.reply := rfl
@[simp] theorem State.modQueue_fresh (s : State) (p q : Nat) (f : Queue → Queue) : (s.modQueue p q f).fresh = s.fresh := rfl

/-! ## modHead -/

@[simp] theorem State.modHead_pending (s : State) (h : Nat) (f : Head → Head) : (s.modHead h f).pending = s.pending := rfl
@[simp] theorem State.modHead_hostMem (s : State) (h : Nat) (f : Head → Head) : (s.modHead h f).hostMem = s.hostMem := rfl
@[simp] theorem State.modHead_dev (s : State) (h : Nat) (f : Head → Head) : (s.modHead h f).dev = s.dev := rfl
@[simp] theorem State.modHead_pages (s : State) (h : Nat) (f : Head → Head) : (s.modHead h f).pages = s.pages := rfl
@[simp] theorem State.modHead_parts (s : State) (h : Nat) (f : Head → Head) : (s.modHead h f).parts = s.parts := rfl
@[simp] theorem State.modHead_inflight (s : State) (h : Nat) (f : Head → Head) : (s.modHead h f).inflight = s.inflight := rfl
@[simp] theorem State.modHead_nextTag (s : State) (h : Nat) (f : Head → Head) : (s.modHead h f).nextTag = s.nextTag := rfl
@[simp] theorem State.modHead_wheel (s : State) (h : Nat) (f : Head → Head) : (s.modHead h f).wheel = s.wheel := rfl
@[simp] theorem State.modHead_headMode (s : State) (h : Nat) (f : Head → Head) : (s.modHead h f).headMode = s.headMode := rfl
@[simp] theorem State.modHead_power (s : State) (h : Nat) (f : Head → Head) : (s.modHead h f).power = s.power := rfl
@[simp] theorem State.modHead_flash (s : State) (h : Nat) (f : Head → Head) : (s.modHead h f).flash = s.flash := rfl
@[simp] theorem State.modHead_sagger (s : State) (h : Nat) (f : Head → Head) : (s.modHead h f).sagger = s.sagger := rfl
@[simp] theorem State.modHead_mgmt (s : State) (h : Nat) (f : Head → Head) : (s.modHead h f).mgmt = s.mgmt := rfl
@[simp] theorem State.modHead_vocabs (s : State) (h : Nat) (f : Head → Head) : (s.modHead h f).vocabs = s.vocabs := rfl
@[simp] theorem State.modHead_grammars (s : State) (h : Nat) (f : Head → Head) : (s.modHead h f).grammars = s.grammars := rfl
@[simp] theorem State.modHead_sessions (s : State) (h : Nat) (f : Head → Head) : (s.modHead h f).sessions = s.sessions := rfl
@[simp] theorem State.modHead_nextSess (s : State) (h : Nat) (f : Head → Head) : (s.modHead h f).nextSess = s.nextSess := rfl
@[simp] theorem State.modHead_batches (s : State) (h : Nat) (f : Head → Head) : (s.modHead h f).batches = s.batches := rfl
@[simp] theorem State.modHead_prevBatch (s : State) (h : Nat) (f : Head → Head) : (s.modHead h f).prevBatch = s.prevBatch := rfl
@[simp] theorem State.modHead_nextBatch (s : State) (h : Nat) (f : Head → Head) : (s.modHead h f).nextBatch = s.nextBatch := rfl
@[simp] theorem State.modHead_runs (s : State) (h : Nat) (f : Head → Head) : (s.modHead h f).runs = s.runs := rfl
@[simp] theorem State.modHead_nextRun (s : State) (h : Nat) (f : Head → Head) : (s.modHead h f).nextRun = s.nextRun := rfl
@[simp] theorem State.modHead_tasks (s : State) (h : Nat) (f : Head → Head) : (s.modHead h f).tasks = s.tasks := rfl
@[simp] theorem State.modHead_nextTask (s : State) (h : Nat) (f : Head → Head) : (s.modHead h f).nextTask = s.nextTask := rfl
@[simp] theorem State.modHead_chains (s : State) (h : Nat) (f : Head → Head) : (s.modHead h f).chains = s.chains := rfl
@[simp] theorem State.modHead_tiles (s : State) (h : Nat) (f : Head → Head) : (s.modHead h f).tiles = s.tiles := rfl
@[simp] theorem State.modHead_retired (s : State) (h : Nat) (f : Head → Head) : (s.modHead h f).retired = s.retired := rfl
@[simp] theorem State.modHead_ceCount (s : State) (h : Nat) (f : Head → Head) : (s.modHead h f).ceCount = s.ceCount := rfl
@[simp] theorem State.modHead_stackLost (s : State) (h : Nat) (f : Head → Head) : (s.modHead h f).stackLost = s.stackLost := rfl
@[simp] theorem State.modHead_dieLost (s : State) (h : Nat) (f : Head → Head) : (s.modHead h f).dieLost = s.dieLost := rfl
@[simp] theorem State.modHead_renob (s : State) (h : Nat) (f : Head → Head) : (s.modHead h f).renob = s.renob := rfl
@[simp] theorem State.modHead_sramBad (s : State) (h : Nat) (f : Head → Head) : (s.modHead h f).sramBad = s.sramBad := rfl
@[simp] theorem State.modHead_dctr (s : State) (h : Nat) (f : Head → Head) : (s.modHead h f).dctr = s.dctr := rfl
@[simp] theorem State.modHead_stage (s : State) (h : Nat) (f : Head → Head) : (s.modHead h f).stage = s.stage := rfl
@[simp] theorem State.modHead_ready (s : State) (h : Nat) (f : Head → Head) : (s.modHead h f).ready = s.ready := rfl
@[simp] theorem State.modHead_degraded (s : State) (h : Nat) (f : Head → Head) : (s.modHead h f).degraded = s.degraded := rfl
@[simp] theorem State.modHead_startFail (s : State) (h : Nat) (f : Head → Head) : (s.modHead h f).startFail = s.startFail := rfl
@[simp] theorem State.modHead_recovery (s : State) (h : Nat) (f : Head → Head) : (s.modHead h f).recovery = s.recovery := rfl
@[simp] theorem State.modHead_sldPart (s : State) (h : Nat) (f : Head → Head) : (s.modHead h f).sldPart = s.sldPart := rfl
@[simp] theorem State.modHead_vectors (s : State) (h : Nat) (f : Head → Head) : (s.modHead h f).vectors = s.vectors := rfl
@[simp] theorem State.modHead_vecDue (s : State) (h : Nat) (f : Head → Head) : (s.modHead h f).vecDue = s.vecDue := rfl
@[simp] theorem State.modHead_reply (s : State) (h : Nat) (f : Head → Head) : (s.modHead h f).reply = s.reply := rfl
@[simp] theorem State.modHead_fresh (s : State) (h : Nat) (f : Head → Head) : (s.modHead h f).fresh = s.fresh := rfl

/-! ## modTile -/

@[simp] theorem State.modTile_pending (s : State) (t : Nat) (f : Tile → Tile) : (s.modTile t f).pending = s.pending := rfl
@[simp] theorem State.modTile_hostMem (s : State) (t : Nat) (f : Tile → Tile) : (s.modTile t f).hostMem = s.hostMem := rfl
@[simp] theorem State.modTile_dev (s : State) (t : Nat) (f : Tile → Tile) : (s.modTile t f).dev = s.dev := rfl
@[simp] theorem State.modTile_pages (s : State) (t : Nat) (f : Tile → Tile) : (s.modTile t f).pages = s.pages := rfl
@[simp] theorem State.modTile_parts (s : State) (t : Nat) (f : Tile → Tile) : (s.modTile t f).parts = s.parts := rfl
@[simp] theorem State.modTile_inflight (s : State) (t : Nat) (f : Tile → Tile) : (s.modTile t f).inflight = s.inflight := rfl
@[simp] theorem State.modTile_nextTag (s : State) (t : Nat) (f : Tile → Tile) : (s.modTile t f).nextTag = s.nextTag := rfl
@[simp] theorem State.modTile_wheel (s : State) (t : Nat) (f : Tile → Tile) : (s.modTile t f).wheel = s.wheel := rfl
@[simp] theorem State.modTile_heads (s : State) (t : Nat) (f : Tile → Tile) : (s.modTile t f).heads = s.heads := rfl
@[simp] theorem State.modTile_headMode (s : State) (t : Nat) (f : Tile → Tile) : (s.modTile t f).headMode = s.headMode := rfl
@[simp] theorem State.modTile_power (s : State) (t : Nat) (f : Tile → Tile) : (s.modTile t f).power = s.power := rfl
@[simp] theorem State.modTile_flash (s : State) (t : Nat) (f : Tile → Tile) : (s.modTile t f).flash = s.flash := rfl
@[simp] theorem State.modTile_sagger (s : State) (t : Nat) (f : Tile → Tile) : (s.modTile t f).sagger = s.sagger := rfl
@[simp] theorem State.modTile_mgmt (s : State) (t : Nat) (f : Tile → Tile) : (s.modTile t f).mgmt = s.mgmt := rfl
@[simp] theorem State.modTile_vocabs (s : State) (t : Nat) (f : Tile → Tile) : (s.modTile t f).vocabs = s.vocabs := rfl
@[simp] theorem State.modTile_grammars (s : State) (t : Nat) (f : Tile → Tile) : (s.modTile t f).grammars = s.grammars := rfl
@[simp] theorem State.modTile_sessions (s : State) (t : Nat) (f : Tile → Tile) : (s.modTile t f).sessions = s.sessions := rfl
@[simp] theorem State.modTile_nextSess (s : State) (t : Nat) (f : Tile → Tile) : (s.modTile t f).nextSess = s.nextSess := rfl
@[simp] theorem State.modTile_batches (s : State) (t : Nat) (f : Tile → Tile) : (s.modTile t f).batches = s.batches := rfl
@[simp] theorem State.modTile_prevBatch (s : State) (t : Nat) (f : Tile → Tile) : (s.modTile t f).prevBatch = s.prevBatch := rfl
@[simp] theorem State.modTile_nextBatch (s : State) (t : Nat) (f : Tile → Tile) : (s.modTile t f).nextBatch = s.nextBatch := rfl
@[simp] theorem State.modTile_runs (s : State) (t : Nat) (f : Tile → Tile) : (s.modTile t f).runs = s.runs := rfl
@[simp] theorem State.modTile_nextRun (s : State) (t : Nat) (f : Tile → Tile) : (s.modTile t f).nextRun = s.nextRun := rfl
@[simp] theorem State.modTile_tasks (s : State) (t : Nat) (f : Tile → Tile) : (s.modTile t f).tasks = s.tasks := rfl
@[simp] theorem State.modTile_nextTask (s : State) (t : Nat) (f : Tile → Tile) : (s.modTile t f).nextTask = s.nextTask := rfl
@[simp] theorem State.modTile_chains (s : State) (t : Nat) (f : Tile → Tile) : (s.modTile t f).chains = s.chains := rfl
@[simp] theorem State.modTile_retired (s : State) (t : Nat) (f : Tile → Tile) : (s.modTile t f).retired = s.retired := rfl
@[simp] theorem State.modTile_ceCount (s : State) (t : Nat) (f : Tile → Tile) : (s.modTile t f).ceCount = s.ceCount := rfl
@[simp] theorem State.modTile_stackLost (s : State) (t : Nat) (f : Tile → Tile) : (s.modTile t f).stackLost = s.stackLost := rfl
@[simp] theorem State.modTile_dieLost (s : State) (t : Nat) (f : Tile → Tile) : (s.modTile t f).dieLost = s.dieLost := rfl
@[simp] theorem State.modTile_renob (s : State) (t : Nat) (f : Tile → Tile) : (s.modTile t f).renob = s.renob := rfl
@[simp] theorem State.modTile_sramBad (s : State) (t : Nat) (f : Tile → Tile) : (s.modTile t f).sramBad = s.sramBad := rfl
@[simp] theorem State.modTile_dctr (s : State) (t : Nat) (f : Tile → Tile) : (s.modTile t f).dctr = s.dctr := rfl
@[simp] theorem State.modTile_stage (s : State) (t : Nat) (f : Tile → Tile) : (s.modTile t f).stage = s.stage := rfl
@[simp] theorem State.modTile_ready (s : State) (t : Nat) (f : Tile → Tile) : (s.modTile t f).ready = s.ready := rfl
@[simp] theorem State.modTile_degraded (s : State) (t : Nat) (f : Tile → Tile) : (s.modTile t f).degraded = s.degraded := rfl
@[simp] theorem State.modTile_startFail (s : State) (t : Nat) (f : Tile → Tile) : (s.modTile t f).startFail = s.startFail := rfl
@[simp] theorem State.modTile_recovery (s : State) (t : Nat) (f : Tile → Tile) : (s.modTile t f).recovery = s.recovery := rfl
@[simp] theorem State.modTile_sldPart (s : State) (t : Nat) (f : Tile → Tile) : (s.modTile t f).sldPart = s.sldPart := rfl
@[simp] theorem State.modTile_vectors (s : State) (t : Nat) (f : Tile → Tile) : (s.modTile t f).vectors = s.vectors := rfl
@[simp] theorem State.modTile_vecDue (s : State) (t : Nat) (f : Tile → Tile) : (s.modTile t f).vecDue = s.vecDue := rfl
@[simp] theorem State.modTile_reply (s : State) (t : Nat) (f : Tile → Tile) : (s.modTile t f).reply = s.reply := rfl
@[simp] theorem State.modTile_fresh (s : State) (t : Nat) (f : Tile → Tile) : (s.modTile t f).fresh = s.fresh := rfl

/-! ## modPage -/

@[simp] theorem State.modPage_pending (s : State) (n : Nat) (f : Page → Page) : (s.modPage n f).pending = s.pending := rfl
@[simp] theorem State.modPage_hostMem (s : State) (n : Nat) (f : Page → Page) : (s.modPage n f).hostMem = s.hostMem := rfl
@[simp] theorem State.modPage_dev (s : State) (n : Nat) (f : Page → Page) : (s.modPage n f).dev = s.dev := rfl
@[simp] theorem State.modPage_parts (s : State) (n : Nat) (f : Page → Page) : (s.modPage n f).parts = s.parts := rfl
@[simp] theorem State.modPage_inflight (s : State) (n : Nat) (f : Page → Page) : (s.modPage n f).inflight = s.inflight := rfl
@[simp] theorem State.modPage_nextTag (s : State) (n : Nat) (f : Page → Page) : (s.modPage n f).nextTag = s.nextTag := rfl
@[simp] theorem State.modPage_wheel (s : State) (n : Nat) (f : Page → Page) : (s.modPage n f).wheel = s.wheel := rfl
@[simp] theorem State.modPage_heads (s : State) (n : Nat) (f : Page → Page) : (s.modPage n f).heads = s.heads := rfl
@[simp] theorem State.modPage_headMode (s : State) (n : Nat) (f : Page → Page) : (s.modPage n f).headMode = s.headMode := rfl
@[simp] theorem State.modPage_power (s : State) (n : Nat) (f : Page → Page) : (s.modPage n f).power = s.power := rfl
@[simp] theorem State.modPage_flash (s : State) (n : Nat) (f : Page → Page) : (s.modPage n f).flash = s.flash := rfl
@[simp] theorem State.modPage_sagger (s : State) (n : Nat) (f : Page → Page) : (s.modPage n f).sagger = s.sagger := rfl
@[simp] theorem State.modPage_mgmt (s : State) (n : Nat) (f : Page → Page) : (s.modPage n f).mgmt = s.mgmt := rfl
@[simp] theorem State.modPage_vocabs (s : State) (n : Nat) (f : Page → Page) : (s.modPage n f).vocabs = s.vocabs := rfl
@[simp] theorem State.modPage_grammars (s : State) (n : Nat) (f : Page → Page) : (s.modPage n f).grammars = s.grammars := rfl
@[simp] theorem State.modPage_sessions (s : State) (n : Nat) (f : Page → Page) : (s.modPage n f).sessions = s.sessions := rfl
@[simp] theorem State.modPage_nextSess (s : State) (n : Nat) (f : Page → Page) : (s.modPage n f).nextSess = s.nextSess := rfl
@[simp] theorem State.modPage_batches (s : State) (n : Nat) (f : Page → Page) : (s.modPage n f).batches = s.batches := rfl
@[simp] theorem State.modPage_prevBatch (s : State) (n : Nat) (f : Page → Page) : (s.modPage n f).prevBatch = s.prevBatch := rfl
@[simp] theorem State.modPage_nextBatch (s : State) (n : Nat) (f : Page → Page) : (s.modPage n f).nextBatch = s.nextBatch := rfl
@[simp] theorem State.modPage_runs (s : State) (n : Nat) (f : Page → Page) : (s.modPage n f).runs = s.runs := rfl
@[simp] theorem State.modPage_nextRun (s : State) (n : Nat) (f : Page → Page) : (s.modPage n f).nextRun = s.nextRun := rfl
@[simp] theorem State.modPage_tasks (s : State) (n : Nat) (f : Page → Page) : (s.modPage n f).tasks = s.tasks := rfl
@[simp] theorem State.modPage_nextTask (s : State) (n : Nat) (f : Page → Page) : (s.modPage n f).nextTask = s.nextTask := rfl
@[simp] theorem State.modPage_chains (s : State) (n : Nat) (f : Page → Page) : (s.modPage n f).chains = s.chains := rfl
@[simp] theorem State.modPage_tiles (s : State) (n : Nat) (f : Page → Page) : (s.modPage n f).tiles = s.tiles := rfl
@[simp] theorem State.modPage_retired (s : State) (n : Nat) (f : Page → Page) : (s.modPage n f).retired = s.retired := rfl
@[simp] theorem State.modPage_ceCount (s : State) (n : Nat) (f : Page → Page) : (s.modPage n f).ceCount = s.ceCount := rfl
@[simp] theorem State.modPage_stackLost (s : State) (n : Nat) (f : Page → Page) : (s.modPage n f).stackLost = s.stackLost := rfl
@[simp] theorem State.modPage_dieLost (s : State) (n : Nat) (f : Page → Page) : (s.modPage n f).dieLost = s.dieLost := rfl
@[simp] theorem State.modPage_renob (s : State) (n : Nat) (f : Page → Page) : (s.modPage n f).renob = s.renob := rfl
@[simp] theorem State.modPage_sramBad (s : State) (n : Nat) (f : Page → Page) : (s.modPage n f).sramBad = s.sramBad := rfl
@[simp] theorem State.modPage_dctr (s : State) (n : Nat) (f : Page → Page) : (s.modPage n f).dctr = s.dctr := rfl
@[simp] theorem State.modPage_stage (s : State) (n : Nat) (f : Page → Page) : (s.modPage n f).stage = s.stage := rfl
@[simp] theorem State.modPage_ready (s : State) (n : Nat) (f : Page → Page) : (s.modPage n f).ready = s.ready := rfl
@[simp] theorem State.modPage_degraded (s : State) (n : Nat) (f : Page → Page) : (s.modPage n f).degraded = s.degraded := rfl
@[simp] theorem State.modPage_startFail (s : State) (n : Nat) (f : Page → Page) : (s.modPage n f).startFail = s.startFail := rfl
@[simp] theorem State.modPage_recovery (s : State) (n : Nat) (f : Page → Page) : (s.modPage n f).recovery = s.recovery := rfl
@[simp] theorem State.modPage_sldPart (s : State) (n : Nat) (f : Page → Page) : (s.modPage n f).sldPart = s.sldPart := rfl
@[simp] theorem State.modPage_vectors (s : State) (n : Nat) (f : Page → Page) : (s.modPage n f).vectors = s.vectors := rfl
@[simp] theorem State.modPage_vecDue (s : State) (n : Nat) (f : Page → Page) : (s.modPage n f).vecDue = s.vecDue := rfl
@[simp] theorem State.modPage_reply (s : State) (n : Nat) (f : Page → Page) : (s.modPage n f).reply = s.reply := rfl
@[simp] theorem State.modPage_fresh (s : State) (n : Nat) (f : Page → Page) : (s.modPage n f).fresh = s.fresh := rfl

/-! ## modSess -/

@[simp] theorem State.modSess_pending (s : State) (i : Nat) (f : Session → Session) : (s.modSess i f).pending = s.pending := rfl
@[simp] theorem State.modSess_hostMem (s : State) (i : Nat) (f : Session → Session) : (s.modSess i f).hostMem = s.hostMem := rfl
@[simp] theorem State.modSess_dev (s : State) (i : Nat) (f : Session → Session) : (s.modSess i f).dev = s.dev := rfl
@[simp] theorem State.modSess_pages (s : State) (i : Nat) (f : Session → Session) : (s.modSess i f).pages = s.pages := rfl
@[simp] theorem State.modSess_parts (s : State) (i : Nat) (f : Session → Session) : (s.modSess i f).parts = s.parts := rfl
@[simp] theorem State.modSess_inflight (s : State) (i : Nat) (f : Session → Session) : (s.modSess i f).inflight = s.inflight := rfl
@[simp] theorem State.modSess_nextTag (s : State) (i : Nat) (f : Session → Session) : (s.modSess i f).nextTag = s.nextTag := rfl
@[simp] theorem State.modSess_wheel (s : State) (i : Nat) (f : Session → Session) : (s.modSess i f).wheel = s.wheel := rfl
@[simp] theorem State.modSess_heads (s : State) (i : Nat) (f : Session → Session) : (s.modSess i f).heads = s.heads := rfl
@[simp] theorem State.modSess_headMode (s : State) (i : Nat) (f : Session → Session) : (s.modSess i f).headMode = s.headMode := rfl
@[simp] theorem State.modSess_power (s : State) (i : Nat) (f : Session → Session) : (s.modSess i f).power = s.power := rfl
@[simp] theorem State.modSess_flash (s : State) (i : Nat) (f : Session → Session) : (s.modSess i f).flash = s.flash := rfl
@[simp] theorem State.modSess_sagger (s : State) (i : Nat) (f : Session → Session) : (s.modSess i f).sagger = s.sagger := rfl
@[simp] theorem State.modSess_mgmt (s : State) (i : Nat) (f : Session → Session) : (s.modSess i f).mgmt = s.mgmt := rfl
@[simp] theorem State.modSess_vocabs (s : State) (i : Nat) (f : Session → Session) : (s.modSess i f).vocabs = s.vocabs := rfl
@[simp] theorem State.modSess_grammars (s : State) (i : Nat) (f : Session → Session) : (s.modSess i f).grammars = s.grammars := rfl
@[simp] theorem State.modSess_nextSess (s : State) (i : Nat) (f : Session → Session) : (s.modSess i f).nextSess = s.nextSess := rfl
@[simp] theorem State.modSess_batches (s : State) (i : Nat) (f : Session → Session) : (s.modSess i f).batches = s.batches := rfl
@[simp] theorem State.modSess_prevBatch (s : State) (i : Nat) (f : Session → Session) : (s.modSess i f).prevBatch = s.prevBatch := rfl
@[simp] theorem State.modSess_nextBatch (s : State) (i : Nat) (f : Session → Session) : (s.modSess i f).nextBatch = s.nextBatch := rfl
@[simp] theorem State.modSess_runs (s : State) (i : Nat) (f : Session → Session) : (s.modSess i f).runs = s.runs := rfl
@[simp] theorem State.modSess_nextRun (s : State) (i : Nat) (f : Session → Session) : (s.modSess i f).nextRun = s.nextRun := rfl
@[simp] theorem State.modSess_tasks (s : State) (i : Nat) (f : Session → Session) : (s.modSess i f).tasks = s.tasks := rfl
@[simp] theorem State.modSess_nextTask (s : State) (i : Nat) (f : Session → Session) : (s.modSess i f).nextTask = s.nextTask := rfl
@[simp] theorem State.modSess_chains (s : State) (i : Nat) (f : Session → Session) : (s.modSess i f).chains = s.chains := rfl
@[simp] theorem State.modSess_tiles (s : State) (i : Nat) (f : Session → Session) : (s.modSess i f).tiles = s.tiles := rfl
@[simp] theorem State.modSess_retired (s : State) (i : Nat) (f : Session → Session) : (s.modSess i f).retired = s.retired := rfl
@[simp] theorem State.modSess_ceCount (s : State) (i : Nat) (f : Session → Session) : (s.modSess i f).ceCount = s.ceCount := rfl
@[simp] theorem State.modSess_stackLost (s : State) (i : Nat) (f : Session → Session) : (s.modSess i f).stackLost = s.stackLost := rfl
@[simp] theorem State.modSess_dieLost (s : State) (i : Nat) (f : Session → Session) : (s.modSess i f).dieLost = s.dieLost := rfl
@[simp] theorem State.modSess_renob (s : State) (i : Nat) (f : Session → Session) : (s.modSess i f).renob = s.renob := rfl
@[simp] theorem State.modSess_sramBad (s : State) (i : Nat) (f : Session → Session) : (s.modSess i f).sramBad = s.sramBad := rfl
@[simp] theorem State.modSess_dctr (s : State) (i : Nat) (f : Session → Session) : (s.modSess i f).dctr = s.dctr := rfl
@[simp] theorem State.modSess_stage (s : State) (i : Nat) (f : Session → Session) : (s.modSess i f).stage = s.stage := rfl
@[simp] theorem State.modSess_ready (s : State) (i : Nat) (f : Session → Session) : (s.modSess i f).ready = s.ready := rfl
@[simp] theorem State.modSess_degraded (s : State) (i : Nat) (f : Session → Session) : (s.modSess i f).degraded = s.degraded := rfl
@[simp] theorem State.modSess_startFail (s : State) (i : Nat) (f : Session → Session) : (s.modSess i f).startFail = s.startFail := rfl
@[simp] theorem State.modSess_recovery (s : State) (i : Nat) (f : Session → Session) : (s.modSess i f).recovery = s.recovery := rfl
@[simp] theorem State.modSess_sldPart (s : State) (i : Nat) (f : Session → Session) : (s.modSess i f).sldPart = s.sldPart := rfl
@[simp] theorem State.modSess_vectors (s : State) (i : Nat) (f : Session → Session) : (s.modSess i f).vectors = s.vectors := rfl
@[simp] theorem State.modSess_vecDue (s : State) (i : Nat) (f : Session → Session) : (s.modSess i f).vecDue = s.vecDue := rfl
@[simp] theorem State.modSess_reply (s : State) (i : Nat) (f : Session → Session) : (s.modSess i f).reply = s.reply := rfl
@[simp] theorem State.modSess_fresh (s : State) (i : Nat) (f : Session → Session) : (s.modSess i f).fresh = s.fresh := rfl

/-! ## count -/

@[simp] theorem State.count_pending (s : State) (p c n : Nat) : (s.count p c n).pending = s.pending := rfl
@[simp] theorem State.count_hostMem (s : State) (p c n : Nat) : (s.count p c n).hostMem = s.hostMem := rfl
@[simp] theorem State.count_dev (s : State) (p c n : Nat) : (s.count p c n).dev = s.dev := rfl
@[simp] theorem State.count_pages (s : State) (p c n : Nat) : (s.count p c n).pages = s.pages := rfl
@[simp] theorem State.count_inflight (s : State) (p c n : Nat) : (s.count p c n).inflight = s.inflight := rfl
@[simp] theorem State.count_nextTag (s : State) (p c n : Nat) : (s.count p c n).nextTag = s.nextTag := rfl
@[simp] theorem State.count_wheel (s : State) (p c n : Nat) : (s.count p c n).wheel = s.wheel := rfl
@[simp] theorem State.count_heads (s : State) (p c n : Nat) : (s.count p c n).heads = s.heads := rfl
@[simp] theorem State.count_headMode (s : State) (p c n : Nat) : (s.count p c n).headMode = s.headMode := rfl
@[simp] theorem State.count_power (s : State) (p c n : Nat) : (s.count p c n).power = s.power := rfl
@[simp] theorem State.count_flash (s : State) (p c n : Nat) : (s.count p c n).flash = s.flash := rfl
@[simp] theorem State.count_sagger (s : State) (p c n : Nat) : (s.count p c n).sagger = s.sagger := rfl
@[simp] theorem State.count_mgmt (s : State) (p c n : Nat) : (s.count p c n).mgmt = s.mgmt := rfl
@[simp] theorem State.count_vocabs (s : State) (p c n : Nat) : (s.count p c n).vocabs = s.vocabs := rfl
@[simp] theorem State.count_grammars (s : State) (p c n : Nat) : (s.count p c n).grammars = s.grammars := rfl
@[simp] theorem State.count_sessions (s : State) (p c n : Nat) : (s.count p c n).sessions = s.sessions := rfl
@[simp] theorem State.count_nextSess (s : State) (p c n : Nat) : (s.count p c n).nextSess = s.nextSess := rfl
@[simp] theorem State.count_batches (s : State) (p c n : Nat) : (s.count p c n).batches = s.batches := rfl
@[simp] theorem State.count_prevBatch (s : State) (p c n : Nat) : (s.count p c n).prevBatch = s.prevBatch := rfl
@[simp] theorem State.count_nextBatch (s : State) (p c n : Nat) : (s.count p c n).nextBatch = s.nextBatch := rfl
@[simp] theorem State.count_runs (s : State) (p c n : Nat) : (s.count p c n).runs = s.runs := rfl
@[simp] theorem State.count_nextRun (s : State) (p c n : Nat) : (s.count p c n).nextRun = s.nextRun := rfl
@[simp] theorem State.count_tasks (s : State) (p c n : Nat) : (s.count p c n).tasks = s.tasks := rfl
@[simp] theorem State.count_nextTask (s : State) (p c n : Nat) : (s.count p c n).nextTask = s.nextTask := rfl
@[simp] theorem State.count_chains (s : State) (p c n : Nat) : (s.count p c n).chains = s.chains := rfl
@[simp] theorem State.count_tiles (s : State) (p c n : Nat) : (s.count p c n).tiles = s.tiles := rfl
@[simp] theorem State.count_retired (s : State) (p c n : Nat) : (s.count p c n).retired = s.retired := rfl
@[simp] theorem State.count_ceCount (s : State) (p c n : Nat) : (s.count p c n).ceCount = s.ceCount := rfl
@[simp] theorem State.count_stackLost (s : State) (p c n : Nat) : (s.count p c n).stackLost = s.stackLost := rfl
@[simp] theorem State.count_dieLost (s : State) (p c n : Nat) : (s.count p c n).dieLost = s.dieLost := rfl
@[simp] theorem State.count_renob (s : State) (p c n : Nat) : (s.count p c n).renob = s.renob := rfl
@[simp] theorem State.count_sramBad (s : State) (p c n : Nat) : (s.count p c n).sramBad = s.sramBad := rfl
@[simp] theorem State.count_dctr (s : State) (p c n : Nat) : (s.count p c n).dctr = s.dctr := rfl
@[simp] theorem State.count_stage (s : State) (p c n : Nat) : (s.count p c n).stage = s.stage := rfl
@[simp] theorem State.count_ready (s : State) (p c n : Nat) : (s.count p c n).ready = s.ready := rfl
@[simp] theorem State.count_degraded (s : State) (p c n : Nat) : (s.count p c n).degraded = s.degraded := rfl
@[simp] theorem State.count_startFail (s : State) (p c n : Nat) : (s.count p c n).startFail = s.startFail := rfl
@[simp] theorem State.count_recovery (s : State) (p c n : Nat) : (s.count p c n).recovery = s.recovery := rfl
@[simp] theorem State.count_sldPart (s : State) (p c n : Nat) : (s.count p c n).sldPart = s.sldPart := rfl
@[simp] theorem State.count_vectors (s : State) (p c n : Nat) : (s.count p c n).vectors = s.vectors := rfl
@[simp] theorem State.count_vecDue (s : State) (p c n : Nat) : (s.count p c n).vecDue = s.vecDue := rfl
@[simp] theorem State.count_reply (s : State) (p c n : Nat) : (s.count p c n).reply = s.reply := rfl
@[simp] theorem State.count_fresh (s : State) (p c n : Nat) : (s.count p c n).fresh = s.fresh := rfl

/-! ## devCount -/

@[simp] theorem State.devCount_pending (s : State) (c n : Nat) : (s.devCount c n).pending = s.pending := rfl
@[simp] theorem State.devCount_hostMem (s : State) (c n : Nat) : (s.devCount c n).hostMem = s.hostMem := rfl
@[simp] theorem State.devCount_dev (s : State) (c n : Nat) : (s.devCount c n).dev = s.dev := rfl
@[simp] theorem State.devCount_pages (s : State) (c n : Nat) : (s.devCount c n).pages = s.pages := rfl
@[simp] theorem State.devCount_parts (s : State) (c n : Nat) : (s.devCount c n).parts = s.parts := rfl
@[simp] theorem State.devCount_inflight (s : State) (c n : Nat) : (s.devCount c n).inflight = s.inflight := rfl
@[simp] theorem State.devCount_nextTag (s : State) (c n : Nat) : (s.devCount c n).nextTag = s.nextTag := rfl
@[simp] theorem State.devCount_wheel (s : State) (c n : Nat) : (s.devCount c n).wheel = s.wheel := rfl
@[simp] theorem State.devCount_heads (s : State) (c n : Nat) : (s.devCount c n).heads = s.heads := rfl
@[simp] theorem State.devCount_headMode (s : State) (c n : Nat) : (s.devCount c n).headMode = s.headMode := rfl
@[simp] theorem State.devCount_power (s : State) (c n : Nat) : (s.devCount c n).power = s.power := rfl
@[simp] theorem State.devCount_flash (s : State) (c n : Nat) : (s.devCount c n).flash = s.flash := rfl
@[simp] theorem State.devCount_sagger (s : State) (c n : Nat) : (s.devCount c n).sagger = s.sagger := rfl
@[simp] theorem State.devCount_mgmt (s : State) (c n : Nat) : (s.devCount c n).mgmt = s.mgmt := rfl
@[simp] theorem State.devCount_vocabs (s : State) (c n : Nat) : (s.devCount c n).vocabs = s.vocabs := rfl
@[simp] theorem State.devCount_grammars (s : State) (c n : Nat) : (s.devCount c n).grammars = s.grammars := rfl
@[simp] theorem State.devCount_sessions (s : State) (c n : Nat) : (s.devCount c n).sessions = s.sessions := rfl
@[simp] theorem State.devCount_nextSess (s : State) (c n : Nat) : (s.devCount c n).nextSess = s.nextSess := rfl
@[simp] theorem State.devCount_batches (s : State) (c n : Nat) : (s.devCount c n).batches = s.batches := rfl
@[simp] theorem State.devCount_prevBatch (s : State) (c n : Nat) : (s.devCount c n).prevBatch = s.prevBatch := rfl
@[simp] theorem State.devCount_nextBatch (s : State) (c n : Nat) : (s.devCount c n).nextBatch = s.nextBatch := rfl
@[simp] theorem State.devCount_runs (s : State) (c n : Nat) : (s.devCount c n).runs = s.runs := rfl
@[simp] theorem State.devCount_nextRun (s : State) (c n : Nat) : (s.devCount c n).nextRun = s.nextRun := rfl
@[simp] theorem State.devCount_tasks (s : State) (c n : Nat) : (s.devCount c n).tasks = s.tasks := rfl
@[simp] theorem State.devCount_nextTask (s : State) (c n : Nat) : (s.devCount c n).nextTask = s.nextTask := rfl
@[simp] theorem State.devCount_chains (s : State) (c n : Nat) : (s.devCount c n).chains = s.chains := rfl
@[simp] theorem State.devCount_tiles (s : State) (c n : Nat) : (s.devCount c n).tiles = s.tiles := rfl
@[simp] theorem State.devCount_retired (s : State) (c n : Nat) : (s.devCount c n).retired = s.retired := rfl
@[simp] theorem State.devCount_ceCount (s : State) (c n : Nat) : (s.devCount c n).ceCount = s.ceCount := rfl
@[simp] theorem State.devCount_stackLost (s : State) (c n : Nat) : (s.devCount c n).stackLost = s.stackLost := rfl
@[simp] theorem State.devCount_dieLost (s : State) (c n : Nat) : (s.devCount c n).dieLost = s.dieLost := rfl
@[simp] theorem State.devCount_renob (s : State) (c n : Nat) : (s.devCount c n).renob = s.renob := rfl
@[simp] theorem State.devCount_sramBad (s : State) (c n : Nat) : (s.devCount c n).sramBad = s.sramBad := rfl
@[simp] theorem State.devCount_stage (s : State) (c n : Nat) : (s.devCount c n).stage = s.stage := rfl
@[simp] theorem State.devCount_ready (s : State) (c n : Nat) : (s.devCount c n).ready = s.ready := rfl
@[simp] theorem State.devCount_degraded (s : State) (c n : Nat) : (s.devCount c n).degraded = s.degraded := rfl
@[simp] theorem State.devCount_startFail (s : State) (c n : Nat) : (s.devCount c n).startFail = s.startFail := rfl
@[simp] theorem State.devCount_recovery (s : State) (c n : Nat) : (s.devCount c n).recovery = s.recovery := rfl
@[simp] theorem State.devCount_sldPart (s : State) (c n : Nat) : (s.devCount c n).sldPart = s.sldPart := rfl
@[simp] theorem State.devCount_vectors (s : State) (c n : Nat) : (s.devCount c n).vectors = s.vectors := rfl
@[simp] theorem State.devCount_vecDue (s : State) (c n : Nat) : (s.devCount c n).vecDue = s.vecDue := rfl
@[simp] theorem State.devCount_reply (s : State) (c n : Nat) : (s.devCount c n).reply = s.reply := rfl
@[simp] theorem State.devCount_fresh (s : State) (c n : Nat) : (s.devCount c n).fresh = s.fresh := rfl

/-! ## powCount -/

@[simp] theorem State.powCount_pending (s : State) (c n : Nat) : (s.powCount c n).pending = s.pending := rfl
@[simp] theorem State.powCount_hostMem (s : State) (c n : Nat) : (s.powCount c n).hostMem = s.hostMem := rfl
@[simp] theorem State.powCount_dev (s : State) (c n : Nat) : (s.powCount c n).dev = s.dev := rfl
@[simp] theorem State.powCount_pages (s : State) (c n : Nat) : (s.powCount c n).pages = s.pages := rfl
@[simp] theorem State.powCount_parts (s : State) (c n : Nat) : (s.powCount c n).parts = s.parts := rfl
@[simp] theorem State.powCount_inflight (s : State) (c n : Nat) : (s.powCount c n).inflight = s.inflight := rfl
@[simp] theorem State.powCount_nextTag (s : State) (c n : Nat) : (s.powCount c n).nextTag = s.nextTag := rfl
@[simp] theorem State.powCount_wheel (s : State) (c n : Nat) : (s.powCount c n).wheel = s.wheel := rfl
@[simp] theorem State.powCount_heads (s : State) (c n : Nat) : (s.powCount c n).heads = s.heads := rfl
@[simp] theorem State.powCount_headMode (s : State) (c n : Nat) : (s.powCount c n).headMode = s.headMode := rfl
@[simp] theorem State.powCount_flash (s : State) (c n : Nat) : (s.powCount c n).flash = s.flash := rfl
@[simp] theorem State.powCount_sagger (s : State) (c n : Nat) : (s.powCount c n).sagger = s.sagger := rfl
@[simp] theorem State.powCount_mgmt (s : State) (c n : Nat) : (s.powCount c n).mgmt = s.mgmt := rfl
@[simp] theorem State.powCount_vocabs (s : State) (c n : Nat) : (s.powCount c n).vocabs = s.vocabs := rfl
@[simp] theorem State.powCount_grammars (s : State) (c n : Nat) : (s.powCount c n).grammars = s.grammars := rfl
@[simp] theorem State.powCount_sessions (s : State) (c n : Nat) : (s.powCount c n).sessions = s.sessions := rfl
@[simp] theorem State.powCount_nextSess (s : State) (c n : Nat) : (s.powCount c n).nextSess = s.nextSess := rfl
@[simp] theorem State.powCount_batches (s : State) (c n : Nat) : (s.powCount c n).batches = s.batches := rfl
@[simp] theorem State.powCount_prevBatch (s : State) (c n : Nat) : (s.powCount c n).prevBatch = s.prevBatch := rfl
@[simp] theorem State.powCount_nextBatch (s : State) (c n : Nat) : (s.powCount c n).nextBatch = s.nextBatch := rfl
@[simp] theorem State.powCount_runs (s : State) (c n : Nat) : (s.powCount c n).runs = s.runs := rfl
@[simp] theorem State.powCount_nextRun (s : State) (c n : Nat) : (s.powCount c n).nextRun = s.nextRun := rfl
@[simp] theorem State.powCount_tasks (s : State) (c n : Nat) : (s.powCount c n).tasks = s.tasks := rfl
@[simp] theorem State.powCount_nextTask (s : State) (c n : Nat) : (s.powCount c n).nextTask = s.nextTask := rfl
@[simp] theorem State.powCount_chains (s : State) (c n : Nat) : (s.powCount c n).chains = s.chains := rfl
@[simp] theorem State.powCount_tiles (s : State) (c n : Nat) : (s.powCount c n).tiles = s.tiles := rfl
@[simp] theorem State.powCount_retired (s : State) (c n : Nat) : (s.powCount c n).retired = s.retired := rfl
@[simp] theorem State.powCount_ceCount (s : State) (c n : Nat) : (s.powCount c n).ceCount = s.ceCount := rfl
@[simp] theorem State.powCount_stackLost (s : State) (c n : Nat) : (s.powCount c n).stackLost = s.stackLost := rfl
@[simp] theorem State.powCount_dieLost (s : State) (c n : Nat) : (s.powCount c n).dieLost = s.dieLost := rfl
@[simp] theorem State.powCount_renob (s : State) (c n : Nat) : (s.powCount c n).renob = s.renob := rfl
@[simp] theorem State.powCount_sramBad (s : State) (c n : Nat) : (s.powCount c n).sramBad = s.sramBad := rfl
@[simp] theorem State.powCount_dctr (s : State) (c n : Nat) : (s.powCount c n).dctr = s.dctr := rfl
@[simp] theorem State.powCount_stage (s : State) (c n : Nat) : (s.powCount c n).stage = s.stage := rfl
@[simp] theorem State.powCount_ready (s : State) (c n : Nat) : (s.powCount c n).ready = s.ready := rfl
@[simp] theorem State.powCount_degraded (s : State) (c n : Nat) : (s.powCount c n).degraded = s.degraded := rfl
@[simp] theorem State.powCount_startFail (s : State) (c n : Nat) : (s.powCount c n).startFail = s.startFail := rfl
@[simp] theorem State.powCount_recovery (s : State) (c n : Nat) : (s.powCount c n).recovery = s.recovery := rfl
@[simp] theorem State.powCount_sldPart (s : State) (c n : Nat) : (s.powCount c n).sldPart = s.sldPart := rfl
@[simp] theorem State.powCount_vectors (s : State) (c n : Nat) : (s.powCount c n).vectors = s.vectors := rfl
@[simp] theorem State.powCount_vecDue (s : State) (c n : Nat) : (s.powCount c n).vecDue = s.vecDue := rfl
@[simp] theorem State.powCount_reply (s : State) (c n : Nat) : (s.powCount c n).reply = s.reply := rfl
@[simp] theorem State.powCount_fresh (s : State) (c n : Nat) : (s.powCount c n).fresh = s.fresh := rfl

/-! ## flashCount -/

@[simp] theorem State.flashCount_pending (s : State) (c n : Nat) : (s.flashCount c n).pending = s.pending := rfl
@[simp] theorem State.flashCount_hostMem (s : State) (c n : Nat) : (s.flashCount c n).hostMem = s.hostMem := rfl
@[simp] theorem State.flashCount_dev (s : State) (c n : Nat) : (s.flashCount c n).dev = s.dev := rfl
@[simp] theorem State.flashCount_pages (s : State) (c n : Nat) : (s.flashCount c n).pages = s.pages := rfl
@[simp] theorem State.flashCount_parts (s : State) (c n : Nat) : (s.flashCount c n).parts = s.parts := rfl
@[simp] theorem State.flashCount_inflight (s : State) (c n : Nat) : (s.flashCount c n).inflight = s.inflight := rfl
@[simp] theorem State.flashCount_nextTag (s : State) (c n : Nat) : (s.flashCount c n).nextTag = s.nextTag := rfl
@[simp] theorem State.flashCount_wheel (s : State) (c n : Nat) : (s.flashCount c n).wheel = s.wheel := rfl
@[simp] theorem State.flashCount_heads (s : State) (c n : Nat) : (s.flashCount c n).heads = s.heads := rfl
@[simp] theorem State.flashCount_headMode (s : State) (c n : Nat) : (s.flashCount c n).headMode = s.headMode := rfl
@[simp] theorem State.flashCount_power (s : State) (c n : Nat) : (s.flashCount c n).power = s.power := rfl
@[simp] theorem State.flashCount_sagger (s : State) (c n : Nat) : (s.flashCount c n).sagger = s.sagger := rfl
@[simp] theorem State.flashCount_mgmt (s : State) (c n : Nat) : (s.flashCount c n).mgmt = s.mgmt := rfl
@[simp] theorem State.flashCount_vocabs (s : State) (c n : Nat) : (s.flashCount c n).vocabs = s.vocabs := rfl
@[simp] theorem State.flashCount_grammars (s : State) (c n : Nat) : (s.flashCount c n).grammars = s.grammars := rfl
@[simp] theorem State.flashCount_sessions (s : State) (c n : Nat) : (s.flashCount c n).sessions = s.sessions := rfl
@[simp] theorem State.flashCount_nextSess (s : State) (c n : Nat) : (s.flashCount c n).nextSess = s.nextSess := rfl
@[simp] theorem State.flashCount_batches (s : State) (c n : Nat) : (s.flashCount c n).batches = s.batches := rfl
@[simp] theorem State.flashCount_prevBatch (s : State) (c n : Nat) : (s.flashCount c n).prevBatch = s.prevBatch := rfl
@[simp] theorem State.flashCount_nextBatch (s : State) (c n : Nat) : (s.flashCount c n).nextBatch = s.nextBatch := rfl
@[simp] theorem State.flashCount_runs (s : State) (c n : Nat) : (s.flashCount c n).runs = s.runs := rfl
@[simp] theorem State.flashCount_nextRun (s : State) (c n : Nat) : (s.flashCount c n).nextRun = s.nextRun := rfl
@[simp] theorem State.flashCount_tasks (s : State) (c n : Nat) : (s.flashCount c n).tasks = s.tasks := rfl
@[simp] theorem State.flashCount_nextTask (s : State) (c n : Nat) : (s.flashCount c n).nextTask = s.nextTask := rfl
@[simp] theorem State.flashCount_chains (s : State) (c n : Nat) : (s.flashCount c n).chains = s.chains := rfl
@[simp] theorem State.flashCount_tiles (s : State) (c n : Nat) : (s.flashCount c n).tiles = s.tiles := rfl
@[simp] theorem State.flashCount_retired (s : State) (c n : Nat) : (s.flashCount c n).retired = s.retired := rfl
@[simp] theorem State.flashCount_ceCount (s : State) (c n : Nat) : (s.flashCount c n).ceCount = s.ceCount := rfl
@[simp] theorem State.flashCount_stackLost (s : State) (c n : Nat) : (s.flashCount c n).stackLost = s.stackLost := rfl
@[simp] theorem State.flashCount_dieLost (s : State) (c n : Nat) : (s.flashCount c n).dieLost = s.dieLost := rfl
@[simp] theorem State.flashCount_renob (s : State) (c n : Nat) : (s.flashCount c n).renob = s.renob := rfl
@[simp] theorem State.flashCount_sramBad (s : State) (c n : Nat) : (s.flashCount c n).sramBad = s.sramBad := rfl
@[simp] theorem State.flashCount_dctr (s : State) (c n : Nat) : (s.flashCount c n).dctr = s.dctr := rfl
@[simp] theorem State.flashCount_stage (s : State) (c n : Nat) : (s.flashCount c n).stage = s.stage := rfl
@[simp] theorem State.flashCount_ready (s : State) (c n : Nat) : (s.flashCount c n).ready = s.ready := rfl
@[simp] theorem State.flashCount_degraded (s : State) (c n : Nat) : (s.flashCount c n).degraded = s.degraded := rfl
@[simp] theorem State.flashCount_startFail (s : State) (c n : Nat) : (s.flashCount c n).startFail = s.startFail := rfl
@[simp] theorem State.flashCount_recovery (s : State) (c n : Nat) : (s.flashCount c n).recovery = s.recovery := rfl
@[simp] theorem State.flashCount_sldPart (s : State) (c n : Nat) : (s.flashCount c n).sldPart = s.sldPart := rfl
@[simp] theorem State.flashCount_vectors (s : State) (c n : Nat) : (s.flashCount c n).vectors = s.vectors := rfl
@[simp] theorem State.flashCount_vecDue (s : State) (c n : Nat) : (s.flashCount c n).vecDue = s.vecDue := rfl
@[simp] theorem State.flashCount_reply (s : State) (c n : Nat) : (s.flashCount c n).reply = s.reply := rfl
@[simp] theorem State.flashCount_fresh (s : State) (c n : Nat) : (s.flashCount c n).fresh = s.fresh := rfl

/-! ## headCount -/

@[simp] theorem State.headCount_pending (s : State) (h c n : Nat) : (s.headCount h c n).pending = s.pending := rfl
@[simp] theorem State.headCount_hostMem (s : State) (h c n : Nat) : (s.headCount h c n).hostMem = s.hostMem := rfl
@[simp] theorem State.headCount_dev (s : State) (h c n : Nat) : (s.headCount h c n).dev = s.dev := rfl
@[simp] theorem State.headCount_pages (s : State) (h c n : Nat) : (s.headCount h c n).pages = s.pages := rfl
@[simp] theorem State.headCount_parts (s : State) (h c n : Nat) : (s.headCount h c n).parts = s.parts := rfl
@[simp] theorem State.headCount_inflight (s : State) (h c n : Nat) : (s.headCount h c n).inflight = s.inflight := rfl
@[simp] theorem State.headCount_nextTag (s : State) (h c n : Nat) : (s.headCount h c n).nextTag = s.nextTag := rfl
@[simp] theorem State.headCount_wheel (s : State) (h c n : Nat) : (s.headCount h c n).wheel = s.wheel := rfl
@[simp] theorem State.headCount_headMode (s : State) (h c n : Nat) : (s.headCount h c n).headMode = s.headMode := rfl
@[simp] theorem State.headCount_power (s : State) (h c n : Nat) : (s.headCount h c n).power = s.power := rfl
@[simp] theorem State.headCount_flash (s : State) (h c n : Nat) : (s.headCount h c n).flash = s.flash := rfl
@[simp] theorem State.headCount_sagger (s : State) (h c n : Nat) : (s.headCount h c n).sagger = s.sagger := rfl
@[simp] theorem State.headCount_mgmt (s : State) (h c n : Nat) : (s.headCount h c n).mgmt = s.mgmt := rfl
@[simp] theorem State.headCount_vocabs (s : State) (h c n : Nat) : (s.headCount h c n).vocabs = s.vocabs := rfl
@[simp] theorem State.headCount_grammars (s : State) (h c n : Nat) : (s.headCount h c n).grammars = s.grammars := rfl
@[simp] theorem State.headCount_sessions (s : State) (h c n : Nat) : (s.headCount h c n).sessions = s.sessions := rfl
@[simp] theorem State.headCount_nextSess (s : State) (h c n : Nat) : (s.headCount h c n).nextSess = s.nextSess := rfl
@[simp] theorem State.headCount_batches (s : State) (h c n : Nat) : (s.headCount h c n).batches = s.batches := rfl
@[simp] theorem State.headCount_prevBatch (s : State) (h c n : Nat) : (s.headCount h c n).prevBatch = s.prevBatch := rfl
@[simp] theorem State.headCount_nextBatch (s : State) (h c n : Nat) : (s.headCount h c n).nextBatch = s.nextBatch := rfl
@[simp] theorem State.headCount_runs (s : State) (h c n : Nat) : (s.headCount h c n).runs = s.runs := rfl
@[simp] theorem State.headCount_nextRun (s : State) (h c n : Nat) : (s.headCount h c n).nextRun = s.nextRun := rfl
@[simp] theorem State.headCount_tasks (s : State) (h c n : Nat) : (s.headCount h c n).tasks = s.tasks := rfl
@[simp] theorem State.headCount_nextTask (s : State) (h c n : Nat) : (s.headCount h c n).nextTask = s.nextTask := rfl
@[simp] theorem State.headCount_chains (s : State) (h c n : Nat) : (s.headCount h c n).chains = s.chains := rfl
@[simp] theorem State.headCount_tiles (s : State) (h c n : Nat) : (s.headCount h c n).tiles = s.tiles := rfl
@[simp] theorem State.headCount_retired (s : State) (h c n : Nat) : (s.headCount h c n).retired = s.retired := rfl
@[simp] theorem State.headCount_ceCount (s : State) (h c n : Nat) : (s.headCount h c n).ceCount = s.ceCount := rfl
@[simp] theorem State.headCount_stackLost (s : State) (h c n : Nat) : (s.headCount h c n).stackLost = s.stackLost := rfl
@[simp] theorem State.headCount_dieLost (s : State) (h c n : Nat) : (s.headCount h c n).dieLost = s.dieLost := rfl
@[simp] theorem State.headCount_renob (s : State) (h c n : Nat) : (s.headCount h c n).renob = s.renob := rfl
@[simp] theorem State.headCount_sramBad (s : State) (h c n : Nat) : (s.headCount h c n).sramBad = s.sramBad := rfl
@[simp] theorem State.headCount_dctr (s : State) (h c n : Nat) : (s.headCount h c n).dctr = s.dctr := rfl
@[simp] theorem State.headCount_stage (s : State) (h c n : Nat) : (s.headCount h c n).stage = s.stage := rfl
@[simp] theorem State.headCount_ready (s : State) (h c n : Nat) : (s.headCount h c n).ready = s.ready := rfl
@[simp] theorem State.headCount_degraded (s : State) (h c n : Nat) : (s.headCount h c n).degraded = s.degraded := rfl
@[simp] theorem State.headCount_startFail (s : State) (h c n : Nat) : (s.headCount h c n).startFail = s.startFail := rfl
@[simp] theorem State.headCount_recovery (s : State) (h c n : Nat) : (s.headCount h c n).recovery = s.recovery := rfl
@[simp] theorem State.headCount_sldPart (s : State) (h c n : Nat) : (s.headCount h c n).sldPart = s.sldPart := rfl
@[simp] theorem State.headCount_vectors (s : State) (h c n : Nat) : (s.headCount h c n).vectors = s.vectors := rfl
@[simp] theorem State.headCount_vecDue (s : State) (h c n : Nat) : (s.headCount h c n).vecDue = s.vecDue := rfl
@[simp] theorem State.headCount_reply (s : State) (h c n : Nat) : (s.headCount h c n).reply = s.reply := rfl
@[simp] theorem State.headCount_fresh (s : State) (h c n : Nat) : (s.headCount h c n).fresh = s.fresh := rfl

/-! ## tileCount -/

@[simp] theorem State.tileCount_pending (s : State) (t c n : Nat) : (s.tileCount t c n).pending = s.pending := rfl
@[simp] theorem State.tileCount_hostMem (s : State) (t c n : Nat) : (s.tileCount t c n).hostMem = s.hostMem := rfl
@[simp] theorem State.tileCount_dev (s : State) (t c n : Nat) : (s.tileCount t c n).dev = s.dev := rfl
@[simp] theorem State.tileCount_pages (s : State) (t c n : Nat) : (s.tileCount t c n).pages = s.pages := rfl
@[simp] theorem State.tileCount_parts (s : State) (t c n : Nat) : (s.tileCount t c n).parts = s.parts := rfl
@[simp] theorem State.tileCount_inflight (s : State) (t c n : Nat) : (s.tileCount t c n).inflight = s.inflight := rfl
@[simp] theorem State.tileCount_nextTag (s : State) (t c n : Nat) : (s.tileCount t c n).nextTag = s.nextTag := rfl
@[simp] theorem State.tileCount_wheel (s : State) (t c n : Nat) : (s.tileCount t c n).wheel = s.wheel := rfl
@[simp] theorem State.tileCount_heads (s : State) (t c n : Nat) : (s.tileCount t c n).heads = s.heads := rfl
@[simp] theorem State.tileCount_headMode (s : State) (t c n : Nat) : (s.tileCount t c n).headMode = s.headMode := rfl
@[simp] theorem State.tileCount_power (s : State) (t c n : Nat) : (s.tileCount t c n).power = s.power := rfl
@[simp] theorem State.tileCount_flash (s : State) (t c n : Nat) : (s.tileCount t c n).flash = s.flash := rfl
@[simp] theorem State.tileCount_sagger (s : State) (t c n : Nat) : (s.tileCount t c n).sagger = s.sagger := rfl
@[simp] theorem State.tileCount_mgmt (s : State) (t c n : Nat) : (s.tileCount t c n).mgmt = s.mgmt := rfl
@[simp] theorem State.tileCount_vocabs (s : State) (t c n : Nat) : (s.tileCount t c n).vocabs = s.vocabs := rfl
@[simp] theorem State.tileCount_grammars (s : State) (t c n : Nat) : (s.tileCount t c n).grammars = s.grammars := rfl
@[simp] theorem State.tileCount_sessions (s : State) (t c n : Nat) : (s.tileCount t c n).sessions = s.sessions := rfl
@[simp] theorem State.tileCount_nextSess (s : State) (t c n : Nat) : (s.tileCount t c n).nextSess = s.nextSess := rfl
@[simp] theorem State.tileCount_batches (s : State) (t c n : Nat) : (s.tileCount t c n).batches = s.batches := rfl
@[simp] theorem State.tileCount_prevBatch (s : State) (t c n : Nat) : (s.tileCount t c n).prevBatch = s.prevBatch := rfl
@[simp] theorem State.tileCount_nextBatch (s : State) (t c n : Nat) : (s.tileCount t c n).nextBatch = s.nextBatch := rfl
@[simp] theorem State.tileCount_runs (s : State) (t c n : Nat) : (s.tileCount t c n).runs = s.runs := rfl
@[simp] theorem State.tileCount_nextRun (s : State) (t c n : Nat) : (s.tileCount t c n).nextRun = s.nextRun := rfl
@[simp] theorem State.tileCount_tasks (s : State) (t c n : Nat) : (s.tileCount t c n).tasks = s.tasks := rfl
@[simp] theorem State.tileCount_nextTask (s : State) (t c n : Nat) : (s.tileCount t c n).nextTask = s.nextTask := rfl
@[simp] theorem State.tileCount_chains (s : State) (t c n : Nat) : (s.tileCount t c n).chains = s.chains := rfl
@[simp] theorem State.tileCount_retired (s : State) (t c n : Nat) : (s.tileCount t c n).retired = s.retired := rfl
@[simp] theorem State.tileCount_ceCount (s : State) (t c n : Nat) : (s.tileCount t c n).ceCount = s.ceCount := rfl
@[simp] theorem State.tileCount_stackLost (s : State) (t c n : Nat) : (s.tileCount t c n).stackLost = s.stackLost := rfl
@[simp] theorem State.tileCount_dieLost (s : State) (t c n : Nat) : (s.tileCount t c n).dieLost = s.dieLost := rfl
@[simp] theorem State.tileCount_renob (s : State) (t c n : Nat) : (s.tileCount t c n).renob = s.renob := rfl
@[simp] theorem State.tileCount_sramBad (s : State) (t c n : Nat) : (s.tileCount t c n).sramBad = s.sramBad := rfl
@[simp] theorem State.tileCount_dctr (s : State) (t c n : Nat) : (s.tileCount t c n).dctr = s.dctr := rfl
@[simp] theorem State.tileCount_stage (s : State) (t c n : Nat) : (s.tileCount t c n).stage = s.stage := rfl
@[simp] theorem State.tileCount_ready (s : State) (t c n : Nat) : (s.tileCount t c n).ready = s.ready := rfl
@[simp] theorem State.tileCount_degraded (s : State) (t c n : Nat) : (s.tileCount t c n).degraded = s.degraded := rfl
@[simp] theorem State.tileCount_startFail (s : State) (t c n : Nat) : (s.tileCount t c n).startFail = s.startFail := rfl
@[simp] theorem State.tileCount_recovery (s : State) (t c n : Nat) : (s.tileCount t c n).recovery = s.recovery := rfl
@[simp] theorem State.tileCount_sldPart (s : State) (t c n : Nat) : (s.tileCount t c n).sldPart = s.sldPart := rfl
@[simp] theorem State.tileCount_vectors (s : State) (t c n : Nat) : (s.tileCount t c n).vectors = s.vectors := rfl
@[simp] theorem State.tileCount_vecDue (s : State) (t c n : Nat) : (s.tileCount t c n).vecDue = s.vecDue := rfl
@[simp] theorem State.tileCount_reply (s : State) (t c n : Nat) : (s.tileCount t c n).reply = s.reply := rfl
@[simp] theorem State.tileCount_fresh (s : State) (t c n : Nat) : (s.tileCount t c n).fresh = s.fresh := rfl

/-! ## setCmd -/

@[simp] theorem State.setCmd_pending (s : State) (e : CmdE) : (s.setCmd e).pending = s.pending := rfl
@[simp] theorem State.setCmd_hostMem (s : State) (e : CmdE) : (s.setCmd e).hostMem = s.hostMem := rfl
@[simp] theorem State.setCmd_dev (s : State) (e : CmdE) : (s.setCmd e).dev = s.dev := rfl
@[simp] theorem State.setCmd_pages (s : State) (e : CmdE) : (s.setCmd e).pages = s.pages := rfl
@[simp] theorem State.setCmd_parts (s : State) (e : CmdE) : (s.setCmd e).parts = s.parts := rfl
@[simp] theorem State.setCmd_nextTag (s : State) (e : CmdE) : (s.setCmd e).nextTag = s.nextTag := rfl
@[simp] theorem State.setCmd_wheel (s : State) (e : CmdE) : (s.setCmd e).wheel = s.wheel := rfl
@[simp] theorem State.setCmd_heads (s : State) (e : CmdE) : (s.setCmd e).heads = s.heads := rfl
@[simp] theorem State.setCmd_headMode (s : State) (e : CmdE) : (s.setCmd e).headMode = s.headMode := rfl
@[simp] theorem State.setCmd_power (s : State) (e : CmdE) : (s.setCmd e).power = s.power := rfl
@[simp] theorem State.setCmd_flash (s : State) (e : CmdE) : (s.setCmd e).flash = s.flash := rfl
@[simp] theorem State.setCmd_sagger (s : State) (e : CmdE) : (s.setCmd e).sagger = s.sagger := rfl
@[simp] theorem State.setCmd_mgmt (s : State) (e : CmdE) : (s.setCmd e).mgmt = s.mgmt := rfl
@[simp] theorem State.setCmd_vocabs (s : State) (e : CmdE) : (s.setCmd e).vocabs = s.vocabs := rfl
@[simp] theorem State.setCmd_grammars (s : State) (e : CmdE) : (s.setCmd e).grammars = s.grammars := rfl
@[simp] theorem State.setCmd_sessions (s : State) (e : CmdE) : (s.setCmd e).sessions = s.sessions := rfl
@[simp] theorem State.setCmd_nextSess (s : State) (e : CmdE) : (s.setCmd e).nextSess = s.nextSess := rfl
@[simp] theorem State.setCmd_batches (s : State) (e : CmdE) : (s.setCmd e).batches = s.batches := rfl
@[simp] theorem State.setCmd_prevBatch (s : State) (e : CmdE) : (s.setCmd e).prevBatch = s.prevBatch := rfl
@[simp] theorem State.setCmd_nextBatch (s : State) (e : CmdE) : (s.setCmd e).nextBatch = s.nextBatch := rfl
@[simp] theorem State.setCmd_runs (s : State) (e : CmdE) : (s.setCmd e).runs = s.runs := rfl
@[simp] theorem State.setCmd_nextRun (s : State) (e : CmdE) : (s.setCmd e).nextRun = s.nextRun := rfl
@[simp] theorem State.setCmd_tasks (s : State) (e : CmdE) : (s.setCmd e).tasks = s.tasks := rfl
@[simp] theorem State.setCmd_nextTask (s : State) (e : CmdE) : (s.setCmd e).nextTask = s.nextTask := rfl
@[simp] theorem State.setCmd_chains (s : State) (e : CmdE) : (s.setCmd e).chains = s.chains := rfl
@[simp] theorem State.setCmd_tiles (s : State) (e : CmdE) : (s.setCmd e).tiles = s.tiles := rfl
@[simp] theorem State.setCmd_retired (s : State) (e : CmdE) : (s.setCmd e).retired = s.retired := rfl
@[simp] theorem State.setCmd_ceCount (s : State) (e : CmdE) : (s.setCmd e).ceCount = s.ceCount := rfl
@[simp] theorem State.setCmd_stackLost (s : State) (e : CmdE) : (s.setCmd e).stackLost = s.stackLost := rfl
@[simp] theorem State.setCmd_dieLost (s : State) (e : CmdE) : (s.setCmd e).dieLost = s.dieLost := rfl
@[simp] theorem State.setCmd_renob (s : State) (e : CmdE) : (s.setCmd e).renob = s.renob := rfl
@[simp] theorem State.setCmd_sramBad (s : State) (e : CmdE) : (s.setCmd e).sramBad = s.sramBad := rfl
@[simp] theorem State.setCmd_dctr (s : State) (e : CmdE) : (s.setCmd e).dctr = s.dctr := rfl
@[simp] theorem State.setCmd_stage (s : State) (e : CmdE) : (s.setCmd e).stage = s.stage := rfl
@[simp] theorem State.setCmd_ready (s : State) (e : CmdE) : (s.setCmd e).ready = s.ready := rfl
@[simp] theorem State.setCmd_degraded (s : State) (e : CmdE) : (s.setCmd e).degraded = s.degraded := rfl
@[simp] theorem State.setCmd_startFail (s : State) (e : CmdE) : (s.setCmd e).startFail = s.startFail := rfl
@[simp] theorem State.setCmd_recovery (s : State) (e : CmdE) : (s.setCmd e).recovery = s.recovery := rfl
@[simp] theorem State.setCmd_sldPart (s : State) (e : CmdE) : (s.setCmd e).sldPart = s.sldPart := rfl
@[simp] theorem State.setCmd_vectors (s : State) (e : CmdE) : (s.setCmd e).vectors = s.vectors := rfl
@[simp] theorem State.setCmd_vecDue (s : State) (e : CmdE) : (s.setCmd e).vecDue = s.vecDue := rfl
@[simp] theorem State.setCmd_reply (s : State) (e : CmdE) : (s.setCmd e).reply = s.reply := rfl
@[simp] theorem State.setCmd_fresh (s : State) (e : CmdE) : (s.setCmd e).fresh = s.fresh := rfl

/-! ## keep -/

@[simp] theorem State.keep_pending (s : State) (e : CmdE) : (s.keep e).pending = s.pending := rfl
@[simp] theorem State.keep_hostMem (s : State) (e : CmdE) : (s.keep e).hostMem = s.hostMem := rfl
@[simp] theorem State.keep_dev (s : State) (e : CmdE) : (s.keep e).dev = s.dev := rfl
@[simp] theorem State.keep_pages (s : State) (e : CmdE) : (s.keep e).pages = s.pages := rfl
@[simp] theorem State.keep_parts (s : State) (e : CmdE) : (s.keep e).parts = s.parts := rfl
@[simp] theorem State.keep_nextTag (s : State) (e : CmdE) : (s.keep e).nextTag = s.nextTag := rfl
@[simp] theorem State.keep_wheel (s : State) (e : CmdE) : (s.keep e).wheel = s.wheel := rfl
@[simp] theorem State.keep_heads (s : State) (e : CmdE) : (s.keep e).heads = s.heads := rfl
@[simp] theorem State.keep_headMode (s : State) (e : CmdE) : (s.keep e).headMode = s.headMode := rfl
@[simp] theorem State.keep_power (s : State) (e : CmdE) : (s.keep e).power = s.power := rfl
@[simp] theorem State.keep_flash (s : State) (e : CmdE) : (s.keep e).flash = s.flash := rfl
@[simp] theorem State.keep_sagger (s : State) (e : CmdE) : (s.keep e).sagger = s.sagger := rfl
@[simp] theorem State.keep_mgmt (s : State) (e : CmdE) : (s.keep e).mgmt = s.mgmt := rfl
@[simp] theorem State.keep_vocabs (s : State) (e : CmdE) : (s.keep e).vocabs = s.vocabs := rfl
@[simp] theorem State.keep_grammars (s : State) (e : CmdE) : (s.keep e).grammars = s.grammars := rfl
@[simp] theorem State.keep_sessions (s : State) (e : CmdE) : (s.keep e).sessions = s.sessions := rfl
@[simp] theorem State.keep_nextSess (s : State) (e : CmdE) : (s.keep e).nextSess = s.nextSess := rfl
@[simp] theorem State.keep_batches (s : State) (e : CmdE) : (s.keep e).batches = s.batches := rfl
@[simp] theorem State.keep_prevBatch (s : State) (e : CmdE) : (s.keep e).prevBatch = s.prevBatch := rfl
@[simp] theorem State.keep_nextBatch (s : State) (e : CmdE) : (s.keep e).nextBatch = s.nextBatch := rfl
@[simp] theorem State.keep_runs (s : State) (e : CmdE) : (s.keep e).runs = s.runs := rfl
@[simp] theorem State.keep_nextRun (s : State) (e : CmdE) : (s.keep e).nextRun = s.nextRun := rfl
@[simp] theorem State.keep_tasks (s : State) (e : CmdE) : (s.keep e).tasks = s.tasks := rfl
@[simp] theorem State.keep_nextTask (s : State) (e : CmdE) : (s.keep e).nextTask = s.nextTask := rfl
@[simp] theorem State.keep_chains (s : State) (e : CmdE) : (s.keep e).chains = s.chains := rfl
@[simp] theorem State.keep_tiles (s : State) (e : CmdE) : (s.keep e).tiles = s.tiles := rfl
@[simp] theorem State.keep_retired (s : State) (e : CmdE) : (s.keep e).retired = s.retired := rfl
@[simp] theorem State.keep_ceCount (s : State) (e : CmdE) : (s.keep e).ceCount = s.ceCount := rfl
@[simp] theorem State.keep_stackLost (s : State) (e : CmdE) : (s.keep e).stackLost = s.stackLost := rfl
@[simp] theorem State.keep_dieLost (s : State) (e : CmdE) : (s.keep e).dieLost = s.dieLost := rfl
@[simp] theorem State.keep_renob (s : State) (e : CmdE) : (s.keep e).renob = s.renob := rfl
@[simp] theorem State.keep_sramBad (s : State) (e : CmdE) : (s.keep e).sramBad = s.sramBad := rfl
@[simp] theorem State.keep_dctr (s : State) (e : CmdE) : (s.keep e).dctr = s.dctr := rfl
@[simp] theorem State.keep_stage (s : State) (e : CmdE) : (s.keep e).stage = s.stage := rfl
@[simp] theorem State.keep_ready (s : State) (e : CmdE) : (s.keep e).ready = s.ready := rfl
@[simp] theorem State.keep_degraded (s : State) (e : CmdE) : (s.keep e).degraded = s.degraded := rfl
@[simp] theorem State.keep_startFail (s : State) (e : CmdE) : (s.keep e).startFail = s.startFail := rfl
@[simp] theorem State.keep_recovery (s : State) (e : CmdE) : (s.keep e).recovery = s.recovery := rfl
@[simp] theorem State.keep_sldPart (s : State) (e : CmdE) : (s.keep e).sldPart = s.sldPart := rfl
@[simp] theorem State.keep_vectors (s : State) (e : CmdE) : (s.keep e).vectors = s.vectors := rfl
@[simp] theorem State.keep_vecDue (s : State) (e : CmdE) : (s.keep e).vecDue = s.vecDue := rfl
@[simp] theorem State.keep_reply (s : State) (e : CmdE) : (s.keep e).reply = s.reply := rfl
@[simp] theorem State.keep_fresh (s : State) (e : CmdE) : (s.keep e).fresh = s.fresh := rfl

/-! ## touch -/

@[simp] theorem State.touch_pending (s : State) (ks : List Nat) : (s.touch ks).pending = s.pending := rfl
@[simp] theorem State.touch_hostMem (s : State) (ks : List Nat) : (s.touch ks).hostMem = s.hostMem := rfl
@[simp] theorem State.touch_dev (s : State) (ks : List Nat) : (s.touch ks).dev = s.dev := rfl
@[simp] theorem State.touch_parts (s : State) (ks : List Nat) : (s.touch ks).parts = s.parts := rfl
@[simp] theorem State.touch_inflight (s : State) (ks : List Nat) : (s.touch ks).inflight = s.inflight := rfl
@[simp] theorem State.touch_nextTag (s : State) (ks : List Nat) : (s.touch ks).nextTag = s.nextTag := rfl
@[simp] theorem State.touch_wheel (s : State) (ks : List Nat) : (s.touch ks).wheel = s.wheel := rfl
@[simp] theorem State.touch_heads (s : State) (ks : List Nat) : (s.touch ks).heads = s.heads := rfl
@[simp] theorem State.touch_headMode (s : State) (ks : List Nat) : (s.touch ks).headMode = s.headMode := rfl
@[simp] theorem State.touch_power (s : State) (ks : List Nat) : (s.touch ks).power = s.power := rfl
@[simp] theorem State.touch_flash (s : State) (ks : List Nat) : (s.touch ks).flash = s.flash := rfl
@[simp] theorem State.touch_sagger (s : State) (ks : List Nat) : (s.touch ks).sagger = s.sagger := rfl
@[simp] theorem State.touch_mgmt (s : State) (ks : List Nat) : (s.touch ks).mgmt = s.mgmt := rfl
@[simp] theorem State.touch_vocabs (s : State) (ks : List Nat) : (s.touch ks).vocabs = s.vocabs := rfl
@[simp] theorem State.touch_grammars (s : State) (ks : List Nat) : (s.touch ks).grammars = s.grammars := rfl
@[simp] theorem State.touch_sessions (s : State) (ks : List Nat) : (s.touch ks).sessions = s.sessions := rfl
@[simp] theorem State.touch_nextSess (s : State) (ks : List Nat) : (s.touch ks).nextSess = s.nextSess := rfl
@[simp] theorem State.touch_batches (s : State) (ks : List Nat) : (s.touch ks).batches = s.batches := rfl
@[simp] theorem State.touch_prevBatch (s : State) (ks : List Nat) : (s.touch ks).prevBatch = s.prevBatch := rfl
@[simp] theorem State.touch_nextBatch (s : State) (ks : List Nat) : (s.touch ks).nextBatch = s.nextBatch := rfl
@[simp] theorem State.touch_runs (s : State) (ks : List Nat) : (s.touch ks).runs = s.runs := rfl
@[simp] theorem State.touch_nextRun (s : State) (ks : List Nat) : (s.touch ks).nextRun = s.nextRun := rfl
@[simp] theorem State.touch_tasks (s : State) (ks : List Nat) : (s.touch ks).tasks = s.tasks := rfl
@[simp] theorem State.touch_nextTask (s : State) (ks : List Nat) : (s.touch ks).nextTask = s.nextTask := rfl
@[simp] theorem State.touch_chains (s : State) (ks : List Nat) : (s.touch ks).chains = s.chains := rfl
@[simp] theorem State.touch_tiles (s : State) (ks : List Nat) : (s.touch ks).tiles = s.tiles := rfl
@[simp] theorem State.touch_retired (s : State) (ks : List Nat) : (s.touch ks).retired = s.retired := rfl
@[simp] theorem State.touch_ceCount (s : State) (ks : List Nat) : (s.touch ks).ceCount = s.ceCount := rfl
@[simp] theorem State.touch_stackLost (s : State) (ks : List Nat) : (s.touch ks).stackLost = s.stackLost := rfl
@[simp] theorem State.touch_dieLost (s : State) (ks : List Nat) : (s.touch ks).dieLost = s.dieLost := rfl
@[simp] theorem State.touch_renob (s : State) (ks : List Nat) : (s.touch ks).renob = s.renob := rfl
@[simp] theorem State.touch_sramBad (s : State) (ks : List Nat) : (s.touch ks).sramBad = s.sramBad := rfl
@[simp] theorem State.touch_dctr (s : State) (ks : List Nat) : (s.touch ks).dctr = s.dctr := rfl
@[simp] theorem State.touch_stage (s : State) (ks : List Nat) : (s.touch ks).stage = s.stage := rfl
@[simp] theorem State.touch_ready (s : State) (ks : List Nat) : (s.touch ks).ready = s.ready := rfl
@[simp] theorem State.touch_degraded (s : State) (ks : List Nat) : (s.touch ks).degraded = s.degraded := rfl
@[simp] theorem State.touch_startFail (s : State) (ks : List Nat) : (s.touch ks).startFail = s.startFail := rfl
@[simp] theorem State.touch_recovery (s : State) (ks : List Nat) : (s.touch ks).recovery = s.recovery := rfl
@[simp] theorem State.touch_sldPart (s : State) (ks : List Nat) : (s.touch ks).sldPart = s.sldPart := rfl
@[simp] theorem State.touch_vectors (s : State) (ks : List Nat) : (s.touch ks).vectors = s.vectors := rfl
@[simp] theorem State.touch_vecDue (s : State) (ks : List Nat) : (s.touch ks).vecDue = s.vecDue := rfl
@[simp] theorem State.touch_reply (s : State) (ks : List Nat) : (s.touch ks).reply = s.reply := rfl
@[simp] theorem State.touch_fresh (s : State) (ks : List Nat) : (s.touch ks).fresh = s.fresh := rfl

end Sys2Proof.Machine
end

