-- ==== Sys2Proof/Laws/Frame.lean ====
section
/-! SUPPORT. What the shared operations can do, said once: the log and the cone change the management state, a completion one
host slot, its queue and the vectors due, a command done its own entry; and all of them keep the memories in canonical form. -/

namespace Sys2Proof.Machine

/-! ## The log, vectors, the cone -/

/-- A log record changes the management state alone. -/
theorem State.log_eq (s : State) (cls ev part source : Nat) (payload : List Byte) :
    ∃ m, s.log cls ev part source payload = { s with mgmt := m } := by
  simp only [State.log]; split_ifs <;> exact ⟨_, rfl⟩

/-- A log record with an event changes the management state alone. -/
theorem State.logEv_eq (s : State) (cls ev part source x y : Nat) :
    ∃ m, s.logEv cls ev part source x y = { s with mgmt := m } := State.log_eq ..

/-- A FAULT record changes the management state and the count of free values alone. -/
theorem State.logFault_eq (s : State) (kind domain tile part outcome seq addr detail : Nat) :
    ∃ m f, s.logFault kind domain tile part outcome seq addr detail = { s with mgmt := m, fresh := f } := by
  simp only [State.logFault]
  split_ifs
  · exact (State.log_eq _ _ _ _ _ _).imp fun m h => ⟨s.fresh + 1, by rw [h]; rfl⟩
  · exact (State.log_eq _ _ _ _ _ _).imp fun m h => ⟨s.fresh, h⟩

/-- A trigger of the cone changes the management state alone. -/
theorem State.trigger_eq (s : State) (src w : Nat) : ∃ m, s.trigger src w = { s with mgmt := m } := by
  simp only [State.trigger]; split_ifs <;> exact ⟨_, rfl⟩

/-- The matcher changes the management state alone. -/
theorem State.matcher_eq (s : State) (p status : Nat) : ∃ m, s.matcher p status = { s with mgmt := m } := by
  unfold State.matcher; split_ifs
  · exact State.trigger_eq ..
  · exact ⟨_, rfl⟩

/-- A vector raised changes the raised vectors alone. -/
theorem State.raise_eq (s : State) (p v : Nat) : ∃ l, s.raise p v = { s with vectors := l } := by
  unfold State.raise; split_ifs <;> exact ⟨_, rfl⟩

/-- A vector due changes the vectors due alone. -/
theorem State.due_eq (s : State) (p v : Nat) : ∃ l, s.due p v = { s with vecDue := l } := by
  unfold State.due; split_ifs <;> exact ⟨_, rfl⟩

/-- A platform event changes the management state alone. -/
theorem State.platformEvent_eq (s : State) (id : Nat) (v : Int) : ∃ m, s.platformEvent id v = { s with mgmt := m } := by
  unfold State.platformEvent; split_ifs <;> exact ⟨_, rfl⟩

/-! ## Completions -/

/-- Bytes put in host memory change nothing else. -/
theorem State.hostPut_eq (s : State) (a : Nat) (bs : List Byte) :
    ∃ hm, s.hostPut a bs = { s with hostMem := hm } ∧ hm = s.hostMem.writeN a bs := ⟨_, rfl, rfl⟩

/-- A queue changed changes the partitions alone. -/
theorem State.modQueue_eq (s : State) (p q : Nat) (f : Queue → Queue) : ∃ ps, s.modQueue p q f = { s with parts := ps } :=
  ⟨_, rfl⟩

/-- A completion entry written changes its slot of host memory and the partitions alone. -/
theorem State.cplWrite_eq (s : State) (e : CmdE) (stage : Option Nat) (status result : Nat) :
    ∃ hm ps, s.cplWrite e stage status result = { s with hostMem := hm, parts := ps } ∧
      hm = s.hostMem.writeN (s.queue e.part e.queue).cplSlot (cplBytes e (s.queue e.part e.queue) stage status result s.turn) := by
  obtain ⟨m, h, hm⟩ := State.hostPut_eq s (s.queue e.part e.queue).cplSlot
    (cplBytes e (s.queue e.part e.queue) stage status result s.turn)
  unfold State.cplWrite
  rw [h]
  obtain ⟨ps, hp⟩ := State.modQueue_eq { s with hostMem := m } e.part e.queue Queue.cplNext
  exact ⟨m, ps, hp, hm⟩

/-- A completion changes host memory, the partitions, the vectors due and the management state alone; of host memory at most the
32 bytes of its queue's next slot. -/
theorem State.post_eq (s : State) (e : CmdE) (stage : Option Nat) (status result : Nat) :
    ∃ hm ps vd m, s.post e stage status result = { s with hostMem := hm, parts := ps, vecDue := vd, mgmt := m } ∧
      (hm = s.hostMem ∨ hm = s.hostMem.writeN (s.queue e.part e.queue).cplSlot
        (cplBytes e (s.queue e.part e.queue) stage status result s.turn)) := by
  unfold State.post
  split_ifs
  · exact ⟨_, _, _, _, rfl, .inl rfl⟩
  · exact ⟨_, _, _, _, rfl, .inl rfl⟩
  · obtain ⟨m, hm⟩ := State.matcher_eq (((s.cplWrite e stage status result).count e.part Ctr.cplPosted 1).due e.part
      (s.queue e.part e.queue).vector) e.part status
    obtain ⟨d, hd⟩ := State.due_eq ((s.cplWrite e stage status result).count e.part Ctr.cplPosted 1) e.part
      (s.queue e.part e.queue).vector
    obtain ⟨h, ps, hp, hw⟩ := State.cplWrite_eq s e stage status result
    rw [hm, hd, hp]
    exact ⟨h, _, d, m, rfl, .inr hw⟩

/-- A command done changes host memory, the partitions, the vectors due, the management state and its own entry alone; of host
memory at most the 32 bytes of its queue's next slot. -/
theorem State.done_eq (s : State) (e : CmdE) (status result : Nat) :
    ∃ hm ps vd m, s.done e status result = { s with
        hostMem := hm, parts := ps, vecDue := vd, mgmt := m, inflight := s.inflight.filter (fun c => c.tag ≠ e.tag) } ∧
      (hm = s.hostMem ∨ hm = s.hostMem.writeN (s.queue e.part e.queue).cplSlot
        (cplBytes e (s.queue e.part e.queue) none status result s.turn)) := by
  unfold State.done
  obtain ⟨hm, ps, vd, m, h, h'⟩ := State.post_eq s e none status result
  rw [h]
  dsimp only
  split_ifs
  · exact ⟨_, _, _, _, rfl, .inl rfl⟩
  · exact ⟨_, _, _, _, rfl, h'⟩

/-- A command rejected changes what a command done does. -/
theorem State.reject_eq (s : State) (e : CmdE) (status : Nat) :
    ∃ hm ps vd m, s.reject e status = { s with
        hostMem := hm, parts := ps, vecDue := vd, mgmt := m, inflight := s.inflight.filter (fun c => c.tag ≠ e.tag) } := by
  obtain ⟨hm, ps, vd, m, h, -⟩ := State.done_eq (s.count e.part Ctr.cmdRejected 1) e status 0
  exact ⟨hm, ps, vd, m, h⟩

@[simp] theorem State.done_dev (s : State) (e : CmdE) (status result : Nat) : (s.done e status result).dev = s.dev := by
  obtain ⟨_, _, _, _, h, -⟩ := State.done_eq s e status result
  rw [h]
@[simp] theorem State.done_pages (s : State) (e : CmdE) (status result : Nat) : (s.done e status result).pages = s.pages := by
  obtain ⟨_, _, _, _, h, -⟩ := State.done_eq s e status result
  rw [h]
@[simp] theorem State.done_sessions (s : State) (e : CmdE) (status result : Nat) :
    (s.done e status result).sessions = s.sessions := by
  obtain ⟨_, _, _, _, h, -⟩ := State.done_eq s e status result
  rw [h]
@[simp] theorem State.done_wheel (s : State) (e : CmdE) (status result : Nat) : (s.done e status result).wheel = s.wheel := by
  obtain ⟨_, _, _, _, h, -⟩ := State.done_eq s e status result
  rw [h]
@[simp] theorem State.done_inflight (s : State) (e : CmdE) (status result : Nat) :
    (s.done e status result).inflight = s.inflight.filter (fun c => c.tag ≠ e.tag) := by
  obtain ⟨_, _, _, _, h, -⟩ := State.done_eq s e status result
  rw [h]
@[simp] theorem State.reject_dev (s : State) (e : CmdE) (status : Nat) : (s.reject e status).dev = s.dev := by
  obtain ⟨_, _, _, _, h⟩ := State.reject_eq s e status
  rw [h]
@[simp] theorem State.reject_pages (s : State) (e : CmdE) (status : Nat) : (s.reject e status).pages = s.pages := by
  obtain ⟨_, _, _, _, h⟩ := State.reject_eq s e status
  rw [h]
@[simp] theorem State.reject_sessions (s : State) (e : CmdE) (status : Nat) : (s.reject e status).sessions = s.sessions := by
  obtain ⟨_, _, _, _, h⟩ := State.reject_eq s e status
  rw [h]

/-! ## Checks -/

/-- Checks that all pass find no status. -/
theorem firstBad_none {l : List (Bool × Nat)} (h : ∀ x ∈ l, x.1 = false) : firstBad l = none := by
  induction l with
  | nil => rfl
  | cons x t ih =>
    obtain ⟨b, c⟩ := x
    have hb : b = false := h (b, c) (by simp)
    subst hb
    exact ih (fun y hy => h y (by simp [hy]))

/-! ## Pages read -/

/-- A fold of counts changes the partitions only. -/
theorem State.count_foldl_eq {α : Type} (p c : α → Nat) (l : List α) (s : State) :
    ∃ ps, l.foldl (fun (a : State) x => a.count (p x) (c x) 1) s = { s with parts := ps } := by
  induction l generalizing s with
  | nil => exact ⟨s.parts, rfl⟩
  | cons x t ih =>
    obtain ⟨ps, h⟩ := ih (s.count (p x) (c x) 1)
    exact ⟨ps, by rw [List.foldl_cons, h]; rfl⟩

/-- Pages read: their AGE is set, and counters of partitions may rise (08_memory_tiers R250, R276, R277). -/
theorem State.readPages_eq (s : State) (p : Nat) (ks : List Nat) : ∃ ps, s.readPages p ks = { s.touch ks with parts := ps } := by
  unfold State.readPages
  dsimp only
  split
  · exact ⟨s.parts, rfl⟩
  · obtain ⟨ps, h⟩ := State.count_foldl_eq (fun (e : Nat × Page) => e.2.owner) (fun _ => Ctr.parityReconPages)
      (s.pages.filter (fun e => ks.contains e.1 && e.2.rebuild)) (s.touch ks)
    rw [h]
    exact ⟨_, rfl⟩

/-- Where no page read waits for its rebuild, a read only sets AGE. -/
theorem State.readPages_whole {s : State} {ks : List Nat} (p : Nat)
    (h : s.pages.filter (fun e => ks.contains e.1 && e.2.rebuild) = []) : s.readPages p ks = s.touch ks := by
  unfold State.readPages; dsimp only; rw [h]; rfl

@[simp] theorem State.readPages_dev (s : State) (p : Nat) (ks : List Nat) : (s.readPages p ks).dev = s.dev := by
  obtain ⟨ps, h⟩ := s.readPages_eq p ks; rw [h]; rfl

@[simp] theorem State.readPages_hostMem (s : State) (p : Nat) (ks : List Nat) : (s.readPages p ks).hostMem = s.hostMem := by
  obtain ⟨ps, h⟩ := s.readPages_eq p ks; rw [h]; rfl

/-- A demand is none exactly where no page is in tier T2 (08_memory_tiers R259). -/
theorem State.demand_eq_none {s : State} {b : Nat} {ks : List Nat} : s.demand b ks = none ↔ s.inT2 ks = [] := by
  unfold State.demand; split <;> simp_all

/-- A command is held exactly where a page of its own is in tier T2 (08_memory_tiers R268). -/
theorem State.hold_eq_none {s : State} {e : CmdE} {ks : List Nat} : s.hold e ks = none ↔ s.inT2 ks = [] := by
  unfold State.hold; rw [Option.map_eq_none_iff, State.demand_eq_none]

/-! ## Canonical form -/

/-- The canonical form is that of the two memories. -/
theorem State.canonical_congr {s t : State} (h : s.canonical) (hm : t.hostMem = s.hostMem) (hd : t.dev = s.dev) : t.canonical := by
  unfold State.canonical at *; rw [hm, hd]; exact h

/-- A completion keeps the form. -/
theorem State.canonical_post {s : State} (h : s.canonical) (e : CmdE) (stage : Option Nat) (status result : Nat) :
    (s.post e stage status result).canonical := by
  obtain ⟨hm, ps, vd, m, h1, h2⟩ := State.post_eq s e stage status result
  have h3 : hm.wf = true := by
    rcases h2 with h2 | h2
    · rw [h2]; exact h.1
    · rw [h2]; exact Mem.writeN_wf h.1 _ _
  rw [h1]
  exact ⟨h3, h.2⟩

/-- A command done keeps the form. -/
theorem State.canonical_done {s : State} (h : s.canonical) (e : CmdE) (status result : Nat) :
    (s.done e status result).canonical := by
  obtain ⟨hm, ps, vd, m, h1, h2⟩ := State.done_eq s e status result
  have h3 : hm.wf = true := by
    rcases h2 with h2 | h2
    · rw [h2]; exact h.1
    · rw [h2]; exact Mem.writeN_wf h.1 _ _
  rw [h1]
  exact ⟨h3, h.2⟩

/-- A command rejected keeps the form. -/
theorem State.canonical_reject {s : State} (h : s.canonical) (e : CmdE) (status : Nat) : (s.reject e status).canonical :=
  State.canonical_done (s := s.count e.part Ctr.cmdRejected 1) (State.canonical_congr h rfl rfl) _ _ _

/-- Bytes written by DUA keep the form. -/
theorem State.canonical_devPut {s : State} (h : s.canonical) (a : Nat) (bs : List Byte) : (s.devPut a bs).canonical :=
  ⟨h.1, Mem.writeN_wf h.2 _ _⟩

/-- A buffer read keeps the form. -/
theorem State.canonical_readBuf {s t : State} (h : s.canonical) {p : Nat} {dua : Bool} {a n : Nat} {bs : List Byte}
    (hr : s.readBuf p dua a n = .ok (bs, t)) : t.canonical := by
  unfold State.readBuf at hr
  split_ifs at hr <;> simp only [Except.ok.injEq, Prod.mk.injEq] at hr <;> obtain ⟨-, rfl⟩ := hr
  · exact State.canonical_congr h (State.readPages_hostMem s p _) (State.readPages_dev s p _)
  · exact h

/-- A buffer written keeps the form. -/
theorem State.canonical_writeBuf {s t : State} (h : s.canonical) {p : Nat} {dua : Bool} {a : Nat} {bs : List Byte}
    (hr : s.writeBuf p dua a bs = .ok t) : t.canonical := by
  unfold State.writeBuf at hr
  split_ifs at hr <;> simp only [Except.ok.injEq] at hr <;> subst hr
  · exact State.canonical_devPut h a bs
  · exact ⟨Mem.writeN_wf h.1 _ _, h.2⟩

/-- What layout S names, read, keeps the form. -/
theorem State.canonical_source {s t : State} (h : s.canonical) {p : Nat} {a : SArgs} {bs : List Byte}
    (hr : s.source p a = .ok (bs, t)) : t.canonical := by
  unfold State.source at hr
  split at hr
  · exact State.canonical_readBuf h hr
  · exact State.canonical_readBuf h hr
  · split_ifs at hr
    simp only [Except.ok.injEq, Prod.mk.injEq] at hr
    exact hr.2 ▸ h
  · simp at hr

/-- A query's answer keeps the form. -/
theorem State.canonical_answer {s : State} (h : s.canonical) (e : CmdE) (a : QArgs) (items : List (List Byte)) :
    (s.answer e a items).canonical := by
  simp only [State.answer]
  split_ifs
  · exact State.canonical_done (s := s.count e.part Ctr.cmdRejected 1) (State.canonical_congr h rfl rfl) _ _ _
  · split
    · exact State.canonical_reject h _ _
    · next hw => exact State.canonical_done (State.canonical_writeBuf h hw) _ _ _

/-- Checks keep the form where the effect does. -/
theorem State.canonical_checked {s : State} (h : s.canonical) (e : CmdE) (cs : List (Bool × Nat)) {f : Unit → State}
    (hf : (f ()).canonical) : (s.checked e cs f).canonical := by
  unfold State.checked
  split
  · exact State.canonical_reject h _ _
  · exact hf

/-- A row that names a fetched command keeps the form where the command's effect does. -/
theorem State.canonical_command {s t : State} (h : s.canonical) {r : Ref} {opc : Nat} {same : CmdE → Bool}
    {f : State → CmdE → State} (hf : ∀ u e, u.canonical → (f u e).canonical) (hr : s.command r opc same f = .next t) :
    t.canonical := by
  unfold State.command at hr
  split at hr
  · cases hr; exact h
  · dsimp only at hr
    split_ifs at hr <;> cases hr
    · exact h
    · exact hf _ _ h
    · exact hf _ _ (State.canonical_congr h rfl rfl)
    · exact State.canonical_congr h rfl rfl
    · exact hf _ _ h

/-- A change of state repeated over a list keeps the form where each does. -/
theorem State.canonical_foldl {α : Type} {f : State → α → State} (hf : ∀ s x, s.canonical → (f s x).canonical) (l : List α)
    {s : State} (h : s.canonical) : (l.foldl f s).canonical := by
  induction l generalizing s with
  | nil => exact h
  | cons x t ih => exact ih (hf s x h)

end Sys2Proof.Machine
end

