-- ==== Sys2Proof/Laws/Maps.lean ====
section
/-! SUPPORT. Maps by number: what `find` answers after each change, for every list, its keys in order or not. -/

namespace Sys2Proof

@[simp] theorem KMap.find_nil {α : Type} (k : Nat) : KMap.find ([] : KMap α) k = none := rfl

/-- A key put reads as what was put. -/
@[simp] theorem KMap.find_put_same {α : Type} (m : KMap α) (k : Nat) (v : α) : KMap.find (KMap.put m k v) k = some v := by
  induction m with
  | nil => simp [KMap.put, KMap.find]
  | cons e t ih =>
    obtain ⟨j, w⟩ := e
    simp only [KMap.put]
    split_ifs with h1 h2
    · simp [KMap.find]
    · simp [KMap.find]
    · rw [KMap.find, if_neg (Ne.symm h2), ih]

/-- A key put leaves every other key alone. -/
theorem KMap.find_put_other {α : Type} (m : KMap α) {k j : Nat} (v : α) (h : j ≠ k) :
    KMap.find (KMap.put m k v) j = KMap.find m j := by
  induction m with
  | nil => simp [KMap.put, KMap.find, Ne.symm h]
  | cons e t ih =>
    obtain ⟨i, w⟩ := e
    simp only [KMap.put]
    split_ifs with h1 h2
    · rw [KMap.find, if_neg (Ne.symm h)]
    · subst h2; rw [KMap.find, if_neg (Ne.symm h), KMap.find, if_neg (Ne.symm h)]
    · rw [KMap.find, KMap.find, ih]

/-- A key deleted is not listed. -/
@[simp] theorem KMap.find_del_same {α : Type} (m : KMap α) (k : Nat) : KMap.find (KMap.del m k) k = none := by
  induction m with
  | nil => rfl
  | cons e t ih =>
    obtain ⟨j, w⟩ := e
    by_cases h : j = k
    · simpa [KMap.del, List.filter_cons, h] using ih
    · simpa [KMap.del, List.filter_cons, h, KMap.find] using ih

/-- A key deleted leaves every other key alone. -/
theorem KMap.find_del_other {α : Type} (m : KMap α) {k j : Nat} (h : j ≠ k) :
    KMap.find (KMap.del m k) j = KMap.find m j := by
  induction m with
  | nil => rfl
  | cons e t ih =>
    obtain ⟨i, w⟩ := e
    by_cases hi : i = k
    · subst hi
      rw [KMap.find, if_neg (Ne.symm h)]
      simpa [KMap.del, List.filter_cons] using ih
    · have hd : KMap.del ((i, w) :: t) k = (i, w) :: KMap.del t k := by simp [KMap.del, List.filter_cons, hi]
      rw [hd, KMap.find, KMap.find, ih]

/-- A value changed in place. -/
@[simp] theorem KMap.find_mod_same {α : Type} (m : KMap α) (k : Nat) (f : α → α) :
    KMap.find (KMap.mod m k f) k = (KMap.find m k).map f := by
  induction m with
  | nil => rfl
  | cons e t ih =>
    obtain ⟨j, w⟩ := e
    by_cases h : j = k
    · simp [KMap.mod, KMap.find, h]
    · simpa [KMap.mod, KMap.find, h] using ih

/-- A value changed in place leaves every other key alone. -/
theorem KMap.find_mod_other {α : Type} (m : KMap α) {k j : Nat} (f : α → α) (h : j ≠ k) :
    KMap.find (KMap.mod m k f) j = KMap.find m j := by
  induction m with
  | nil => rfl
  | cons e t ih =>
    obtain ⟨i, w⟩ := e
    by_cases hi : i = k
    · subst hi
      simpa [KMap.mod, KMap.find, Ne.symm h] using ih
    · by_cases hj : i = j
      · simp [KMap.mod, KMap.find, hi, hj, h]
      · simpa [KMap.mod, KMap.find, hi, hj] using ih

/-- Every value changed. -/
theorem KMap.find_each {α : Type} (m : KMap α) (f : Nat → α → α) (k : Nat) :
    KMap.find (KMap.each m f) k = (KMap.find m k).map (f k) := by
  induction m with
  | nil => rfl
  | cons e t ih =>
    obtain ⟨j, w⟩ := e
    by_cases h : j = k
    · subst h; simp [KMap.each, KMap.find]
    · simpa [KMap.each, KMap.find, h] using ih

/-- A free key is below its bound and not listed. -/
theorem KMap.free_some {α : Type} {m : KMap α} {n k : Nat} (h : KMap.free m n = some k) : k < n ∧ KMap.find m k = none := by
  have h1 := List.mem_of_find?_eq_some h
  have h2 := List.find?_some h
  exact ⟨List.mem_range.1 h1, Option.isNone_iff_eq_none.1 h2⟩

end Sys2Proof
end

