-- ==== Sys2Proof/Laws/Parts.lean ====
section
/-! SUPPORT. What a change of one partition keeps of every partition: a field that the change leaves alone, the state of a queue that
is not the one changed; and, from these, what a count and a command done keep. -/

namespace Sys2Proof.Machine

/-- What a change of a partition leaves alone, every partition keeps. -/
theorem State.modPart_keeps {α : Type} (π : Part → α) {f : Part → Part} (hf : ∀ v, π (f v) = π v) (s : State) (p q : Nat) :
    π ((s.modPart p f).part q) = π (s.part q) := by
  simp only [State.part, State.modPart, KMap.findD]
  by_cases h : q = p
  · subst h
    rw [KMap.find_mod_same]
    cases KMap.find s.parts q <;> simp [hf]
  · rw [KMap.find_mod_other _ _ h]

/-- A partition changed, where there is one. -/
theorem State.modPart_same {f : Part → Part} {s : State} {p : Nat} (h : (KMap.find s.parts p).isSome = true) :
    (s.modPart p f).part p = f (s.part p) := by
  obtain ⟨v, hv⟩ := Option.isSome_iff_exists.mp h
  simp [State.part, State.modPart, KMap.findD, hv]

/-- A queue changed, where there is one. -/
theorem State.modQueue_same {f : Queue → Queue} {s : State} {p q : Nat} (h : (KMap.find s.parts p).isSome = true)
    (hq : (KMap.find (s.part p).queues q).isSome = true) : (s.modQueue p q f).queue p q = f (s.queue p q) := by
  obtain ⟨k, hk⟩ := Option.isSome_iff_exists.mp hq
  simp only [State.queue, State.modQueue, State.modPart_same h, KMap.findD, KMap.find_mod_same, hk, Option.map_some, Option.getD_some]

/-- What a change of a queue leaves alone, every queue keeps. -/
theorem State.modQueue_keeps {α : Type} (π : Queue → α) {f : Queue → Queue} (hf : ∀ k, π (f k) = π k) (s : State) (p q p' q' : Nat) :
    π ((s.modQueue p q f).queue p' q') = π (s.queue p' q') := by
  refine State.modPart_keeps (fun v => π (KMap.findD v.queues q' {})) (fun v => ?_) s p p'
  simp only [KMap.findD]
  by_cases h : q' = q
  · subst h
    rw [KMap.find_mod_same]
    cases KMap.find v.queues q' <;> simp [hf]
  · rw [KMap.find_mod_other _ _ h]

/-- A queue changed keeps of a partition what is no queue. -/
theorem State.modQueue_part {α : Type} (π : Part → α) (hq : ∀ (v : Part) l, π { v with queues := l } = π v) (s : State) (p q : Nat)
    (f : Queue → Queue) (p' : Nat) : π ((s.modQueue p q f).part p') = π (s.part p') := by
  unfold State.modQueue
  exact State.modPart_keeps π (fun v => hq v _) s p p'

/-- A count keeps what is not a counter. -/
theorem State.count_keeps {α : Type} (π : Part → α) (hπ : ∀ (v : Part) c, π { v with ctr := c } = π v) (s : State) (p c n q : Nat) :
    π ((s.count p c n).part q) = π (s.part q) := State.modPart_keeps π (fun v => hπ v _) s p q

/-- The response matcher and a vector that falls due change no partition. -/
@[simp] theorem State.matcher_part (s : State) (p status q : Nat) : (s.matcher p status).part q = s.part q := by
  obtain ⟨m, h⟩ := State.matcher_eq s p status
  simp only [State.part, congrArg State.parts h]

@[simp] theorem State.due_part (s : State) (p v q : Nat) : (s.due p v).part q = s.part q := by
  obtain ⟨d, h⟩ := State.due_eq s p v
  simp only [State.part, congrArg State.parts h]

/-- Bytes of host memory written change no partition. -/
@[simp] theorem State.hostPut_part (s : State) (a : Nat) (bs : List Byte) (q : Nat) : (s.hostPut a bs).part q = s.part q := by
  simp only [State.part, State.hostPut]

/-- A completion entry written keeps of a partition what is no queue, and of a queue what is neither its tail nor its phase. -/
theorem State.cplWrite_part {α : Type} (π : Part → α) (hq : ∀ (v : Part) l, π { v with queues := l } = π v) (s : State) (e : CmdE)
    (stage : Option Nat) (status result q : Nat) : π ((s.cplWrite e stage status result).part q) = π (s.part q) := by
  unfold State.cplWrite
  rw [State.modQueue_part π hq, State.hostPut_part]

theorem State.cplWrite_queue {α : Type} (π : Queue → α) (h : ∀ k : Queue, π k.cplNext = π k) (s : State) (e : CmdE)
    (stage : Option Nat) (status result p q : Nat) : π ((s.cplWrite e stage status result).queue p q) = π (s.queue p q) := by
  unfold State.cplWrite
  rw [State.modQueue_keeps π h]
  simp only [State.queue, State.hostPut_part]

/-- A completion posted keeps of a partition what is neither a queue nor a counter. -/
theorem State.post_keeps {α : Type} (π : Part → α) (hc : ∀ (v : Part) c, π { v with ctr := c } = π v)
    (hq : ∀ (v : Part) l, π { v with queues := l } = π v) (s : State) (e : CmdE) (stage : Option Nat) (status result q : Nat) :
    π ((s.post e stage status result).part q) = π (s.part q) := by
  unfold State.post
  split_ifs
  · rfl
  · exact State.count_keeps π hc s _ _ _ q
  · rw [State.matcher_part, State.due_part]
    exact (State.count_keeps π hc (s.cplWrite e stage status result) _ _ _ q).trans (State.cplWrite_part π hq s e stage status result q)

/-- A command done keeps of a partition what is neither a queue nor a counter. -/
theorem State.done_keeps {α : Type} (π : Part → α) (hc : ∀ (v : Part) c, π { v with ctr := c } = π v)
    (hq : ∀ (v : Part) l, π { v with queues := l } = π v) (s : State) (e : CmdE) (status result q : Nat) :
    π ((s.done e status result).part q) = π (s.part q) := by
  have key : ∀ (t : State) l f, π ((State.modQueue { t with inflight := l } e.part e.queue f).part q) = π (t.part q) :=
    fun t l f => State.modQueue_part π hq { t with inflight := l } e.part e.queue f q
  rw [State.done]
  split_ifs
  · exact key s _ _
  · exact (key _ _ _).trans (State.post_keeps π hc hq s e none status result q)

/-- A completion posted keeps of a queue what is neither its tail nor its phase. -/
theorem State.post_queue_keeps {α : Type} (π : Queue → α) (h : ∀ k : Queue, π k.cplNext = π k) (s : State) (e : CmdE)
    (stage : Option Nat) (status result p q : Nat) : π ((s.post e stage status result).queue p q) = π (s.queue p q) := by
  have cnt : ∀ (t : State) (x c n : Nat), (t.count x c n).queue p q = t.queue p q := fun t x c n =>
    State.count_keeps (fun v => KMap.findD v.queues q {}) (fun _ _ => rfl) t x c n p
  unfold State.post
  split_ifs
  · rfl
  · rw [cnt]
  · have same : ∀ (t u : State), u.part p = t.part p → u.queue p q = t.queue p q := fun _ _ h => by simp only [State.queue, h]
    rw [same _ _ (State.matcher_part _ _ _ _), same _ _ (State.due_part _ _ _ _), cnt]
    exact State.cplWrite_queue π h s e stage status result p q

/-- A command done keeps the state of every queue. -/
@[simp] theorem State.done_queue_state (s : State) (e : CmdE) (status result p q : Nat) :
    ((s.done e status result).queue p q).state = (s.queue p q).state := by
  have key : ∀ (t : State) l n, ((State.modQueue { t with inflight := l } e.part e.queue (fun v => { v with
      reserved := v.reserved - n })).queue p q).state = (t.queue p q).state :=
    fun t l n => State.modQueue_keeps Queue.state (f := fun v => { v with reserved := v.reserved - n }) (fun _ => rfl)
      { t with inflight := l } e.part e.queue p q
  rw [State.done]
  split_ifs
  · exact key s _ _
  · exact (key _ _ _).trans (State.post_queue_keeps Queue.state (fun _ => rfl) s e none status result p q)

@[simp] theorem State.done_images (s : State) (e : CmdE) (status result q : Nat) :
    ((s.done e status result).part q).images = (s.part q).images :=
  State.done_keeps Part.images (fun _ _ => rfl) (fun _ _ => rfl) s e status result q

@[simp] theorem State.done_tables (s : State) (e : CmdE) (status result q : Nat) :
    ((s.done e status result).part q).tables = (s.part q).tables :=
  State.done_keeps Part.tables (fun _ _ => rfl) (fun _ _ => rfl) s e status result q

@[simp] theorem State.done_indexes (s : State) (e : CmdE) (status result q : Nat) :
    ((s.done e status result).part q).indexes = (s.part q).indexes :=
  State.done_keeps Part.indexes (fun _ _ => rfl) (fun _ _ => rfl) s e status result q

end Sys2Proof.Machine
end

