-- ==== Sys2Proof/WellFormed.lean ====
section
/-! DEFINITION. Which commands are well formed: each operand fits the field or the range the spec gives it (18_queues R583 to
R589, 16_scheduling R508, 17_host_link R539, 04_tile R98, 08_memory_tiers R244). -/

namespace Sys2Proof

/-- A command reference names a partition, a queue and a 16-bit CID (18_queues R561, R565). -/
def Ref.wf (r : Ref) : Bool := decide (r.part < 16 ∧ r.queue < 64 ∧ r.cid < 2 ^ 16)

/-- Each field of HArgs fits its bits. -/
def HArgs.wf (a : HArgs) : Bool := decide (
  a.handle < 2 ^ 32)

/-- Each field of QArgs fits its bits. -/
def QArgs.wf (a : QArgs) : Bool := decide (
  a.handle < 2 ^ 32 ∧ a.qflags < 2 ^ 8 ∧ a.outAddr < 2 ^ 64 ∧ a.outCap < 2 ^ 32)

/-- Each field of SArgs fits its bits. -/
def SArgs.wf (a : SArgs) : Bool := decide (
  a.src < 2 ^ 8 ∧ a.lflags < 2 ^ 8 ∧ a.arg16 < 2 ^ 16 ∧ a.arg32 < 2 ^ 32 ∧ a.addr < 2 ^ 64 ∧
    a.len < 2 ^ 64 ∧ a.extent < 2 ^ 64 ∧ a.arg64 < 2 ^ 64)

/-- Each field of MArgs fits its bits. -/
def MArgs.wf (a : MArgs) : Bool := decide (
  a.dua < 2 ^ 64 ∧ a.pages < 2 ^ 32 ∧ a.pgflags < 2 ^ 16 ∧ a.tier < 2 ^ 8 ∧ a.mflags < 2 ^ 8 ∧
    a.hostAddr < 2 ^ 64 ∧ a.winOff < 2 ^ 64)

/-- Each field of EArgs fits its bits. -/
def EArgs.wf (a : EArgs) : Bool := decide (
  a.extent < 2 ^ 64 ∧ a.offset < 2 ^ 64 ∧ a.len < 2 ^ 64 ∧ a.addr < 2 ^ 64 ∧ a.eflags < 2 ^ 8)

/-- Each field of ConeArgs fits its bits. -/
def ConeArgs.wf (a : ConeArgs) : Bool := decide (
  a.turn < 2 ^ 64 ∧ a.offset < 2 ^ 32 ∧ a.cancel < 2 ^ 8)

/-- Each field of LogArgs fits its bits. -/
def LogArgs.wf (a : LogArgs) : Bool := decide (
  a.first < 2 ^ 64 ∧ a.outAddr < 2 ^ 64 ∧ a.outCap < 2 ^ 32 ∧ a.dua < 2 ^ 8)

/-- Each field of IndexArgs fits its bits. -/
def IndexArgs.wf (a : IndexArgs) : Bool := decide (
  a.codeBits < 2 ^ 16 ∧ a.npartLog2 < 2 ^ 8 ∧ a.ixflags < 2 ^ 8 ∧ a.vocab < 2 ^ 16 ∧ a.blkPages < 2 ^ 16 ∧
    a.centAddr < 2 ^ 64 ∧ a.extent < 2 ^ 64 ∧ a.centOff < 2 ^ 64 ∧ a.blkOff < 2 ^ 64 ∧
    a.psgExtent < 2 ^ 64 ∧ a.pub < 2 ^ 48)

/-- Each field of InsertArgs fits its bits. -/
def InsertArgs.wf (a : InsertArgs) : Bool := decide (
  a.index < 2 ^ 16 ∧ a.cnt < 2 ^ 32 ∧ a.listAddr < 2 ^ 64 ∧ a.tokAddr < 2 ^ 64 ∧ a.lflags < 2 ^ 8)

/-- Each field of SearchArgs fits its bits. -/
def SearchArgs.wf (a : SearchArgs) : Bool := decide (
  a.index < 2 ^ 16 ∧ a.nprobe < 2 ^ 16 ∧ a.k < 2 ^ 16 ∧ a.ef < 2 ^ 16 ∧ a.qcnt < 2 ^ 16 ∧
    a.attrMask < 2 ^ 8 ∧ a.flags < 2 ^ 8 ∧ a.shardTag < 2 ^ 16 ∧ a.maxVisit < 2 ^ 32 ∧
    a.queryAddr < 2 ^ 64 ∧ a.outAddr < 2 ^ 64)

/-- Each field of WedgeArgs fits its bits. -/
def WedgeArgs.wf (a : WedgeArgs) : Bool := decide (
  a.index < 2 ^ 16 ∧ a.wflags < 2 ^ 8 ∧ a.partFirst < 2 ^ 32 ∧ a.partCnt < 2 ^ 32)

/-- Each field of ShardArgs fits its bits. -/
def ShardArgs.wf (a : ShardArgs) : Bool := decide (
  a.k < 2 ^ 32 ∧ a.dua < 2 ^ 8 ∧ a.inAddr < 2 ^ 64 ∧ a.inCnt < 2 ^ 32 ∧ a.inStride < 2 ^ 32 ∧
    a.outAddr < 2 ^ 64)

/-- Each field of RerankArgs fits its bits. -/
def RerankArgs.wf (a : RerankArgs) : Bool := decide (
  a.image < 2 ^ 16 ∧ a.index < 2 ^ 16 ∧ a.top < 2 ^ 16 ∧ a.pairLimit < 2 ^ 16 ∧ a.qtokAddr < 2 ^ 64 ∧
    a.qtokCnt < 2 ^ 32 ∧ a.dua < 2 ^ 8 ∧ a.inAddr < 2 ^ 64 ∧ a.outAddr < 2 ^ 64)

/-- Each field of PackArgs fits its bits. -/
def PackArgs.wf (a : PackArgs) : Bool := decide (
  a.template < 2 ^ 16 ∧ a.index < 2 ^ 16 ∧ a.budget < 2 ^ 32 ∧ a.qtokAddr < 2 ^ 64 ∧ a.qtokCnt < 2 ^ 32 ∧
    a.flags < 2 ^ 8 ∧ a.itemAddr < 2 ^ 64 ∧ a.rrAddr < 2 ^ 64 ∧ a.outAddr < 2 ^ 64)

/-- Each field of TableArgs fits its bits. -/
def TableArgs.wf (a : TableArgs) : Bool := decide (
  a.rows < 2 ^ 64 ∧ a.dim < 2 ^ 16 ∧ a.rfmt < 2 ^ 8 ∧ a.flags < 2 ^ 8)

/-- Each field of StageArgs fits its bits. -/
def StageArgs.wf (a : StageArgs) : Bool := decide (
  a.handle < 2 ^ 32 ∧ a.mode < 2 ^ 8)

/-- Each field of EmbedArgs fits its bits. -/
def EmbedArgs.wf (a : EmbedArgs) : Bool := decide (
  a.table < 2 ^ 16 ∧ a.mode < 2 ^ 8 ∧ a.flags < 2 ^ 8 ∧ a.bags < 2 ^ 32 ∧ a.idxAddr < 2 ^ 64 ∧
    a.n < 2 ^ 32 ∧ a.lr < 2 ^ 32 ∧ a.aux < 2 ^ 64 ∧ a.outAddr < 2 ^ 64 ∧ a.eps < 2 ^ 32 ∧ a.fmt < 2 ^ 8)

/-- Each field of TReadArgs fits its bits. -/
def TReadArgs.wf (a : TReadArgs) : Bool := decide (
  a.table < 2 ^ 16 ∧ a.dua < 2 ^ 8 ∧ a.first < 2 ^ 64 ∧ a.rows < 2 ^ 32 ∧ a.outAddr < 2 ^ 64)

/-- Each field of TextArgs fits its bits. -/
def TextArgs.wf (a : TextArgs) : Bool := decide (
  a.vocab < 2 ^ 16 ∧ a.policy < 2 ^ 8 ∧ a.tflags < 2 ^ 8 ∧ a.ctx < 2 ^ 16 ∧ a.inAddr < 2 ^ 64 ∧
    a.inLen < 2 ^ 32 ∧ a.outCap < 2 ^ 32 ∧ a.outAddr < 2 ^ 64)

/-- Each field of MaskArgs fits its bits. -/
def MaskArgs.wf (a : MaskArgs) : Bool := decide (
  a.grammar < 2 ^ 16 ∧ a.dua < 2 ^ 8 ∧ a.cnt < 2 ^ 32 ∧ a.inAddr < 2 ^ 64 ∧ a.outAddr < 2 ^ 64 ∧
    a.outCap < 2 ^ 32)

/-- Each field of GenArgs fits its bits. -/
def GenArgs.wf (a : GenArgs) : Bool := decide (
  a.session < 2 ^ 32 ∧ a.gflags < 2 ^ 8 ∧ a.policy < 2 ^ 8 ∧ a.inAddr < 2 ^ 64 ∧ a.inLen < 2 ^ 32 ∧
    a.maxNew < 2 ^ 32 ∧ a.firstDl < 2 ^ 16 ∧ a.endDl < 2 ^ 16)

/-- Each field of FeedArgs fits its bits. -/
def FeedArgs.wf (a : FeedArgs) : Bool := decide (
  a.session < 2 ^ 32 ∧ a.cnt < 2 ^ 32 ∧ a.pturn < 2 ^ 64 ∧ a.addr < 2 ^ 64 ∧ a.dua < 2 ^ 8)

/-- Each field of ClassArgs fits its bits. -/
def ClassArgs.wf (a : ClassArgs) : Bool := decide (
  a.cls < 2 ^ 8 ∧ a.weight < 2 ^ 16 ∧ a.quantum < 2 ^ 16 ∧ a.setQuantum < 2 ^ 8)

/-- Each field of ChainArgs fits its bits. -/
def ChainArgs.wf (a : ChainArgs) : Bool := decide (
  a.encImg < 2 ^ 16 ∧ a.qvocab < 2 ^ 16 ∧ a.index < 2 ^ 16 ∧ a.nprobe < 2 ^ 16 ∧ a.k < 2 ^ 16 ∧
    a.ef < 2 ^ 16 ∧ a.maxVisit < 2 ^ 32 ∧ a.attrMask < 2 ^ 8 ∧ a.chflags < 2 ^ 8 ∧ a.rrImg < 2 ^ 16 ∧
    a.rrCnt < 2 ^ 16 ∧ a.rrTop < 2 ^ 16 ∧ a.rrPairLimit < 2 ^ 16 ∧ a.template < 2 ^ 16 ∧
    a.budget < 2 ^ 32 ∧ a.session < 2 ^ 32 ∧ a.maxNew < 2 ^ 32 ∧ a.firstDl < 2 ^ 16 ∧ a.endDl < 2 ^ 16 ∧
    a.stageCpl < 2 ^ 8 ∧ a.policy < 2 ^ 8 ∧ a.queryAddr < 2 ^ 64 ∧ a.queryLen < 2 ^ 32)

/-- A template block: five lengths and token IDs of 32 bits (18_queues R589). -/
def TemplateArgs.wf (a : TemplateArgs) : Bool :=
  decide (a.vocab < 2 ^ 16 ∧ a.lens.length = 5) && a.lens.all (fun n => decide (n < 2 ^ 32)) &&
    a.toks.all (fun n => decide (n < 2 ^ 32))

/-- A session descriptor: its fields fit, eight stop lengths, eight stop strings of 64 bytes (13_serving R427). -/
def OpenArgs.wf (a : OpenArgs) : Bool := decide (
  a.streamQ < 2 ^ 8 ∧ a.model < 2 ^ 16 ∧ a.vocab < 2 ^ 16 ∧ a.grammar < 2 ^ 16 ∧ a.cls < 2 ^ 8 ∧ a.sflags < 2 ^ 8 ∧
  a.glaze < 2 ^ 32 ∧ a.maxCtx < 2 ^ 32 ∧ a.maxNew < 2 ^ 32 ∧ a.temp < 2 ^ 32 ∧ a.seed < 2 ^ 64 ∧ a.draft < 2 ^ 16 ∧
  a.specMax < 2 ^ 8 ∧ a.proposer < 2 ^ 8 ∧ a.stopCnt < 2 ^ 8 ∧ a.kvBlocks < 2 ^ 32 ∧ a.stopLen.length = 8 ∧
  a.stops.length = 8) && a.stopLen.all (fun n => decide (n < 2 ^ 8)) && a.stops.all (fun b => decide (b.length = 64))

/-- A memory that patrol scrub reads: a tile, or a frame of tier T0 or T1 on one of eight dies (21_reliability R632). -/
def Region.wf : Region → Bool
  | .tileWord t _ => decide (t < 1024)
  | .frame tier die _ => decide (tier < 2 ∧ die < 8)
  | .hubSram a => decide (a < 2 ^ 29)

/-- What a record is told names tiles, memories and a status that exist (04_tile R98; 18_queues R591). -/
def Issue.wf (x : Issue) : Bool :=
  (match x.strike with | none => true | some e => decide (e.1 < 1024)) &&
    (match x.dropped with | none => true | some t => decide (t < 1024)) &&
    x.corrected.all Region.wf && x.broken.all Region.wf && decide (x.gang < 2 ^ 16) && x.cycles.all (fun e => decide (e.1 < 1024))

/-- Training of a head: a rate of the table and at most 16 lanes (17_host_link R538, R539). -/
def TrainArgs.wf (a : TrainArgs) : Bool := decide (a.rate < 3 ∧ a.width ≤ 16 ∧ a.partner < 2 ^ 32 ∧ a.lanes.length ≤ 16)

/-- Is a command well formed? -/
def WellFormed : Instr → Bool
  | .identify r a => r.wf && a.wf
  | .queueReset r a => r.wf && a.wf
  | .counterQuery r a => r.wf && a.wf
  | .diagQuery r a => r.wf && a.wf
  | .coneProgram r a => r.wf && a.wf
  | .snapshotRead r a => r.wf && a.wf
  | .logRead r a => r.wf && a.wf
  | .powerSet r state => r.wf && decide (state < 2 ^ 8)
  | .timeSet r seconds => r.wf && decide (seconds < 2 ^ 48)
  | .linkQuery r a => r.wf && a.wf
  | .imageLoad r a => r.wf && a.wf
  | .imageUnload r a => r.wf && a.wf
  | .graphRun r image binds => r.wf && decide (image < 2 ^ 16) && binds.all (fun b => decide (b < 2 ^ 48))
  | .imageQuery r a => r.wf && a.wf
  | .indexCreate r a => r.wf && a.wf
  | .indexLoad r a => r.wf && a.wf
  | .indexDrop r a => r.wf && a.wf
  | .indexQuery r a => r.wf && a.wf
  | .insert r a => r.wf && a.wf
  | .delete r a => r.wf && a.wf
  | .search r a => r.wf && a.wf
  | .wedge r a => r.wf && a.wf
  | .shardMerge r a => r.wf && a.wf
  | .rerank r a _ => r.wf && a.wf
  | .pack r a => r.wf && a.wf
  | .templateLoad r a => r.wf && a.wf
  | .templateUnload r a => r.wf && a.wf
  | .tableCreate r a => r.wf && a.wf
  | .tableDrop r a => r.wf && a.wf
  | .tableStage r a => r.wf && a.wf
  | .tableWrite r a => r.wf && a.wf
  | .tablePublish r a => r.wf && a.wf
  | .tableDiscard r a => r.wf && a.wf
  | .embedLookup r a => r.wf && a.wf
  | .embedUpdate r a => r.wf && a.wf
  | .tableRead r a => r.wf && a.wf
  | .tableQuery r a => r.wf && a.wf
  | .vocabLoad r a => r.wf && a.wf
  | .vocabUnload r a => r.wf && a.wf
  | .vocabQuery r a => r.wf && a.wf
  | .tokenise r a => r.wf && a.wf
  | .detokenise r a => r.wf && a.wf
  | .grammarLoad r a => r.wf && a.wf
  | .grammarUnload r a => r.wf && a.wf
  | .grammarQuery r a => r.wf && a.wf
  | .grammarMask r a => r.wf && a.wf
  | .sessionOpen r a => r.wf && a.wf
  | .generate r a => r.wf && a.wf
  | .sessionCancel r a => r.wf && a.wf
  | .sessionClose r a => r.wf && a.wf
  | .sessionQuery r a => r.wf && a.wf
  | .glazeRegister r a => r.wf && a.wf
  | .glazeDeregister r a => r.wf && a.wf
  | .glazeQuery r a => r.wf && a.wf
  | .prefixFlush r => r.wf
  | .shadowFeed r a => r.wf && a.wf
  | .sessionPromote r a => r.wf && a.wf
  | .classSet r a => r.wf && a.wf
  | .chain r a => r.wf && a.wf
  | .pageAlloc r a => r.wf && a.wf
  | .pageFree r a => r.wf && a.wf
  | .pageMove r a => r.wf && a.wf
  | .pagePin r a => r.wf && a.wf
  | .pageUnpin r a => r.wf && a.wf
  | .hdmMap r a => r.wf && a.wf
  | .hdmUnmap r a => r.wf && a.wf
  | .pageWrite r a => r.wf && a.wf
  | .pageRead r a => r.wf && a.wf
  | .tierQuery r a => r.wf && a.wf
  | .poolStats r a => r.wf && a.wf
  | .extentCreate r a => r.wf && a.wf
  | .extentWrite r a => r.wf && a.wf
  | .extentRead r a => r.wf && a.wf
  | .extentDelete r a => r.wf && a.wf
  | .flashHealth r a => r.wf && a.wf
  | .sqTail part queue _ _ stores => decide (part < 16) && decide (queue < 64) && stores.all (fun c => decide (c.1 < 2 ^ 64))
  | .cqHead part queue _ _ => decide (part < 16) && decide (queue < 64)
  | .strHead part queue _ _ => decide (part < 16) && decide (queue < 64)
  | .descriptorFetch part queue => decide (part < 16) && decide (queue < 64)
  | .parameterBlockRead r => r.wf
  | .hostReadTimeout part queue cid => decide (part < 16) && decide (queue < 64) && cid.all (fun c => decide (c < 2 ^ 16))
  | .orderedStart r => r.wf
  | .registerWrite part offset _ _ => decide (part < 16) && decide (offset < 2 ^ 20)
  | .refuseLogClear part _ => decide (part < 16)
  | .queueEnable part queue _ => decide (part < 16) && decide (queue < 64)
  | .queueDisable part queue _ => decide (part < 16) && decide (queue < 64)
  | .partitionEnable part slot _ => decide (part < 16) && decide (slot < 16)
  | .partitionDisable part slot _ => decide (part < 16) && decide (slot < 16)
  | .coneFire part _ => decide (part < 16)
  | .disablePendingClear part queue => decide (part < 16) && queue.all (fun q => decide (q < 64))
  | .queueResetDone part queue => decide (part < 16) && decide (queue < 64)
  | .turnBoundary => true
  | .kvExhausted session => decide (session < 2 ^ 32)
  | .batchRelease pol => pol.chains.all (fun e => e.1.wf && decide (e.2 ≤ 5))
  | .batchFallback => true
  | .taskPlace _ => true
  | .affinityQueueJoin _ _ => true
  | .tileRelease _ _ => true
  | .tileZeroing tile => decide (tile < 1024)
  | .saveComplete _ => true
  | .restoreComplete _ => true
  | .recordIssue _ _ told => told.wf
  | .regulatorPiece part path _ _ =>
    decide (part < 16) && decide (path.reg < 6) && decide (path.dies.1 < 9) && decide (path.dies.2 < 9)
  | .layerClose _ _ => true
  | .refireDecision _ => true
  | .draftPass session _ _ => decide (session < 2 ^ 32)
  | .maskBuild session => decide (session < 2 ^ 32)
  | .lvs _ => true
  | .verification session _ => decide (session < 2 ^ 32)
  | .reExecution _ _ => true
  | .computeWindowEnd => true
  | .chainStageComplete r _ _ => r.wf
  | .migrationStart _ => true
  | .migrationSwitch page _ => decide (page < 2 ^ 32)
  | .t2PageRead page media => decide (page < 2 ^ 32) && decide (media < 3)
  | .extentCommit _ => true
  | .flashRefresh _ _ => true
  | .patrolRead _ => true
  | .tierReadonly _ => true
  | .pageFreeComplete r => r.wf
  | .imageUnloadComplete part _ => decide (part < 16)
  | .templateFree part _ => decide (part < 16)
  | .versionRetire part _ _ => decide (part < 16)
  | .wedgeRelease part _ => decide (part < 16)
  | .wedgeForced part _ => decide (part < 16)
  | .patrolScrub region _ => region.wf
  | .hubSramReload addr => decide (addr < 2 ^ 29)
  | .parityRebuild page => decide (page < 2 ^ 32)
  | .knownAnswerTest tile _ => decide (tile < 1024)
  | .domainLost domain => decide (domain < 20)
  | .renobLinkFail link _ => decide (link < 18)
  | .governorStep fractions withheld => decide (fractions.length = 8) && fractions.all (fun f => decide (f ≤ 64)) && decide (withheld.length ≤ 8)
  | .currentClamp => true
  | .clampHoldEnd => true
  | .clampRelease => true
  | .sustainedLimit => true
  | .sustainedLimitRelease => true
  | .dieHot die _ => decide (die < 8)
  | .dieTrip die => decide (die < 8)
  | .sensorSample _ _ => true
  | .sensorStale _ => true
  | .inputLow _ => true
  | .inputLoss => true
  | .inputOvervoltage => true
  | .quiescence => true
  | .t0Evacuation => true
  | .powerStateExit => true
  | .ppsEdge _ _ _ => true
  | .refPresenceLoss => true
  | .refFrequencyCheck _ _ => true
  | .ppsContinuityLoss => true
  | .holdoverLimit => true
  | .acquireTimeout => true
  | .secondMark _ => true
  | .logFlush => true
  | .coneIn _ => true
  | .programmedTrigger part slot => decide (part < 16) && decide (slot < 4)
  | .snapshotStore => true
  | .linkTraining head a => decide (head < 2) && a.wf
  | .laneExcluded head lane => decide (head < 2) && decide (lane < 16)
  | .ideFailure head => decide (head < 2)
  | .viral head => decide (head < 2)
  | .cxlMemRead part _ _ => decide (part < 16)
  | .cxlMemWrite part _ _ => decide (part < 16)
  | .coldStart _ _ => true
  | .firmwareVerify component => decide (component < 5)
  | .ftlMount => true
  | .hbmTraining _ => true
  | .t0March _ => true
  | .tileBist _ _ => true
  | .ready _ => true
  | .perstAssert head _ => decide (head < 2)
  | .perstDeassert head => decide (head < 2)
  | .functionLevelReset part => decide (part < 16)
  | .alarm _ _ => true
  | .debugChallenge => true
  | .debugResponse _ _ => true
  | .getVersion part => decide (part < 16)
  | .getCapabilities part => decide (part < 16)
  | .negotiateAlgorithms part _ => decide (part < 16)
  | .getDigests part => decide (part < 16)
  | .getCertificate part slot => decide (part < 16) && decide (slot < 8)
  | .challenge part nonce => decide (part < 16) && decide (nonce.length = 32)
  | .getMeasurements part _ _ => decide (part < 16)
  | .keyExchange part encapKey => decide (part < 16) && decide (encapKey.length = 1184)
  | .finish part _ => decide (part < 16)
  | .endSession part => decide (part < 16)
  | .heartbeat part => decide (part < 16)
  | .keyUpdate part => decide (part < 16)
  | .ideKm part _ _ => decide (part < 16)
  | .trustGet part => decide (part < 16)
  | .trustSet part _ _ _ => decide (part < 16)
  | .keyRotate part => decide (part < 16)
  | .mctpControl _ _ => true
  | .pldmRequest _ _ _ => true
  | .powerCap _ => true
  | .requestUpdate component _ _ _ => decide (component < 5)
  | .activateFirmware _ _ => true
  | .fmIdentify => true
  | .getLdInfo => true
  | .getLdAllocations => true
  | .setLdAllocations _ _ => true
  | .getQosControl head => decide (head < 2)
  | .setQosControl head _ _ => decide (head < 2)
  | .getQosStatus head => decide (head < 2)
  | .getQosAllocatedBw reg => decide (reg < 6)
  | .setQosAllocatedBw reg _ fractions => decide (reg < 6) && fractions.all (fun f => decide (f < 2 ^ 8))
  | .getQosBwLimit reg => decide (reg < 6)
  | .setQosBwLimit reg _ fractions => decide (reg < 6) && fractions.all (fun f => decide (f < 2 ^ 8))
  | .getMultiHeadedInfo => true
  | .getHeadInfo => true
  | .identifyMemoryDevice part => decide (part < 16)
  | .getSupportedLogs part => decide (part < 16)
  | .getLog part => decide (part < 16)
  | .getEventRecords part => decide (part < 16)
  | .clearEventRecords part => decide (part < 16)
  | .getHealthInfo part => decide (part < 16)
  | .getPoisonList part => decide (part < 16)
  | .mailboxUnsupported part _ => decide (part < 16)
  | .i3cTargetReset _ => true
  | .hostReadError part queue cid _ => decide (part < 16) && decide (queue < 64) && cid.all (fun c => decide (c < 2 ^ 16))
  | .hdmDecoderCommit part _ => decide (part < 16)
  | .mirrorRebuild page => decide (page < 2 ^ 32)
  | .powerStateEntry => true
  | .linkRecovery head _ _ _ => decide (head < 2)

end Sys2Proof
end

