-- ==== Sys2Proof/Tests/Slice0.lean ====
section
/-! SUPPORT. The model's own tests: ill-formed terms, worked examples of the spec, and a state for each statement's hypotheses. -/

namespace Sys2Proof.Tests

open Sys2Proof.Machine

set_option maxRecDepth 10000

/-! ## The small states of the tests -/

/-- `n` bytes, zero but for fields (offset, width, value). -/
def bytesOf (n : Nat) (l : List (Nat × Nat × Nat)) : List Byte :=
  l.foldl (fun b f => b.take f.1 ++ leBytes f.2.1 f.2.2 ++ b.drop (f.1 + f.2.1)) (zeros n)

/-- An ADMIN, a WORK and a STREAM queue, all enabled. -/
def adminQ : Queue := { enable := true, state := .enabled, cls := 0, cqSizeM1 := 15, sqSizeM1 := 15, cqBase := 0x2000 }
def workQ : Queue := { enable := true, state := .enabled, cls := 1, cqSizeM1 := 15, sqSizeM1 := 15, cqBase := 0x3000 }
def streamQ : Queue := { enable := true, state := .enabled, cls := 2, sqBase := 2 ^ 24 }

/-- An enabled partition with one queue of each class. -/
def part0 : Part := { en := true, live := true, queues := [(0, adminQ), (1, workQ), (2, streamQ)] }

/-- A module in service: one head up with LD-IDs, two partitions, every domain up, turn 5 running. -/
def base : State :=
  { stage := .up
    ready := true
    parts := [(0, part0), (1, { part0 with en := false })]
    heads := [{ up := true, perst := false, mld := true, rate := 2, width := 16 }, {}]
    wheel := { started := true, turn := 5 }
    flash := { mounted := true }
    mgmt := { served := true }
    power := { inputOk := true, domUp := List.replicate 20 true } }

/-- A fetched command of partition 0, queue `q`. -/
def cmdOf (q opc : Nat) (area pb : List Byte) : CmdE :=
  { tag := 1, queue := q, cid := 7, opc := opc, area := area, pb := pb, pbLen := pb.length }

/-- A state with that command fetched. -/
def holding (s : State) (e : CmdE) : State := { s with inflight := [e] }

/-- The command of queue 0, and of queue 1. -/
def adminRef : Ref := ⟨0, 0, 7⟩
def workRef : Ref := ⟨0, 1, 7⟩

/-- In `base` any command of any operands may start: the hypothesis `starts` of every statement about a fetched command. -/
theorem test_every_command_may_start (opc : Nat) (area pb : List Byte) :
    (holding base (cmdOf 0 opc area pb)).starts adminRef opc (cmdOf 0 opc area pb) = true ∧
    (holding base (cmdOf 1 opc area pb)).starts workRef opc (cmdOf 1 opc area pb) = true := by
  constructor <;>
    simp [State.starts, State.fetched, State.ready?, State.admits, State.ringsLive, State.locked, State.moduleLost, State.flashUp, holding, cmdOf, base, part0,
      adminRef, workRef, adminQ, workQ, State.queue, State.part, KMap.findD, KMap.find]

/-! ## Ill-formed terms: every check of WellFormed refuses one -/

/-- The operands of layout HArgs, all zero. -/
def zeroHArgs : HArgs :=
  { handle := 0 }

theorem test_wf_HArgs : zeroHArgs.wf = true ∧ ∀ a ∈ ([
    { zeroHArgs with handle := 2 ^ 32 }] : List HArgs), a.wf = false := by decide

/-- The operands of layout QArgs, all zero. -/
def zeroQArgs : QArgs :=
  { handle := 0, qflags := 0, outAddr := 0, outCap := 0 }

theorem test_wf_QArgs : zeroQArgs.wf = true ∧ ∀ a ∈ ([
    { zeroQArgs with handle := 2 ^ 32 },
    { zeroQArgs with qflags := 2 ^ 8 },
    { zeroQArgs with outAddr := 2 ^ 64 },
    { zeroQArgs with outCap := 2 ^ 32 }] : List QArgs), a.wf = false := by decide

/-- The operands of layout SArgs, all zero. -/
def zeroSArgs : SArgs :=
  { src := 0, lflags := 0, arg16 := 0, arg32 := 0, addr := 0, len := 0, extent := 0, arg64 := 0 }

theorem test_wf_SArgs : zeroSArgs.wf = true ∧ ∀ a ∈ ([
    { zeroSArgs with src := 2 ^ 8 },
    { zeroSArgs with lflags := 2 ^ 8 },
    { zeroSArgs with arg16 := 2 ^ 16 },
    { zeroSArgs with arg32 := 2 ^ 32 },
    { zeroSArgs with addr := 2 ^ 64 },
    { zeroSArgs with len := 2 ^ 64 },
    { zeroSArgs with extent := 2 ^ 64 },
    { zeroSArgs with arg64 := 2 ^ 64 }] : List SArgs), a.wf = false := by decide

/-- The operands of layout MArgs, all zero. -/
def zeroMArgs : MArgs :=
  { dua := 0, pages := 0, pgflags := 0, tier := 0, mflags := 0, hostAddr := 0, winOff := 0 }

theorem test_wf_MArgs : zeroMArgs.wf = true ∧ ∀ a ∈ ([
    { zeroMArgs with dua := 2 ^ 64 },
    { zeroMArgs with pages := 2 ^ 32 },
    { zeroMArgs with pgflags := 2 ^ 16 },
    { zeroMArgs with tier := 2 ^ 8 },
    { zeroMArgs with mflags := 2 ^ 8 },
    { zeroMArgs with hostAddr := 2 ^ 64 },
    { zeroMArgs with winOff := 2 ^ 64 }] : List MArgs), a.wf = false := by decide

/-- The operands of layout EArgs, all zero. -/
def zeroEArgs : EArgs :=
  { extent := 0, offset := 0, len := 0, addr := 0, eflags := 0 }

theorem test_wf_EArgs : zeroEArgs.wf = true ∧ ∀ a ∈ ([
    { zeroEArgs with extent := 2 ^ 64 },
    { zeroEArgs with offset := 2 ^ 64 },
    { zeroEArgs with len := 2 ^ 64 },
    { zeroEArgs with addr := 2 ^ 64 },
    { zeroEArgs with eflags := 2 ^ 8 }] : List EArgs), a.wf = false := by decide

/-- The operands of layout ConeArgs, all zero. -/
def zeroConeArgs : ConeArgs :=
  { turn := 0, offset := 0, cancel := 0 }

theorem test_wf_ConeArgs : zeroConeArgs.wf = true ∧ ∀ a ∈ ([
    { zeroConeArgs with turn := 2 ^ 64 },
    { zeroConeArgs with offset := 2 ^ 32 },
    { zeroConeArgs with cancel := 2 ^ 8 }] : List ConeArgs), a.wf = false := by decide

/-- The operands of layout LogArgs, all zero. -/
def zeroLogArgs : LogArgs :=
  { first := 0, outAddr := 0, outCap := 0, dua := 0 }

theorem test_wf_LogArgs : zeroLogArgs.wf = true ∧ ∀ a ∈ ([
    { zeroLogArgs with first := 2 ^ 64 },
    { zeroLogArgs with outAddr := 2 ^ 64 },
    { zeroLogArgs with outCap := 2 ^ 32 },
    { zeroLogArgs with dua := 2 ^ 8 }] : List LogArgs), a.wf = false := by decide

/-- The operands of layout IndexArgs, all zero. -/
def zeroIndexArgs : IndexArgs :=
  { codeBits := 0, npartLog2 := 0, ixflags := 0, vocab := 0, blkPages := 0, centAddr := 0, extent := 0,
    centOff := 0, blkOff := 0, psgExtent := 0, pub := 0 }

theorem test_wf_IndexArgs : zeroIndexArgs.wf = true ∧ ∀ a ∈ ([
    { zeroIndexArgs with codeBits := 2 ^ 16 },
    { zeroIndexArgs with npartLog2 := 2 ^ 8 },
    { zeroIndexArgs with ixflags := 2 ^ 8 },
    { zeroIndexArgs with vocab := 2 ^ 16 },
    { zeroIndexArgs with blkPages := 2 ^ 16 },
    { zeroIndexArgs with centAddr := 2 ^ 64 },
    { zeroIndexArgs with extent := 2 ^ 64 },
    { zeroIndexArgs with centOff := 2 ^ 64 },
    { zeroIndexArgs with blkOff := 2 ^ 64 },
    { zeroIndexArgs with psgExtent := 2 ^ 64 },
    { zeroIndexArgs with pub := 2 ^ 48 }] : List IndexArgs), a.wf = false := by decide

/-- The operands of layout InsertArgs, all zero. -/
def zeroInsertArgs : InsertArgs :=
  { index := 0, cnt := 0, listAddr := 0, tokAddr := 0, lflags := 0 }

theorem test_wf_InsertArgs : zeroInsertArgs.wf = true ∧ ∀ a ∈ ([
    { zeroInsertArgs with index := 2 ^ 16 },
    { zeroInsertArgs with cnt := 2 ^ 32 },
    { zeroInsertArgs with listAddr := 2 ^ 64 },
    { zeroInsertArgs with tokAddr := 2 ^ 64 },
    { zeroInsertArgs with lflags := 2 ^ 8 }] : List InsertArgs), a.wf = false := by decide

/-- The operands of layout SearchArgs, all zero. -/
def zeroSearchArgs : SearchArgs :=
  { index := 0, nprobe := 0, k := 0, ef := 0, qcnt := 0, attrMask := 0, flags := 0, shardTag := 0,
    maxVisit := 0, queryAddr := 0, outAddr := 0 }

theorem test_wf_SearchArgs : zeroSearchArgs.wf = true ∧ ∀ a ∈ ([
    { zeroSearchArgs with index := 2 ^ 16 },
    { zeroSearchArgs with nprobe := 2 ^ 16 },
    { zeroSearchArgs with k := 2 ^ 16 },
    { zeroSearchArgs with ef := 2 ^ 16 },
    { zeroSearchArgs with qcnt := 2 ^ 16 },
    { zeroSearchArgs with attrMask := 2 ^ 8 },
    { zeroSearchArgs with flags := 2 ^ 8 },
    { zeroSearchArgs with shardTag := 2 ^ 16 },
    { zeroSearchArgs with maxVisit := 2 ^ 32 },
    { zeroSearchArgs with queryAddr := 2 ^ 64 },
    { zeroSearchArgs with outAddr := 2 ^ 64 }] : List SearchArgs), a.wf = false := by decide

/-- The operands of layout WedgeArgs, all zero. -/
def zeroWedgeArgs : WedgeArgs :=
  { index := 0, wflags := 0, partFirst := 0, partCnt := 0 }

theorem test_wf_WedgeArgs : zeroWedgeArgs.wf = true ∧ ∀ a ∈ ([
    { zeroWedgeArgs with index := 2 ^ 16 },
    { zeroWedgeArgs with wflags := 2 ^ 8 },
    { zeroWedgeArgs with partFirst := 2 ^ 32 },
    { zeroWedgeArgs with partCnt := 2 ^ 32 }] : List WedgeArgs), a.wf = false := by decide

/-- The operands of layout ShardArgs, all zero. -/
def zeroShardArgs : ShardArgs :=
  { k := 0, dua := 0, inAddr := 0, inCnt := 0, inStride := 0, outAddr := 0 }

theorem test_wf_ShardArgs : zeroShardArgs.wf = true ∧ ∀ a ∈ ([
    { zeroShardArgs with k := 2 ^ 32 },
    { zeroShardArgs with dua := 2 ^ 8 },
    { zeroShardArgs with inAddr := 2 ^ 64 },
    { zeroShardArgs with inCnt := 2 ^ 32 },
    { zeroShardArgs with inStride := 2 ^ 32 },
    { zeroShardArgs with outAddr := 2 ^ 64 }] : List ShardArgs), a.wf = false := by decide

/-- The operands of layout RerankArgs, all zero. -/
def zeroRerankArgs : RerankArgs :=
  { image := 0, index := 0, top := 0, pairLimit := 0, qtokAddr := 0, qtokCnt := 0, dua := 0, inAddr := 0,
    outAddr := 0 }

theorem test_wf_RerankArgs : zeroRerankArgs.wf = true ∧ ∀ a ∈ ([
    { zeroRerankArgs with image := 2 ^ 16 },
    { zeroRerankArgs with index := 2 ^ 16 },
    { zeroRerankArgs with top := 2 ^ 16 },
    { zeroRerankArgs with pairLimit := 2 ^ 16 },
    { zeroRerankArgs with qtokAddr := 2 ^ 64 },
    { zeroRerankArgs with qtokCnt := 2 ^ 32 },
    { zeroRerankArgs with dua := 2 ^ 8 },
    { zeroRerankArgs with inAddr := 2 ^ 64 },
    { zeroRerankArgs with outAddr := 2 ^ 64 }] : List RerankArgs), a.wf = false := by decide

/-- The operands of layout PackArgs, all zero. -/
def zeroPackArgs : PackArgs :=
  { template := 0, index := 0, budget := 0, qtokAddr := 0, qtokCnt := 0, flags := 0, itemAddr := 0,
    rrAddr := 0, outAddr := 0 }

theorem test_wf_PackArgs : zeroPackArgs.wf = true ∧ ∀ a ∈ ([
    { zeroPackArgs with template := 2 ^ 16 },
    { zeroPackArgs with index := 2 ^ 16 },
    { zeroPackArgs with budget := 2 ^ 32 },
    { zeroPackArgs with qtokAddr := 2 ^ 64 },
    { zeroPackArgs with qtokCnt := 2 ^ 32 },
    { zeroPackArgs with flags := 2 ^ 8 },
    { zeroPackArgs with itemAddr := 2 ^ 64 },
    { zeroPackArgs with rrAddr := 2 ^ 64 },
    { zeroPackArgs with outAddr := 2 ^ 64 }] : List PackArgs), a.wf = false := by decide

/-- The operands of layout TableArgs, all zero. -/
def zeroTableArgs : TableArgs :=
  { rows := 0, dim := 0, rfmt := 0, flags := 0 }

theorem test_wf_TableArgs : zeroTableArgs.wf = true ∧ ∀ a ∈ ([
    { zeroTableArgs with rows := 2 ^ 64 },
    { zeroTableArgs with dim := 2 ^ 16 },
    { zeroTableArgs with rfmt := 2 ^ 8 },
    { zeroTableArgs with flags := 2 ^ 8 }] : List TableArgs), a.wf = false := by decide

/-- The operands of layout StageArgs, all zero. -/
def zeroStageArgs : StageArgs :=
  { handle := 0, mode := 0 }

theorem test_wf_StageArgs : zeroStageArgs.wf = true ∧ ∀ a ∈ ([
    { zeroStageArgs with handle := 2 ^ 32 },
    { zeroStageArgs with mode := 2 ^ 8 }] : List StageArgs), a.wf = false := by decide

/-- The operands of layout EmbedArgs, all zero. -/
def zeroEmbedArgs : EmbedArgs :=
  { table := 0, mode := 0, flags := 0, bags := 0, idxAddr := 0, n := 0, lr := 0, aux := 0, outAddr := 0,
    eps := 0, fmt := 0 }

theorem test_wf_EmbedArgs : zeroEmbedArgs.wf = true ∧ ∀ a ∈ ([
    { zeroEmbedArgs with table := 2 ^ 16 },
    { zeroEmbedArgs with mode := 2 ^ 8 },
    { zeroEmbedArgs with flags := 2 ^ 8 },
    { zeroEmbedArgs with bags := 2 ^ 32 },
    { zeroEmbedArgs with idxAddr := 2 ^ 64 },
    { zeroEmbedArgs with n := 2 ^ 32 },
    { zeroEmbedArgs with lr := 2 ^ 32 },
    { zeroEmbedArgs with aux := 2 ^ 64 },
    { zeroEmbedArgs with outAddr := 2 ^ 64 },
    { zeroEmbedArgs with eps := 2 ^ 32 },
    { zeroEmbedArgs with fmt := 2 ^ 8 }] : List EmbedArgs), a.wf = false := by decide

/-- The operands of layout TReadArgs, all zero. -/
def zeroTReadArgs : TReadArgs :=
  { table := 0, dua := 0, first := 0, rows := 0, outAddr := 0 }

theorem test_wf_TReadArgs : zeroTReadArgs.wf = true ∧ ∀ a ∈ ([
    { zeroTReadArgs with table := 2 ^ 16 },
    { zeroTReadArgs with dua := 2 ^ 8 },
    { zeroTReadArgs with first := 2 ^ 64 },
    { zeroTReadArgs with rows := 2 ^ 32 },
    { zeroTReadArgs with outAddr := 2 ^ 64 }] : List TReadArgs), a.wf = false := by decide

/-- The operands of layout TextArgs, all zero. -/
def zeroTextArgs : TextArgs :=
  { vocab := 0, policy := 0, tflags := 0, ctx := 0, inAddr := 0, inLen := 0, outCap := 0, outAddr := 0 }

theorem test_wf_TextArgs : zeroTextArgs.wf = true ∧ ∀ a ∈ ([
    { zeroTextArgs with vocab := 2 ^ 16 },
    { zeroTextArgs with policy := 2 ^ 8 },
    { zeroTextArgs with tflags := 2 ^ 8 },
    { zeroTextArgs with ctx := 2 ^ 16 },
    { zeroTextArgs with inAddr := 2 ^ 64 },
    { zeroTextArgs with inLen := 2 ^ 32 },
    { zeroTextArgs with outCap := 2 ^ 32 },
    { zeroTextArgs with outAddr := 2 ^ 64 }] : List TextArgs), a.wf = false := by decide

/-- The operands of layout MaskArgs, all zero. -/
def zeroMaskArgs : MaskArgs :=
  { grammar := 0, dua := 0, cnt := 0, inAddr := 0, outAddr := 0, outCap := 0 }

theorem test_wf_MaskArgs : zeroMaskArgs.wf = true ∧ ∀ a ∈ ([
    { zeroMaskArgs with grammar := 2 ^ 16 },
    { zeroMaskArgs with dua := 2 ^ 8 },
    { zeroMaskArgs with cnt := 2 ^ 32 },
    { zeroMaskArgs with inAddr := 2 ^ 64 },
    { zeroMaskArgs with outAddr := 2 ^ 64 },
    { zeroMaskArgs with outCap := 2 ^ 32 }] : List MaskArgs), a.wf = false := by decide

/-- The operands of layout GenArgs, all zero. -/
def zeroGenArgs : GenArgs :=
  { session := 0, gflags := 0, policy := 0, inAddr := 0, inLen := 0, maxNew := 0, firstDl := 0,
    endDl := 0 }

theorem test_wf_GenArgs : zeroGenArgs.wf = true ∧ ∀ a ∈ ([
    { zeroGenArgs with session := 2 ^ 32 },
    { zeroGenArgs with gflags := 2 ^ 8 },
    { zeroGenArgs with policy := 2 ^ 8 },
    { zeroGenArgs with inAddr := 2 ^ 64 },
    { zeroGenArgs with inLen := 2 ^ 32 },
    { zeroGenArgs with maxNew := 2 ^ 32 },
    { zeroGenArgs with firstDl := 2 ^ 16 },
    { zeroGenArgs with endDl := 2 ^ 16 }] : List GenArgs), a.wf = false := by decide

/-- The operands of layout FeedArgs, all zero. -/
def zeroFeedArgs : FeedArgs :=
  { session := 0, cnt := 0, pturn := 0, addr := 0, dua := 0 }

theorem test_wf_FeedArgs : zeroFeedArgs.wf = true ∧ ∀ a ∈ ([
    { zeroFeedArgs with session := 2 ^ 32 },
    { zeroFeedArgs with cnt := 2 ^ 32 },
    { zeroFeedArgs with pturn := 2 ^ 64 },
    { zeroFeedArgs with addr := 2 ^ 64 },
    { zeroFeedArgs with dua := 2 ^ 8 }] : List FeedArgs), a.wf = false := by decide

/-- The operands of layout ClassArgs, all zero. -/
def zeroClassArgs : ClassArgs :=
  { cls := 0, weight := 0, quantum := 0, setQuantum := 0 }

theorem test_wf_ClassArgs : zeroClassArgs.wf = true ∧ ∀ a ∈ ([
    { zeroClassArgs with cls := 2 ^ 8 },
    { zeroClassArgs with weight := 2 ^ 16 },
    { zeroClassArgs with quantum := 2 ^ 16 },
    { zeroClassArgs with setQuantum := 2 ^ 8 }] : List ClassArgs), a.wf = false := by decide

/-- The operands of layout ChainArgs, all zero. -/
def zeroChainArgs : ChainArgs :=
  { encImg := 0, qvocab := 0, index := 0, nprobe := 0, k := 0, ef := 0, maxVisit := 0, attrMask := 0,
    chflags := 0, rrImg := 0, rrCnt := 0, rrTop := 0, rrPairLimit := 0, template := 0, budget := 0,
    session := 0, maxNew := 0, firstDl := 0, endDl := 0, stageCpl := 0, policy := 0, queryAddr := 0,
    queryLen := 0 }

theorem test_wf_ChainArgs : zeroChainArgs.wf = true ∧ ∀ a ∈ ([
    { zeroChainArgs with encImg := 2 ^ 16 },
    { zeroChainArgs with qvocab := 2 ^ 16 },
    { zeroChainArgs with index := 2 ^ 16 },
    { zeroChainArgs with nprobe := 2 ^ 16 },
    { zeroChainArgs with k := 2 ^ 16 },
    { zeroChainArgs with ef := 2 ^ 16 },
    { zeroChainArgs with maxVisit := 2 ^ 32 },
    { zeroChainArgs with attrMask := 2 ^ 8 },
    { zeroChainArgs with chflags := 2 ^ 8 },
    { zeroChainArgs with rrImg := 2 ^ 16 },
    { zeroChainArgs with rrCnt := 2 ^ 16 },
    { zeroChainArgs with rrTop := 2 ^ 16 },
    { zeroChainArgs with rrPairLimit := 2 ^ 16 },
    { zeroChainArgs with template := 2 ^ 16 },
    { zeroChainArgs with budget := 2 ^ 32 },
    { zeroChainArgs with session := 2 ^ 32 },
    { zeroChainArgs with maxNew := 2 ^ 32 },
    { zeroChainArgs with firstDl := 2 ^ 16 },
    { zeroChainArgs with endDl := 2 ^ 16 },
    { zeroChainArgs with stageCpl := 2 ^ 8 },
    { zeroChainArgs with policy := 2 ^ 8 },
    { zeroChainArgs with queryAddr := 2 ^ 64 },
    { zeroChainArgs with queryLen := 2 ^ 32 }] : List ChainArgs), a.wf = false := by decide

/-- A template block of five empty lists. -/
def zeroTemplateArgs : TemplateArgs := { vocab := 0, lens := [0, 0, 0, 0, 0], toks := [] }

theorem test_wf_TemplateArgs : zeroTemplateArgs.wf = true ∧ ∀ a ∈ ([
    { zeroTemplateArgs with vocab := 2 ^ 16 }, { zeroTemplateArgs with lens := [0] },
    { zeroTemplateArgs with lens := [0, 0, 0, 0, 2 ^ 32] }, { zeroTemplateArgs with toks := [2 ^ 32] }] : List TemplateArgs),
    a.wf = false := by decide

/-- A session descriptor, all zero. -/
def zeroOpenArgs : OpenArgs :=
  { streamQ := 0, model := 0, vocab := 0, grammar := 0, cls := 0, sflags := 0, glaze := 0, maxCtx := 0,
    maxNew := 0, temp := 0, seed := 0, draft := 0, specMax := 0, proposer := 0, stopCnt := 0, stopLen := List.replicate 8 0,
    kvBlocks := 0, stops := List.replicate 8 (List.replicate 64 0) }

theorem test_wf_OpenArgs : zeroOpenArgs.wf = true ∧ ∀ a ∈ ([
    { zeroOpenArgs with streamQ := 2 ^ 8 },
    { zeroOpenArgs with model := 2 ^ 16 },
    { zeroOpenArgs with vocab := 2 ^ 16 },
    { zeroOpenArgs with grammar := 2 ^ 16 },
    { zeroOpenArgs with cls := 2 ^ 8 },
    { zeroOpenArgs with sflags := 2 ^ 8 },
    { zeroOpenArgs with glaze := 2 ^ 32 },
    { zeroOpenArgs with maxCtx := 2 ^ 32 },
    { zeroOpenArgs with maxNew := 2 ^ 32 },
    { zeroOpenArgs with temp := 2 ^ 32 },
    { zeroOpenArgs with seed := 2 ^ 64 },
    { zeroOpenArgs with draft := 2 ^ 16 },
    { zeroOpenArgs with specMax := 2 ^ 8 },
    { zeroOpenArgs with proposer := 2 ^ 8 },
    { zeroOpenArgs with stopCnt := 2 ^ 8 },
    { zeroOpenArgs with kvBlocks := 2 ^ 32 },
    { zeroOpenArgs with stopLen := [] },
    { zeroOpenArgs with stops := [] },
    { zeroOpenArgs with stopLen := List.replicate 8 (2 ^ 8) },
    { zeroOpenArgs with stops := List.replicate 8 [] }] : List OpenArgs), a.wf = false := by decide

theorem test_wf_Ref : (⟨15, 63, 2 ^ 16 - 1⟩ : Ref).wf = true ∧
    ∀ r ∈ ([⟨16, 0, 0⟩, ⟨0, 64, 0⟩, ⟨0, 0, 2 ^ 16⟩] : List Ref), r.wf = false := by decide

theorem test_wf_Region : ∀ r ∈ ([.tileWord 1024 0, .frame 2 0 0, .frame 0 8 0] : List Region), r.wf = false := by decide

/-- A head that trains at 64 GT/s on 16 lanes. -/
def trains : TrainArgs :=
  { ok := true, mld := true, rate := 2, width := 16, flit256 := true, latOpt := false, partner := 0, lanes := [] }

theorem test_wf_TrainArgs : trains.wf = true ∧ ∀ a ∈ ([
    { trains with rate := 3 }, { trains with width := 17 }, { trains with partner := 2 ^ 32 },
    { trains with lanes := List.replicate 17 [] }] : List TrainArgs), a.wf = false := by decide

theorem test_wf_commands_1 : ∀ i ∈ ([
    .identify ⟨16, 0, 0⟩ zeroQArgs,
    .identify ⟨0, 0, 0⟩ { zeroQArgs with handle := 2 ^ 32 },
    .queueReset ⟨16, 0, 0⟩ zeroHArgs,
    .queueReset ⟨0, 0, 0⟩ { zeroHArgs with handle := 2 ^ 32 },
    .counterQuery ⟨16, 0, 0⟩ zeroQArgs,
    .counterQuery ⟨0, 0, 0⟩ { zeroQArgs with handle := 2 ^ 32 },
    .diagQuery ⟨16, 0, 0⟩ zeroQArgs,
    .diagQuery ⟨0, 0, 0⟩ { zeroQArgs with handle := 2 ^ 32 },
    .coneProgram ⟨16, 0, 0⟩ zeroConeArgs,
    .coneProgram ⟨0, 0, 0⟩ { zeroConeArgs with turn := 2 ^ 64 },
    .snapshotRead ⟨16, 0, 0⟩ zeroQArgs,
    .snapshotRead ⟨0, 0, 0⟩ { zeroQArgs with handle := 2 ^ 32 },
    .logRead ⟨16, 0, 0⟩ zeroLogArgs,
    .logRead ⟨0, 0, 0⟩ { zeroLogArgs with first := 2 ^ 64 },
    .powerSet ⟨16, 0, 0⟩ 0,
    .powerSet ⟨0, 0, 0⟩ (2 ^ 8),
    .timeSet ⟨16, 0, 0⟩ 0,
    .timeSet ⟨0, 0, 0⟩ (2 ^ 48),
    .linkQuery ⟨16, 0, 0⟩ zeroQArgs,
    .linkQuery ⟨0, 0, 0⟩ { zeroQArgs with handle := 2 ^ 32 },
    .imageLoad ⟨16, 0, 0⟩ zeroSArgs,
    .imageLoad ⟨0, 0, 0⟩ { zeroSArgs with src := 2 ^ 8 },
    .imageUnload ⟨16, 0, 0⟩ zeroHArgs,
    .imageUnload ⟨0, 0, 0⟩ { zeroHArgs with handle := 2 ^ 32 },
    .graphRun ⟨16, 0, 0⟩ 0 [],
    .graphRun ⟨0, 0, 0⟩ (2 ^ 16) [],
    .graphRun ⟨0, 0, 0⟩ 0 [2 ^ 48],
    .imageQuery ⟨16, 0, 0⟩ zeroQArgs,
    .imageQuery ⟨0, 0, 0⟩ { zeroQArgs with handle := 2 ^ 32 },
    .indexCreate ⟨16, 0, 0⟩ zeroIndexArgs,
    .indexCreate ⟨0, 0, 0⟩ { zeroIndexArgs with codeBits := 2 ^ 16 },
    .indexLoad ⟨16, 0, 0⟩ zeroIndexArgs,
    .indexLoad ⟨0, 0, 0⟩ { zeroIndexArgs with codeBits := 2 ^ 16 },
    .indexDrop ⟨16, 0, 0⟩ zeroHArgs,
    .indexDrop ⟨0, 0, 0⟩ { zeroHArgs with handle := 2 ^ 32 },
    .indexQuery ⟨16, 0, 0⟩ zeroQArgs,
    .indexQuery ⟨0, 0, 0⟩ { zeroQArgs with handle := 2 ^ 32 },
    .insert ⟨16, 0, 0⟩ zeroInsertArgs,
    .insert ⟨0, 0, 0⟩ { zeroInsertArgs with index := 2 ^ 16 },
    .delete ⟨16, 0, 0⟩ zeroInsertArgs,
    .delete ⟨0, 0, 0⟩ { zeroInsertArgs with index := 2 ^ 16 },
    .search ⟨16, 0, 0⟩ zeroSearchArgs,
    .search ⟨0, 0, 0⟩ { zeroSearchArgs with index := 2 ^ 16 },
    .wedge ⟨16, 0, 0⟩ zeroWedgeArgs,
    .wedge ⟨0, 0, 0⟩ { zeroWedgeArgs with index := 2 ^ 16 }] : List Instr), WellFormed i = false := by decide

theorem test_wf_commands_2 : ∀ i ∈ ([
    .shardMerge ⟨16, 0, 0⟩ zeroShardArgs,
    .shardMerge ⟨0, 0, 0⟩ { zeroShardArgs with k := 2 ^ 32 },
    .rerank ⟨16, 0, 0⟩ zeroRerankArgs [],
    .rerank ⟨0, 0, 0⟩ { zeroRerankArgs with image := 2 ^ 16 } [],
    .pack ⟨16, 0, 0⟩ zeroPackArgs,
    .pack ⟨0, 0, 0⟩ { zeroPackArgs with template := 2 ^ 16 },
    .templateLoad ⟨16, 0, 0⟩ zeroTemplateArgs,
    .templateLoad ⟨0, 0, 0⟩ { zeroTemplateArgs with vocab := 2 ^ 16 },
    .templateUnload ⟨16, 0, 0⟩ zeroHArgs,
    .templateUnload ⟨0, 0, 0⟩ { zeroHArgs with handle := 2 ^ 32 },
    .tableCreate ⟨16, 0, 0⟩ zeroTableArgs,
    .tableCreate ⟨0, 0, 0⟩ { zeroTableArgs with rows := 2 ^ 64 },
    .tableDrop ⟨16, 0, 0⟩ zeroHArgs,
    .tableDrop ⟨0, 0, 0⟩ { zeroHArgs with handle := 2 ^ 32 },
    .tableStage ⟨16, 0, 0⟩ zeroStageArgs,
    .tableStage ⟨0, 0, 0⟩ { zeroStageArgs with handle := 2 ^ 32 },
    .tableWrite ⟨16, 0, 0⟩ zeroSArgs,
    .tableWrite ⟨0, 0, 0⟩ { zeroSArgs with src := 2 ^ 8 },
    .tablePublish ⟨16, 0, 0⟩ zeroHArgs,
    .tablePublish ⟨0, 0, 0⟩ { zeroHArgs with handle := 2 ^ 32 },
    .tableDiscard ⟨16, 0, 0⟩ zeroHArgs,
    .tableDiscard ⟨0, 0, 0⟩ { zeroHArgs with handle := 2 ^ 32 },
    .embedLookup ⟨16, 0, 0⟩ zeroEmbedArgs,
    .embedLookup ⟨0, 0, 0⟩ { zeroEmbedArgs with table := 2 ^ 16 },
    .embedUpdate ⟨16, 0, 0⟩ zeroEmbedArgs,
    .embedUpdate ⟨0, 0, 0⟩ { zeroEmbedArgs with table := 2 ^ 16 },
    .tableRead ⟨16, 0, 0⟩ zeroTReadArgs,
    .tableRead ⟨0, 0, 0⟩ { zeroTReadArgs with table := 2 ^ 16 },
    .tableQuery ⟨16, 0, 0⟩ zeroQArgs,
    .tableQuery ⟨0, 0, 0⟩ { zeroQArgs with handle := 2 ^ 32 },
    .vocabLoad ⟨16, 0, 0⟩ zeroSArgs,
    .vocabLoad ⟨0, 0, 0⟩ { zeroSArgs with src := 2 ^ 8 },
    .vocabUnload ⟨16, 0, 0⟩ zeroHArgs,
    .vocabUnload ⟨0, 0, 0⟩ { zeroHArgs with handle := 2 ^ 32 },
    .vocabQuery ⟨16, 0, 0⟩ zeroQArgs,
    .vocabQuery ⟨0, 0, 0⟩ { zeroQArgs with handle := 2 ^ 32 },
    .tokenise ⟨16, 0, 0⟩ zeroTextArgs,
    .tokenise ⟨0, 0, 0⟩ { zeroTextArgs with vocab := 2 ^ 16 },
    .detokenise ⟨16, 0, 0⟩ zeroTextArgs,
    .detokenise ⟨0, 0, 0⟩ { zeroTextArgs with vocab := 2 ^ 16 },
    .grammarLoad ⟨16, 0, 0⟩ zeroSArgs,
    .grammarLoad ⟨0, 0, 0⟩ { zeroSArgs with src := 2 ^ 8 },
    .grammarUnload ⟨16, 0, 0⟩ zeroHArgs,
    .grammarUnload ⟨0, 0, 0⟩ { zeroHArgs with handle := 2 ^ 32 },
    .grammarQuery ⟨16, 0, 0⟩ zeroQArgs] : List Instr), WellFormed i = false := by decide

theorem test_wf_commands_3 : ∀ i ∈ ([
    .grammarQuery ⟨0, 0, 0⟩ { zeroQArgs with handle := 2 ^ 32 },
    .grammarMask ⟨16, 0, 0⟩ zeroMaskArgs,
    .grammarMask ⟨0, 0, 0⟩ { zeroMaskArgs with grammar := 2 ^ 16 },
    .sessionOpen ⟨16, 0, 0⟩ zeroOpenArgs,
    .sessionOpen ⟨0, 0, 0⟩ { zeroOpenArgs with streamQ := 2 ^ 8 },
    .generate ⟨16, 0, 0⟩ zeroGenArgs,
    .generate ⟨0, 0, 0⟩ { zeroGenArgs with session := 2 ^ 32 },
    .sessionCancel ⟨16, 0, 0⟩ zeroHArgs,
    .sessionCancel ⟨0, 0, 0⟩ { zeroHArgs with handle := 2 ^ 32 },
    .sessionClose ⟨16, 0, 0⟩ zeroHArgs,
    .sessionClose ⟨0, 0, 0⟩ { zeroHArgs with handle := 2 ^ 32 },
    .sessionQuery ⟨16, 0, 0⟩ zeroQArgs,
    .sessionQuery ⟨0, 0, 0⟩ { zeroQArgs with handle := 2 ^ 32 },
    .glazeRegister ⟨16, 0, 0⟩ zeroSArgs,
    .glazeRegister ⟨0, 0, 0⟩ { zeroSArgs with src := 2 ^ 8 },
    .glazeDeregister ⟨16, 0, 0⟩ zeroHArgs,
    .glazeDeregister ⟨0, 0, 0⟩ { zeroHArgs with handle := 2 ^ 32 },
    .glazeQuery ⟨16, 0, 0⟩ zeroQArgs,
    .glazeQuery ⟨0, 0, 0⟩ { zeroQArgs with handle := 2 ^ 32 },
    .prefixFlush ⟨16, 0, 0⟩,
    .shadowFeed ⟨16, 0, 0⟩ zeroFeedArgs,
    .shadowFeed ⟨0, 0, 0⟩ { zeroFeedArgs with session := 2 ^ 32 },
    .sessionPromote ⟨16, 0, 0⟩ zeroHArgs,
    .sessionPromote ⟨0, 0, 0⟩ { zeroHArgs with handle := 2 ^ 32 },
    .classSet ⟨16, 0, 0⟩ zeroClassArgs,
    .classSet ⟨0, 0, 0⟩ { zeroClassArgs with cls := 2 ^ 8 },
    .chain ⟨16, 0, 0⟩ zeroChainArgs,
    .chain ⟨0, 0, 0⟩ { zeroChainArgs with encImg := 2 ^ 16 },
    .pageAlloc ⟨16, 0, 0⟩ zeroMArgs,
    .pageAlloc ⟨0, 0, 0⟩ { zeroMArgs with dua := 2 ^ 64 },
    .pageFree ⟨16, 0, 0⟩ zeroMArgs,
    .pageFree ⟨0, 0, 0⟩ { zeroMArgs with dua := 2 ^ 64 },
    .pageMove ⟨16, 0, 0⟩ zeroMArgs,
    .pageMove ⟨0, 0, 0⟩ { zeroMArgs with dua := 2 ^ 64 },
    .pagePin ⟨16, 0, 0⟩ zeroMArgs,
    .pagePin ⟨0, 0, 0⟩ { zeroMArgs with dua := 2 ^ 64 },
    .pageUnpin ⟨16, 0, 0⟩ zeroMArgs,
    .pageUnpin ⟨0, 0, 0⟩ { zeroMArgs with dua := 2 ^ 64 },
    .hdmMap ⟨16, 0, 0⟩ zeroMArgs,
    .hdmMap ⟨0, 0, 0⟩ { zeroMArgs with dua := 2 ^ 64 },
    .hdmUnmap ⟨16, 0, 0⟩ zeroMArgs,
    .hdmUnmap ⟨0, 0, 0⟩ { zeroMArgs with dua := 2 ^ 64 },
    .pageWrite ⟨16, 0, 0⟩ zeroMArgs,
    .pageWrite ⟨0, 0, 0⟩ { zeroMArgs with dua := 2 ^ 64 },
    .pageRead ⟨16, 0, 0⟩ zeroMArgs] : List Instr), WellFormed i = false := by decide

theorem test_wf_commands_4 : ∀ i ∈ ([
    .pageRead ⟨0, 0, 0⟩ { zeroMArgs with dua := 2 ^ 64 },
    .tierQuery ⟨16, 0, 0⟩ zeroMArgs,
    .tierQuery ⟨0, 0, 0⟩ { zeroMArgs with dua := 2 ^ 64 },
    .poolStats ⟨16, 0, 0⟩ zeroQArgs,
    .poolStats ⟨0, 0, 0⟩ { zeroQArgs with handle := 2 ^ 32 },
    .extentCreate ⟨16, 0, 0⟩ zeroEArgs,
    .extentCreate ⟨0, 0, 0⟩ { zeroEArgs with extent := 2 ^ 64 },
    .extentWrite ⟨16, 0, 0⟩ zeroEArgs,
    .extentWrite ⟨0, 0, 0⟩ { zeroEArgs with extent := 2 ^ 64 },
    .extentRead ⟨16, 0, 0⟩ zeroEArgs,
    .extentRead ⟨0, 0, 0⟩ { zeroEArgs with extent := 2 ^ 64 },
    .extentDelete ⟨16, 0, 0⟩ zeroEArgs,
    .extentDelete ⟨0, 0, 0⟩ { zeroEArgs with extent := 2 ^ 64 },
    .flashHealth ⟨16, 0, 0⟩ zeroQArgs,
    .flashHealth ⟨0, 0, 0⟩ { zeroQArgs with handle := 2 ^ 32 },
    .sqTail 16 0 0 0 [],
    .sqTail 0 64 0 0 [],
    .sqTail 0 0 0 0 [(2 ^ 64, 0)],
    .cqHead 16 0 0 0,
    .cqHead 0 64 0 0,
    .strHead 16 0 0 0,
    .strHead 0 64 0 0,
    .descriptorFetch 16 0,
    .descriptorFetch 0 64,
    .parameterBlockRead ⟨16, 0, 0⟩,
    .hostReadTimeout 16 0 none,
    .hostReadTimeout 0 64 none,
    .hostReadTimeout 0 0 (some (2 ^ 16)),
    .orderedStart ⟨16, 0, 0⟩,
    .registerWrite 16 0 0 0,
    .registerWrite 0 (2 ^ 20) 0 0,
    .refuseLogClear 16 0,
    .queueEnable 16 0 0,
    .queueEnable 0 64 0,
    .queueDisable 16 0 0,
    .queueDisable 0 64 0,
    .partitionEnable 16 0 0,
    .partitionEnable 0 16 0,
    .partitionDisable 16 0 0,
    .partitionDisable 0 16 0,
    .coneFire 16 0,
    .disablePendingClear 16 none,
    .disablePendingClear 0 (some (64)),
    .queueResetDone 16 0,
    .queueResetDone 0 64] : List Instr), WellFormed i = false := by decide

theorem test_wf_commands_5 : ∀ i ∈ ([
    .kvExhausted (2 ^ 32),
    .tileZeroing 1024,
    .regulatorPiece 16 ⟨0, (0, 0)⟩ 0 0,
    .regulatorPiece 0 ⟨6, (0, 0)⟩ 0 0,
    .regulatorPiece 0 ⟨5, (9, 0)⟩ 0 0,
    .regulatorPiece 0 ⟨5, (0, 9)⟩ 0 0,
    .draftPass (2 ^ 32) [] 0,
    .maskBuild (2 ^ 32),
    .verification (2 ^ 32) ⟨[], 0⟩,
    .chainStageComplete ⟨16, 0, 0⟩ 0 [],
    .migrationSwitch (2 ^ 32) false,
    .t2PageRead (2 ^ 32) 0,
    .t2PageRead 0 3,
    .pageFreeComplete ⟨16, 0, 0⟩,
    .imageUnloadComplete 16 0,
    .templateFree 16 0,
    .versionRetire 16 0 0,
    .wedgeRelease 16 0,
    .wedgeForced 16 0,
    .recordIssue (.run 0) 0 { strike := some (1024, .residue) },
    .recordIssue (.run 0) 0 { dropped := some 1024 },
    .recordIssue (.run 0) 0 { corrected := [.hubSram (2 ^ 29)] },
    .recordIssue (.run 0) 0 { broken := [.frame 2 0 0] },
    .recordIssue (.run 0) 0 { gang := 2 ^ 16 },
    .recordIssue (.batch 0) 0 { cycles := [(1024, .drain, 1)] },
    .patrolScrub (.hubSram (2 ^ 29)) false,
    .hubSramReload (2 ^ 29),
    .patrolScrub (.tileWord 1024 0) false,
    .parityRebuild (2 ^ 32),
    .knownAnswerTest 1024 false,
    .domainLost 20,
    .renobLinkFail 18 0,
    .governorStep [] [],
    .governorStep (List.replicate 8 65) [],
    .governorStep (List.replicate 8 64) (List.replicate 9 0),
    .dieHot 8 [],
    .dieTrip 8,
    .programmedTrigger 16 0,
    .programmedTrigger 0 4,
    .linkTraining 2 trains,
    .linkTraining 0 { trains with rate := 3 },
    .laneExcluded 2 0,
    .laneExcluded 0 16,
    .ideFailure 2,
    .viral 2,
    .cxlMemRead 16 0 0,
    .cxlMemWrite 16 0 [],
    .firmwareVerify 5,
    .perstAssert 2 0,
    .perstDeassert 2,
    .functionLevelReset 16,
    .getVersion 16,
    .getCapabilities 16,
    .negotiateAlgorithms 16 false,
    .getDigests 16,
    .getCertificate 16 0] : List Instr), WellFormed i = false := by decide

theorem test_wf_commands_6 : ∀ i ∈ ([
    .getCertificate 0 8,
    .challenge 16 (List.replicate 32 0),
    .challenge 0 [],
    .getMeasurements 16 0 false,
    .keyExchange 16 (List.replicate 1184 0),
    .keyExchange 0 [],
    .finish 16 false,
    .endSession 16,
    .heartbeat 16,
    .keyUpdate 16,
    .ideKm 16 false false,
    .trustGet 16,
    .trustSet 16 0 [] [],
    .keyRotate 16,
    .requestUpdate 5 0 false false,
    .getQosControl 2,
    .setQosControl 2 0 0,
    .getQosStatus 2,
    .getQosAllocatedBw 6,
    .setQosAllocatedBw 6 0 [],
    .setQosAllocatedBw 0 0 [2 ^ 8],
    .getQosBwLimit 6,
    .setQosBwLimit 6 0 [],
    .setQosBwLimit 0 0 [2 ^ 8],
    .identifyMemoryDevice 16,
    .getSupportedLogs 16,
    .getLog 16,
    .getEventRecords 16,
    .clearEventRecords 16,
    .getHealthInfo 16,
    .getPoisonList 16,
    .mailboxUnsupported 16 0,
    .hostReadError 16 0 none .unsupported,
    .hostReadError 0 64 none .unsupported,
    .hostReadError 0 0 (some (2 ^ 16)) .unsupported,
    .hdmDecoderCommit 16 0,
    .mirrorRebuild (2 ^ 32),
    .linkRecovery 2 ⟨0, 0⟩ 0 []] : List Instr), WellFormed i = false := by decide

/-! ## Queues and registers: the statements' hypotheses are met -/

theorem test_front_command : ({ base with pending := [.logFlush] } : State).pending = .logFlush :: [] ∧ base.pending = [] :=
  ⟨rfl, rfl⟩

theorem test_reset_memories : State.reset.canonical := by
  constructor <;> rfl

theorem test_reset_bounds : ∃ p q : Nat, p = 15 ∧ q = 63 ∧ p < 16 ∧ q < 64 := ⟨15, 63, by decide⟩

theorem test_doorbell_accepted : base.hears 0 = true ∧ doorbellBad (base.part 0) (base.queue 0 1) 0 8 15 = false ∧
    doorbellBad (base.part 0) (base.queue 0 1) 1 8 0 = false ∧
    doorbellBad (base.part 0) (base.queue 0 2) 2 8 (2 ^ 20 - 16) = false := by decide

theorem test_doorbell_ignored : base.hears 0 = true ∧ (base.queue 0 1).cls ≠ 2 ∧ (KMap.find base.parts 0).isSome = true ∧
    2 ^ (base.queue 0 2).strLog2 ≤ 2 ^ 20 := by decide

/-- A descriptor of VOCAB_QUERY, CID 9, and one that waits for a 64-byte parameter block. -/
def ringed (area : List (Nat × Nat × Nat)) : State :=
  { base with
    hostMem := Mem.writeN [] 0x1000 (bytesOf 64 area)
    parts := [(0, { part0 with queues := [(0, adminQ), (1, { workQ with sqBase := 0x1000, sqTailDb := 1 })] })] }

theorem test_fetch_hypotheses : let s := ringed [(0, 1, 0x52), (2, 2, 9)]
    s.fetches 0 1 = true ∧ descriptorErr 1 (s.descriptor (s.queue 0 1)) (entryOf 1 0 1 (s.descriptor (s.queue 0 1))) = 0 ∧
    s.reserves 1 (s.descriptor (s.queue 0 1)) (entryOf 1 0 1 (s.descriptor (s.queue 0 1))) ≤ (s.queue 0 1).freeSlots := by
  decide

/-- 18_queues R567: an opcode outside the table, one of the other class, reserved bits, a parameter block of a wrong length. -/
theorem test_descriptor_checks :
    let err := fun l => descriptorErr 1 (bytesOf 64 l) (entryOf 1 0 1 (bytesOf 64 l))
    err [(0, 1, 0xFF)] = 0x0101 ∧ err [(0, 1, 0x02)] = 0x0101 ∧ err [(0, 1, 0x52), (1, 1, 8)] = 0x0103 ∧
      err [(0, 1, 0x52), (4, 4, 64)] = 0x0104 ∧ err [(0, 1, 0x52)] = 0 := by decide

theorem test_block_hypotheses : let e : CmdE := { cmdOf 1 0x60 [] [] with st := .pbWait, pbLen := 576, pbAddr := 0x8000 }
    (holding base e).at? workRef .pbWait = some e ∧ (∃ pb t, (holding base e).paramBlock e = .ok (pb, t)) ∧
    ((holding base { e with st := .ordWait }).at? workRef .ordWait = some { e with st := .ordWait } ∧
      (holding base { e with st := .ordWait }).startSt { e with st := .ordWait } = .ready) :=
  ⟨by decide, ⟨_, _, rfl⟩, by decide⟩

theorem test_host_read_failures : (ringed [(0, 1, 0x52)]).fetches 0 1 = true ∧
    (holding base (cmdOf 1 0x52 [] [])).inflight.find? (fun c => c.part = 0 && c.queue = 1 && c.cid = 7 &&
      (c.st == .pbWait || c.st == .ready)) = some (cmdOf 1 0x52 [] []) := by decide

theorem test_queue_reset_hypotheses : let e := cmdOf 0 0x01 (bytesOf 48 [(0, 4, 63)]) []
    (holding base e).starts adminRef 0x01 e = true ∧ (argsH (bytesOf 48 [(0, 4, 63)])).handle = 63 ∧
    (base.queue 0 1).state = .enabled := by decide

theorem test_reset_and_disable_ends :
    (let s := base.modQueue 0 1 (fun k => { k with state := .resetting, tb := 5 })
     (KMap.find s.parts 0).isSome = true ∧ (KMap.find (s.part 0).queues 1).isSome = true ∧
       (s.queue 0 1).state = .resetting ∧ (s.queue 0 1).tb ≤ s.turn ∧ s.inflight.any (fun c => c.part = 0 && c.queue = 1) = false ∧
       s.cmd (s.queue 0 1).ptbReset = none) ∧
    (let s := base.modQueue 0 1 (fun k => { k with state := .disablePending, tb := 5 })
     (s.queue 0 1).state = .disablePending ∧ (s.queue 0 1).tb ≤ s.turn) ∧
    (let s := base.modPart 0 (fun v => { v with disablePending := true, tb := 5 })
     (s.part 0).disablePending = true ∧ (s.part 0).tb ≤ s.turn ∧ s.inflight.any (fun c => c.part = 0) = false) := by decide

theorem test_post_hypotheses : let e := cmdOf 1 0x52 [] []
    base.canonical ∧ base.ringsLive = true ∧ base.ringOk e.part e.queue = true ∧ (KMap.find base.parts e.part).isSome = true ∧
      (KMap.find (base.part e.part).queues e.queue).isSome = true := by
  refine ⟨⟨rfl, rfl⟩, ?_⟩; decide

theorem test_quiet_and_loud : (({ cmdOf 1 0x52 [] [] with quiet := true } : CmdE).quiet = true) ∧ (cmdOf 1 0x52 [] []).quiet = false :=
  ⟨rfl, rfl⟩

theorem test_register_write_hypotheses : base.barOpen 0 = true ∧ (base.modPart 1 (fun v => v)).barOpen 1 = true ∧
    (0x80000000#32).getLsbD 31 = true ∧ (0x80000000#32).toNat &&& 0x70000000 = 0 ∧
    (1#32).getLsbD 0 = true ∧ (1#32).toNat &&& 0xFFFFFFFE = 0 ∧ (rsvMask 0x21000).isSome = true := by decide

theorem test_queue_enable_hypotheses :
    let t := base.modPart 0 (fun v => { v with
      queues := KMap.put v.queues 3 ({ sqBase := 0x4000, cqBase := 0x8000 } : Queue), eff := { v.eff with hdmSize := 1 }, dbLo := 1 })
    let u := t.modPart 0 (fun w => { w with heldLow := none })
    let k := u.queue 0 3
    let n := k.written 3 (0x1000 + 64 * 3) [(0x1000 + 64 * 3, 0x801A0000)]
    k.refusal n 0 3 (u.part 0).dbInWindow (u.ringMapped 0 n) = 0 ∧ k.enable = false := by decide

theorem test_queue_disable_hypotheses :
    let u := base.modPart 0 (fun w => { w with heldLow := none })
    let k := u.queue 0 1
    let n := k.written 1 (0x1000 + 64) [(0x1000 + 64, 0x001A0000)]
    k.refusal n 0 1 (u.part 0).dbInWindow (u.ringMapped 0 n) = 0 ∧ k.enable = true ∧ u.queueBusy 0 1 = false ∧
    (holding u (cmdOf 1 0x52 [] [])).queueBusy 0 1 = true := by decide

theorem test_partition_enable_hypotheses :
    let t := base.modPart 0 (fun v => { v with heldLow := none })
    let w := (t.part 1).slotWritten 0x21100 [(0x21100, 0x81000002)]
    t.slotRefusal 1 w true = 0 ∧ (t.part 1).en = false ∧ w.t0Min ≤ t.freeable 0 1 ∧ w.t1Min ≤ t.freeable 1 1 ∧
      144 * w.tileLimit ≤ t.saveFree 1 w.t1Min := by decide

theorem test_system_only_hypotheses : base.barOpen 1 = true ∧ (KMap.find base.parts 1).isSome = true ∧ 0x20000 % 4 = 0 ∧
    (rsvMask 0x20000).isSome = true := by decide

theorem test_busy_trigger : let s := { base with mgmt := { base.mgmt with snapBusy := true } }
    s.stage = .up ∧ s.sagger.erased = false ∧ s.mgmt.snapBusy = true ∧ s.barOpen 1 = true ∧
      (1 : Nat) &&& (rsvMask 0x10000).getD 0 = 0 := by decide

theorem test_stage_slot_hypotheses : let e := cmdOf 1 0x52 [] []
    (KMap.find (holding base e).parts e.part).isSome = true ∧ (KMap.find ((holding base e).part e.part).queues e.queue).isSome = true ∧
    (holding base e).cmd e.tag = some e ∧ (holding base e).ringsLive = true ∧ (holding base e).ringOk e.part e.queue = true ∧
    (((holding base { e with resv := 3 }).stageOver { e with resv := 3 } 1 0 0).cmd e.tag).map CmdE.resv = some 2 := by decide

/-! ## ADMIN commands, the log, the cone, the link -/

/-- A query area: handle, OUT_ADDR 0x8000, OUT_CAP. -/
def queryArea (handle cap : Nat) : List Byte := bytesOf 48 [(0, 4, handle), (8, 8, 0x8000), (16, 4, cap)]

/-- Every query whose record fits the buffer it names is delivered: the hypothesis `delivers`. -/
theorem test_queries_are_delivered (s : State) (e : CmdE) (a : QArgs) (items : List (List Byte))
    (h : (qRecord e.opc items).length ≤ a.outCap) (hd : bit a.qflags 0 = false) : s.delivers e a items = true :=
  State.delivers_host h hd

theorem test_link_query_delivered : let e := cmdOf 0 0x0D (queryArea 0 0xFFFF) []
    (holding base e).delivers e (argsQ (queryArea 0 0xFFFF)) ((holding base e).linkItems 0) = true :=
  State.delivers_host (by decide) (by decide)

theorem test_counter_groups : (argsQ (queryArea 8 0x800)).handle ≤ 8 ∧ 8 < (argsQ (queryArea 9 0x800)).handle := by decide

theorem test_snapshot_hypotheses : let s := { base with mgmt := { base.mgmt with snaps := [{ no := 3 }], lastSnap := 3 } }
    s.snap? 3 = some { no := 3 } := by decide

theorem test_log_read_hypotheses : let a := argsLog (bytesOf 48 [(0, 8, 1), (8, 8, 0x8000), (16, 4, 128)])
    128 ≤ a.outCap ∧ (base.mgmt.logFlash ++ base.mgmt.logBuf).filter (fun l => a.first ≤ l.recno) = [] ∧
    (({ base.mgmt with logBuf := [{ recno := 1 }] } : Mgmt).logFlash ++ [({ recno := 1 } : LogRec)]).filter
      (fun l => a.first ≤ l.recno) = [{ recno := 1 }] := by decide

theorem test_time_and_power_hypotheses : field (bytesOf 48 [(0, 6, 77)]) 0 6 = 77 ∧ field (bytesOf 48 [(0, 1, 3)]) 0 1 = 3 ∧
    base.power.entering = false ∧ base.power.pstate < 3 ∧ base.power.pstate = 0 := by decide

theorem test_cone_program_hypotheses : let a := argsCone (bytesOf 48 [(0, 8, 5), (8, 4, 19999999)])
    bit a.cancel 0 = false ∧ a.offset < base.wheel.period ∧ base.turn = a.turn ∧ base.wheel.now ≤ a.offset ∧
    KMap.free (base.part 0).cone 4 = some 0 ∧ KMap.free ([(0, 0, 0), (1, 0, 0), (2, 0, 0), (3, 0, 0)] : KMap (Nat × Nat)) 4 = none :=
  by decide

theorem test_cone_cancel_hypotheses : let a := argsCone (bytesOf 48 [(0, 8, 5), (8, 4, 9), (12, 1, 1)])
    let s := base.modPart 0 (fun v => { v with cone := [(2, 5, 9)] })
    bit a.cancel 0 = true ∧ (s.part 0).cone.find? (fun c => c.2 == (a.turn, a.offset)) = some (2, 5, 9) ∧
    (base.part 0).cone.find? (fun c => c.2 == (a.turn, a.offset)) = none ∧ KMap.find (s.part 0).cone 2 = some (s.turn, 9) := by decide

theorem test_flush_hypotheses : base.mgmt.logFlash.length + base.mgmt.logBuf.length ≤ 524288 := by decide

/-- A head in training: 16 lanes of single-head mode, PERST released. -/
def linkless : State := { base with heads := [{ perst := false }, {}] }

theorem test_training_hypotheses : linkless.headUsed 0 = true ∧ (linkless.head 0).perst = false ∧ linkless.moduleLost = false ∧
    0 < linkless.heads.length ∧ trains.ok = true ∧ trains.rate ≤ 2 ∧ trains.width ∈ [1, 2, 4, 8, 16] ∧
    trains.width ≤ (linkless.headLanes 0).length := by decide

theorem test_link_event_hypotheses : (base.head 0).up = true ∧ 15 ∈ base.headLanes 0 ∧ 15 ∉ (base.head 0).laneFail ∧
    (base.head 0).inRecovery = false ∧ (({ base.head 0 with ideIo := true } : Head).ideIo = true) := by decide

/-- 17_host_link R557: lane 0 excluded leaves the upper eight lanes, lanes 0 and 15 leave no run of one or more at an end. -/
theorem test_run_width : base.runWidth 0 [] = 8 ∧ base.runWidth 0 [0] = 8 ∧ base.runWidth 0 [0, 15] = 0 := by decide

/-- Partition 0 with one T0 page mapped at window offset 0, a window of 256 MiB, and its doorbell page outside it. -/
def mapped : State :=
  { base with
    pages := [(0, { frame := 0 })]
    parts := [(0, { part0 with eff := { hdmSize := 1 }, dbLo := 0xFFFF, maps := [{ off := 0, page := 0, pages := 1, tag := 0 }] })] }

theorem test_window_hypotheses : mapped.windowReached 0 = true ∧ mapped.windowClosed 0 = false ∧
    (mapped.part 0).dbInWindow = false ∧ 65535 + 1 ≤ (mapped.part 0).eff.hdmSize * 2 ^ 28 ∧
    (mapped.part 0).windowDua 65535 = some 65535 ∧ (mapped.part 0).windowDua 65536 = none ∧
    KMap.find mapped.pages (65535 / 65536) = some { frame := 0 } ∧ ({ frame := 0 } : Page).flag 3 = false ∧
    ({ frame := 0 } : Page).flag 7 = false := by decide

theorem test_mailbox_hypotheses : base.reach 0 = true ∧ base.moduleLost = false ∧ base.ideBlocked 0 = false ∧
    0x4001 ∉ [0x4000, 0x0400, 0x0401, 0x0100, 0x0101, 0x4200, 0x4300] := by decide

theorem test_fabric_hypotheses : base.fmServed = true ∧ base.fmNames 1 = true ∧ (base.part 1).en = false ∧
    (base.part 1).enPend = false ∧ base.headUsed 0 = true ∧ base.headMode = false ∧ 3 < (base.part 1).wr.rate.length ∧
    4 < (base.part 1).wr.burst.length := by decide

theorem test_bandwidth_hypotheses : let v := { (base.part 1).wr with rate := [0, 0, 0, 1, 1, 0], burst := [0, 0, 0, 1, 1, 0] }
    0 < 256 * (base.head 0).raw / 256 / 250000000 ∧ 0 < v.burst.getD 3 0 ∧ 0 < v.rate.getD 4 0 := by decide

/-! ## Power, sensors, the wheel, management -/

theorem test_limit_hypotheses : base.power.clampPh ≠ 1 ∧ base.power.sustained = false ∧ base.power.dieHot.getD 7 false = false ∧
    ([110000] : List Int).any (fun t => decide (110000 ≤ t)) = true ∧ (∀ t ∈ ([99999] : List Int), t < 100000) := by decide

/-- 20_power_thermal R621: under every limit at once the fraction is 0; with the clamp alone after its hold, 32; with none, the
governor's. -/
theorem test_fraction : let w := base.power
    ({ w with clampPh := 1, sustained := true } : Power).fraction 0 = 0 ∧ ({ w with clampPh := 2 } : Power).fraction 0 = 32 ∧
    ({ w with sustained := true } : Power).fraction 7 = 48 ∧ ({ w with dieHot := [true] } : Power).fraction 0 = 16 ∧
    w.fraction 0 = 64 := by decide

theorem test_supply_hypotheses : base.power.inputLow = false ∧
    base.mgmt.logFlash.length + base.mgmt.logBuf.length ≤ 524288 := by decide

theorem test_power_entry_hypotheses :
    let nap := { base with power := { base.power with entering := true, target := 2 } }
    let deep := { base with power := { base.power with entering := true, target := 3, quiescent := true, entryFrom := 1 } }
    (nap.power.entering = true ∧ 2 ≤ nap.power.target ∧ nap.power.quiescent = false ∧ ∀ e ∈ nap.tasks, e.2.tiles = []) ∧
    (deep.power.target = 3 ∧ deep.power.entryFrom ≠ 2 ∧
      State.evacuate (deep.endMoves.pages.filter (fun e => e.2.tier == 0)) deep.endMoves = (deep, true)) := by
  refine ⟨by decide, by decide, by decide, rfl⟩

theorem test_power_exit_hypotheses :
    let s := { base with power := { base.power with exiting := true, pstate := 2 } }
    s.power.exiting = true ∧ s.power.entering = false ∧ 2 ≤ s.power.pstate ∧ s.inflight = [] := by decide

theorem test_sensor_hypotheses : sensorRange 80 = some (-40000, 150000) ∧ (150000 : Int) < 150001 ∧ (-40000 : Int) ≤ 0 ∧
    (base.sensor 0).faulty = false ∧ (base.sensor 0).stale = false ∧ (base.sensor 0).discards + 1 < 3 ∧
    (({ base.sensor 0 with discards := 2 } : Sensor).discards + 1 = 3) := by decide

theorem test_pacing_hypotheses : base.stage ≠ .off ∧
    (({ base.wheel with pace := 0 } : Wheel).pace = 0) ∧ base.wheel.pace ≠ 0 ∧ base.wheel.slewing = false ∧
    base.wheel.ppsGood = 0 ∧ (1001 : Int).natAbs = 1001 ∧ (50000 : Int).natAbs ≤ 50000 ∧
    (({ base.wheel with ppsGood := 2, refPresent := true } : Wheel).refPresent = true) ∧ base.wheel.timeSet = [] ∧
    base.wheel.refPresent = false := by decide

theorem test_time_set_hypotheses : let w := { base.wheel with timeSet := [(9, 1, 0)] }
    w.timeSet = [(9, 1, 0)] ∧ 0 + 100000000 ≤ w.base + 100000000 := by decide

theorem test_management_hypotheses : base.askuxUp = true ∧ base.recovery = false ∧ 600 ≤ 1800 ∧ 1800 % 10 = 0 ∧
    base.pldmReading 257 = some base.wheel.pace ∧ (base.mgmt.comps.getD 4 {}).floor ≤ 1 ∧
    (base.mgmt.comps.getD 4 {}).slotA = some 1 ∧ ({ base with ready := false } : State).ready = false := by decide

/-! ## Security, start-up, resets -/

theorem test_alarm_hypotheses : base.stage ≠ .off ∧ base.sagger.levels.getD (alarmNum .lidMesh) 1 = 2 ∧
    base.sagger.levels.getD (alarmNum .clockGlitch) 1 = 1 ∧ base.sagger.secLock = false := by decide

theorem test_debug_hypotheses : base.debugRefused = false ∧
    (({ base.sagger with challenge := some [] } : Sagger).challenge = some []) ∧ base.sagger.challenge = none ∧
    base.sagger.debugFails + 1 < 3 ∧ (1 ≤ 3 ∧ 3 ≤ 3) := by decide

/-- A module whose K_ROOT is formed, partition 0's handshake at step n. -/
def attested (n : Nat) : State :=
  { base with
    sagger := { base.sagger with kRoot := true }
    parts := [(0, { part0 with spdmState := n, trust := [[]] })] }

theorem test_spdm_hypotheses : (attested 0).spdmServed 0 = true ∧ ((attested 0).part 0).spdm = none ∧
    3 ≤ ((attested 3).part 0).spdmState ∧ (attested 3).noSigning = false ∧ (attested 3).locked = false ∧
    (attested 3).sagger.erased = false ∧ (attested 3).spdmServed 0 = true ∧ ((attested 4).part 0).spdmState = 4 ∧
    (List.replicate 1184 (0 : Byte)).length = 1184 ∧ (∃ c, (attested 3).slotCert 0 0 = some c) := by
  refine ⟨by decide, by decide, by decide, by decide, by decide, by decide, by decide, by decide, List.length_replicate, ⟨_, rfl⟩⟩

theorem test_secured_hypotheses : (attested 5).spdmServed 0 = true ∧ 5 ≤ ((attested 5).part 0).spdmState ∧
    (attested 5).sagger.debugScope ≠ 3 ∧ [List.replicate 32 (0 : Byte)] ≠ [] ∧
    (∀ h ∈ [List.replicate 32 (0 : Byte)], h.length = 32) ∧ 1 = ((attested 5).part 0).trustCnt + 1 ∧
    ((attested 5).part 0).images.any (fun e => e.2.encrypted) = false := by decide

theorem test_cold_start_hypotheses : State.reset.stage = .off := rfl

theorem test_start_up_hypotheses :
    (∀ d, d < 8 → base.power.dieTripped.getD d false = false) ∧
    (({ base with stage := .verify } : State).stage = .verify) ∧ base.recovery = false ∧ (base.mgmt.comps.getD 0 {}).running = 0 ∧
    (base.mgmt.comps.getD 0 {}).boots = some (1, 0) ∧ 0 < base.mgmt.comps.length := by decide

theorem test_ready_hypotheses : let n := fun (l : List Bool) => (l.filter (fun b => b)).length
    n base.dieLost ≤ 1 ∧ n [true, false] ≤ 1 ∧ 1 < n [true, true] ∧ base.degraded = false := by decide

theorem test_reset_hypotheses : base.stage ≠ .off ∧ base.headMode = false ∧ (base.head 0).perst = false ∧
    base.power.inputOk = true ∧ base.startFail = false ∧ base.reach 0 = true ∧ (KMap.find base.parts 0).isSome = true ∧
    (({ base with stage := .held, heads := [{ perst := true }] } : State).head 0).perst = true := by decide

/-! ## Memory tiers -/

/-- One page of partition 0 at page number 0, and what the statements ask of it. -/
def withPage (g : Page) : State := { base with pages := [(0, g)] }

/-- An M-layout area: page 0, one page, TIER, flags. -/
def pageArea (tier pgflags : Nat) : List Byte := bytesOf 48 [(8, 4, 1), (12, 2, pgflags), (14, 1, tier), (16, 8, 0x8000)]

theorem test_page_alloc_hypotheses : (argsM (pageArea 0 4)).pages ≠ 0 ∧ (argsM (pageArea 2 0)).tier < 3 ∧
    (bit (argsM (pageArea 0 0xC)).pgflags 2 = true ∧ bit (argsM (pageArea 0 0xC)).pgflags 3 = true) ∧
    (base.alloc 0 1 0 (hostFlags 0)).isSome = true ∧ (base.alloc 0 1 2 (hostFlags 0)).isSome = true ∧
    (base.allocPage 0 0 1 (hostFlags 0x21)).isSome = true := by decide

theorem test_page_free_hypotheses : (withPage {}).pagesErr 0 (argsM (pageArea 0 0)) = 0 ∧
    (withPage { flags := 0x80 }).pagesErr 0 (argsM (pageArea 0 0)) = Code.pageLost ∧
    (withPage {}).anyPage (argsM (pageArea 0 0)) (fun g => g.flag 1) = false ∧
    (let s := holding (withPage {}) { cmdOf 0 0x81 [] [] with st := .running }
     s.at? adminRef .running = some { cmdOf 0 0x81 [] [] with st := .running } ∧ ∀ x ∈ s.runs, x.2.part = 0 → 1 ≤ x.2.tag) := by
  decide

theorem test_page_move_hypotheses : (withPage {}).pagesErr 0 (argsM (pageArea 1 0)) = 0 ∧ (argsM (pageArea 1 0)).tier < 2 ∧
    mapped.pagesErr 0 (argsM (bytesOf 48 [(8, 4, 1), (24, 8, 65536)])) = 0 ∧
    (mapped.part 0).rangeBad 65536 1 = false ∧ (mapped.part 0).rangeBad 0 1 = true ∧
    mapped.anyPage (argsM (pageArea 0 0)) (fun g => g.poolKv) = false ∧
    ([0].foldl (fun o k => o.bind (fun (u : State) => u.mapPage k)) (some mapped)).isSome = true := by decide

theorem test_page_bytes_hypotheses : (withPage {}).canonical ∧ bit (argsM (pageArea 0 0)).mflags 0 = false ∧
    (withPage {}).anyPage (argsM (pageArea 0 0)) (fun g => g.flag 3) = false ∧
    (withPage { flags := 0xC }).rewrite [0] ≠ none ∧
    (∃ x, (withPage {}).readBuf 0 (bit (argsM (pageArea 0 0)).mflags 0) 0x8000 65536 = .ok x) := by
  refine ⟨⟨rfl, rfl⟩, by decide, by decide, ?_, ⟨_, rfl⟩⟩
  intro h
  have : ((withPage { flags := 0xC }).rewrite [0]).isSome = true := by decide
  rw [h] at this
  cases this

theorem test_tier_query_hypotheses : (argsM (pageArea 0 0)).dua % 65536 = 0 ∧ inWindow 0 (argsM (pageArea 0 0)).dua 65536 = true ∧
    (∃ t, (withPage {}).writeBuf 0 false 0x8000 (tierEntry (some {})) = .ok t) :=
  ⟨by decide, by decide, _, by rw [State.writeBuf]; exact if_neg Bool.false_ne_true⟩

theorem test_extent_hypotheses :
    let s := { base with flash := { base.flash with extents := [(1, { size := 64, pend := [(1, 0, [7])] })] } }
    s.extentBytes + s.flash.pagingSizeWr * 2 ^ 30 + 4096 ≤ flashBytes ∧
    s.extentOk 0 1 0 64 = true ∧ s.extentOk 0 1 1 64 = false ∧
    s.flash.readonly = false ∧ KMap.find s.flash.extents 1 = some { size := 64, pend := [(1, 0, [7])] } ∧
    (holding s (cmdOf 0 0x8C [] [])).cmd 1 = some (cmdOf 0 0x8C [] []) ∧ s.extentOk 0 1 0 0 = true := by
  refine ⟨by unfold flashBytes; split <;> exact Nat.le_of_ble_eq_true rfl, ?_⟩
  decide

theorem test_spare_limits : (2 : Nat) ≤ 2 ∧ (1 : Nat) < 2 := by decide

theorem test_migration_start_hypotheses : let g : Page := { tier := 1, queued := true, wantTier := 0 }
    let s := withPage g
    leastBy (fun a b => decide (a.2.deadline.1 < b.2.deadline.1) ||
      (a.2.deadline.1 == b.2.deadline.1 && (decide (a.2.deadline.2 < b.2.deadline.2) ||
        (a.2.deadline.2 == b.2.deadline.2 && decide (a.1 < b.1))))) (s.pages.filter (engineTakes 3)) = some (0, g) ∧
    (s.placeIn 0 0 false false .prefetch).isSome = true ∧ (s.placeIn 0 0 false false .demand).isSome = true ∧ base.flashUp = true ∧
    engineTakes 8 (0, { tier := 2, queued := true }) = true ∧ s.asleep = false ∧ (∀ y, s.engineSpot 8 g y = some y) := by
  refine ⟨by decide, by decide, by decide, by decide, by decide, by decide, fun y => rfl⟩

/-- 08_memory_tiers R261: whatever place of tier T0 is free, engine 3 finds one on its own die. -/
theorem test_own_die : let s := withPage { tier := 1, queued := true, wantTier := 0 }
    ∀ y : Spot, (s.engineSpot 3 {} y).isSome = true := by
  intro s y
  unfold State.engineSpot
  split
  · rfl
  · split
    · rfl
    · exact (by decide : (s.leastSpotOn 0 3 false false).isSome = true)

theorem test_migration_switch_hypotheses : let g : Page := { mstate := 1, dstTier := 1, dirty := [5], rounds := 3 }
    let h : Page := { g with mstate := 2, dirty := [5], rounds := 4 }
    (KMap.find (withPage g).pages 0 = some g ∧ g.mstate = 1 ∧ g.tier ≠ 2 ∧ g.dstTier ≠ 2 ∧ (withPage g).tablePage 0 = none ∧
      g.rounds < 4) ∧ (h.mstate = 2 ∧ 4 ≤ h.rounds ∧ (withPage h).tablePage 0 = none) ∧
    ({ g with dirty := [] } : Page).dirty = [] ∧ ({ g with dirty := [], dstTier := 2 } : Page).dstTier = 2 := by decide

theorem test_replayed_table_hypotheses : let g : Page := { mstate := 1, dstTier := 1, dirty := [5] }
    let t : Table := { rows := 1, dim := 1, rfmt := 0, updatable := true, cur := { num := 1, rowBase := 0, rowPages := 1 } }
    ((withPage g).modPart 0 (fun v => { v with tables := [(3, t)] })).tablePage 0 = some (0, 3) := by decide

theorem test_flash_read_hypotheses : let g : Page := { tier := 2, mstate := 1, demand := true }
    let e : CmdE := { cmdOf 0 0x82 [] [] with st := .running, aux := [0] }
    KMap.find (withPage g).pages 0 = some g ∧ (withPage g).asleep = false ∧ g.mstate = 1 ∧ g.tier = 2 ∧ ({ g with demand := false } : Page).demand = false ∧
    (withPage g).inflight = [] ∧ (withPage g).runs = [] ∧ g.poolKv = false ∧
    ({ withPage g with inflight := [e] }).inflight = [e] ∧ e.st = .running ∧ e.opc = 0x82 ∧ 0 ∈ e.aux ∧
    KMap.find (withPage g).batches g.forBatch = none := by decide

/-- A page that PAGE_MOVE takes from T0 to T2 goes on from T1, and the command completes only when it stands in T2
(08_memory_tiers R261, R284). -/
theorem test_move_goes_on : let g : Page := { flags := 0x10, mstate := 1, queued := true, wantTier := 2, moveTag := 1, dstTier := 1 }
    let e : CmdE := { cmdOf 0 0x82 [] [] with st := .running, aux := [0] }
    let t := ({ withPage g with inflight := [e] }).arrive 0 g ⟨1, 2, 3, 0⟩
    let u := t.arrive 0 { g with tier := 1 } ⟨2, 0, 0, 0⟩
    (t.inflight = [e] ∧ (KMap.find t.pages 0).map (fun h => (h.tier, h.queued, h.flag 4)) = some (1, true, false)) ∧
    (u.inflight = [] ∧ (KMap.find u.pages 0).map (fun h => (h.tier, h.queued)) = some (2, false)) := by decide

theorem test_rebuild_hypotheses : let g : Page := { rebuild := true, flags := 0x0B }
    let h : Page := { remirror := true }
    g.rebuild = true ∧ (g.flag 0 && g.flag 1 && g.flag 3) = true ∧ ((withPage g).pickSpot 0 false false).isSome = true ∧
    h.remirror = true ∧ h.flag 7 = false ∧
    ((withPage h).dies 0).find? (fun m => m ≠ h.die && !(withPage h).held 0 m h.frame && !(withPage h).parityFrame 0 m h.frame) = some 1 ∧
    ({ g with flags := 0 } : Page).rebuild = true := by decide

/-- A PARITY page in T0 whose group has lost its parity frame, and one whose place has no third die. -/
theorem test_regroup_hypotheses : let g : Page := { flags := 4, frame := 3 }
    let s := { withPage g with stackLost := [false, false, false, true, false, false, false, false] }
    let h : Page := { remirror := true, frame := 9 }
    let full := { withPage h with pages := (0, h) :: (List.range 7).map (fun i => (i + 1, { die := i + 1, frame := 9 })) }
    g.rebuild = false ∧ g.flag 2 = true ∧ g.tier < 2 ∧ g.flag 4 = false ∧ s.stackLost.getD (g.frame % 8) false = true ∧
    (s.pickSpot g.tier true (g.flag 5)).isSome = true ∧ (full.dies 0).find? (fun m => m ≠ h.die && !full.held 0 m h.frame && !full.parityFrame 0 m h.frame) = none ∧
    (full.placeIn 0 0 false true .alloc).isSome = true := by decide

theorem test_dirty_line_hypotheses : let g : Page := { mstate := 2 }
    KMap.find (withPage g).pages 0 = some g ∧ 0 ∈ pagesOf 65535 1 ∧ 1023 < 1024 ∧ 65535 < 0 * 65536 + 64 * 1023 + 64 := by decide

/-! ## Gangs, runs, layers -/

theorem test_position_bounds : 2 < positionsIn (2 ^ 8) ∧ 0 < positionsIn (2 ^ 10) ∧ 1023 < positionsIn (2 ^ 0) ∧ 7 ≤ 7 ∧ 7 < 8 := by
  decide

/-- 16_scheduling R512: position 9 of 8 tiles lies on die 0: the block of 4 x 2 tiles at row 4, column 4, its tile 5 at row 5. -/
theorem test_position_of_eight : gangW 8 = 4 ∧ gangH 8 = 2 ∧ (posTiles 8 9).getD 5 0 = 16 * 5 + 5 := by decide

/-- A COPY record of one BF16 element in the scratchpad, and a NOP. -/
def copyRec : List Byte :=
  bytesOf 128 [(0, 1, 0x2A), (2, 2, 0xFFFF), (16, 8, 2 ^ 64 - 1), (48, 1, 1), (56, 4, 1), (60, 4, 1), (96, 1, 1), (98, 6, 64),
    (104, 4, 1), (108, 4, 1)]
def nopRec : List Byte := bytesOf 128 [(2, 2, 0xFFFF), (12, 1, 1), (16, 8, 2 ^ 64 - 0x10000 + 0)]

/-- Partition 0 with an image of kind 4 (the two records) and a run of it, its first record on tile 0. -/
def running : State :=
  { base with
    runs := [(1, { image := 2, tag := 1 })]
    nextRun := 2
    tasks := [(1, { work := .record 1 0, st := .placed, tiles := [0] })]
    nextTask := 2
    tiles := [(0, { task := 1 })]
    parts := [(0, { part0 with images := [(2, { ready := true, kind := 4, recs := [copyRec, nopRec] })] })] }

/-- The same task at another stage. -/
def staged (k : Task) : State := { running with tasks := [(1, k)] }

theorem test_task_place_hypotheses : let k : Task := { work := .record 1 0, size := 2 }
    let s := { staged k with tiles := [] }
    s.stage = .up ∧ s.power.pstate = 0 ∧ s.power.entering = false ∧ s.power.exiting = false ∧ KMap.find s.tasks 1 = some k ∧
    s.wanted 1 k = some (0, [0, 1]) ∧ s.granted 1 k [0, 1] = true ∧ k.st = .scanning := by decide

theorem test_task_release_hypotheses : let k : Task := { work := .record 1 0, st := .placed, tiles := [0] }
    let s := { running with runs := [(1, { image := 2, tag := 1, status := [(0, 0)] })] }
    KMap.find s.tasks 1 = some k ∧ k.tiles ≠ [] ∧ k.st = .placed ∧ s.workEnded k = true ∧
    (({ k with st := .saved } : Task).st = .saved) ∧ (({ s with tiles := [(0, { zeroing := true })] } : State).tile 0).zeroing = true := by
  decide

theorem test_save_hypotheses : let k : Task := { work := .record 1 0, st := .restoring, tiles := [3, 1], slots := [([], []), ([], [])] }
    KMap.find (staged k).tasks 1 = some k ∧ (∀ t ∈ k.tiles, ((staged k).tile t).zeroing = false) ∧ k.tiles.Nodup ∧
    k.slots.length = k.tiles.length ∧ ({ k with st := .saving } : Task).st = .saving := by decide

theorem test_regulator_hypotheses : let s := base.modPart 0 (fun v => { v with
      eff := { v.eff with rate := [1, 0, 0, 0, 0, 0], burst := [1, 0, 0, 0, 0, 0] }, bucket := [1000] })
    0 < 6 ∧ (s.part 0).eff.rate.getD 0 0 ≠ 0 ∧ min 64 (min 65536 (1024 * (s.part 0).eff.burst.getD 0 0)) ≤
      min ((s.part 0).bucket.getD 0 0 + 0) (1024 * (s.part 0).eff.burst.getD 0 0) ∧
    min ((s.part 0).bucket.getD 0 0 + 0) (1024 * (s.part 0).eff.burst.getD 0 0) <
      min 4096 (min 65536 (1024 * (s.part 0).eff.burst.getD 0 0)) := by decide

theorem test_graph_run_hypotheses : let e := cmdOf 0 0x12 (bytesOf 48 [(0, 2, 2)]) (bytesOf 16 [(0, 8, 5)])
    let im : Image := { ready := true, kind := 4, recs := [copyRec, nopRec] }
    field e.area 0 2 = 2 ∧ words 8 e.pb = [5, 0] ∧ running.image? 0 2 = some im ∧ im.kind = 4 ∧ im.needsPriv = false ∧
    im.tablesNamed.any (fun h => (running.table? 0 h).isNone) = false := by decide

theorem test_record_issue_hypotheses : let im : Image := { ready := true, kind := 4, recs := [copyRec, nopRec] }
    let x : Run := { image := 2, tag := 1 }
    let r := im.record 0
    KMap.find running.runs 1 = some x ∧ KMap.find (running.part 0).images 2 = some im ∧ running.moduleLost = false ∧
    x.mayIssue im 0 = true ∧ r.opc ≠ 0 ∧ r.gang ≤ (running.part 0).eff.tileLimit ∧
    running.taskOf (.record 1 0) = some (1, { work := .record 1 0, st := .placed, tiles := [0] }) ∧
    running.taskReady { work := .record 1 0, st := .placed, tiles := [0] } = true ∧
    r.err x.privileged false (some x.binds) (entrySize (running.runBench x 0 [0]) running r) = 0 ∧ [0].contains 0 = true := by decide

theorem test_record_runs : let x : Run := { image := 2, tag := 1 }
    ∃ y, running.runRecord 0 [] (some 1) (running.runBench x 0 [0]) (recOf copyRec) copyRec = .ok y ∧ y.wait = false ∧
      running.inT2 ((y.bench.reads.flatMap (fun (g : Nat × Nat) => pagesOf g.1 g.2) ++
        y.bench.puts.flatMap (fun (g : Nat × List Byte) => pagesOf g.1 g.2.length) ++ (y.pages ++ [])).dedup) = [] :=
  ⟨_, rfl, by decide, by decide⟩

theorem test_record_issue_refused : let im : Image := { ready := true, kind := 4, recs := [bytesOf 128 [(0, 1, 0x7F)], nopRec] }
    let x : Run := { image := 2, tag := 1, status := [(0, 0)] }
    (im.record 0).err false false (some []) 8 = Code.opcodeInvalid ∧ (im.record 1).opc = 0 ∧ x.due (im.record 1) 1 = true ∧
    ((running.modPart 0 (fun v => { v with eff := { v.eff with tileLimit := 1 } })).part 0).eff.tileLimit <
      (recOf (bytesOf 128 [(0, 1, 0x2A), (5, 1, 1)])).gang := by decide

theorem test_dropped_packet_hypotheses :
    let s : State := { running with
      tasks := running.tasks ++ [(2, { part := 1, work := .record 9 0, st := .placed, tiles := [5] })]
      tiles := running.tiles ++ [(5, { task := 2 })] }
    s.dropAt 0 { dropped := some 5 } = some 5 ∧ s.dropAt 0 {} = none ∧ (recOf (bytesOf 128 [(0, 1, 0x2C)])).opc = 0x2C := by decide

theorem test_run_status_hypotheses : (∀ e ∈ ([(0, 0)] : KMap Nat), e.2 = 0) ∧
    ([(0, Code.reservedEncoding), (1, Code.shapeInvalid)] : KMap Nat).find? (fun e => failed e.2) = some (1, Code.shapeInvalid) ∧
    ([(0, Code.reservedEncoding)] : KMap Nat).find? (fun e => failed e.2) = none ∧
    ([(0, Code.reservedEncoding)] : KMap Nat).find? (fun e => decide (e.2 ≠ 0)) = some (0, Code.reservedEncoding) := by decide

/-- A batch of a serving image: one narrow MATMUL record of layer 0, whose threshold entry may trip on the first monitor. -/
def layered (cal : List Byte) (v : Batch) : State :=
  { base with
    batches := [(1, v)]
    tasks := [(1, { work := .batch 1, st := .placed, tiles := [0] })]
    tiles := [(0, { task := 1 })]
    parts := [(0, { part0 with images := [(0, { ready := true, layerCnt := 1, cal := [(0, cal)]
                                                recs := [bytesOf 128 [(0, 1, 1), (48, 1, 3), (56, 4, 1), (60, 4, 1)]] })] })] }

/-- A batch whose image holds a COPY and a NOP record. -/
def idling (v : Batch) : State :=
  { layered [] v with
    parts := [(0, { part0 with images := [(0, { ready := true, layerCnt := 1, recs := [copyRec, nopRec] })] })] }

/-- 03_narrow_arithmetic R79; 06_operations R202: a batch's record that may issue, one whose checks fail, one that does nothing. -/
theorem test_batch_record_hypotheses : let v : Batch := { members := [1], task := 1 }
    let k : Task := { work := .batch 1, st := .placed, tiles := [0] }
    let s := layered [] v
    let w : Batch := { v with recDone := [0] }
    let t := idling w
    (∃ im, KMap.find (s.part 0).images 0 = some im ∧ v.mayIssue im 0 s.wheel.commit = true ∧
      (im.record 0).err v.privileged false none 8 ≠ 0) ∧
    (∃ im, KMap.find (t.part 0).images 0 = some im ∧ w.mayIssue im 1 t.wheel.commit = true ∧ (im.record 1).opc = 0 ∧
      (im.record 1).err w.privileged false none 8 = 0 ∧ t.dropAt 0 {} = none) ∧
    KMap.find s.batches 1 = some v ∧ KMap.find s.tasks v.task = some k ∧ s.moduleLost = false ∧ s.taskReady k = true ∧
    k.tiles.contains 0 = true :=
  ⟨⟨_, rfl, by decide, by decide⟩, ⟨_, rfl, by decide, by decide, by decide, by decide⟩, by decide⟩

/-- A threshold entry of layer 0: cause 0 enabled with these flags, one monitor, SAT_TH 1. -/
def calEntry (flags : Nat) : List Byte := bytesOf 32 [(2, 1, flags), (3, 1, 1), (4, 2, 1)]

/-- A closed batch whose monitor counted one saturation in one element. -/
def tripped : Batch := { members := [1], task := 1, recDone := [0], closed := true, closeAt := 50
                         mon := [(1, 0, 1, 0), (0, 0, 0, 0), (0, 0, 0, 0), (0, 0, 0, 0)] }

theorem test_layer_close_hypotheses : let v : Batch := { members := [1], task := 1, recDone := [0] }
    let s := layered (calEntry 1) v
    ∃ im, KMap.find s.batches 1 = some v ∧ KMap.find (s.part 0).images 0 = some im ∧ v.carried = false ∧ s.wheel.commit = false ∧
      v.closed = false ∧ v.faulted = false ∧ v.layer < im.layerCnt ∧ v.layerOver im = true ∧ v.refire = false :=
  ⟨_, rfl, rfl, by decide⟩

theorem test_refire_hypotheses :
    tripBits (calEntry 1) tripped.mon ≠ 0 ∧ tripBits (calEntry 0) tripped.mon = 0 ∧ tripped.wide = false ∧
    (({ tripped with wideNow := true } : Batch).wide = true) ∧ bit (field (calEntry 0x11) 2 1) 4 = true ∧
    bit (field (calEntry 1) 2 1) 4 = false ∧
    (∃ im, KMap.find ((layered (calEntry 1) tripped).part 0).images 0 = some im ∧ im.canWiden 0 = true ∧ KMap.find im.cal 0 = some (calEntry 1)) ∧
    KMap.find ({ tripped with lrs := [(0, 49)] } : Batch).lrs 0 = some 49 ∧ 49 < tripped.closeAt ∧
    (∀ l, KMap.find ({ tripped with lrs := [(0, 50)] } : Batch).lrs 0 = some l → tripped.closeAt ≤ l) := by
  refine ⟨by decide, by decide, by decide, by decide, by decide, by decide, ⟨_, rfl, by decide⟩, by decide, by decide, ?_⟩
  intro l h
  cases h
  decide

/-- 03_narrow_arithmetic R82: one saturated element of one trips SAT_TH 1/65536; one of 65,536 is not above it. -/
theorem test_saturation_limit : tripBits (calEntry 1) [(1, 0, 1, 0)] = 1 ∧ tripBits (calEntry 1) [(1, 0, 65536, 0)] = 0 := by decide

theorem test_fault_hypotheses : running.healthy 5 = true ∧ running.tileGated 5 = false ∧
    KMap.find ({ running with runs := [(1, { image := 2, tag := 1, faulted := some 0 })] } : State).runs 1 =
      some { image := 2, tag := 1, faulted := some 0 } ∧
    (running.reform 1 { work := .record 1 0, st := .placed, tiles := [0] }).isSome = true ∧
    (let v : Batch := { tripped with faulted := true, lrs := [(0, 49)] }
     v.faulted = true ∧ v.carried = false ∧ KMap.find v.lrs v.layer = some 49 ∧
       (layered (calEntry 1) v).reform 1 { work := .batch 1, st := .placed, tiles := [0] } ≠ none) := by
  refine ⟨by decide, by decide, by decide, by decide, by decide, by decide, by decide, ?_⟩
  intro h
  have : ((layered (calEntry 1) { tripped with faulted := true, lrs := [(0, 49)] }).reform 1
    { work := .batch 1, st := .placed, tiles := [0] }).isSome = true := by decide
  rw [h] at this
  cases this

/-! ## Images -/

/-- A list filled with zeros up to n bytes. -/
def padTo (n : Nat) (l : List Byte) : List Byte := l ++ zeros (n - l.length)

/-- A plain ware image of kind 4: one COPY record, one page of one byte, no schedule (06_operations R207 to R209). -/
def wareImage : List Byte :=
  let sect := fun (t off len : Nat) => bytesOf 48 [(0, 2, t), (8, 8, off), (16, 8, len)]
  padTo 512 (bytesOf 128 [(0, 4, 0x49575856), (4, 2, 1), (6, 2, 128), (8, 8, 6392), (36, 1, 4), (40, 2, 7), (44, 2, 1), (46, 2, 1),
      (48, 4, 1), (56, 1, 0xFF)] ++ sect 1 512 64 ++ sect 2 768 128 ++ sect 3 1024 16 ++ sect 4 1280 16 ++ sect 8 1536 1 ++
      sect 9 1792 1088 ++ sect 0xFF 3072 3320) ++
    padTo 256 (bytesOf 64 [(48, 2, 2), (52, 4, 0xFFFFFFFF)]) ++ padTo 256 copyRec ++ padTo 256 (bytesOf 16 [(4, 4, 1)]) ++
    padTo 256 (bytesOf 16 [(8, 4, 1)]) ++ padTo 256 [7] ++ zeros 1280 ++ padTo 3320 (leBytes 2 3309)

theorem test_image_form : wareImage.length = 6392 ∧ headerBad wareImage = false ∧ headerBad (wareImage.drop 1) = true ∧
    imgEnc (wareImage.take 128) = false := by decide +kernel

/-- Every premise of a load but the signature's, whose check is uninterpreted (log 7). -/
theorem test_image_load_hypotheses : let h := wareImage.take 128
    let ps := plains 0 wareImage
    contentBad wareImage ps = false ∧ sealedBad h ps = false ∧ field h 52 4 ≤ (base.mgmt.comps.getD 2 {}).running ∧ field (KMap.findD ps 0xFF []) 0 2 = 3309 ∧
    zeroAt (KMap.findD ps 0xFF []) 2 2 = true ∧ base.samePresent 0 h = none ∧ KMap.free (base.part 0).images 64 = some 0 ∧
    base.imagesHeld < 256 ∧ recordsErr h ((recsOf ps).map recOf) = 0 ∧ (KMap.findD ps 5 []).length % 32 = 0 ∧ calOf ps = [] ∧
    step8Bad h ps ((recsOf ps).map recOf) = false ∧ (base.loadPages 0 (imagePages ps false)).isSome = true := by decide +kernel

theorem test_image_load_codebooks (t : State) (b : Nat) : codebookBad t b [copyRec] = false := by
  have h : relocate b copyRec = copyRec := rfl
  simp only [codebookBad, h]
  rfl

theorem test_image_load_refusals : let im : Image := { ready := true }
    let s := base.modPart 0 (fun v => { v with images := [(3, im)] })
    s.samePresent 0 (zeros 128) = some 3 ∧
    KMap.free ((List.range 64).map (fun i => (i, im)) : KMap Image) 64 = none ∧ imgEnc (bytesOf 128 [(38, 2, 1)]) = true ∧
    field (bytesOf 128 [(38, 2, 1), (56, 1, 2)]) 56 1 ≠ 0 := by decide

theorem test_image_unload_hypotheses : let im : Image := { ready := true, kind := 4, recs := [copyRec, nopRec] }
    let gone : Image := { leaving := true, unloadTag := 1 }
    let s := base.modPart 0 (fun v => { v with images := [(2, gone)] })
    running.image? 0 2 = some im ∧ running.imageNamed 0 2 = false ∧
    ({ running with sessions := [(1, { image := 2 })] } : State).imageNamed 0 2 = true ∧
    KMap.find (s.part 0).images 2 = some gone ∧ gone.leaving = true ∧ s.imageBusy 0 2 = false ∧
    (holding s (cmdOf 1 0x11 [] [])).cmd gone.unloadTag = some (cmdOf 1 0x11 [] []) := by decide

/-! ## Vector search -/

/-- A vocabulary of four tokens, an index of one partition with one item in its slip list and its passage, a template, and images for
the encoder and the cross-encoder. -/
def vocabW : Vocab := { shared := true, toks := [{ bytes := [97] }, { bytes := [98] }, { bytes := [32] }, { eos := true }], unkId := 0
                        byteMap := (List.range 256).map (fun b => if b = 98 then 1 else if b = 32 then 2 else 0) }
def slipW : Slip := { item := 9, epoch := 2, code := 5 }
def indexW : Index := { tokenCnt := 4, pub := 2, slip := [slipW], passages := [(9, 2, [1, 2])] }
def templateW : Template := { lists := [[0], [], [], [1], [2]] }
def searching : State :=
  { base with
    vocabs := [(0, vocabW)]
    parts := [(0, { part0 with indexes := [(0, indexW)], templates := [(0, templateW)]
                               images := [(3, { ready := true, kind := 3, sepId := 0xFFFFFFFF }), (2, { ready := true, kind := 2, sepId := 0xFFFFFFFF })] })] }

/-- A parameter block of INDEX_CREATE: 256 bits, one partition, blocks of one page. -/
def indexBlock : List Byte := bytesOf 64 [(0, 2, 256), (6, 2, 1), (8, 8, 0x8000)]

/-- `searching` holds no page yet. -/
theorem searching_calm : searching.Calm 0 0 := ⟨Nat.le_refl _, fun _ h => (by cases h), rfl, rfl, rfl, by decide, by decide, rfl⟩

theorem test_index_create_hypotheses : let a := argsIndex indexBlock
    ixBad a = false ∧ searching.vocab? 0 a.vocab = some vocabW ∧ searching.ixFull 0 = false ∧
    KMap.free (searching.part 0).indexes 64 = some 1 ∧
    (searching.newIndex 0 1 a vocabW (zeros 32) 1 [] (emptyBlock a) false).isSome = true ∧
    (∃ x, searching.readBuf 0 (bit a.ixflags 1) a.centAddr 32 = .ok x) := by
  refine ⟨by decide, by decide, by decide, by decide, ?_, ⟨_, rfl⟩⟩
  obtain ⟨c, t, h1, ct⟩ := searching_calm.alloc (tier := 0) (fl := 8#16) (by decide) (by decide) rfl rfl rfl
  obtain ⟨d, u, h2, cu⟩ := ct.alloc (tier := 0) (fl := 8#16) (by decide) (by decide) rfl rfl rfl
  obtain ⟨b, w, h3, -⟩ := cu.alloc (tier := 1) (fl := 8#16) (by decide) (by decide) rfl rfl rfl
  have e1 : searching.alloc 0 (ceilDiv (zeros 32).length 65536) 0 (BitVec.ofNat 16 (8 + flag (bit (argsIndex indexBlock).ixflags 0) 2 +
    flag false 6)) = some (c, t) := h1
  have e2 : t.alloc 0 (ceilDiv (16 * 2 ^ (argsIndex indexBlock).npartLog2) 65536) 0 (BitVec.ofNat 16 8) = some (d, u) := h2
  have e3 : u.alloc 0 (2 ^ (argsIndex indexBlock).npartLog2 * (argsIndex indexBlock).blkPages) 1
    (BitVec.ofNat 16 (8 + flag (bit (argsIndex indexBlock).ixflags 0) 2 + flag false 6)) = some (b, w) := h3
  simp only [State.newIndex, e1, e2, e3, Option.bind_some, Option.map_some, Option.isSome_some]

theorem test_index_load_hypotheses : let a : IndexArgs := { argsIndex indexBlock with extent := 1, psgExtent := 1 }
    let s := { searching with flash := { searching.flash with extents := [(1, { size := 2 ^ 20, data := [(6, 255), (7, 1)] })] } }
    s.extentOk 0 1 0 32 = true ∧ s.extentOk 0 1 0 65536 = true ∧ s.extentOk 0 1 0 0 = true ∧
    blockOk a 0 (zeros 512) = false ∧ blockOk a 0 (emptyBlock a 0) = true ∧ s.liveAll + 0 ≤ 2 ^ 33 := by decide +kernel

theorem test_index_use_hypotheses : searching.index? 0 0 1 = some indexW ∧
    searching.delivers (cmdOf 1 0x3A [] []) (argsQ (queryArea 0 0xFFFF)) (searching.indexItems indexW) = true :=
  ⟨by decide, State.delivers_host (by decide) (by decide)⟩

/-- A list of one INSERT entry (ID 7, two tokens) at 0x8000, its tokens at 0x9000. -/
def inserting : State := { searching with hostMem := Mem.writeN [] 0x8000 (bytesOf 56 [(0, 8, 7), (12, 4, 2), (24, 1, 5)]) }

theorem test_insert_hypotheses : let a : InsertArgs := { index := 0, cnt := 1, listAddr := 0x8000, tokAddr := 0x9000, lflags := 0 }
    let x := readIns 256 (inserting.hostMem.readN 0x8000 56)
    argsInsert (bytesOf 48 [(4, 4, 1), (8, 8, 0x8000), (16, 8, 0x9000)]) = a ∧ inserting.index? 0 0 1 = some indexW ∧ 0 < a.cnt ∧
    a.cnt ≤ 65536 ∧ inserting.anyLost [] = false ∧ inserting.inT2 [] = [] ∧ x.rsv = false ∧ idsBad [x.id] = false ∧
    x.tok ≤ 8192 ∧ inserting.commitErr indexW 1 1 = none ∧ idsBad [7, 7] = true ∧ inserting.commitErr indexW 1 0 = none ∧
    (∀ y ∈ ([0, 0] : List Nat), y < indexW.tokenCnt) := by decide

/-- A SEARCH area: NPROBE 1, K 1, EF 1, one query. -/
def searchArea : List Byte := bytesOf 48 [(2, 2, 1), (4, 2, 1), (6, 2, 1), (8, 2, 1), (16, 4, 64), (24, 8, 0x8000), (32, 8, 0x9000)]

theorem test_search_hypotheses : let a := argsSearch searchArea
    (searchQ a).bad = false ∧ 0 < a.qcnt ∧ a.qcnt ≤ 64 ∧ searching.index? 0 0 1 = some indexW ∧ a.nprobe ≤ indexW.npart ∧
    searching.anyLost (searching.searchPages indexW 1 [0]) = false ∧
    (searching.pinIndex 0 0 1).inT2 (searching.searchPages indexW 1 [0]) = [] ∧ (∀ n, searching.duaPages 0 false 0x8000 n = []) ∧
    (searchQ (argsSearch (zeros 48))).bad = true ∧ indexW.npart < 2 ∧
    (let s := { searching with
        pages := [(0, { tier := 2 })]
        parts := [(0, { part0 with indexes := [(0, { indexW with centPages := 1 })] })] }
     (s.pinIndex 0 0 1).inT2 (s.searchPages { indexW with centPages := 1 } 1 [0]) ≠ [] ∧
       s.anyLost (s.searchPages { indexW with centPages := 1 } 1 [0]) = false) ∧
    (let s := { searching with
        pages := [(0, { flags := 0x80 })]
        parts := [(0, { part0 with indexes := [(0, { indexW with centPages := 1 })] })] }
     s.anyLost (s.searchPages { indexW with centPages := 1 } 1 [0]) = true) := by
  refine ⟨by decide, by decide, by decide, by decide, by decide, by decide, by decide, fun n => rfl, by decide, by decide, by decide, by decide⟩

/-- 09_vector_search R296: a version inserted at epoch 2 is seen at 2, not at 1, nor after its delete at 3. -/
theorem test_visibility : visible [] [] 9 2 false 2 = true ∧ visible [] [] 9 2 false 1 = false ∧
    visible [] [{ item := 9, del := true, epoch := 3 }] 9 2 false 3 = false ∧
    visible [] [{ item := 9, del := true, epoch := 3 }] 9 2 false 2 = true := by decide

theorem test_wedge_hypotheses : let a := argsWedge (bytesOf 48 [(8, 4, 1)])
    searching.index? 0 a.index 1 = some indexW ∧ indexW.pub < epochMax ∧ 0 < a.partCnt ∧ a.partFirst + a.partCnt ≤ indexW.npart ∧
    searching.anyLost (blockPages ([0].map (searching.block indexW))) = false ∧
    searching.inT2 (blockPages ([0].map (searching.block indexW))) = [] ∧
    KMap.find (searching.part 0).indexes 0 = some indexW ∧ indexW.dropped = false := by decide

theorem test_forced_wedge_hypotheses : let ix : Index := { indexW with slip := List.replicate 15099495 slipW }
    let s := searching.modPart 0 (fun v => { v with indexes := [(0, ix)] })
    KMap.find (s.part 0).indexes 0 = some ix ∧ ix.dropped = false ∧ slipForce ≤ ix.slip.length ∧ (∀ ks, s.anyLost ks = false) ∧
    (∀ ks, s.inT2 ks = []) := by
  refine ⟨rfl, rfl, ?_, fun ks => rfl, fun ks => rfl⟩
  rw [List.length_replicate]
  exact Nat.le_refl _

/-- One input record of one item, and a RERANK record that names candidate 0. -/
def itemRec : List Byte := bytesOf 64 [(0, 4, 1), (4, 4, 1), (8, 1, 1), (32, 8, 9), (40, 6, 2)]
def merging : State := { searching with
  hostMem := Mem.writeN (Mem.writeN [] 0x8000 itemRec) 0x9000 (bytesOf 64 [(0, 4, 1), (4, 4, 1)]) }

theorem test_shard_merge_hypotheses : let a := argsShard (bytesOf 48 [(0, 4, 4096), (8, 8, 0x8000), (16, 4, 1), (24, 8, 0xA000)])
    0 < a.k ∧ a.k ≤ 4096 ∧ 0 < a.inCnt ∧ a.inCnt ≤ 1024 ∧
    merging.recordOk 0 (bit a.dua 0) a.inAddr 1 16 = true ∧ (merging.itemsAt (bit a.dua 0) a.inAddr).itemsOk = true ∧
    (let s : State := { merging with hostMem := Mem.writeN [] 0x8000 (bytesOf 64 [(0, 4, 2), (4, 4, 2), (8, 1, 1), (32, 8, 9), (46, 2, 5)]) }
     s.recordOk 0 (bit a.dua 0) a.inAddr 1 16 = true ∧ (s.itemsAt (bit a.dua 0) a.inAddr).itemsOk = false) := by decide

theorem test_rerank_hypotheses : let a := argsRerank (bytesOf 48 [(0, 2, 2), (4, 2, 1), (6, 2, 32), (24, 8, 0x8000), (32, 8, 0xA000)])
    32 ≤ a.pairLimit ∧ a.pairLimit ≤ 8192 ∧ 0 < a.top ∧
    merging.image? 0 a.image = some { ready := true, kind := 2, sepId := 0xFFFFFFFF } ∧ merging.index? 0 a.index 1 = some indexW ∧
    rerankBad { ready := true, kind := 2, sepId := 0xFFFFFFFF } indexW = false ∧ merging.tooWide 0 a.image = false ∧
    (indexW.passage 9 2).isSome = true ∧
    merging.barred 0 1 a.image = false ∧ merging.recordOk 0 (bit a.dua 0) a.inAddr 1 16 = true ∧
    a.top ≤ (merging.itemsAt (bit a.dua 0) a.inAddr).items.length ∧ ([0] : List Word).length = (merging.itemsAt (bit a.dua 0) a.inAddr).items.length ∧
    (let s := (merging.modPart 0 (fun v => { v with eff := { v.eff with tileLimit := 0 } }))
     s.tooWide 0 a.image = true ∧ s.image? 0 a.image = merging.image? 0 a.image) := by decide

theorem test_pack_hypotheses : let a := argsPack (bytesOf 48 [(4, 4, 3), (20, 1, 4), (24, 8, 0x8000), (32, 8, 0x9000), (40, 8, 0xA000)])
    merging.template? 0 a.template 1 = some templateW ∧ merging.index? 0 a.index 1 = some indexW ∧
    templateW.vocab = indexW.vocab ∧ templateW.vocabId = indexW.vocabId ∧ templateW.fixed [] + a.qtokCnt ≤ a.budget ∧
    merging.recordOk 0 (bit a.flags 1) a.itemAddr 1 16 = true ∧ bit a.flags 2 = true ∧
    merging.recordOk 0 (bit a.flags 1) a.rrAddr 0 8 = true ∧
    (∀ g ∈ merging.tagsAt (bit a.flags 1) a.rrAddr, g < (merging.itemsAt (bit a.flags 1) a.itemAddr).items.length) ∧
    (templateW.pack false 5 [[1, 2]] []).1 = [0, 1, 2, 1, 2] := by decide

theorem test_template_hypotheses : let pb := bytesOf 64 [(4, 4, 2), (8, 4, 0), (20, 4, 1), (32, 4, 3), (36, 4, 1), (40, 4, 2)]
    let a := argsTemplate (pb.take 44)
    (∀ n ∈ a.lens, n ≤ 4096) ∧ 32 + 4 * a.lens.sum = 44 ∧ KMap.free (searching.part 0).templates 64 = some 1 ∧
    searching.vocab? 0 a.vocab = some vocabW ∧ (∀ x ∈ a.toks, x < vocabW.toks.length) ∧ searching.template? 0 0 0 = some templateW ∧
    (let tp : Template := { templateW with dropped := true, unloadTag := 1, users := [5] }
     let s := holding (searching.modPart 0 (fun v => { v with templates := [(0, tp)] })) (cmdOf 1 0x3C [] [])
     KMap.find (s.part 0).templates 0 = some tp ∧ (∀ u ∈ tp.users, s.cmd u = none) ∧ s.cmd tp.unloadTag = some (cmdOf 1 0x3C [] [])) := by
  decide

/-! ## Embedding tables -/

/-- A table of four rows of two FP32 elements with an accumulator for each row, its current version on pages 4 and 5. -/
def tverW : TVer := { num := 1, rowBase := 4, rowPages := 1, stBase := 5, stPages := 1 }
def tableW : Table := { rows := 4, dim := 2, updatable := true, hasState := true, cur := tverW }
def stagedW : Table := { tableW with staged := some { tverW with num := 2, rowBase := 6, stBase := 7 }, verNext := 3 }

/-- Partition 0 with this table as handle 0. -/
def tabled (t : Table) : State := { base with parts := [(0, { part0 with tables := [(0, t)] })] }

theorem test_table_create_hypotheses : let a := argsTable (bytesOf 48 [(0, 8, 4), (8, 2, 2), (11, 1, 1)])
    0 < a.rows ∧ a.rows ≤ 2 ^ 34 ∧ 0 < a.dim ∧ a.dim ≤ 4096 ∧ a.rfmt ≤ 2 ∧ bits a.flags 3 2 ≠ 3 ∧ bit a.flags 0 = true ∧ a.rfmt = 0 ∧
    bit a.flags 2 = false ∧ bit a.flags 1 = false ∧ KMap.free (base.part 0).tables 1024 = some 0 ∧
    (base.newVersion 0 { rows := 4, dim := 2, updatable := true } 1).isSome = true := by decide

theorem test_table_stage_hypotheses : let t : Table := { tableW with hasState := false }
    (tabled t).table? 0 0 = some t ∧ t.staged = none ∧ ((tabled t).newVersion 0 t t.verNext).isSome = true ∧
    (tabled t).inT2 [4] = [] ∧ ({ tabled t with pages := [(4, { tier := 2 })] } : State).inT2 [4] ≠ [] ∧ stagedW.staged.isSome = true ∧ (argsStage (bytesOf 48 [(4, 1, 1)])).mode = 1 := by decide

theorem test_table_publish_hypotheses : (tabled stagedW).table? 0 0 = some stagedW ∧
    stagedW.staged = some { tverW with num := 2, rowBase := 6, stBase := 7 } ∧ stagedW.retiring.length < 2 := by decide

theorem test_version_retire_hypotheses : let t : Table := { stagedW with retiring := [{ tverW with num := 9 }] }
    KMap.find ((tabled t).part 0).tables 0 = some t ∧ t.cur.num ≠ 9 ∧
    t.retiring.find? (fun w => w.num == 9 && (tabled t).verFree 0 0 w) = some { tverW with num := 9 } := by decide

theorem test_table_drop_hypotheses :
    (∀ v ∈ tableW.cur :: (tableW.staged.toList ++ tableW.retiring), (tabled tableW).verFree 0 0 v = true) ∧
    (let t : Table := { tableW with cur := { tverW with pins := [2] } }
     ∃ v ∈ t.cur :: (t.staged.toList ++ t.retiring), (tabled t).verFree 0 0 v = false) := by decide

/-- 10_embedding_tables R350: a lookup that waits keeps the version it pinned, a new one takes the current version. -/
theorem test_pinned_version : let t : Table := { stagedW with retiring := [{ tverW with num := 9 }] }
    ((tabled t).pinnedBy { aux := [9] } 0).map (fun x => x.2.num) = some 9 ∧
    ((tabled t).pinnedBy {} 0).map (fun x => x.2.num) = some 1 := by decide

theorem test_table_write_hypotheses : let a := argsS (bytesOf 48 [(8, 8, 0x8000), (16, 8, 16), (32, 8, 3)])
    0 < stagedW.stride ∧ a.len % stagedW.stride = 0 ∧ a.arg64 + a.len / stagedW.stride ≤ stagedW.rows ∧
    (tabled stagedW).sourceOk 0 a = true ∧ a.len = stagedW.stride ∧ a.src = 0 ∧ (tabled stagedW).canonical ∧
    (tabled stagedW).rewrite (stagedW.pagesOfRows tverW [a.arg64] false) = some (tabled stagedW) :=
  ⟨by decide, by decide, by decide, by decide, by decide, by decide, ⟨rfl, rfl⟩, by decide⟩

theorem test_table_read_hypotheses : let a := argsTRead (bytesOf 48 [(8, 8, 3), (16, 4, 1), (24, 8, 0x9000)])
    a.first + a.rows ≤ tableW.rows ∧ (tabled tableW).anyLost (tableW.pagesOfRows tableW.cur [3] false) = false ∧
    (tabled tableW).inT2 (tableW.pagesOfRows tableW.cur [3] false) = [] := by decide

/-- A lookup of rows 3 and 0 in one bag, its lists at 0x8000 and 0x9000. -/
def lookupArgs : EmbedArgs :=
  argsEmbed (bytesOf 48 [(3, 1, 0), (4, 4, 1), (8, 8, 0x8000), (16, 4, 2), (20, 4, 0x3F800000), (24, 8, 0x9000), (32, 8, 0xA000)])

theorem test_lookup_hypotheses : let a := lookupArgs
    a.mode ≤ 1 ∧ 0 < a.n ∧ a.n ≤ 65536 ∧ 0 < a.bags ∧ a.bags ≤ 65536 ∧ a.fmt ≤ 1 ∧ ¬ 2 ^ 32 < tableW.rows ∧
    bagsOk [0, 2] a.n = true ∧ bagsOk [0, 1] a.n = false ∧
    (tabled tableW).anyLost (tableW.pagesOfRows tableW.cur [3, 0] false) = false ∧
    (tabled tableW).inT2 (tableW.pagesOfRows tableW.cur [3, 0] false) = [] := by decide

theorem test_table_pages_hypotheses : let lost : State := { tabled tableW with pages := [(4, { flags := 0x80 })] }
    let away : State := { tabled tableW with pages := [(4, { tier := 2 })] }
    let ks := tableW.pagesOfRows tableW.cur [3] false
    lost.anyLost ks = true ∧ away.anyLost ks = false ∧ away.inT2 ks ≠ [] ∧
    ({ away with pages := [(4, { mstate := 2 })] } : State).updateWaits ks = true := by decide

theorem test_update_hypotheses : let a := lookupArgs
    (tabled tableW).updateQueued 0 a.table tableW.cur.num 1 = false ∧ (tabled tableW).pinnedBy (cmdOf 1 0x47 [] []) a.table = some (tableW, tverW) ∧
    updateErr tableW a.mode a.lr a.eps = 0 ∧ (tabled tableW).updateWaits (tableW.pagesOfRows tableW.cur [3, 0] true) = false ∧
    (tabled tableW).inT2 (tableW.pagesOfRows tableW.cur [3, 0] true) = [] ∧ (tabled tableW).dev.wf = true ∧
    0 < tableW.rowAddr tverW 3 := by decide

/-- 10_embedding_tables R334: row 3 of an FP32 table of two elements stands 48 bytes behind row 0. -/
theorem test_row_address : tableW.rowAddr tverW 3 = 65536 * 4 + 48 ∧ tverW.stAddr 3 = 65536 * 5 + 12 := by decide

/-! ## Text and grammars -/

/-- A container of a unigram vocabulary of one SPECIAL EOS token (11_text_engine R364, R365). -/
def vocabFile : List Byte :=
  bytesOf 64 [(0, 4, 0x42565856), (4, 2, 1), (6, 1, 1), (8, 4, 1), (16, 4, 0xFFFFFFFF), (20, 4, 0xFFFFFFFF), (28, 4, 0), (48, 4, 64), (52, 4, 80),
    (56, 4, 1104), (60, 4, 1104)] ++ bytesOf 16 [(6, 2, 5)] ++ List.replicate 1024 0xFF ++ zeros 16

/-- A container of a grammar of one accepting state for it (12_constrained_decoding R399 to R403). -/
def grammarFile : List Byte :=
  padTo 256 (bytesOf 66 [(0, 4, 0x4D475856), (4, 2, 1), (8, 4, 1), (16, 4, 1), (48, 4, 1), (52, 4, 256), (56, 4, 256), (60, 4, 256), (64, 2, 0xFFFF)]) ++
    bytesOf 16 [(6, 2, 1), (8, 4, 0xFFFFFFFF)]

theorem test_vocab_load_hypotheses : (readVocab 0 true vocabFile).isSome = true ∧ readVocab 0 true (vocabFile.drop 1) = none ∧
    (readGrammar 0 0 true { toks := [{ eos := true, special := true }] } grammarFile).isSome = true ∧
    readGrammar 0 0 true {} (grammarFile.drop 1) = none ∧ 64 ≤ grammarFile.length ∧ field grammarFile 48 4 = 1 := by decide +kernel

/-- A vocabulary of `a`, `b`, U+0020 and EOS, its grammar of two states (from the first, one `a` leads to the second), and a session. -/
def gramW : Grammar := { shared := true, tokenCnt := 4, classMap := [0, 1, 1, 0xFFFF], masks := [1]
                         states := [{ trans := [{ cls := 0, top := 0xFFFF, next := 1 }], base := 0 }, { accept := true }] }
def texting : State := { searching with grammars := [(0, gramW)] }

theorem test_vocab_use_hypotheses : base.vocabs.length < 16 ∧ base.grammars.length < 64 ∧
    (base.vocabs.map (fun v => v.2.footprint)).sum + roundUp (4 * 1120) (2 ^ 20) ≤ 192 * 2 ^ 20 ∧ KMap.free base.vocabs 16 = some 0 ∧
    (base.grammars.map (fun g => g.2.footprint)).sum + roundUp (272 + 4 * 4) (2 ^ 20) ≤ 160 * 2 ^ 20 ∧ KMap.free base.grammars 64 = some 0 ∧
    texting.vocab? 0 0 = some vocabW ∧ vocabW.owner = 0 ∧ texting.vocabUsers 0 = 1 ∧ searching.vocabUsers 0 = 0 ∧
    texting.grammar? 0 0 = some gramW ∧ gramW.owner = 0 ∧ texting.grammarUsers 0 = 0 ∧
    ({ texting with sessions := [(1, { grammar := 0 })] } : State).grammarUsers 0 = 1 ∧
    ({ vocabW with owner := 3 } : Vocab).owner ≠ 0 := by decide

/-- TOKENISE with FIRST and LAST of one byte `a`; the same with STRICT. -/
def textArgs (policy : Nat) : TextArgs :=
  argsText (bytesOf 48 [(2, 1, policy), (3, 1, 3), (8, 8, 0x8000), (16, 4, 1), (20, 4, 16), (24, 8, 0x9000)])

theorem test_tokenise_hypotheses : textBad (textArgs 0) 16777216 = false ∧ texting.vocab? 0 (textArgs 0).vocab = some vocabW ∧
    texting.textCtx 0 (textArgs 0) false = some {} ∧
    (match vocabW.segment 0 0 true {} [97] with | .ok o => o.toks == [0] | .error _ => false) = true ∧
    (match vocabW.segment 0 1 true {} [97, 0xC3, 0x28] with | .ok _ => false | .error off => off == 1) = true := by decide +kernel

theorem test_byte_fallback_hypotheses : let v : Vocab := { vocabW with alg := 1 }
    textBad (textArgs 2) 16777216 = false ∧ ({ texting with vocabs := [(0, v)] } : State).vocab? 0 (textArgs 2).vocab = some v ∧
    (textArgs 2).policy = 2 ∧ v.alg = 1 ∧ v.byteFallback = false := by decide

theorem test_detokenise_hypotheses : (textArgs 0).policy = 0 ∧ bit (textArgs 0).tflags 2 = false ∧ bit (textArgs 0).tflags 3 = false ∧
    texting.textCtx 0 (textArgs 0) true = some {} ∧ (∀ x ∈ words 4 (leBytes 4 3), x < vocabW.toks.length) := by decide

theorem test_mask_hypotheses : texting.grammar? 0 (argsMask (bytesOf 48 [(24, 4, 272)])).grammar = some gramW ∧
    16 + maskBytes gramW.tokenCnt ≤ (argsMask (bytesOf 48 [(24, 4, 272)])).outCap ∧
    (gramW.walk vocabW [0] 0 gramW.open false).1.st = 1 := by decide

/-- 11_text_engine R370: C3 28 and E0 80 are cut into one-byte subparts, the first followed by U+0028. -/
theorem test_utf8_cut : scanBytes [0xC3, 0x28] = ([([0xC3], false), ([0x28], true)], []) ∧
    scanBytes [0xE0, 0x80] = ([([0xE0], false), ([0x80], false)], []) ∧ scanBytes [0xE2, 0x96] = ([], [0xE2, 0x96]) := by decide

/-- 12_constrained_decoding R407: the first state allows the tokens of its base mask, the accepting one EOS alone. -/
theorem test_masks : gramW.mask vocabW gramW.open = 1 ∧ gramW.mask vocabW { st := 1, stack := [] } = 8 := by decide

theorem test_stop_strings_hypotheses : (∀ p ∈ ([[97, 98]] : List (List Byte)), p ≠ []) ∧
    ([97, 99] : List Byte).foldl (StopSt.byte [[97, 98]] false) { held := [], out := [], stopped := false } =
      { held := [], out := [97, 99], stopped := false } ∧
    ([97, 98] : List Byte).foldl (StopSt.byte [[97, 98]] true) { held := [], out := [], stopped := false } =
      { held := [], out := [97, 98], stopped := true } := by decide

/-- A greedy sampler takes the masked maximum and, at equal logits, the lower token. -/
theorem test_sampler_hypotheses : let q : Sampler := { temp := 0, invT := .ofInt 1, seed := 0 }
    let l : List Machine.Num := [.ofInt 3, .nan, .ofInt 5, .ofInt 5]
    q.temp = 0 ∧ 0 < l.length ∧ bit 0xE 0 = false ∧ bit 0xE 2 = true ∧ l.getD 2 .nan ≠ .nan ∧ l.getD 2 .nan ≠ .inf true ∧
    q.pick 0 0xE l = some 2 := by decide

/-! ## Serving -/

/-- A serving image, a glaze-aware record in it, and partition 0 with both. -/
def serveImg : Image :=
  { ready := true, layerCnt := 1, recs := [bytesOf 128 [(0, 1, 2), (72, 4, 1), (76, 4, 1), (112, 2, 5)], bytesOf 128 [(0, 1, 2), (5, 1, 3)]] }
def serving : State :=
  { texting with parts := [(0, { (texting.part 0) with images := [(0, serveImg), (1, { ready := true, kind := 1 })] })] }

/-- `serving` with this session as session 1. -/
def withSess (v : Session) : State := { serving with sessions := [(1, v)], nextSess := 2 }

/-- SESSION_OPEN of model 0, vocabulary 0, grammar 0, one stop string, stream queue 2. -/
def openArgs : OpenArgs :=
  argsOpen (bytesOf 48 [(0, 1, 2)]) (bytesOf 576 [(4, 2, 0), (12, 4, 131072), (16, 4, 1), (32, 2, 0xFFFF), (36, 1, 1), (40, 1, 1), (64, 1, 97)])

theorem test_session_open_hypotheses : serving.image? 0 openArgs.model = some serveImg ∧ serving.vocab? 0 openArgs.vocab = some vocabW ∧
    (serving.grammar? 0 openArgs.grammar).isSome = true ∧ openArgs.draft = 0xFFFF ∧
    openParamBad openArgs serveImg vocabW (some 0) none = false ∧ stopsOk (stopPairs openArgs) = true ∧ tempOk openArgs.temp = true ∧
    serving.glazeBad 0 openArgs.glaze serveImg = false ∧ serving.sessions.length < 8192 ∧ (serving.queue 0 openArgs.streamQ).cls = 2 ∧
    openArgs.streamQ < 64 ∧ serving.tooWide 0 openArgs.model = false ∧ serving.tooWide 0 openArgs.draft = false ∧
    serving.barred 0 1 openArgs.model = false ∧ serving.barred 0 1 openArgs.draft = false ∧
    (serving.openPool 0 openArgs.model openArgs.kvBlocks serveImg).isSome = true := by decide +kernel

/-- An idle session of eight tokens at most, with one token. -/
def idleV : Session := { grammar := 0xFFFF, maxCtx := 8, maxNew := 4, ctx := [0], streamQ := 2 }

theorem test_generate_hypotheses : let a := argsGen (bytesOf 48 [(0, 4, 1), (8, 8, 0x8000), (16, 4, 7)])
    (withSess idleV).session? 0 a.session = some idleV ∧ idleV.st = .idle ∧ bit a.gflags 0 = false ∧ a.policy = 0 ∧
    (match (withSess idleV).genInput 0 idleV a with | .ok x => decide (x.1.length = 7) | .error _ => false) = true ∧
    0 < idleV.ctx.length + 7 ∧ idleV.ctx.length + 7 ≤ idleV.maxCtx ∧ idleV.maxCtx < idleV.ctx.length + 8 ∧
    ({ idleV with st := .running } : Session).st ≠ .idle ∧ (withSess idleV).sessBarred 0 1 idleV = false := by decide

/-- 05_array_dataflow R178: an image with an OS record is barred from a queue that is not privileged. -/
theorem test_barred_hypotheses : let im : Image := { serveImg with needsPriv := true }
    let s := (withSess idleV).modPart 0 (fun v => { v with images := [(0, im)] })
    s.barred 0 1 0 = true ∧ s.sessBarred 0 1 idleV = true ∧ s.session? 0 1 = some idleV := by decide

theorem test_session_state_hypotheses : (withSess idleV).session? 0 (argsH (bytesOf 48 [(0, 4, 1)])).handle = some idleV ∧
    idleV.st = .idle ∧ ({ idleV with st := .shadow } : Session).st = .shadow ∧ idleV.st ≠ .shadow ∧
    ({ idleV with st := .queued } : Session).st = .queued := by decide

theorem test_feed_hypotheses : let v : Session := { idleV with st := .shadow, grammar := 0, ctx := [] }
    let a := argsFeed (bytesOf 48 [(0, 4, 1), (4, 4, 1), (16, 8, 0x8000)])
    0 < a.cnt ∧ a.cnt ≤ 65536 ∧ (withSess v).session? 0 a.session = some v ∧ v.st = .shadow ∧
    (∀ x ∈ [0], x < ((withSess v).sessVocab v).toks.length) ∧ v.fedCtx.length + 1 ≤ v.maxCtx ∧
    (withSess v).sessBarred 0 1 v = false ∧ (withSess v).feedBad v [0] = none ∧ (withSess v).feedBad v [1] = some 0 := by decide

theorem test_class_hypotheses : let a := argsClass (bytesOf 48 [(2, 2, 1), (4, 2, 65535), (6, 1, 1)])
    0 < a.weight ∧ bit a.setQuantum 0 = true ∧ 0 < a.quantum := by decide

/-- A glaze container of rank 4 for projection 5 of one by one element (13_serving R449). -/
def glazeFile : List Byte :=
  bytesOf 64 [(0, 4, 0x5A475856), (4, 2, 1), (6, 1, 3), (7, 1, 4), (8, 4, 9), (36, 2, 1), (40, 8, 516)] ++
    bytesOf 32 [(0, 2, 5), (4, 4, 1), (8, 4, 1), (16, 8, 256), (24, 8, 512)] ++ zeros 420

theorem test_glaze_hypotheses : glazeBadForm glazeFile = false ∧
    (glazeProjs glazeFile).all (serving.projKnown 0 (field glazeFile 16 16) (field glazeFile 32 4)) = true ∧
    KMap.find (serving.part 0).glazes (field glazeFile 8 4) = none ∧ serving.glazeCount < 65536 ∧
    (serving.loadPages 0 (glazePages glazeFile false)).isSome = true ∧
    (let s := serving.modPart 0 (fun v => { v with glazes := [(9, {})] })
     (KMap.find (s.part 0).glazes (field glazeFile 8 4)).isSome = true ∧ s.glazeUsers 0 9 = 0 ∧
       ({ s with sessions := [(1, { idleV with glaze := 9 })] } : State).glazeUsers 0 9 ≠ 0 ∧
       (∀ b ∈ s.batches, b.2.part = 0 → KMap.find b.2.glazes 9 = none) ∧
       ∃ b ∈ ({ s with batches := [(1, { glazes := [(9, {})] })] } : State).batches, b.2.part = 0 ∧ (KMap.find b.2.glazes 9).isSome = true) := by decide +kernel

/-- A KV pool of image 0 whose block 3 has these references. -/
def pooled (b : KvBlk) : State := base.modPart 0 (fun v => { v with kv := [(0, { nblk := 8, blkPages := 1, blocks := [(3, b)] })] })

theorem test_kv_hypotheses : (pooled { refs := 2 }).kvBlk (0, 0, 3) = some { refs := 2 } ∧
    (pooled { refs := 1, hash := some 77 }).kvBlk (0, 0, 3) = some { refs := 1, hash := some 77 } ∧
    (pooled { refs := 1 }).kvBlk (0, 0, 3) = some { refs := 1 } ∧ (1 < 2 ∨ (none : Option Nat).isSome = true) := by decide

theorem test_release_hypotheses : base.mayRelease = true ∧ ({ base with wheel := { base.wheel with commit := true } } : State).mayRelease = false ∧
    (let v : Session := { idleV with st := .queued, kvWait := 8 }
     KMap.find (withSess v).sessions 1 = some v ∧ 8 ≤ v.kvWait ∧ v.st = .queued) := by decide

theorem test_shares_hypotheses : let l : List Share := [{ part := 0, vtime := 0, weight := 1, want := 3, got := 0 }, { part := 1, vtime := 0, weight := 2, want := 1, got := 0 }]
    (l.map Share.part).Nodup ∧ (∀ x ∈ l, x.got = 0) ∧ ((shareOut 4 3 l).map Share.got).sum = 3 := by decide

/-- A running session of one proposed token on the grammar, in batch 1. -/
def speccing : Session :=
  { grammar := 0, maxCtx := 8, maxNew := 4, ctx := [2], streamQ := 2, st := .running, placed := 1, proposer := 1, specMax := 2
    genMax := 4, sflags := 2, mask0 := some 1, draft := 1 }
def batched (v : Session) (b : Batch) : State := { withSess v with batches := [(1, b)] }

theorem test_draft_hypotheses : let b : Batch := { members := [1] }
    let s := batched speccing b
    KMap.find s.sessions 1 = some speccing ∧ s.proposing speccing = true ∧ speccing.proposer = 1 ∧ speccing.chainStop = false ∧
    speccing.lvsHit = false ∧ speccing.drafts.length < speccing.specMax ∧ s.batchOf 1 = some (1, b) ∧ b.lvsReached = false ∧
    b.carried = false ∧ s.maskAt speccing 0 = some 1 ∧ s.wheel.commit = false ∧ s.moduleLost = false := by decide

theorem test_draft_picks : speccing.sampler.pick 1 1 (logitsOf [0, 0, 0, 0]) = some 0 ∧
    speccing.sampler.pick 1 1 (logitsOf [0x7FC00000, 0, 0, 0]) = none := by decide +kernel

theorem test_mask_build_hypotheses : let v : Session := { speccing with drafts := [0] }
    let w : Session := { speccing with drafts := [1] }
    let s := batched v { members := [1] }
    s.sessGrammar v = some gramW ∧ s.proposing v = true ∧ v.chainStop = false ∧ s.sramBad = [] ∧ v.drafts[v.shadow.length]? = some 0 ∧
    s.maskAt v v.shadow.length = some 1 ∧ bit 1 0 = true ∧ ((s.sessVocab v).toks.getD 0 {}).eos = false ∧
    gramW.move (v.posAt v.shadow.length) 0 = some { st := 1, stack := [] } ∧
    gramW.mask (s.sessVocab v) { st := 1, stack := [] } ≠ 0 ∧ w.drafts[w.shadow.length]? = some 1 ∧ bit 1 1 = false := by decide

theorem test_verification_hypotheses : let v : Session := { speccing with drafts := [0], shadow := [(1, [], 8)] }
    let b : Batch := { members := [1], done := true }
    let s := batched v b
    s.batchOf 1 = some (1, b) ∧ v.placed ≠ 0 ∧ v.verified = false ∧ v.st = .running ∧ s.wheel.commit = false ∧ b.done = true ∧
    b.carried = false ∧ v.final v.placed = true ∧ s.masksReady v = true ∧ v.drafts.length < 2 ∧ (v.generates && v.spec) = true ∧
    (let u : Session := { v with proposer := 0, sflags := 0, drafts := [], shadow := [] }
     (u.generates && u.spec) = false ∧ (batched u b).masksReady u = true ∧ u.final u.placed = true) := by decide

/-- 14_speculation R475: a draft that equals the target's sample is kept and a bonus token follows; one that differs is replaced. -/
theorem test_verify : let q : Sampler := { temp := 0, invT := .ofInt 1, seed := 0 }
    let row := fun (k : Nat) => (List.range 4).map (fun i => Machine.Num.ofInt (if i = k then 1 else 0))
    (verify q (fun _ => 15) [row 2, row 3] [2] 0 9).cand = [2, 3] ∧ (verify q (fun _ => 15) [row 2, row 3] [1] 0 9).cand = [2] := by
  decide +kernel

/-! ## Turns, chains, faults -/

theorem test_window_end_hypotheses : base.wheel.started = true ∧ base.wheel.commit = false ∧
    ({ base with wheel := { base.wheel with commit := true } } : State).wheel.commit = true := by decide

theorem test_stream_ring_hypotheses : base.canonical ∧ (base.queue 0 2).strWr < 2 ^ (base.queue 0 2).strLog2 ∧
    (streamRecord 0 0 1 2 3 4 5 [97] [0]).length ≤ 2 ^ (base.queue 0 2).strLog2 ∧ (base.queue 0 2).strWr % 16 = 0 ∧
    16 ≤ 2 ^ (base.queue 0 2).strLog2 ∧ (streamRecord 0 0 1 2 3 4 5 [97] [0]).length = 48 := by
  refine ⟨⟨rfl, rfl⟩, ?_⟩
  decide

theorem test_firing_hypotheses : let v : Session := { idleV with tokTotal := 3, genMax := 4, ctx := List.replicate 8 0 }
    v.tokTotal < v.genMax ∧ v.all.length ≤ v.maxCtx ∧ (vocabW.toks.getD 3 {}).eos = true ∧ (vocabW.toks.getD 0 {}).eos = false := by decide

/-- A CHAIN without a reranker: image 3 as encoder, index 0, template 0, session 1. -/
def chainBlock : List Byte :=
  bytesOf 64 [(0, 2, 3), (6, 2, 1), (8, 2, 1), (10, 2, 1), (12, 4, 8), (18, 2, 0xFFFF), (28, 4, 8), (32, 4, 1), (36, 4, 4), (48, 8, 0x8000), (56, 4, 1)]
def chaining : State :=
  { searching with sessions := [(1, { idleV with ctx := [] })], hostMem := [(0x8000, 97)] }

theorem test_chain_hypotheses : let a := argsChain chainBlock
    chainBad a = false ∧ (chainQ a).bad = false ∧ (∀ x ∈ chaining.chainChecks 0 1 1 a, x.1 = false) ∧
    (match chaining.readBuf 0 (bit a.chflags 3) a.queryAddr a.queryLen with | .ok x => x.1 == [97] | .error _ => false) = true ∧
    (match (KMap.findD chaining.vocabs a.qvocab {}).segment a.qvocab a.policy true {} [97] with | .ok _ => true | .error _ => false) = true ∧
    (match (KMap.findD chaining.vocabs a.qvocab {}).segment a.qvocab 1 true {} [0xFF] with | .ok _ => false | .error _ => true) = true := by
  decide +kernel

/-- The CHAIN running at a stage, its tokens, code and one candidate in pages of its partition. -/
def chainW (n : Nat) : Chain := { tag := 1, stage := n, placed := 4, results := [(0, (8, 4)), (1, (9, 32)), (2, (10, 64))] }
def chainAt (n : Nat) : State :=
  { chaining with
    dev := Mem.writeN [] (65536 * 10) itemRec
    pages := [(8, {}), (9, { frame := 1 }), (10, { frame := 2 })]
    inflight := [{ cmdOf 1 0x70 [] chainBlock with st := .running, aux := [3, 0xFFFF] }]
    chains := [(1, chainW n)] }

theorem test_chain_stage_hypotheses : let a := argsChain chainBlock
    (∀ n, n < 4 → ∃ e, (chainAt n).inflight.find? (fun x => x.part = workRef.part && x.queue = workRef.queue && x.cid = workRef.cid &&
      x.opc = 0x70 && x.st == .running) = some e ∧ KMap.find (chainAt n).chains e.tag = some (chainW n) ∧
      (chainAt n).moduleLost = false ∧ (chainAt n).anyLost ((chainAt n).chainReads e a (chainW n)) = false ∧
      ((chainAt n).pinIndex 0 a.index 1).inT2 (((chainAt n).pinIndex 0 a.index 1).chainReads e a (chainW n)) = []) ∧
    (chainAt 0).tooWide 0 a.encImg = false ∧ KMap.find ((chainAt 0).part 0).indexes a.index = some indexW ∧
    (chainAt 1).index? 0 a.index 1 = some indexW ∧
    (chainAt 3).template? 0 a.template 1 = some templateW ∧ templateW.vocab = indexW.vocab ∧ templateW.vocabId = indexW.vocabId ∧
    templateW.fixed ((chainAt 3).chainToks (chainW 3)) ≤ a.budget ∧
    (chainAt 3).session? 0 a.session = some { idleV with ctx := [] } ∧ (chainAt 0).canonical := by
  refine ⟨?_, by decide, by decide, by decide, by decide, by decide, by decide, by decide, by decide, ⟨rfl, rfl⟩⟩
  intro n hn
  interval_cases n <;> exact ⟨_, rfl, by decide, by decide, by decide, by decide⟩

/-- 01_architecture R28: a result of a CHAIN finds a page, and the candidates are read from theirs. -/
theorem test_chain_results : (base.chainStore (chainW 1) 1 [7, 8]).isSome = true ∧
    (chainAt 2).chainItems (chainW 2) = [{ id := 9, epoch := 2, dist := 0 }] := by decide +kernel

theorem test_chain_rerank_hypotheses : let a : ChainArgs := { argsChain chainBlock with rrImg := 2, rrCnt := 1, rrTop := 1, rrPairLimit := 32 }
    let im : Image := { ready := true, kind := 2, sepId := 0xFFFFFFFF }
    chainBad a = false ∧ KMap.find ((chainAt 2).part 0).images a.rrImg = some im ∧ (chainAt 2).index? 0 a.index 1 = some indexW ∧
    (chainAt 2).tooWide 0 a.rrImg = false ∧ rerankBad im indexW = false ∧ (((chainAt 2).chainItems (chainW 2)).take a.rrCnt).length = 1 := by decide

theorem test_boundary_hypotheses : let s := { base with wheel := { base.wheel with commit := true } }
    s.stage ≠ .off ∧ s.power.inputOk = true ∧ s.power.domLost.getD 19 false = false ∧ s.wheel.started = true ∧ s.wheel.commit = true ∧
    (let w := { s.wheelTurn with vectors := [] }
     let t := { w with parts := KMap.each w.parts (fun _ v => v.turn) }
     let u := (t.disables.salts s).lock
     u.locked = false ∧ u.moduleLost = false) ∧
    (({ s with sagger := { s.sagger with secLock := true } } : State).locked = true) := by decide

theorem test_domain_hypotheses : (∀ d ∈ [0, 7, 8, 15, 16, 17, 19], base.power.domUp.getD d false = true ∧ base.power.domLost.getD d false = false ∧
      d < base.power.domUp.length ∧ d < base.power.domLost.length) ∧ 7 < base.dieLost.length ∧ 7 < base.stackLost.length ∧
    base.inflight = [] ∧ (∀ e ∈ (withPage {}).pages, e.2.flag 4 = false) ∧ (∀ e ∈ base.parts, e.2.kv = []) ∧
    (let g : Page := { flags := 0xC, die := 3, frame := 1 }
     (withPage g).groupBroken 3 g = false ∧ (withPage g).groupBroken 1 g = true) ∧
    base.power.dieTripped.getD 7 false = false := by decide

theorem test_error_hypotheses : let g : Page := { frame := 6 }
    1023 < 1024 ∧ base.tileGated 1023 = false ∧ base.healthy 1023 = true ∧ (base.dies 0).contains 7 = true ∧
    122879 < base.framesPer 0 ∧ (withPage g).pageAt 0 0 6 = some (0, g) ∧ g.flag 2 = false ∧ g.flag 5 = false ∧ g.flag 6 = false ∧
    g.poolKv = false ∧ g.tier < 2 ∧ g.die = 0 ∧ ({ flags := 4 } : Page).flag 2 = true ∧ 17 < 18 ∧ 63 < base.renob.getD 17 0 := by decide

/-! ## Number formats and selection -/

/-- 02_number_formats R33, R34, R41: some codes and their values; a sum past the range of INT8 saturates. -/
theorem test_formats : fp4.decode 7 = .fin false 3 1 ∧ fp8e4.decode 0x7F = .nan ∧ (convInt 8 (Machine.Num.ofInt 200)).code = 0x7F ∧
    (convInt 8 (Machine.Num.ofInt 200)).sat = true ∧ (convInt 4 (Machine.Num.ofInt (-9))).code = 8 ∧
    bf16.decode 0x7FC0 = .nan ∧ 0x7FC0 < 2 ^ (1 + bf16.eb + bf16.mb) ∧ fp4 ∈ [fp32, bf16, fp16, fp8e4, fp8e5, fp4] := by decide

/-- 07_selection R236: of two inputs with one ITEM_ID the larger epoch stays. -/
theorem test_merge_hypotheses : let r := fun (ep d : Nat) => bytesOf 64 [(0, 4, 1), (4, 4, 1), (8, 1, 1), (32, 8, 9), (40, 6, ep), (46, 2, d)]
    let ins : List InRec := [{ hdr := readHdr (r 2 5), bytes := r 2 5 }, { hdr := readHdr (r 3 7), bytes := r 3 7 }]
    (∀ x ∈ ins, x.itemsOk = true) ∧ (readHdr (mergeItems 4 ins)).valid = 1 ∧ field ((mergeItems 4 ins).drop 32) 8 6 = 3 ∧ 4096 ≤ 4096 := by
  decide +kernel

/-- 05_array_dataflow R142, R143: T2 against FP4 runs as FP4 x FP4 with two elements a cell, B1 against B1 with eight, T2 against FP8
with one. -/
theorem test_cell_modes : modeOf 0xA 6 = (2, 1) ∧ modeOf 6 0xA = (2, 1) ∧ modeOf 8 0xA = (2, 1) ∧ modeOf 0xB 0xB = (8, 1) ∧
    modeOf 0xA 3 = (1, 1) ∧ modeOf 1 3 = (1, 2) ∧ dfMode 1 0xB 0xB = (1, 1) := by decide

/-- 04_tile R120: the ascending unique list, its count, and for each position the place of its index in it. -/
theorem test_sort_unique : sortUnique [7, 3, 7, 5] = ([3, 5, 7], 3, [2, 0, 2, 1]) ∧
    (sortUniqueBytes 4 [7, 7]).2 = ([1, 0, 0, 0], [0, 0, 0, 0]) := by decide

/-- 17_host_link R547: the latencies advertised are those of T1, the bandwidth nine tenths of the head's raw bandwidth. -/
theorem test_dslbis : base.dslbis 0 = [410, 300, 115200000000, 115200000000] ∧ windowLatency 0 = (330, 300) := by decide

/-- 01_architecture R20: six links along rows, four along columns, eight to the hub die. -/
theorem test_renob_links : (List.range 6).map linkEnds = [(0, 1), (1, 2), (2, 3), (4, 5), (5, 6), (6, 7)].map some ∧
    (List.range 4).map (fun n => linkEnds (6 + n)) = [(0, 4), (1, 5), (2, 6), (3, 7)].map some ∧
    (List.range 8).all (fun d => linkEnds (10 + d) == some (d, 8)) = true ∧ linkEnds 18 = none := by decide

end Sys2Proof.Tests
end

section
/-! Batches are released (13_serving R437, R448; 15_wheel R503, R504; 16_scheduling R522): what the three rows of a release answer,
and the shares of the turn's sequences. -/

namespace Sys2Proof.Machine

/-! ## Sorting and sums -/

theorem mem_of_mem_insertBy {α : Type} {lt : α → α → Bool} {x y : α} {l : List α} (h : y ∈ insertBy lt x l) : y = x ∨ y ∈ l := by
  induction l with
  | nil => simpa [insertBy] using h
  | cons z t ih =>
    simp only [insertBy] at h
    split_ifs at h
    · rcases List.mem_cons.mp h with rfl | ht
      · simp
      · exact (ih ht).imp_right (List.mem_cons_of_mem z)
    · exact List.mem_cons.mp h

theorem mem_of_mem_sortBy {α : Type} {lt : α → α → Bool} {y : α} {l : List α} (h : y ∈ sortBy lt l) : y ∈ l := by
  induction l with
  | nil => exact h
  | cons x t ih => exact List.mem_cons.mpr ((mem_of_mem_insertBy h).imp_right ih)

theorem sum_map_ite_zero {α : Type} (p : α → Prop) [DecidablePred p] (f : α → Nat) (l : List α) :
    (l.map (fun x => if p x then f x else 0)).sum = ((l.filter p).map f).sum := by
  induction l with
  | nil => rfl
  | cons x t ih => by_cases h : p x <;> simp [h, ih]

/-- Of elements with distinct images, no more have theirs in a list than the list holds. -/
theorem length_filter_contains_le {α β : Type} [BEq β] [LawfulBEq β] {f : α → β} {l : List α} (h : (l.map f).Nodup) (k : List β) :
    (l.filter (fun x => k.contains (f x))).length ≤ k.length := by
  have hsub : (l.filter (fun x => k.contains (f x))).map f ⊆ k := by
    intro b hb
    obtain ⟨x, hx, rfl⟩ := List.mem_map.mp hb
    simpa using (List.mem_filter.mp hx).2
  have hnd := h.sublist ((l.filter_sublist (p := fun x => k.contains (f x))).map f)
  simpa using (hnd.subperm hsub).length_le

/-- Proportional parts, each rounded down, come to no more than what is shared. -/
theorem sum_proportional_le {α : Type} (weight : α → Nat) (rem : Nat) (l : List α) :
    (l.map (fun x => rem * weight x / max (l.map weight).sum 1)).sum ≤ rem := by
  have parts : ∀ (c : Nat) (l : List α), (l.map (fun x => rem * weight x / c)).sum ≤ rem * (l.map weight).sum / c := by
    intro c l
    induction l with
    | nil => simp
    | cons x t ih =>
      simp only [List.map_cons, List.sum_cons, Nat.mul_add]
      exact (Nat.add_le_add_left ih _).trans Nat.div_add_div_le_add_div
  refine (parts _ l).trans (Nat.div_le_of_le_mul ?_)
  rw [Nat.mul_comm]
  exact Nat.mul_le_mul_right rem (le_max_left _ _)

/-! ## The shares (16_scheduling R522) -/

/-- Share x with k more sequences granted. -/
def Share.plus (x : Share) (k : Nat) : Share := { x with got := x.got + k }

@[simp] theorem Share.plus_got (x : Share) (k : Nat) : (x.plus k).got = x.got + k := rfl
@[simp] theorem Share.plus_want (x : Share) (k : Nat) : (x.plus k).want = x.want := rfl
@[simp] theorem Share.plus_part (x : Share) (k : Nat) : (x.plus k).part = x.part := rfl
@[simp] theorem Share.plus_zero (x : Share) : x.plus 0 = x := rfl
@[simp] theorem Share.plus_plus (x : Share) (k m : Nat) : (x.plus k).plus m = x.plus (k + m) := by
  simp [Share.plus, Nat.add_assoc]

/-- Does the share want more than it has been granted? -/
def Share.unmet (x : Share) : Bool := decide (x.got < x.want)

/-- What one round by weight grants share x of `rem` sequences, w the weights of those unmet. -/
def Share.byWeight (rem w : Nat) (x : Share) : Nat :=
  if x.got < x.want then min (x.want - x.got) (rem * x.weight / max w 1) else 0

/-- The sum of the weights of those unmet. -/
def unmetWeight (l : List Share) : Nat := ((l.filter Share.unmet).map Share.weight).sum

/-- Which comes first where single sequences are given: the lesser virtual time, then the lesser number. -/
def Share.before (x y : Share) : Bool := decide (x.vtime < y.vtime) || (x.vtime == y.vtime && decide (x.part < y.part))

/-- The partitions that receive one of the last `rem` sequences each. -/
def singles (rem : Nat) (l : List Share) : List Nat := ((sortBy Share.before (l.filter Share.unmet)).take rem).map Share.part

/-- What the last sequences, given one by one, grant share x of l. -/
def bySingle (rem : Nat) (l : List Share) (x : Share) : Nat := if (singles rem l).contains x.part then 1 else 0

theorem shareOut_zero (rem : Nat) (l : List Share) : shareOut 0 rem l = l := rfl

/-- Each round adds to every share: by weight while that grants any, else one by one, and that is the last round. -/
theorem shareOut_succ (n rem : Nat) (l : List Share) :
    shareOut (n + 1) rem l =
      if (l.map (Share.byWeight rem (unmetWeight l))).sum = 0 then l.map (fun x => x.plus (bySingle rem l x))
      else shareOut n (rem - (l.map (Share.byWeight rem (unmetWeight l))).sum)
        (l.map (fun x => x.plus (Share.byWeight rem (unmetWeight l) x))) := by
  have single : (fun x : Share => x.plus (bySingle rem l x)) =
      fun x => if (singles rem l).contains x.part then { x with got := x.got + 1 } else x := by
    funext x
    unfold bySingle
    split_ifs <;> rfl
  rw [single]
  rfl

/-- A grant to the shares of l: at most `rem` in all, and to none more than it wants. -/
structure Granted (rem : Nat) (l : List Share) (g : Share → Nat) : Prop where
  sum_le : (l.map g).sum ≤ rem
  wanted : ∀ x ∈ l, x.got + g x ≤ x.want

theorem granted_zero {l : List Share} (hw : ∀ x ∈ l, x.got ≤ x.want) (rem : Nat) : Granted rem l (fun _ => 0) :=
  ⟨by simp, by simpa using hw⟩

theorem granted_byWeight {l : List Share} (hw : ∀ x ∈ l, x.got ≤ x.want) (rem : Nat) :
    Granted rem l (Share.byWeight rem (unmetWeight l)) where
  sum_le := by
    unfold Share.byWeight
    rw [sum_map_ite_zero]
    calc _ ≤ ((l.filter Share.unmet).map (fun x => rem * x.weight / max (unmetWeight l) 1)).sum :=
          List.sum_le_sum (fun x _ => min_le_right _ _)
      _ ≤ rem := sum_proportional_le Share.weight rem _
  wanted x hx := by
    have := hw x hx
    unfold Share.byWeight
    split_ifs <;> omega

/-- Only a partition that wants more is given a single sequence. -/
theorem unmet_of_mem_singles {rem : Nat} {l : List Share} (hp : (l.map Share.part).Nodup) {x : Share} (hx : x ∈ l)
    (h : x.part ∈ singles rem l) : x.got < x.want := by
  obtain ⟨y, hy, hxy⟩ := List.mem_map.mp h
  obtain ⟨hyl, hu⟩ := List.mem_filter.mp (mem_of_mem_sortBy (List.mem_of_mem_take hy))
  obtain rfl : y = x := List.inj_on_of_nodup_map hp hyl hx hxy
  exact of_decide_eq_true hu

theorem granted_bySingle {l : List Share} (hp : (l.map Share.part).Nodup) (hw : ∀ x ∈ l, x.got ≤ x.want) (rem : Nat) :
    Granted rem l (bySingle rem l) where
  sum_le := by
    unfold bySingle
    rw [sum_map_ite_zero]
    calc _ = (l.filter (fun x => (singles rem l).contains x.part)).length := by simp
      _ ≤ (singles rem l).length := length_filter_contains_le hp _
      _ ≤ rem := by simp [singles]
  wanted x hx := by
    have := hw x hx
    unfold bySingle
    split_ifs with h
    · exact unmet_of_mem_singles hp hx (by simpa using h)
    · exact this

/-- A grant after a grant is one grant of both. -/
theorem Granted.andThen {rem : Nat} {l : List Share} {g k : Share → Nat} (hg : Granted rem l g)
    (hk : Granted (rem - (l.map g).sum) (l.map (fun x => x.plus (g x))) k) :
    Granted rem l (fun x => g x + k (x.plus (g x))) where
  sum_le := by
    have h1 := hg.sum_le
    have h2 : (l.map (fun x => k (x.plus (g x)))).sum ≤ rem - (l.map g).sum := by
      simpa [Function.comp_def] using hk.sum_le
    rw [List.sum_map_add]
    omega
  wanted x hx := by
    have := hk.wanted _ (List.mem_map_of_mem hx)
    simpa [Nat.add_assoc] using this

/-- Whatever the rounds, sharing out is one grant to the shares, in their order. -/
theorem shareOut_granted (n : Nat) {rem : Nat} {l : List Share} (hp : (l.map Share.part).Nodup) (hw : ∀ x ∈ l, x.got ≤ x.want) :
    ∃ g, shareOut n rem l = l.map (fun x => x.plus (g x)) ∧ Granted rem l g := by
  induction n generalizing rem l with
  | zero => exact ⟨fun _ => 0, by simp [shareOut_zero], granted_zero hw rem⟩
  | succ n ih =>
    rw [shareOut_succ]
    split_ifs
    · exact ⟨_, rfl, granted_bySingle hp hw rem⟩
    · have hg := granted_byWeight hw rem
      obtain ⟨k, hk, hgk⟩ := ih (rem := rem - (l.map (Share.byWeight rem (unmetWeight l))).sum)
        (l := l.map (fun x => x.plus (Share.byWeight rem (unmetWeight l) x)))
        (by simpa [Function.comp_def] using hp)
        (by simpa using hg.wanted)
      exact ⟨_, by simp [hk], hg.andThen hgk⟩

/-- 16_scheduling R522: from nothing granted, at most `rem` in all, to the same partitions, to none more than it has queued. -/
theorem shareOut_fair (n rem : Nat) (l : List Share) (hp : (l.map Share.part).Nodup) (h0 : ∀ x ∈ l, x.got = 0) :
    ((shareOut n rem l).map Share.got).sum ≤ rem ∧ (shareOut n rem l).map Share.part = l.map Share.part ∧
    (∀ x ∈ shareOut n rem l, x.got ≤ x.want) := by
  obtain ⟨g, hs, hg⟩ := shareOut_granted n (rem := rem) hp (fun x hx => by simp [h0 x hx])
  have hgot : l.map (fun x => x.got + g x) = l.map g := List.map_congr_left (fun x hx => by simp [h0 x hx])
  rw [hs]
  refine ⟨?_, by simp [Function.comp_def], ?_⟩
  · simpa [Function.comp_def, hgot] using hg.sum_le
  · simpa using hg.wanted

/-! ## The rows of a release -/

theorem execBatchRelease_open {s : State} (h : s.mayRelease = true) (pol : Policy) :
    execBatchRelease pol s = .next (((((KMap.keys ((s.refuseLate pol.unreachable).allow pol.bMod).parts).foldl
      (fun (a : State) p => a.placeSteps p pol.chunk) ((s.refuseLate pol.unreachable).allow pol.bMod)).waitsOver s).formBatches
        pol.lrs pol.lvs).placeChains pol.chains).released := by
  unfold execBatchRelease
  exact if_neg (by simp [h])

theorem execBatchRelease_closed {s : State} (h : s.mayRelease = false) (pol : Policy) : execBatchRelease pol s = .next s := by
  simp [execBatchRelease, h]

theorem execBatchFallback_closed {s : State} (h : s.mayRelease = false) : execBatchFallback s = .next s := by
  simp [execBatchFallback, h]

@[simp] theorem State.modSess_find_same (s : State) (i : Nat) (f : Session → Session) :
    KMap.find (s.modSess i f).sessions i = (KMap.find s.sessions i).map f := KMap.find_mod_same _ _ _

theorem State.modSess_find_other (s : State) {i j : Nat} (f : Session → Session) (h : j ≠ i) :
    KMap.find (s.modSess i f).sessions j = KMap.find s.sessions j := KMap.find_mod_other _ _ h

/-- 13_serving R437: the generation is marked to end, and nothing else changes. -/
theorem execKvExhausted_marks {s : State} {i : Nat} {v : Session} (hv : KMap.find s.sessions i = some v) (hk : 8 ≤ v.kvWait)
    (hst : v.st = .queued ∨ v.st = .running) :
    ∃ t, execKvExhausted i s = .next t ∧ KMap.find t.sessions i = some { v with kvOut := true } ∧
      (∀ j, j ≠ i → KMap.find t.sessions j = KMap.find s.sessions j) ∧ t = { s with sessions := t.sessions } := by
  refine ⟨_, rfl, ?_, fun j hj => s.modSess_find_other _ hj, rfl⟩
  have hends : (decide (8 ≤ v.kvWait) && (v.st == .queued || v.st == .running)) = true := by
    rcases hst with h | h <;> simp [hk, h]
  simp only [State.modSess_find_same, hv, Option.map_some, hends, if_true]

/-- Settles O52: the release and the fallback by whether a batch may still be released, the mark of a generation without KV by its
row, and the shares by `shareOut_fair`. -/
theorem batchesAreReleased : Obligations.BatchesAreReleased := by
  refine ⟨fun s => ⟨fun h => ⟨execBatchRelease_open h, ?_⟩, fun h pol => ⟨execBatchRelease_closed h pol, execBatchFallback_closed h⟩,
    fun i v hv hk hst => execKvExhausted_marks hv hk hst⟩, shareOut_fair⟩
  show execBatchFallback s = _
  unfold execBatchFallback
  exact if_neg (by simp [h])

end Sys2Proof.Machine
end

section
/-! Formats keep their values (02_number_formats R33 to R41, R59, R61): a code split into its sign, exponent and fraction fields, the
rounding of an exact value back to its magnitude, and integers placed in w bits. -/

namespace Sys2Proof.Machine

/-! ## The fields of a code (02_number_formats R33) -/

/-- The bits of a code without its sign bit. -/
def FFmt.magnitude (f : FFmt) (c : Nat) : Nat := c % 2 ^ (f.eb + f.mb)

/-- The exponent field of a code. -/
def FFmt.exponent (f : FFmt) (c : Nat) : Nat := bits c f.mb f.eb

theorem FFmt.magnitude_lt (f : FFmt) (c : Nat) : f.magnitude c < 2 ^ (f.eb + f.mb) := Nat.mod_lt _ (by positivity)

theorem FFmt.exponent_lt (f : FFmt) (c : Nat) : f.exponent c < 2 ^ f.eb := Nat.mod_lt _ (by positivity)

/-- The magnitude is the exponent field above the fraction field. -/
theorem FFmt.magnitude_eq_fields (f : FFmt) (c : Nat) : f.magnitude c = f.exponent c * 2 ^ f.mb + c % 2 ^ f.mb := by
  unfold magnitude exponent bits
  rw [Nat.shiftRight_eq_div_pow, Nat.add_comm f.eb, pow_add, Nat.mod_mul]
  ring

/-- A code within its format's width is its magnitude under its sign. -/
theorem FFmt.withSign_magnitude (f : FFmt) {c : Nat} (hc : c < 2 ^ (1 + f.eb + f.mb)) :
    f.withSign (bit c (f.eb + f.mb)) (f.magnitude c) = c := by
  have hsign : c / 2 ^ (f.eb + f.mb) < 2 := by
    rw [Nat.div_lt_iff_lt_mul (by positivity), ← pow_succ']
    convert hc using 2
    omega
  have hsplit := Nat.mod_add_div c (2 ^ (f.eb + f.mb))
  unfold withSign magnitude signBit bit
  rw [Nat.testBit_eq_decide_div_mod_eq]
  obtain h | h : c / 2 ^ (f.eb + f.mb) = 0 ∨ c / 2 ^ (f.eb + f.mb) = 1 := by
    generalize c / 2 ^ (f.eb + f.mb) = q at hsign
    omega
  all_goals
    rw [h] at hsplit ⊢
    simpa using hsplit

/-! ## Rounding the exact value of a code (02_number_formats R59) -/

theorem log2_pow_add {k n : Nat} (h : n < 2 ^ k) : log2 (2 ^ k + n) = k := by
  unfold log2
  rw [Nat.log2_eq_iff (by positivity), pow_succ]
  omega

@[simp] theorem roundInt_zero_exponent (m : Nat) : roundInt m 0 = m := by simp [roundInt]

/-- A subnormal magnitude rounds to its fraction field. -/
theorem FFmt.round_subnormal (f : FFmt) {m : Nat} (hm : m < 2 ^ f.mb) : f.round m (1 - (f.bias : Int) - f.mb) = m := by
  unfold round
  split_ifs with h0
  · exact h0.symm
  · have hlog : log2 m < f.mb := (Nat.log2_lt h0).mpr hm
    have hulp : f.ulp m (1 - (f.bias : Int) - f.mb) = 1 - (f.bias : Int) - f.mb := by
      unfold ulp
      omega
    simp [hulp, codeOf]

/-- A normal magnitude rounds to its exponent field above its fraction field. -/
theorem FFmt.round_normal (f : FFmt) {e m : Nat} (he : 0 < e) (hm : m < 2 ^ f.mb) :
    f.round (2 ^ f.mb + m) ((e : Int) - f.bias - f.mb) = e * 2 ^ f.mb + m := by
  have hulp : f.ulp (2 ^ f.mb + m) ((e : Int) - f.bias - f.mb) = (e : Int) - f.bias - f.mb := by
    unfold ulp
    rw [log2_pow_add hm]
    omega
  calc f.round (2 ^ f.mb + m) ((e : Int) - f.bias - f.mb)
      = (e - 1) * 2 ^ f.mb + (2 ^ f.mb + m) := by simp [round, hulp, codeOf]
    _ = (e - 1 + 1) * 2 ^ f.mb + m := by ring
    _ = e * 2 ^ f.mb + m := by rw [Nat.sub_add_cancel he]

/-! ## What a code stands for -/

/-- The all-ones exponent of an IEEE format holds its infinities, at fraction 0. -/
theorem FFmt.of_decode_inf {f : FFmt} {c : Nat} {neg : Bool} (h : f.decode c = .inf neg) :
    f.ieee = true ∧ neg = bit c (f.eb + f.mb) ∧ f.magnitude c = 2 ^ (f.eb + f.mb) - 2 ^ f.mb := by
  unfold decode at h
  dsimp only at h
  split_ifs at h with hspecial hfrac
  obtain ⟨hieee, hexp⟩ : f.ieee = true ∧ f.exponent c = 2 ^ f.eb - 1 := by simpa [exponent] using hspecial
  refine ⟨hieee, (Num.inf.inj h).symm, ?_⟩
  rw [magnitude_eq_fields, hexp, hfrac, Nat.sub_mul, pow_add]
  simp

/-- A finite value has its code's sign and rounds to its code's magnitude, and its code is none of those set aside. -/
theorem FFmt.of_decode_fin {f : FFmt} {c m : Nat} {neg : Bool} {e : Int} (h : f.decode c = .fin neg m e) :
    neg = bit c (f.eb + f.mb) ∧ f.round m e = f.magnitude c ∧ (f.ieee = true → f.exponent c ≠ 2 ^ f.eb - 1) ∧
    (f = fp8e4 → c % 128 ≠ 127) := by
  have hfrac : c % 2 ^ f.mb < 2 ^ f.mb := Nat.mod_lt _ (by positivity)
  unfold decode at h
  dsimp only at h
  rw [magnitude_eq_fields]
  split_ifs at h with hspecial _ hnan hsub
  all_goals
    obtain ⟨rfl, rfl, rfl⟩ := Num.fin.inj h
    refine ⟨rfl, ?_, by simpa [exponent] using hspecial, by simpa using hnan⟩
  · rw [f.round_subnormal hfrac, exponent, hsub, Nat.zero_mul, Nat.zero_add]
  · exact f.round_normal (Nat.pos_of_ne_zero hsub) hfrac

/-! ## Six floating formats (02_number_formats R33) -/

/-- The floating formats of the block. -/
def floatFormats : List FFmt := [fp32, bf16, fp16, fp8e4, fp8e5, fp4]

/-- The largest finite code is the last before the infinities of an IEEE format, else the last before the NaN of FP8E4 or the last of
all in FP4. -/
theorem maxCode_of_mem_floatFormats : ∀ f ∈ floatFormats,
    (f.ieee = true ∧ f.maxCode + 1 = (2 ^ f.eb - 1) * 2 ^ f.mb) ∨ f = fp8e4 ∨ f = fp4 := by decide

/-- The code of a finite value does not lie above the largest finite one. -/
theorem magnitude_le_maxCode {f : FFmt} (hf : f ∈ floatFormats) {c : Nat} (hieee : f.ieee = true → f.exponent c ≠ 2 ^ f.eb - 1)
    (hnan : f = fp8e4 → c % 128 ≠ 127) : f.magnitude c ≤ f.maxCode := by
  obtain ⟨hi, hmax⟩ | rfl | rfl := maxCode_of_mem_floatFormats f hf
  · have hexp : f.exponent c + 1 ≤ 2 ^ f.eb - 1 := by
      have := f.exponent_lt c
      have := hieee hi
      omega
    have hfrac : c % 2 ^ f.mb < 2 ^ f.mb := Nat.mod_lt _ (by positivity)
    refine Nat.le_of_lt_succ ?_
    calc f.magnitude c = f.exponent c * 2 ^ f.mb + c % 2 ^ f.mb := f.magnitude_eq_fields c
      _ < (f.exponent c + 1) * 2 ^ f.mb := by rw [Nat.succ_mul]; omega
      _ ≤ (2 ^ f.eb - 1) * 2 ^ f.mb := Nat.mul_le_mul_right _ hexp
      _ = f.maxCode + 1 := hmax.symm
  · have : c % 128 ≠ 127 := hnan rfl
    show c % 128 ≤ 126
    omega
  · exact Nat.le_of_lt_succ (fp4.magnitude_lt c)

theorem FFmt.convert_nan (f : FFmt) (sr : Option Nat) : (f.convert sr .nan).code = f.nanCode := rfl

/-- 02_number_formats R59, R61: the value of a code that is not NaN is placed in its own format as that code, with no event. -/
theorem convert_decode {f : FFmt} (hf : f ∈ floatFormats) {c : Nat} (hc : c < 2 ^ (1 + f.eb + f.mb)) (hn : f.decode c ≠ .nan) :
    f.convert none (f.decode c) = { code := c, sat := false, nan := false } := by
  have hback := f.withSign_magnitude hc
  cases h : f.decode c with
  | nan => exact absurd h hn
  | inf neg =>
    obtain ⟨hieee, rfl, hmag⟩ := FFmt.of_decode_inf h
    simp [FFmt.convert, hieee, ← hmag, hback]
  | fin neg m e =>
    obtain ⟨rfl, hround, hieee, hnan⟩ := FFmt.of_decode_fin h
    have hle := magnitude_le_maxCode hf hieee hnan
    simp [FFmt.convert, hround, hle, hback]

/-! ## Integers in w bits (02_number_formats R34, R59) -/

theorem signed_of_lt {w n : Nat} (h : n < 2 ^ (w - 1)) : signed w n = n := if_pos h

/-- The two's complement code of −v stands for −v. -/
theorem signed_twosComplement {w v : Nat} (hw : 0 < w) (hv : v ≤ 2 ^ (w - 1)) : signed w ((2 ^ w - v) % 2 ^ w) = -(v : Int) := by
  have hdouble : 2 ^ w = 2 * 2 ^ (w - 1) := by rw [← pow_succ', Nat.sub_add_cancel hw]
  have hpos : 0 < 2 ^ (w - 1) := by positivity
  obtain rfl | hv0 := Nat.eq_zero_or_pos v
  · simp [signed]
  · rw [Nat.mod_eq_of_lt (by omega), signed, if_neg (by omega)]
    omega

/-- An integer placed in w bits: no event within the range, else the nearer end of the range, counted as saturated. -/
theorem convInt_ofInt {w : Nat} (hw : 0 < w) (i : Int) :
    signed w (convInt w (.ofInt i)).code = max (-(2 : Int) ^ (w - 1)) (min i ((2 : Int) ^ (w - 1) - 1)) ∧
    ((convInt w (.ofInt i)).sat = true ↔ i < -(2 : Int) ^ (w - 1) ∨ (2 : Int) ^ (w - 1) ≤ i) := by
  have hpos : 0 < 2 ^ (w - 1) := by positivity
  have hcast : (2 : Int) ^ (w - 1) = ((2 ^ (w - 1) : Nat) : Int) := by simp
  rw [hcast]
  by_cases hi : i < 0
  · simp only [convInt, Num.ofInt, hi, decide_true, roundInt_zero_exponent, if_true, signed_twosComplement hw (min_le_right _ _),
      decide_eq_true_eq]
    omega
  · have hlt : min i.natAbs (2 ^ (w - 1) - 1) < 2 ^ (w - 1) := by omega
    simp only [convInt, Num.ofInt, hi, decide_false, roundInt_zero_exponent, Bool.false_eq_true, if_false, signed_of_lt hlt,
      decide_eq_true_eq]
    omega

/-! ## T2 and B1 (02_number_formats R39, R41) -/

/-- The T2 code of a value is that of 0, 1 or −1. -/
theorem convT2_code (x : Num) : (convT2 x).code = 0 ∨ (convT2 x).code = 1 ∨ (convT2 x).code = 3 := by
  cases x with
  | nan => exact .inl rfl
  | inf neg => cases neg <;> simp [convT2]
  | fin neg m e =>
    simp only [convT2]
    split_ifs <;> simp

/-- The B1 code of a value is one bit. -/
theorem convB1_code (x : Num) : (convB1 x).code = 0 ∨ (convB1 x).code = 1 := by
  cases x with
  | nan => exact .inr rfl
  | inf neg => cases neg <;> simp [convB1]
  | fin neg m e =>
    simp only [convB1]
    split_ifs <;> simp

/-- Settles O58: a float code comes back by `convert_decode`, an integer by its place in the range of `convInt_ofInt`, and the T2 and
B1 codes are those that `convT2_code` and `convB1_code` list. -/
theorem formatsKeepTheirValues : Obligations.FormatsKeepTheirValues := by
  refine ⟨fun f hf c hc => ⟨convert_decode hf hc, fun h => by rw [h, f.convert_nan]⟩, fun w hw i => ?_,
    fun book => ⟨rfl, rfl, rfl, rfl, rfl⟩, fun x => ?_⟩
  · have hw0 : 0 < w := by
      simp only [List.mem_cons, List.not_mem_nil, or_false] at hw
      omega
    obtain ⟨hval, hsat⟩ := convInt_ofInt hw0 i
    have hpos : (0 : Int) < 2 ^ (w - 1) := by positivity
    rw [← Bool.not_eq_true, hval, hsat]
    omega
  · have := convT2_code x
    have := convB1_code x
    omega

end Sys2Proof.Machine
end

section
/-! Layers close and re-fire (03_narrow_arithmetic R78, R79, R82 to R96): which causes trip, what a recorded trip changes, the state
that a carry or a re-fire leaves, and the next state of the two rows. -/

namespace Sys2Proof.Machine

/-! ## Which causes trip (03_narrow_arithmetic R82) -/

/-- Three flags in a number: each bit is its flag, and nothing stands above them. -/
theorem bit_threeFlags (a b c : Bool) :
    bit (flag a 0 + flag b 1 + flag c 2) 0 = a ∧ bit (flag a 0 + flag b 1 + flag c 2) 1 = b ∧
      bit (flag a 0 + flag b 1 + flag c 2) 2 = c ∧ flag a 0 + flag b 1 + flag c 2 < 8 := by
  cases a <;> cases b <;> cases c <;> decide

/-- A cause trips where it is enabled and one of the n slots is beyond its limit. -/
theorem enabled_and_slot_iff {α : Type} (on : Bool) (n : Nat) (slot : Nat → α) (trips : Nat × α → Bool) :
    (on && ((List.range n).map (fun i => (i, slot i))).any trips) = true ↔ on = true ∧ ∃ i, i < n ∧ trips (i, slot i) = true := by
  simp [List.any_map, List.any_eq_true]

/-! ## What a trip changes (03_narrow_arithmetic R82, R93, R95, R96, R727) -/

/-- The second state differs from the first in the partitions (their counters and images) and the management state (the log) alone. -/
def State.Tallied (s t : State) : Prop := ∃ ps m, t = { s with parts := ps, mgmt := m }

section
variable {s t : State}

theorem State.Tallied.refl (s : State) : s.Tallied s := ⟨s.parts, s.mgmt, rfl⟩

theorem State.Tallied.hostMem_eq (h : s.Tallied t) : t.hostMem = s.hostMem := by
  obtain ⟨_, _, rfl⟩ := h
  rfl

theorem State.Tallied.dev_eq (h : s.Tallied t) : t.dev = s.dev := by
  obtain ⟨_, _, rfl⟩ := h
  rfl

theorem State.Tallied.sessions_eq (h : s.Tallied t) : t.sessions = s.sessions := by
  obtain ⟨_, _, rfl⟩ := h
  rfl

theorem State.Tallied.modPart (h : s.Tallied t) (p : Nat) (f : Part → Part) : s.Tallied (t.modPart p f) := by
  obtain ⟨_, _, rfl⟩ := h
  exact ⟨_, _, rfl⟩

theorem State.Tallied.count (h : s.Tallied t) (p c n : Nat) : s.Tallied (t.count p c n) := h.modPart ..

theorem State.Tallied.countWhen (h : s.Tallied t) (on : Bool) (p c n : Nat) : s.Tallied (if on then t.count p c n else t) := by
  split_ifs
  · exact h.count ..
  · exact h

theorem State.Tallied.log (h : s.Tallied t) (cls ev part source : Nat) (payload : List Byte) :
    s.Tallied (t.log cls ev part source payload) := by
  obtain ⟨_, _, rfl⟩ := h
  obtain ⟨m, hlog⟩ := State.log_eq _ cls ev part source payload
  exact ⟨_, m, hlog⟩

end

/-- A trip is recorded in the counters, the sticky window and the log. -/
theorem State.tallied_trip (s : State) (v : Batch) (im : Image) (e : List Byte) (cause : Nat) : s.Tallied (s.trip v im e cause) :=
  ((((((State.Tallied.refl s).count ..).countWhen ..).countWhen ..).countWhen ..).countWhen ..).modPart .. |>.log ..

/-- The tile time of a re-fire is a counter of the batch's partition. -/
@[simp] theorem State.refireTime_batches (s : State) (v : Batch) (ns : Nat) : (s.refireTime v ns).batches = s.batches := by
  unfold State.refireTime
  split_ifs
  · exact s.count_batches ..
  · rfl

/-! ## What a carry and a re-fire leave (03_narrow_arithmetic R83 to R90) -/

/-- A batch whose re-fire can no longer start: carried, its layer marked wide in its members' next step (R83, R89, R90). -/
def State.carryLayer (t : State) (b : Nat) (v : Batch) : State :=
  { t with
    batches := KMap.put t.batches b { v with carried := true, lrsCarry := true }
    sessions := KMap.each t.sessions (fun i x => if v.members.contains i then { x with wide := (x.wide ++ [v.layer]).dedup } else x) }

/-- A batch at the start of its layer's re-fire: the layer open again, its records to be done once more, its monitors clear. -/
def Batch.refireFrom (v : Batch) (im : Image) (shadow : Bool) : Batch :=
  let keep := fun (i : Nat) => (im.record i).layer ≠ v.layer
  { v with
    refire := true, refired := some v.layer, shadow := shadow, closed := false, usAt := v.closeAt
    mon := List.replicate 4 (0, 0, 0, 0), recDone := v.recDone.filter keep, skipped := v.skipped.filter keep
    failed := v.failed.filter (fun x => keep x.1) }

/-- A re-fire that starts: counted, and a miss counted where the layer has a wide shadow that is not resident (R86, R96). -/
def State.startRefire (t : State) (b : Nat) (v : Batch) (im : Image) (e : List Byte) : State :=
  let res := t.shadowResident im v.layer
  let u := t.count v.part Ctr.refireRun 1
  let w := if bit (field e 2 1) 3 && !res then u.count v.part Ctr.shadowMiss 1 else u
  { w with batches := KMap.put w.batches b (v.refireFrom im res) }

theorem State.carryLayer_find (t : State) (b : Nat) (v : Batch) :
    KMap.find (t.carryLayer b v).batches b = some { v with carried := true, lrsCarry := true } := KMap.find_put_same ..

/-- The start of a re-fire counts and changes its batch. -/
theorem State.startRefire_eq (t : State) (b : Nat) (v : Batch) (im : Image) (e : List Byte) :
    ∃ w, t.Tallied w ∧ t.startRefire b v im e =
      { w with batches := KMap.put w.batches b (v.refireFrom im (t.shadowResident im v.layer)) } :=
  ⟨_, ((State.Tallied.refl t).count ..).countWhen .., rfl⟩

/-- The records that a re-fire leaves done are those of other layers. -/
theorem Batch.mem_recDone_refireFrom (v : Batch) (im : Image) (shadow : Bool) (i : Nat) :
    i ∈ (v.refireFrom im shadow).recDone ↔ i ∈ v.recDone ∧ (im.record i).layer ≠ v.layer := by
  simp [Batch.refireFrom]

/-- Only a layer whose threshold entry has HAS_SHADOW set has shadow pages, so only such a layer finds them resident (R80, R86). -/
theorem State.hasShadow_of_shadowResident {s : State} {im : Image} {l : Nat} {e : List Byte} (he : KMap.find im.cal l = some e)
    (h : s.shadowResident im l = true) : bit (field e 2 1) 3 = true := by
  have hpages : im.shadowPages l ≠ [] := by
    intro hnil
    simp [State.shadowResident, hnil] at h
  have hshadowed : im.shadowed l = true := by
    by_contra hno
    exact hpages (if_neg hno)
  simpa [Image.shadowed, he] using hshadowed

/-! ## The two rows -/

section
variable {s : State} {b : Nat} {v : Batch} {im : Image} (hv : KMap.find s.batches b = some v)
  (him : KMap.find (s.part v.part).images v.image = some im) (hcarried : v.carried = false) (hfaulted : v.faulted = false)
  (hcommit : s.wheel.commit = false) (hlost : s.moduleLost = false)
include hv him hcarried hfaulted hcommit hlost

/-- R78, R79: a layer whose records are done closes. -/
theorem execLayerClose_closes {ns : Nat} (hopen : v.closed = false) (hlayer : v.layer < im.layerCnt) (hover : v.layerOver im = true) :
    execLayerClose b ns s = .next { ({ s with wheel := { s.wheel with now := max s.wheel.now ns } }.refireTime v ns) with
      batches := KMap.put s.batches b (if (KMap.find im.cal v.layer).isSome then { v with closed := true, closeAt := ns }
        else { v with closed := true, closeAt := ns }.advance im) } := by
  simp only [execLayerClose, hv, him]
  rw [if_neg (by simp [hopen, hcarried, hfaulted, hcommit, hlost, hlayer, hover]), State.refireTime_batches]

/-- R82 to R89: the decision of a closed layer with a threshold entry, by what tripped and how the layer ran. -/
theorem execRefireDecision_closed {e : List Byte} (hclosed : v.closed = true) (he : KMap.find im.cal v.layer = some e) :
    execRefireDecision b s =
      if v.wide then
        let t := if tripBits e v.mon = 0 then s else s.count v.part Ctr.refireWideTrip 1
        .next { t with batches := KMap.put t.batches b (v.advance im) }
      else if tripBits e v.mon = 0 then .next { s with batches := KMap.put s.batches b (v.advance im) }
      else
        let t := s.trip v im e (tripBits e v.mon)
        if bit (field e 2 1) 4 || !im.canWiden v.layer then
          .next { t.count v.part Ctr.refireNone 1 with batches := KMap.put t.batches b (v.advance im) }
        else if s.lrs v < v.closeAt then .next (t.carryLayer b v)
        else .next (t.startRefire b v im e) := by
  simp only [execRefireDecision, hv, him, he]
  rw [if_neg (by simp [hclosed, hcarried, hfaulted, hcommit, hlost])]
  rfl

end

/-- A layer carried by its decision: the batch is marked, and host and device memory stay (R83, R89). -/
theorem State.carryLayer_after_trip (s : State) (b : Nat) (v : Batch) (im : Image) (e : List Byte) (cause : Nat) :
    let u := (s.trip v im e cause).carryLayer b v
    ∃ w, KMap.find u.batches b = some w ∧ w.carried = true ∧ w.lrsCarry = true ∧ u.hostMem = s.hostMem ∧ u.dev = s.dev :=
  ⟨_, State.carryLayer_find .., rfl, rfl, (s.tallied_trip ..).hostMem_eq, (s.tallied_trip ..).dev_eq⟩

/-- A re-fire started by its decision: the layer's records are to be done once more, shadow weights only under HAS_SHADOW, and the
memories and sessions stay (R84, R86, R88). -/
theorem State.startRefire_after_trip (s : State) (b : Nat) (v : Batch) {im : Image} {e : List Byte} (cause : Nat)
    (he : KMap.find im.cal v.layer = some e) :
    let u := (s.trip v im e cause).startRefire b v im e
    ∃ w, KMap.find u.batches b = some w ∧ w.refire = true ∧
      w.refired = some v.layer ∧ w.closed = false ∧ w.layer = v.layer ∧
      (∀ i, i ∈ w.recDone ↔ i ∈ v.recDone ∧ (im.record i).layer ≠ v.layer) ∧
      (w.shadow = true → bit (field e 2 1) 3 = true) ∧
      u.hostMem = s.hostMem ∧ u.dev = s.dev ∧ u.sessions = s.sessions := by
  have htrip := s.tallied_trip v im e cause
  obtain ⟨w, hw, hu⟩ := (s.trip v im e cause).startRefire_eq b v im e
  rw [hu]
  exact ⟨_, KMap.find_put_same .., rfl, rfl, rfl, rfl, Batch.mem_recDone_refireFrom v im _,
    State.hasShadow_of_shadowResident he, hw.hostMem_eq.trans htrip.hostMem_eq, hw.dev_eq.trans htrip.dev_eq,
    hw.sessions_eq.trans htrip.sessions_eq⟩

/-- Settles O34: a close by `execLayerClose_closes`, a decision by the branch of `execRefireDecision_closed` that its hypotheses
choose, and the causes by the three flags of `tripBits`. -/
theorem layersCloseAndReFire : Obligations.LayersCloseAndReFire := by
  refine ⟨fun s b v im hv him hcarried hfaulted hcommit hlost => ⟨fun ns hopen hlayer hover =>
    execLayerClose_closes hv him hcarried hfaulted hcommit hlost hopen hlayer hover, fun e hclosed he => ?_⟩, fun e mon => ?_⟩
  · have hdecision : exec (.refireDecision b) s = _ :=
      execRefireDecision_closed hv him hcarried hfaulted hcommit hlost hclosed he
    rw [hdecision]
    refine ⟨fun h => by cases v.wide <;> simp [h], fun h hwide => by rw [if_pos hwide, if_neg h]; rfl, fun h hnarrow => ?_⟩
    rw [if_neg (by simp [hnarrow]), if_neg h]
    refine ⟨fun hnone => ?_, fun hmay hcan => ⟨fun hlate => ?_, fun hstart => ?_⟩⟩
    · exact if_pos (by simpa using hnone)
    · rw [if_neg (by simp [hmay, hcan]), if_pos hlate]
      exact ⟨_, (s.carryLayer_after_trip b v im e (tripBits e v.mon)).imp fun _ h => ⟨rfl, h⟩⟩
    · rw [if_neg (by simp [hmay, hcan]), if_neg (by omega)]
      exact ⟨_, (s.startRefire_after_trip b v (tripBits e v.mon) he).imp fun _ h => ⟨rfl, h⟩⟩
  · obtain ⟨hsat, hamax, hnan, hlt⟩ := bit_threeFlags _ _ _
    refine ⟨?_, ?_, ?_, hlt⟩
    · exact (Bool.eq_iff_iff.1 hsat).trans ((enabled_and_slot_iff _ _ _ _).trans (by simp only [decide_eq_true_eq]))
    · exact (Bool.eq_iff_iff.1 hamax).trans (enabled_and_slot_iff _ _ _ _)
    · exact (Bool.eq_iff_iff.1 hnan).trans ((enabled_and_slot_iff _ _ _ _).trans (by simp only [decide_eq_true_eq]))

end Sys2Proof.Machine
end

section
/-! Limits of the issue slots and the supply (05_array_dataflow R163; 20_power_thermal R619 to R622, R626): the cycles that a withheld
slot holds an array, the effective fraction as the lowest limit in force, and the next state of each row of a limit. -/

namespace Sys2Proof.Machine

/-! ## Tiles changed and counted -/

/-- A tile read after one is changed. -/
theorem State.tile_modTile (s : State) (t u : Nat) (f : Tile → Tile) :
    (s.modTile t f).tile u = if u = t then f (s.tile t) else s.tile u := by
  unfold State.tile State.modTile KMap.findD
  split_ifs with h
  · rw [h, KMap.find_put_same]; rfl
  · rw [KMap.find_put_other _ _ h]

/-- A count keeps what is no counter of the tile. -/
theorem State.tileCount_scratch (s : State) (t c n u : Nat) : ((s.tileCount t c n).tile u).scratch = (s.tile u).scratch := by
  rw [State.tileCount, State.tile_modTile]
  split_ifs with h
  · rw [h]
  · rfl

/-- The ACLKs that the array of tile t has been held (05_array_dataflow R163). -/
def State.arrayHeld (s : State) (t : Nat) : Nat := KMap.findD (s.tile t).ctr TileCtr.arrayHoldCyc 0

/-- The ACLKs that the array of tile t has been held once n more slots of its die are withheld: a tile that is gated is not held. -/
def State.arrayHeldAfter (s : State) (n t : Nat) : Nat :=
  if n = 0 ∨ s.tileGated t = true then s.arrayHeld t else min (s.arrayHeld t + n) (2 ^ 48 - 1)

theorem State.arrayHeld_tileCount (s : State) (t n u : Nat) :
    (s.tileCount t TileCtr.arrayHoldCyc n).arrayHeld u = if u = t then min (s.arrayHeld u + n) (2 ^ 48 - 1) else s.arrayHeld u := by
  rw [State.arrayHeld, State.tileCount, State.tile_modTile]
  split_ifs with h
  · subst h; simp only [KMap.findD, KMap.find_put_same, Option.getD_some]; rfl
  · rfl

/-! ## Slots withheld (05_array_dataflow R163) -/

/-- What each step of a fold keeps, the fold keeps. -/
theorem foldl_keeps {σ α β : Type} (π : σ → β) {f : σ → α → σ} (hf : ∀ s x, π (f s x) = π s) (l : List α) (s : σ) :
    π (l.foldl f s) = π s :=
  List.foldlRecOn l f (motive := fun t => π t = π s) rfl fun t ht x _ => (hf t x).trans ht

/-- The arrays of k tiles from `base` on held for n ACLKs. -/
def State.holdArrays (s : State) (base n k : Nat) : State :=
  (List.range k).foldl (fun (b : State) i => b.tileCount (base + i) TileCtr.arrayHoldCyc n) s

/-- Die d's share of `State.withhold`: n slots withheld on it. -/
def State.holdDie (s : State) (n d : Nat) : State :=
  if n = 0 || s.tileGated (128 * d) then s else s.holdArrays (128 * d) n 128

theorem State.withhold_eq_foldl (s : State) (withheld : List Nat) :
    s.withhold withheld = (withheld.take 8).zipIdx.foldl (fun a e => a.holdDie e.1 e.2) s := rfl

section
variable {α : Type} {π : State → α} (hπ : ∀ (s : State) (t n : Nat), π (s.tileCount t TileCtr.arrayHoldCyc n) = π s)
include hπ

theorem State.holdDie_keeps (s : State) (n d : Nat) : π (s.holdDie n d) = π s := by
  unfold State.holdDie
  split_ifs
  · rfl
  · exact foldl_keeps π (fun b i => hπ b _ n) _ s

/-- What a count of held ACLKs leaves alone, slots withheld leave alone. -/
theorem State.withhold_keeps (s : State) (withheld : List Nat) : π (s.withhold withheld) = π s :=
  foldl_keeps π (fun a (e : Nat × Nat) => State.holdDie_keeps hπ a e.1 e.2) _ s

end

theorem State.arrayHeld_holdArrays (s : State) (base n k t : Nat) :
    (s.holdArrays base n k).arrayHeld t =
      if base ≤ t ∧ t < base + k then min (s.arrayHeld t + n) (2 ^ 48 - 1) else s.arrayHeld t := by
  induction k with
  | zero => exact (if_neg (by omega)).symm
  | succ k ih =>
    have hlast : s.holdArrays base n (k + 1) = (s.holdArrays base n k).tileCount (base + k) TileCtr.arrayHoldCyc n := by
      simp only [State.holdArrays, List.range_succ, List.foldl_append, List.foldl_cons, List.foldl_nil]
    rw [hlast, State.arrayHeld_tileCount, ih]
    by_cases h : t = base + k
    · rw [if_pos h, if_neg (by omega), if_pos (by omega)]
    · rw [if_neg h]
      exact if_congr (by omega) rfl rfl

/-- All tiles of a die are gated together. -/
theorem State.tileGated_die (s : State) (t : Nat) : s.tileGated (128 * (t / 128)) = s.tileGated t := by
  rw [State.tileGated, Nat.mul_div_cancel_left _ (by decide)]; rfl

theorem State.arrayHeld_holdDie (s : State) (n d t : Nat) :
    (s.holdDie n d).arrayHeld t = if t / 128 = d then s.arrayHeldAfter n t else s.arrayHeld t := by
  unfold State.holdDie State.arrayHeldAfter
  by_cases hd : t / 128 = d
  · subst hd
    rw [State.tileGated_die, if_pos rfl]
    by_cases h : n = 0 ∨ s.tileGated t = true
    · rw [if_pos h, if_pos (by simpa using h)]
    · rw [if_neg h, if_neg (by simpa using h), State.arrayHeld_holdArrays, if_pos (by omega)]
  · rw [if_neg hd]
    split_ifs
    · rfl
    · rw [State.arrayHeld_holdArrays, if_neg (by omega)]

/-- Slots withheld die by die: a tile is held by its own die's slots alone. -/
theorem State.arrayHeld_foldl_holdDie (s : State) (l : List Nat) (t : Nat) :
    (l.zipIdx.foldl (fun a e => a.holdDie e.1 e.2) s).arrayHeld t = s.arrayHeldAfter (l.getD (t / 128) 0) t := by
  induction l using List.reverseRecOn with
  | nil => exact (if_pos (.inl rfl)).symm
  | append_singleton l n ih =>
    rw [List.zipIdx_append, List.foldl_append]
    generalize hu : l.zipIdx.foldl (fun a e => a.holdDie e.1 e.2) s = u at ih ⊢
    have hgated : u.tileGated t = s.tileGated t := by
      rw [← hu]
      exact foldl_keeps (fun a => a.tileGated t)
        (fun a (e : Nat × Nat) => State.holdDie_keeps (π := fun a => a.tileGated t) (fun _ _ _ => rfl) a e.1 e.2) _ s
    show (u.holdDie n (0 + l.length)).arrayHeld t = _
    rw [State.arrayHeld_holdDie, Nat.zero_add]
    obtain h | h | h := Nat.lt_trichotomy (t / 128) l.length
    · rw [if_neg h.ne, List.getD_append _ _ _ _ h, ih]
    · have hbefore : u.arrayHeld t = s.arrayHeld t := by
        rw [ih, List.getD_eq_default _ _ h.ge]
        exact if_pos (.inl rfl)
      rw [if_pos h, List.getD_append_right _ _ _ _ h.ge, h, Nat.sub_self, List.getD_cons_zero]
      unfold State.arrayHeldAfter
      rw [hgated, hbefore]
    · rw [if_neg h.ne', ih, List.getD_eq_default _ _ h.le, List.getD_eq_default _ _ (by simpa using h)]

/-- A slot withheld on a die holds the array of each of its powered tiles for an ACLK, and no other tile's (R163, R619). -/
theorem State.arrayHeld_withhold (s : State) (withheld : List Nat) {t : Nat} (ht : t < 1024) :
    (s.withhold withheld).arrayHeld t = s.arrayHeldAfter (withheld.getD (t / 128) 0) t := by
  have htake : (withheld.take 8).getD (t / 128) 0 = withheld.getD (t / 128) 0 := by
    rw [List.getD_eq_getElem?_getD, List.getElem?_take_of_lt (by omega), List.getD_eq_getElem?_getD]
  rw [State.withhold_eq_foldl, State.arrayHeld_foldl_holdDie, htake]

/-! ## The effective fraction (20_power_thermal R621, R626) -/

/-- The limits in force on die d, the governor's fraction first. -/
def Power.limits (w : Power) (d : Nat) : List Nat :=
  (w.slot.getD d 64 :: (if w.clampPh = 1 then [0] else if w.clampPh = 2 then [32] else [])) ++
    (if w.sustained then [48] else []) ++ (if w.dieHot.getD d false then [16] else []) ++
    (if w.sensLimit.getD d false then [32] else [])

theorem Power.fraction_eq_foldl (w : Power) (d : Nat) : w.fraction d = (w.limits d).foldl min 64 := rfl

/-- The fraction is no more than any limit in force. -/
theorem Power.fraction_le {w : Power} {d n : Nat} (h : n ∈ 64 :: w.limits d) : w.fraction d ≤ n :=
  (List.min?_eq_some_iff.mp List.min?_cons').2 n h

/-- Where no limit is in force the fraction is the governor's. -/
theorem Power.fraction_unlimited {w : Power} {d : Nat} (hclamp : w.clampPh = 0) (hsustained : w.sustained = false)
    (hhot : w.dieHot.getD d false = false) (hsensor : w.sensLimit.getD d false = false) :
    w.fraction d = min 64 (w.slot.getD d 64) := by
  have hgovernor : w.limits d = [w.slot.getD d 64] := by
    simp [Power.limits, hclamp, hsustained, hhot, hsensor, -List.getD_eq_getElem?_getD]
  rw [Power.fraction_eq_foldl, hgovernor]
  rfl

/-! ## The rows of the limits (20_power_thermal R621) -/

theorem execDieHot_engages {s : State} {d : Nat} {temps : List Int} (hd : d < 8)
    (hhot : temps.any (fun t => decide (110000 ≤ t)) = true) (hnew : s.power.dieHot.getD d false = false) :
    execDieHot d temps s =
      .next ({ s with power := { s.power with dieHot := s.power.dieHot.set d true } }.powCount Ctr.dieHotEvents 1) := by
  unfold execDieHot
  rw [if_neg (by omega), if_pos hhot, hnew]
  rfl

theorem execDieHot_releases {s : State} {d : Nat} {temps : List Int} (hd : d < 8) (hcool : ∀ t ∈ temps, t < 100000) :
    execDieHot d temps s = .next { s with power := { s.power with dieHot := s.power.dieHot.set d false } } := by
  have hnone : ¬ temps.any (fun t => decide (110000 ≤ t)) = true := by
    simp only [List.any_eq_true, decide_eq_true_eq, not_exists, not_and, not_le]
    exact fun t ht => (hcool t ht).trans (by decide)
  unfold execDieHot
  rw [if_neg (by omega), if_neg hnone, if_pos (by simpa using hcool)]

/-! ## The supply (20_power_thermal R622, 23_management R684) -/

/-- The converters off, where flash holds the whole log: the buffered records follow those in flash. -/
theorem State.convertersOff_commits {s : State} (h : s.mgmt.logFlash.length + s.mgmt.logBuf.length ≤ 524288) :
    s.convertersOff = { s with
      power := { s.power with inputOk := false }
      mgmt := { s.mgmt with alertN := true, logFlash := s.mgmt.logFlash ++ s.mgmt.logBuf, logBuf := [] } } := by
  rw [State.convertersOff, Nat.sub_eq_zero_of_le h, List.drop_zero]

/-- Settles O17: the held cycles by `State.arrayHeld_withhold` and the rest of the state by `State.withhold_keeps`, each bound of the
fraction by its limit's place in `Power.limits`, and each row by the branch its hypothesis chooses. -/
theorem limitsAndSupply : Obligations.LimitsAndSupply := by
  refine ⟨fun s => ?limits, fun w d => ?fraction, fun s => ?supply⟩
  case limits =>
    refine ⟨fun fr n => rfl, fun n t ht => ⟨s.arrayHeld_withhold n ht, ?_, ?_, ?_, ?_⟩, fun hclamp => if_neg hclamp,
      fun hhold => if_pos hhold, fun hrelease => if_pos hrelease, fun hnew => if_neg (by simp [hnew]), rfl,
      fun d temps hd => ⟨execDieHot_engages hd, execDieHot_releases hd⟩⟩
    · exact s.withhold_keeps (π := fun u => (u.tile t).scratch) (fun u i c => u.tileCount_scratch i _ c t) n
    · exact s.withhold_keeps (π := State.hostMem) (fun _ _ _ => rfl) n
    · exact s.withhold_keeps (π := State.dev) (fun _ _ _ => rfl) n
    · exact s.withhold_keeps (π := State.power) (fun _ _ _ => rfl) n
  case fraction =>
    refine ⟨Power.fraction_le List.mem_cons_self, Power.fraction_le ?_, fun h => Nat.le_zero.mp (Power.fraction_le ?_),
      fun h => Power.fraction_le ?_, fun h => Power.fraction_le ?_, fun h => Power.fraction_le ?_, fun h => Power.fraction_le ?_,
      Power.fraction_unlimited⟩
    · simp [Power.limits]
    all_goals simp [Power.limits, h, -List.getD_eq_getElem?_getD]
  case supply =>
    refine ⟨rfl, fun hnew => if_pos (by simp [hnew]), fun hroom => ?_⟩
    have hcommit := State.convertersOff_commits hroom
    exact ⟨congrArg Host.Outcome.next hcommit, congrArg Host.Outcome.next hcommit⟩

end Sys2Proof.Machine
end

section
/-! Runs issue their records (06_operations R202, R203, R205, R206; 10_embedding_tables R350): the records that a failed one keeps from
running, the outcome of a run, the start of a run, and what the issue of a record of a run comes to. -/

namespace Sys2Proof.Machine

/-! ## Dependence and the outcome of a run (06_operations R203) -/

theorem subset_ancestors (rs : List Rec) (n : Nat) (l : List Nat) : l ⊆ ancestors rs n l := by
  induction n generalizing l with
  | zero => exact List.Subset.refl l
  | succ n ih => exact fun d hd => ih _ (List.mem_dedup.2 (List.mem_append_left _ hd))

/-- What a record names as a predecessor it depends on. -/
theorem Rec.preds_subset_above (rs : List Rec) (i : Nat) : (rs.getD i (recOf [])).preds ⊆ Rec.above rs i := subset_ancestors ..

theorem Run.mem_doomed (x : Run) (rs : List Rec) (i : Nat) :
    i ∈ x.doomed rs ↔ i < rs.length ∧ KMap.find x.status i = none ∧ ∃ d ∈ Rec.above rs i, failed (KMap.findD x.status d 0) = true := by
  simp only [Run.doomed, List.mem_filter, List.mem_range, Bool.and_eq_true, Option.isNone_iff_eq_none, List.any_eq_true]

section
variable {x : Run}

theorem Run.outcome_of_failed {e : Nat × Nat} (h : x.status.find? (fun e => failed e.2) = some e) :
    x.outcome = (e.2, e.1 + 2 ^ 16 * x.skipped.length) := by
  simp only [Run.outcome, h]

theorem Run.outcome_of_partial {e : Nat × Nat} (hfailed : x.status.find? (fun e => failed e.2) = none)
    (h : x.status.find? (fun e => decide (e.2 ≠ 0)) = some e) : x.outcome = (e.2, e.1 + 2 ^ 16 * x.skipped.length) := by
  simp only [Run.outcome, hfailed, h]

theorem Run.outcome_of_success (h : ∀ e ∈ x.status, e.2 = 0) : x.outcome = (0, 0xFFFF + 2 ^ 16 * x.skipped.length) := by
  have hfailed : x.status.find? (fun e => failed e.2) = none := List.find?_eq_none.2 fun e he => by simp [failed, h e he]
  have hpartial : x.status.find? (fun e => decide (e.2 ≠ 0)) = none := List.find?_eq_none.2 fun e he => by simp [h e he]
  simp only [Run.outcome, hfailed, hpartial]

end

/-! ## The start of a run (06_operations R202, R205; 10_embedding_tables R350) -/

/-- A run of partition e.part's image on these bindings, its tables pinned, its first tasks started. -/
def State.startRun (s : State) (e : CmdE) (image : Nat) (binds : List Nat) (im : Image) : State :=
  let pins := s.pinTables e.part (2 * s.nextRun) im.tablesNamed
  ({ pins.2 with
    runs := KMap.put s.runs s.nextRun { part := e.part, tag := e.tag, image := image, privileged := s.privileged e.part e.queue
                                        binds := binds, pinned := pins.1 }
    nextRun := s.nextRun + 1 }.keep e).spawn s.nextRun

theorem execGraphRun_starts {s : State} {r : Ref} {image : Nat} {binds : List Nat} {e : CmdE} {im : Image}
    (hs : s.starts r 0x12 e = true) (himage : field e.area 0 2 = image) (hbinds : words 8 e.pb = binds)
    (him : s.image? e.part image = some im) (hkind : im.kind = 4)
    (hpriv : im.needsPriv = true → s.privileged e.part e.queue = true)
    (htables : im.tablesNamed.any (fun h => (s.table? e.part h).isNone) = false) :
    execGraphRun r image binds s = .next (s.startRun e image binds im) := by
  have hchannel : (im.needsPriv && !s.privileged e.part e.queue) = false := by simpa using hpriv
  unfold execGraphRun
  rw [State.command_of_starts hs (by simp [himage, hbinds])]
  simp only [him, hkind, hchannel, htables, firstBad, ne_eq, not_true, decide_false, Bool.false_eq_true, if_false]
  rfl

/-! ## The issue of a record (06_operations R187, R191, R202, R203; 04_tile R129; 08_memory_tiers R268) -/

section
variable {s : State} {w : Place} {i : Nat} {tiles : List Nat} {b : Bench} {r : Rec} {bytes : List Byte} {err : Nat} {o : Issue}

theorem State.perform_of_err (herr : err ≠ 0) : s.perform w i tiles b r bytes err o = .ended err s := if_pos herr

theorem State.perform_of_dropped {t : Nat} (herr : err = 0) (hdrop : s.dropAt w.part o = some t) :
    s.perform w i tiles b r bytes err o = .ended Code.meshPartitionFault (s.dropPacket w.part t) := by
  simp [State.perform, herr, hdrop]

theorem State.perform_of_gang (herr : err = 0) (hdrop : s.dropAt w.part o = none) (hopc : r.opc = 0x2C) (hgang : o.gang ≠ 0) :
    s.perform w i tiles b r bytes err o = .ended o.gang s := by
  simp [State.perform, herr, hdrop, hopc, hgang]

/-- The pages that a record reads and writes: its bench's, and those named besides. -/
def TableRun.need (y : TableRun) (pages : List Nat) : List Nat :=
  (y.bench.reads.flatMap (fun e => pagesOf e.1 e.2) ++ y.bench.puts.flatMap (fun e => pagesOf e.1 e.2.length) ++
    (y.pages ++ pages)).dedup

theorem State.perform_runs (herr : err = 0) (hdrop : s.dropAt w.part o = none) (hgang : r.opc = 0x2C → o.gang = 0) :
    s.perform w i tiles b r bytes err o =
      match s.runRecord w.part w.pins w.tag b r bytes with
      | .error c => .ended c s
      | .ok y =>
        if y.wait then .waits s
        else match s.demand w.batch (y.need w.pages) with
          | some t => .held (s.inT2 (y.need w.pages)) (t.holdTiles tiles i w.image)
          | none => .done y.bench (((y.after.loadTiles r tiles).applyBench w.part r tiles y.bench (y.pages ++ w.pages)).measured
              w.part w.image i o.passNs) := by
  unfold State.perform
  rw [if_neg (not_not.2 herr), hdrop]
  simp only
  rw [if_neg (fun h => h.2 (hgang h.1))]
  rfl

end

/-- A run with what the issue of its record i comes to. -/
def Ran.toRun (n i p : Nat) : Ran → State
  | .ended c t => t.finishRecord n i c
  | .waits t => t
  | .held ks t => t.holdRecord n i p ks
  | .done b t => { t with runs := KMap.mod t.runs n (fun z => z.after b) }.finishRecord n i b.status

/-- The work that a record of a run belongs to. -/
def Run.place (x : Run) : Place :=
  { part := x.part, image := x.image, pins := x.pinned, tag := some x.tag, batch := 0, pages := [] }

/-- What the checks of record i of a run give, on its gang's tiles. -/
def State.runErr (s : State) (x : Run) (im : Image) (i : Nat) (tiles : List Nat) : Nat :=
  (im.record i).err x.privileged false (some x.binds) (entrySize (s.runBench x i tiles) s (im.record i))

/-- The state once what happened to a record is told of its gang's tiles. -/
def State.gangTold (s : State) (k : Task) (o : Issue) : State := (s.quietTiles k.tiles).told k.tiles o

section
variable {s : State} {n i : Nat} {x : Run} {im : Image} {o : Issue}

theorem execRecordIssue_run (hx : KMap.find s.runs n = some x) (hlost : s.moduleLost = false) :
    execRecordIssue (.run n) i o s = .next (s.issueRun n x i o) := by
  simp [execRecordIssue, hx, hlost]

variable (him : KMap.find (s.part x.part).images x.image = some im) (hmay : x.mayIssue im i = true)
include him hmay

theorem State.issueRun_nop (hopc : (im.record i).opc = 0) : s.issueRun n x i o = s.finishRecord n i (s.runErr x im i []) := by
  simp only [State.issueRun, him, hmay, hopc, Bool.not_true, Bool.false_eq_true, if_false, if_true]
  rfl

theorem State.issueRun_tooWide (hopc : (im.record i).opc ≠ 0) (hgang : (s.part x.part).eff.tileLimit < (im.record i).gang) :
    s.issueRun n x i o = s.finishRecord n i Code.gangSizeInvalid := by
  simp only [State.issueRun, him, hmay, hopc, hgang, Bool.not_true, Bool.false_eq_true, if_false, if_true]

variable {m : Nat} {k : Task} (hopc : (im.record i).opc ≠ 0) (hgang : (im.record i).gang ≤ (s.part x.part).eff.tileLimit)
  (htask : s.taskOf (.record n i) = some (m, k)) (hready : s.taskReady k = true)
include hopc hgang htask hready

theorem State.issueRun_struck {tile : Nat} {kind : FaultKind} (hstrike : o.strike = some (tile, kind))
    (htile : k.tiles.contains tile = true) : s.issueRun n x i o = (s.quietTiles k.tiles).strike tile kind := by
  simp only [State.issueRun, him, hmay, hopc, hgang.not_gt, htask, hready, hstrike, htile, Bool.not_true, Bool.false_eq_true, if_false,
    if_true]

/-- A record that no check strikes is performed on its gang. -/
theorem State.issueRun_of_perform {z : Ran} (hstrike : o.strike = none)
    (hz : (s.gangTold k o).perform x.place i k.tiles ((s.gangTold k o).runBench x i k.tiles) (im.record i) (im.recs.getD i [])
      ((s.gangTold k o).runErr x im i k.tiles) o = z) : s.issueRun n x i o = z.toRun n i x.part := by
  rw [← hz]
  simp only [State.issueRun, him, hmay, hopc, hgang.not_gt, htask, hready, hstrike, Bool.not_true, Bool.false_eq_true, if_false]
  rfl

/-- The issue of a record that is performed and writes what it does: it waits, is held, ends with a status, or is complete. -/
theorem State.issueRun_runs {a : State} (ha : s.gangTold k o = a) (hstrike : o.strike = none) (herr : a.runErr x im i k.tiles = 0)
    (hdrop : a.dropAt x.part o = none) (hzero : (im.record i).opc = 0x2C → o.gang = 0) :
    s.issueRun n x i o =
      match a.runRecord x.part x.pinned (some x.tag) (a.runBench x i k.tiles) (im.record i) (im.recs.getD i []) with
      | .error c => a.finishRecord n i c
      | .ok y =>
        if y.wait then a
        else match a.demand 0 (y.need []) with
          | some t => (t.holdTiles k.tiles i x.image).holdRecord n i x.part (a.inT2 (y.need []))
          | none =>
            let t := ((y.after.loadTiles (im.record i) k.tiles).applyBench x.part (im.record i) k.tiles y.bench (y.pages ++ [])).measured
              x.part x.image i o.passNs
            { t with runs := KMap.mod t.runs n (fun z => z.after y.bench) }.finishRecord n i y.bench.status := by
  subst ha
  rw [State.issueRun_of_perform him hmay hopc hgang htask hready hstrike (State.perform_runs (w := x.place) herr hdrop hzero)]
  simp only [Run.place]
  generalize s.gangTold k o = a
  cases a.runRecord x.part x.pinned (some x.tag) (a.runBench x i k.tiles) (im.record i) (im.recs.getD i []) with
  | error c => rfl
  | ok y =>
    cases hwait : y.wait with
    | true => simp only [hwait, if_true, Ran.toRun]
    | false =>
      simp only [hwait, Bool.false_eq_true, if_false]
      cases a.demand 0 (y.need []) <;> rfl

end

/-- Settles O33: the start of a run by `execGraphRun_starts`; an issue by `State.issueRun_nop`, `State.issueRun_tooWide`,
`State.issueRun_struck` or, for a record that is performed, the branch of `State.perform` that its hypotheses choose; dependence by
`Run.mem_doomed` and `Rec.preds_subset_above`; and the outcome by the first failed and the first partial record. -/
theorem runsIssueTheirRecords : Obligations.RunsIssueTheirRecords := by
  refine ⟨fun s => ⟨fun r image binds e im => execGraphRun_starts, fun n x im i o hx him hlost hmay => ?_⟩, fun x rs =>
    ⟨x.mem_doomed rs, fun i d hd => Rec.preds_subset_above rs i hd, Run.outcome_of_success, fun _ => Run.outcome_of_failed,
      fun _ => Run.outcome_of_partial⟩⟩
  have hissue : exec (.recordIssue (.run n) i o) s = .next (s.issueRun n x i o) := execRecordIssue_run hx hlost
  rw [hissue]
  refine ⟨fun hopc => congrArg _ (State.issueRun_nop him hmay hopc),
    fun hopc hwide => congrArg _ (State.issueRun_tooWide him hmay hopc hwide), fun m k hopc hgang htask hready => ⟨?_, ?_, ?_, ?_, ?_⟩⟩
  · exact fun tile kind hstrike htile => congrArg _ (State.issueRun_struck him hmay hopc hgang htask hready hstrike htile)
  · exact fun hstrike herr => congrArg _
      (State.issueRun_of_perform him hmay hopc hgang htask hready hstrike (State.perform_of_err herr))
  · exact fun hstrike herr t hdrop => congrArg _
      (State.issueRun_of_perform him hmay hopc hgang htask hready hstrike (State.perform_of_dropped (w := x.place) herr hdrop))
  · exact fun hstrike herr hdrop hreduce hfail => congrArg _
      (State.issueRun_of_perform him hmay hopc hgang htask hready hstrike (State.perform_of_gang (w := x.place) herr hdrop hreduce hfail))
  · exact fun hstrike herr hdrop hzero => congrArg _
      (State.issueRun_runs him hmay hopc hgang htask hready rfl hstrike herr hdrop hzero)

end Sys2Proof.Machine
end

section
/-! Images are loaded and unloaded (06_operations R206, R213, R214, R728; 22_security R659, R664; 24_startup R703): the steps of a load
in their order, what each that fails answers, and the next state of an unload, of its end and of a query. -/

namespace Sys2Proof.Machine

/-! ## Checks in order -/

theorem State.checked_stop {s : State} {e : CmdE} {cs : List (Bool × Nat)} {f : Unit → State} {c : Nat} (h : firstBad cs = some c) :
    s.checked e cs f = s.reject e c := by
  unfold State.checked; rw [h]

/-- The first check, where it fails, gives the status. -/
@[simp] theorem firstBad_cons_true (c : Nat) (l : List (Bool × Nat)) : firstBad ((true, c) :: l) = some c := rfl

/-- A check that holds leaves the status to the next ones. -/
@[simp] theorem firstBad_cons_false (c : Nat) (l : List (Bool × Nat)) : firstBad ((false, c) :: l) = firstBad l := rfl

@[simp] theorem firstBad_nil : firstBad [] = none := rfl

/-! ## A load (06_operations R213) -/

/-- Steps 1 to 4 of the load of a container, after the refusal of every load that a debug unlock of scope 3 brings. -/
def State.containerChecks (s : State) (p : Nat) (bs : List Byte) : List (Bool × Nat) :=
  let h := bs.take 128
  let ps := plains (s.part p).genP bs
  [(s.sagger.debugScope == 3, Code.imageKeyInvalid),
   (headerBad bs || contentBad bs ps || (!imgEnc h && sealedBad h ps), Code.imageFormatInvalid),
   (decide ((s.mgmt.comps.getD 2 {}).running < field h 52 4), Code.imageFormatInvalid),
   (imgEnc h && (field h 56 1 ≠ p || !s.partKey p || (sectsOf bs).any (fun x => (KMap.find ps x.typ).isNone)), Code.imageKeyInvalid),
   (imgEnc h && sealedBad h ps, Code.imageFormatInvalid),
   (!Config.mlDsaVerify (signedInput bs ps) (((sectRaw bs 0xFF).drop 4).take 3309) 1 (s.part p).trustList,
     Code.imageSignatureInvalid)]

/-- Steps 6 to 8: the module's room for images, the records, the thresholds and the rest of the contents. -/
def State.contentChecks (s : State) (p : Nat) (bs : List Byte) : List (Bool × Nat) :=
  let h := bs.take 128
  let ps := plains (s.part p).genP bs
  let rs := (recsOf ps).map recOf
  [(decide (256 ≤ s.imagesHeld), Code.imageLimit), (recordsErr h rs ≠ 0, recordsErr h rs),
   (decide ((KMap.findD ps 5 []).length % 32 ≠ 0) || (calOf ps).any (calBad h rs ((shadowOf ps).map Prod.fst) (calOf ps)),
     Code.thresholdInvalid),
   (step8Bad h ps rs, Code.imageFormatInvalid)]

/-- Steps 9 to 11, from what placing the pages answers: the codebooks, then the measurement and the image at handle k. -/
def State.admitImage (s : State) (e : CmdE) (k : Nat) (bs : List Byte) : Option (Nat × State) → State
  | none => s.reject e Code.poolExhausted
  | some (base, t) =>
    let ps := plains (s.part e.part).genP bs
    if codebookBad t base (recsOf ps) then s.reject e Code.codebookInvalid
    else ((t.measure (16 + e.part) 0 (Config.shake256 (signedInput bs ps) 64)).modPart e.part (fun w => { w with
      images := KMap.put w.images k (imageOf bs ps base ((recsOf ps).map (relocate base))) })).done e 0 k

theorem State.admitImage_codebookBad {s t : State} {e : CmdE} {k base : Nat} {bs : List Byte}
    (h : codebookBad t base (recsOf (plains (s.part e.part).genP bs)) = true) :
    s.admitImage e k bs (some (base, t)) = s.reject e Code.codebookInvalid := if_pos h

theorem State.admitImage_measures {s t : State} {e : CmdE} {k base : Nat} {bs : List Byte}
    (h : codebookBad t base (recsOf (plains (s.part e.part).genP bs)) = false) :
    let ps := plains (s.part e.part).genP bs
    s.admitImage e k bs (some (base, t)) =
      ((t.measure (16 + e.part) 0 (Config.shake256 (signedInput bs ps) 64)).modPart e.part (fun w => { w with
        images := KMap.put w.images k (imageOf bs ps base ((recsOf ps).map (relocate base))) })).done e 0 k :=
  if_neg (by simp [h])

/-- The placement of an image's pages, once its source is read. -/
def State.placeImage (s : State) (e : CmdE) (a : SArgs) : Option (Nat × State) :=
  (s.sourceSeen e.part a).loadPages e.part (imagePages (plains (s.part e.part).genP (s.sourceBytes a)) (a.src == 2))

section
variable {s : State} {r : Ref} {a : SArgs} {e : CmdE} (hs : s.starts r 0x10 e = true) (ha : argsS e.area = a)
  (hok : s.sourceOk e.part a = true)
include hs ha hok

/-- A load by its steps. -/
theorem execImageLoad_starts : execImageLoad r a s = .next (
    match firstBad (s.containerChecks e.part (s.sourceBytes a)) with
    | some c => s.reject e c
    | none => match s.samePresent e.part ((s.sourceBytes a).take 128) with
      | some k => (s.count e.part Ctr.cmdRejected 1).done e Code.imageAlreadyLoaded k
      | none => match KMap.free (s.part e.part).images 64 with
        | none => s.reject e Code.imageLimit
        | some k => match firstBad (s.contentChecks e.part (s.sourceBytes a)) with
          | some c => s.reject e c
          | none => s.admitImage e k (s.sourceBytes a) (s.placeImage e a)) := by
  have hopen : ∀ (l : List Sect) (ps : KMap (List Byte)),
      (!l.all (fun x => (KMap.find ps x.typ).isSome)) = l.any (fun x => (KMap.find ps x.typ).isNone) := by
    simp [List.not_all_eq_any_not]
  unfold execImageLoad
  rw [State.command_of_starts hs (by simp [ha])]
  simp only [State.source_of_ok hok, hopen, State.placeImage]
  -- A placement named, so that the kernel does not begin to carry it out.
  generalize (s.sourceSeen e.part a).loadPages e.part _ = placed
  cases placed <;> rfl

theorem execImageLoad_refused {c : Nat} (hcontainer : firstBad (s.containerChecks e.part (s.sourceBytes a)) = some c) :
    execImageLoad r a s = .next (s.reject e c) := by
  rw [execImageLoad_starts hs ha hok, hcontainer]

section
variable (hcontainer : firstBad (s.containerChecks e.part (s.sourceBytes a)) = none)
include hcontainer

/-- Step 5: the image is there already. -/
theorem execImageLoad_present {k : Nat} (hsame : s.samePresent e.part ((s.sourceBytes a).take 128) = some k) :
    execImageLoad r a s = .next ((s.count e.part Ctr.cmdRejected 1).done e Code.imageAlreadyLoaded k) := by
  rw [execImageLoad_starts hs ha hok, hcontainer]
  simp only [hsame]

variable (hsame : s.samePresent e.part ((s.sourceBytes a).take 128) = none)
include hsame

theorem execImageLoad_noHandle (hfree : KMap.free (s.part e.part).images 64 = none) :
    execImageLoad r a s = .next (s.reject e Code.imageLimit) := by
  rw [execImageLoad_starts hs ha hok, hcontainer]
  simp only [hsame, hfree]

variable {k : Nat} (hfree : KMap.free (s.part e.part).images 64 = some k)
include hfree

theorem execImageLoad_contentBad {c : Nat} (hcontent : firstBad (s.contentChecks e.part (s.sourceBytes a)) = some c) :
    execImageLoad r a s = .next (s.reject e c) := by
  rw [execImageLoad_starts hs ha hok, hcontainer]
  simp only [hsame, hfree, hcontent]

theorem execImageLoad_admits (hcontent : firstBad (s.contentChecks e.part (s.sourceBytes a)) = none) :
    execImageLoad r a s = .next (s.admitImage e k (s.sourceBytes a) (s.placeImage e a)) := by
  rw [execImageLoad_starts hs ha hok, hcontainer]
  simp only [hsame, hfree, hcontent]

/-- Steps 9 to 11: no room for the pages, an entry of a codebook that is not finite, or the image at its handle. -/
theorem execImageLoad_places (hcontent : firstBad (s.contentChecks e.part (s.sourceBytes a)) = none) :
    let bs := s.sourceBytes a
    let ps := plains (s.part e.part).genP bs
    (s.placeImage e a = none → execImageLoad r a s = .next (s.reject e Code.poolExhausted)) ∧
    ((s.placeImage e a).isSome = true → ∃ base t, s.placeImage e a = some (base, t) ∧
      (codebookBad t base (recsOf ps) = true → execImageLoad r a s = .next (s.reject e Code.codebookInvalid)) ∧
      (codebookBad t base (recsOf ps) = false →
        execImageLoad r a s =
          .next (((t.measure (16 + e.part) 0 (Config.shake256 (signedInput bs ps) 64)).modPart e.part (fun w => { w with
            images := KMap.put w.images k (imageOf bs ps base ((recsOf ps).map (relocate base))) })).done e 0 k))) := by
  have admitted := execImageLoad_admits hs ha hok hcontainer hsame hfree hcontent
  refine ⟨fun hnone => by rw [admitted, hnone]; rfl, fun hsome => ?_⟩
  obtain ⟨⟨base, t⟩, hplaced⟩ := Option.isSome_iff_exists.1 hsome
  rw [hplaced] at admitted
  exact ⟨base, t, hplaced, fun hbook => admitted.trans (congrArg _ (State.admitImage_codebookBad hbook)),
    fun hbook => admitted.trans (congrArg _ (State.admitImage_measures hbook))⟩

end
end

/-! ## Unloading and the query (06_operations R206, R214, R728) -/

section
variable {s : State} {r : Ref} {e : CmdE} {im : Image}

theorem execImageUnload_named {a : HArgs} (hs : s.starts r 0x11 e = true) (ha : argsH e.area = a)
    (him : s.image? e.part a.handle = some im) (hnamed : s.imageNamed e.part a.handle = true) :
    execImageUnload r a s = .next (s.reject e Code.imageInUse) := by
  unfold execImageUnload
  rw [State.command_of_starts hs (by simp [ha]), State.checked_stop (c := Code.imageInUse) (by simp [him, hnamed])]

theorem execImageUnload_unnamed {a : HArgs} (hs : s.starts r 0x11 e = true) (ha : argsH e.area = a)
    (him : s.image? e.part a.handle = some im) (hnamed : s.imageNamed e.part a.handle = false) :
    execImageUnload r a s = .next ((s.modPart e.part (fun v => { v with images := KMap.mod v.images a.handle (fun i =>
      { i with ready := false, leaving := true, unloadTag := e.tag }) })).keep e) := by
  unfold execImageUnload
  rw [State.command_of_starts hs (by simp [ha]), State.checked_pass (by simp [him, hnamed])]

theorem execImageUnloadComplete_unused {p n : Nat} (him : KMap.find (s.part p).images n = some im) (hleaving : im.leaving = true)
    (hidle : s.imageBusy p n = false) (he : s.cmd im.unloadTag = some e) :
    execImageUnloadComplete p n s =
      .next (((s.freePages im.pageBase im.pageCnt).modPart p (fun v => { v with images := KMap.del v.images n })).done e 0 0) := by
  have hcmd : ((s.freePages im.pageBase im.pageCnt).modPart p (fun v => { v with images := KMap.del v.images n })).cmd im.unloadTag =
      some e := he
  simp only [execImageUnloadComplete, him, hleaving, hidle, Bool.not_true, Bool.or_self, Bool.false_eq_true, if_false, hcmd]

theorem execImageQuery_delivers {a : QArgs} (hs : s.starts r 0x13 e = true) (ha : argsQ e.area = a)
    (him : s.image? e.part a.handle = some im) (hout : s.delivers e a (s.imageItems im) = true) :
    execImageQuery r a s = .next ((s.delivered e a (s.imageItems im)).done e 0 0) := by
  unfold execImageQuery
  rw [State.command_of_starts hs (by simp [ha])]
  simp only [him, State.answer_of_delivers hout]

end

/-- Settles O36: a load by the first of its checks that fails, in the order of `State.containerChecks` and `State.contentChecks`, or by
what the placement of its pages answers; an unload, its end and the query by their rows. -/
theorem imagesAreLoadedAndUnloaded : Obligations.ImagesAreLoadedAndUnloaded := by
  refine ⟨fun s r a e hs ha hok => ?load, fun s r e => ⟨fun a im hs ha him => ⟨execImageUnload_named hs ha him,
    execImageUnload_unnamed hs ha him⟩, fun p n im c => execImageUnloadComplete_unused,
    fun a im => execImageQuery_delivers⟩⟩
  case load =>
    intro bs h v ps rs input badForm badKey signed badCal stops
    have hcontainer : firstBad (s.containerChecks e.part bs) = firstBad
        [(s.sagger.debugScope == 3, Code.imageKeyInvalid), (badForm, Code.imageFormatInvalid),
         (decide ((s.mgmt.comps.getD 2 {}).running < field h 52 4), Code.imageFormatInvalid), (badKey, Code.imageKeyInvalid),
         (imgEnc h && sealedBad h ps, Code.imageFormatInvalid), (!signed, Code.imageSignatureInvalid)] := rfl
    have hcontent : firstBad (s.contentChecks e.part bs) = firstBad
        [(decide (256 ≤ s.imagesHeld), Code.imageLimit), (decide (recordsErr h rs ≠ 0), recordsErr h rs),
         (badCal, Code.thresholdInvalid), (step8Bad h ps rs, Code.imageFormatInvalid)] := rfl
    have refused : ∀ {c}, firstBad (s.containerChecks e.part bs) = some c → stops c := execImageLoad_refused hs ha hok
    refine ⟨fun hscope => refused ?_, fun hscope => ?_⟩
    · rw [hcontainer, hscope, beq_self_eq_true, firstBad_cons_true]
    rw [beq_false_of_ne hscope, firstBad_cons_false] at hcontainer
    refine ⟨fun hform => refused ?_, fun hform hold => refused ?_, fun hform hnew => ?_⟩
    · rw [hcontainer, hform, firstBad_cons_true]
    · rw [hcontainer, hform, firstBad_cons_false, decide_eq_true hold, firstBad_cons_true]
    rw [hform, firstBad_cons_false, decide_eq_false hnew.not_gt, firstBad_cons_false] at hcontainer
    refine ⟨fun hkey => refused ?_, fun hkey henc hseal => refused ?_, fun hkey hopened => ?_⟩
    · rw [hcontainer, hkey, firstBad_cons_true]
    · rw [hcontainer, hkey, firstBad_cons_false, henc, hseal, Bool.and_self, firstBad_cons_true]
    have hseal : (imgEnc h && sealedBad h ps) = false := by simpa using hopened
    rw [hkey, firstBad_cons_false, hseal, firstBad_cons_false] at hcontainer
    refine ⟨fun hsig => refused ?_, fun hsig => ?_⟩
    · rw [hcontainer, hsig, Bool.not_false, firstBad_cons_true]
    have accepted : firstBad (s.containerChecks e.part bs) = none := by
      rw [hcontainer, hsig, Bool.not_true, firstBad_cons_false, firstBad_nil]
    refine ⟨fun k hsame => execImageLoad_present hs ha hok accepted hsame,
      fun hsame hfree => execImageLoad_noHandle hs ha hok accepted hsame hfree, fun k hsame hfree => ?_⟩
    have unfit : ∀ {c}, firstBad (s.contentChecks e.part bs) = some c → stops c :=
      execImageLoad_contentBad hs ha hok accepted hsame hfree
    refine ⟨fun hfull => unfit ?_, fun hroom hrec => unfit ?_, fun hroom hrec hcal => unfit ?_,
      fun hroom hrec hcal hstep => unfit ?_, fun hroom hrec hcal hstep => ?_⟩
    · simp [hcontent, hfull]
    · simp [hcontent, hroom.not_ge, hrec]
    · simp [hcontent, hroom.not_ge, hrec, hcal]
    · simp [hcontent, hroom.not_ge, hrec, hcal, hstep]
    have fit : firstBad (s.contentChecks e.part bs) = none := by simp [hcontent, hroom.not_ge, hrec, hcal, hstep]
    exact execImageLoad_places hs ha hok accepted hsame hfree fit

end Sys2Proof.Machine
end

section
/-! Feeds, classes, prefixes and glazes (06_operations R196; 13_serving R434, R435, R445, R449 to R451, R457 to R459, R462): the blocks
that the loss of one leaves, what a reference given up does, and the next state of each row. -/

namespace Sys2Proof.Machine

/-! ## Blocks of KV pools (13_serving R434, R435) -/

theorem State.part_modPart_other (s : State) {p q : Nat} (f : Part → Part) (h : q ≠ p) : (s.modPart p f).part q = s.part q :=
  congrArg (·.getD {}) (KMap.find_mod_other _ f h)

/-- A pool belongs to a partition that there is. -/
theorem State.hasPart_of_pool {s : State} {p h : Nat} {v : KvPool} (hv : KMap.find (s.part p).kv h = some v) :
    (KMap.find s.parts p).isSome = true := by
  by_contra hnone
  simp [State.part, KMap.findD, Option.not_isSome_iff_eq_none.1 hnone] at hv

/-- One pool of a partition changed at one block: that block is the new one, and every other stays. -/
theorem State.kvBlk_modPart {s : State} {p h n : Nat} {f : Part → Part} {v w : KvPool} (hv : KMap.find (s.part p).kv h = some v)
    (hw : KMap.find (f (s.part p)).kv h = some w)
    (hpools : ∀ j, j ≠ h → KMap.find (f (s.part p)).kv j = KMap.find (s.part p).kv j)
    (hblocks : ∀ m, m ≠ n → KMap.find w.blocks m = KMap.find v.blocks m) (x : BlkRef) :
    (s.modPart p f).kvBlk x = if x = (p, h, n) then KMap.find w.blocks n else s.kvBlk x := by
  obtain ⟨i, j, m⟩ := x
  unfold State.kvBlk
  by_cases hi : i = p
  · subst hi
    rw [State.modPart_same (State.hasPart_of_pool hv)]
    by_cases hj : j = h
    · subst hj
      by_cases hm : m = n
      · subst hm; simp [hw]
      · simp [hw, hv, hm, hblocks m hm]
    · simp [hpools j hj, hj]
  · simp [State.part_modPart_other s f hi, hi]

/-- What pages freed and partitions changed leave alone, a block dropped leaves alone. -/
theorem State.dropBlock_keeps {α : Type} {π : State → α} (hfree : ∀ s k, π (State.freePages s k 1) = π s)
    (hpart : ∀ s p f, π (State.modPart s p f) = π s) (s : State) (p h b : Nat) : π (s.dropBlock p h b) = π s := by
  unfold State.dropBlock
  split
  · rfl
  · exact (foldl_keeps π hfree _ _).trans (hpart ..)

/-- A block dropped is the one that its pool loses. -/
theorem State.kvBlk_dropBlock {s : State} {q : BlkRef} {b : KvBlk} (hb : s.kvBlk q = some b) (x : BlkRef) :
    (s.dropBlock q.1 q.2.1 q.2.2).kvBlk x = if x = q then none else s.kvBlk x := by
  obtain ⟨p, h, n⟩ := q
  obtain ⟨v, hv, -⟩ : ∃ v, KMap.find (s.part p).kv h = some v ∧ KMap.find v.blocks n = some b := Option.bind_eq_some_iff.1 hb
  simp only [State.dropBlock, hv]
  rw [foldl_keeps (f := fun (a : State) k => a.freePages k 1) (fun a => a.kvBlk x) (fun _ _ => rfl)]
  rw [State.kvBlk_modPart (n := n) hv (KMap.find_put_same ..) (fun j hj => KMap.find_put_other _ _ hj)
    (fun m hm => KMap.find_del_other _ hm), KMap.find_del_same]

/-- A block changed is the one named. -/
theorem State.kvBlk_modBlk {s : State} {q : BlkRef} {b : KvBlk} (hb : s.kvBlk q = some b) (f : KvBlk → KvBlk) (x : BlkRef) :
    (s.modBlk q f).kvBlk x = if x = q then some (f b) else s.kvBlk x := by
  obtain ⟨p, h, n⟩ := q
  obtain ⟨v, hv, hn⟩ : ∃ v, KMap.find (s.part p).kv h = some v ∧ KMap.find v.blocks n = some b := Option.bind_eq_some_iff.1 hb
  have hmod : KMap.find (KMap.mod (s.part p).kv h (fun v => { v with blocks := KMap.mod v.blocks n f })) h =
      some { v with blocks := KMap.mod v.blocks n f } := by rw [KMap.find_mod_same, hv, Option.map_some]
  simp only [State.modBlk]
  rw [State.kvBlk_modPart (n := n) hv hmod (fun j hj => by simp only [KMap.find_mod_other _ _ hj])
    (fun m hm => KMap.find_mod_other _ _ hm), KMap.find_mod_same, hn, Option.map_some]

/-! ## References given up (13_serving R434, R435, R457) -/

section
variable {s : State} {q : BlkRef} {b : KvBlk} (hb : s.kvBlk q = some b)
include hb

theorem State.unref_of_held (h : 1 < b.refs ∨ b.hash.isSome = true) :
    s.unref q = s.modBlk q (fun c => { c with refs := c.refs - 1 }) := by
  simp only [State.unref, hb]
  refine if_neg ?_
  rcases h with h | h
  · simp [h.not_ge]
  · simp [Option.isNone_eq_false_iff.2 h]

theorem State.unref_of_last (hrefs : b.refs ≤ 1) (hhash : b.hash = none) : s.unref q = s.dropBlock q.1 q.2.1 q.2.2 := by
  simp [State.unref, hb, hrefs, hhash]

theorem State.unref_cases : s.unref q = s.dropBlock q.1 q.2.1 q.2.2 ∨ s.unref q = s.modBlk q (fun c => { c with refs := c.refs - 1 }) := by
  simp only [State.unref, hb]
  exact ite_eq_or_eq ..

theorem State.kvBlk_unref_other {x : BlkRef} (hx : x ≠ q) : (s.unref q).kvBlk x = s.kvBlk x := by
  rcases State.unref_cases hb with h | h
  · rw [h, State.kvBlk_dropBlock hb, if_neg hx]
  · rw [h, State.kvBlk_modBlk hb, if_neg hx]

/-- What pages freed and partitions changed leave alone, a reference given up leaves alone. -/
theorem State.unref_keeps {α : Type} {π : State → α} (hfree : ∀ s k, π (State.freePages s k 1) = π s)
    (hpart : ∀ s p f, π (State.modPart s p f) = π s) : π (s.unref q) = π s := by
  rcases State.unref_cases hb with h | h
  · rw [h, State.dropBlock_keeps hfree hpart]
  · rw [h]
    exact hpart ..

end

/-- 13_serving R434, R435, R457: what a reference given up does. -/
theorem State.unref_spec {s : State} {q : BlkRef} {b : KvBlk} (hb : s.kvBlk q = some b) :
    (1 < b.refs ∨ b.hash.isSome = true → (s.unref q).kvBlk q = some { b with refs := b.refs - 1 } ∧ (s.unref q).dev = s.dev) ∧
    (b.refs ≤ 1 → b.hash = none → (s.unref q).kvBlk q = none) ∧
    (∀ x, x ≠ q → (s.unref q).kvBlk x = s.kvBlk x) ∧ (s.unref q).hostMem = s.hostMem ∧ (s.unref q).sessions = s.sessions := by
  refine ⟨fun hheld => ?_, fun hrefs hhash => ?_, fun x hx => State.kvBlk_unref_other hb hx,
    State.unref_keeps hb (fun _ _ => rfl) (fun _ _ _ => rfl), State.unref_keeps hb (fun _ _ => rfl) (fun _ _ _ => rfl)⟩
  · rw [State.unref_of_held hb hheld, State.kvBlk_modBlk hb, if_pos rfl]
    exact ⟨rfl, rfl⟩
  · rw [State.unref_of_last hb hrefs hhash, State.kvBlk_dropBlock hb, if_pos rfl]

/-! ## The rows of feeds, classes and PREFIX_FLUSH (13_serving R445, R458, R459, R462) -/

section
variable {s : State} {r : Ref} {e : CmdE}

/-- A feed of these tokens, by the index of the first that the grammar does not allow: refused there, else waiting on its shadow. -/
def State.takeFeed (s : State) (e : CmdE) (a : FeedArgs) (toks : List Nat) : Option Nat → State
  | some i => (s.count e.part Ctr.cmdRejected 1).done e Code.shadowInvalid i
  | none => ((s.seen e.part (bit a.dua 0) a.addr (4 * a.cnt)).modSess a.session (fun w => { w with
      feeds := w.feeds ++ [{ tag := e.tag, toks := toks, pturn := a.pturn }] })).keep e

/-- A feed that passes the checks before the grammar's. -/
theorem execShadowFeed_takes {a : FeedArgs} {v : Session} (hs : s.starts r 0x69 e = true) (ha : argsFeed e.area = a)
    (hcnt : 0 < a.cnt) (hmax : a.cnt ≤ 65536) (hv : s.session? e.part a.session = some v) (hst : v.st = .shadow)
    (hbarred : s.sessBarred e.part e.queue v = false) (hbuf : s.readable e.part (bit a.dua 0) a.addr (4 * a.cnt) = true)
    (htoks : ∀ x ∈ words 4 (s.bytesAt (bit a.dua 0) a.addr (4 * a.cnt)), x < (s.sessVocab v).toks.length)
    (hctx : v.fedCtx.length + (words 4 (s.bytesAt (bit a.dua 0) a.addr (4 * a.cnt))).length ≤ v.maxCtx) :
    let toks := words 4 (s.bytesAt (bit a.dua 0) a.addr (4 * a.cnt))
    execShadowFeed r a s = .next (s.takeFeed e a toks (s.feedBad v toks)) := by
  have hknown : (words 4 (s.bytesAt (bit a.dua 0) a.addr (4 * a.cnt))).any (fun x => decide ((s.sessVocab v).toks.length ≤ x)) = false := by
    simpa only [List.any_eq_false, decide_eq_true_eq, not_le] using htoks
  unfold execShadowFeed
  rw [State.command_of_starts hs (by simp [ha])]
  simp only [hcnt.ne', hmax.not_gt, decide_false, Bool.or_self, Bool.false_eq_true, if_false, hv, hst, ne_eq, not_true, hbarred,
    State.readBuf_of_readable hbuf]
  rw [if_neg (by simp [hknown, hctx.not_gt])]
  cases s.feedBad v (words 4 (s.bytesAt (bit a.dua 0) a.addr (4 * a.cnt))) <;> rfl

theorem execClassSet_valid {a : ClassArgs} (hs : s.starts r 0x6B e = true) (ha : argsClass e.area = a) (hweight : 0 < a.weight)
    (hquantum : bit a.setQuantum 0 = true → 0 < a.quantum) :
    execClassSet r a s = .next ((s.modPart e.part (fun v => { v with
      weightsWr := KMap.put v.weightsWr a.cls a.weight
      quantumWr := if bit a.setQuantum 0 = true then a.quantum else v.quantumWr })).done e 0 0) := by
  have hvalid : (a.weight == 0 || (bit a.setQuantum 0 && a.quantum == 0)) = false := by
    simpa [hweight.ne', Nat.pos_iff_ne_zero] using hquantum
  unfold execClassSet
  rw [State.command_of_starts hs (by simp [ha]), State.checked_pass (by rw [hvalid]; rfl)]

theorem execPrefixFlush_starts (hs : s.starts r 0x68 e = true) :
    let l := (s.cached (fun _ _ => true)).filter (fun q => match s.kvBlk q with
      | none => false
      | some b => b.hash.isSome && b.dom == (s.part e.part).eff.domain)
    execPrefixFlush r s = .next ((l.foldl (fun (a : State) q => a.dropBlock q.1 q.2.1 q.2.2) s).done e 0 l.length) :=
  State.command_of_starts hs rfl

/-! ## The rows of glazes (06_operations R196; 13_serving R449 to R451, R462) -/

/-- A glaze from what placing its pages answers: refused, or registered under its ID. -/
def State.admitGlaze (s : State) (e : CmdE) (bs : List Byte) : Option (Nat × State) → State
  | none => s.reject e Code.poolExhausted
  | some (base, u) =>
    (u.modPart e.part (fun w => { w with glazes := KMap.put w.glazes (field bs 8 4) (glazeOf bs base) })).done e 0 (field bs 8 4)

section
variable {a : SArgs} (hs : s.starts r 0x65 e = true) (ha : argsS e.area = a) (hok : s.sourceOk e.part a = true)
  (hform : glazeBadForm (s.sourceBytes a) = false)
  (hprojs : (glazeProjs (s.sourceBytes a)).all (s.projKnown e.part (field (s.sourceBytes a) 16 16) (field (s.sourceBytes a) 32 4)) =
    true)
include hs ha hok hform hprojs

theorem execGlazeRegister_taken (hid : (KMap.find (s.part e.part).glazes (field (s.sourceBytes a) 8 4)).isSome = true) :
    execGlazeRegister r a s = .next (s.reject e Code.glazeInvalid) := by
  unfold execGlazeRegister
  rw [State.command_of_starts hs (by simp [ha])]
  simp only [State.source_of_ok hok]
  rw [State.checked_stop (c := Code.glazeInvalid) (by rw [hform, hprojs, hid]; rfl)]

/-- A container whose checks hold, by the placement of its pages. -/
theorem execGlazeRegister_admits (hid : KMap.find (s.part e.part).glazes (field (s.sourceBytes a) 8 4) = none)
    (hroom : s.glazeCount < 65536) :
    execGlazeRegister r a s = .next (s.admitGlaze e (s.sourceBytes a)
      ((s.sourceSeen e.part a).loadPages e.part (glazePages (s.sourceBytes a) (a.src == 2)))) := by
  unfold execGlazeRegister
  rw [State.command_of_starts hs (by simp [ha])]
  simp only [State.source_of_ok hok]
  rw [State.checked_pass (by rw [hform, hprojs, hid, decide_eq_false hroom.not_ge]; rfl)]
  -- A placement named, so that the kernel does not begin to carry it out.
  generalize (s.sourceSeen e.part a).loadPages e.part _ = placed
  cases placed <;> rfl

end

theorem State.dropGlaze_unused {p id : Nat} (z : Glaze) (h : ∀ b ∈ s.batches, b.2.part = p → KMap.find b.2.glazes id = none) :
    s.dropGlaze p id z = s.freePages z.pageBase z.pages := by
  refine if_neg ?_
  simpa [List.any_eq_true, Option.isSome_iff_ne_none] using h

/-- The glaze of a batch of the turn keeps its pages and their bytes. -/
theorem State.dropGlaze_used {p id : Nat} (z : Glaze)
    (h : ∃ b ∈ s.batches, b.2.part = p ∧ (KMap.find b.2.glazes id).isSome = true) :
    (s.dropGlaze p id z).pages = s.pages ∧ (s.dropGlaze p id z).dev = s.dev := by
  have hused : s.dropGlaze p id z = s.modPart p (fun w => { w with glazeGone := w.glazeGone ++ [(z.pageBase, z.pages)] }) :=
    if_pos (by simpa [List.any_eq_true] using h)
  rw [hused]
  exact ⟨rfl, rfl⟩

theorem execGlazeDeregister_named {a : HArgs} {z : Glaze} (hs : s.starts r 0x66 e = true) (ha : argsH e.area = a)
    (hz : KMap.find (s.part e.part).glazes a.handle = some z) (husers : s.glazeUsers e.part a.handle ≠ 0) :
    execGlazeDeregister r a s = .next (s.reject e Code.glazeInUse) := by
  unfold execGlazeDeregister
  rw [State.command_of_starts hs (by simp [ha])]
  simp only [hz]
  rw [State.checked_stop (c := Code.glazeInUse) (by simp [husers])]

theorem execGlazeDeregister_unnamed {a : HArgs} {z : Glaze} (hs : s.starts r 0x66 e = true) (ha : argsH e.area = a)
    (hz : KMap.find (s.part e.part).glazes a.handle = some z) (husers : s.glazeUsers e.part a.handle = 0) :
    execGlazeDeregister r a s = .next (((s.dropGlaze e.part a.handle z).modPart e.part
      (fun w => { w with glazes := KMap.del w.glazes a.handle })).done e 0 0) := by
  unfold execGlazeDeregister
  rw [State.command_of_starts hs (by simp [ha])]
  simp only [hz]
  rw [State.checked_pass (by simp [husers])]

theorem execGlazeQuery_delivers {a : QArgs} {z : Glaze} (hs : s.starts r 0x67 e = true) (ha : argsQ e.area = a)
    (hz : KMap.find (s.part e.part).glazes a.handle = some z)
    (hout : s.delivers e a [z.hdr, leBytes 4 (s.glazeUsers e.part a.handle)] = true) :
    execGlazeQuery r a s = .next ((s.delivered e a [z.hdr, leBytes 4 (s.glazeUsers e.part a.handle)]).done e 0 0) := by
  unfold execGlazeQuery
  rw [State.command_of_starts hs (by simp [ha])]
  simp only [hz, State.answer_of_delivers hout]

end

/-- Settles O51: each row by its own lemma, a feed by what the grammar says of its tokens, a registration by what the placement of its
pages answers, and a reference given up by `State.unref_spec`. -/
theorem feedsClassesPrefixesAndGlazes : Obligations.FeedsClassesPrefixesAndGlazes := by
  refine ⟨fun s r e => ⟨?feed, fun a => execClassSet_valid, execPrefixFlush_starts, fun a => execGlazeRegister_taken, ?register,
    fun a z hs ha hz => ⟨execGlazeDeregister_named hs ha hz, execGlazeDeregister_unnamed hs ha hz⟩,
    fun p id z => State.dropGlaze_unused z, fun p id z => State.dropGlaze_used z, fun a z => execGlazeQuery_delivers⟩,
    fun s q b => State.unref_spec⟩
  case feed =>
    intro a v hs ha hcnt hmax hv hst hbarred hbuf bs t htoks hctx
    have hfeed : exec (.shadowFeed r a) s = .next (s.takeFeed e a (words 4 bs) (s.feedBad v (words 4 bs))) :=
      execShadowFeed_takes hs ha hcnt hmax hv hst hbarred hbuf htoks hctx
    exact ⟨fun i hbad => by rw [hfeed, hbad]; rfl, fun hgood => by rw [hfeed, hgood]; rfl⟩
  case register =>
    intro a hs ha hok bs hform hprojs hid hroom placed
    have hregister : exec (.glazeRegister r a) s = .next (s.admitGlaze e bs placed) :=
      execGlazeRegister_admits hs ha hok hform hprojs hid hroom
    refine ⟨fun hnone => by rw [hregister, hnone]; rfl, fun hsome => ?_⟩
    obtain ⟨⟨base, u⟩, hplaced⟩ := Option.isSome_iff_exists.1 hsome
    rw [hplaced] at hregister
    exact ⟨base, u, hplaced, glazeOf bs base, hregister, rfl, rfl, rfl, rfl, rfl, rfl, rfl, rfl, rfl⟩

end Sys2Proof.Machine
end

section
/-! Pages of the memory tiers are allocated and freed, moved, pinned and mapped (08_memory_tiers R248 to R251, R256, R272, R273, R275,
R284 to R286), and their bytes written: the tier a placement answers, what is left of the page table and of the DUA range once pages are
freed, the rows. -/

namespace Sys2Proof.Machine

/-! ## Maps and memories without some of their entries -/

/-- Entries kept by their keys are found where their keys are kept. -/
theorem KMap.find_filter_key {α : Type} (m : KMap α) (q : Nat → Bool) (k : Nat) :
    KMap.find (m.filter (fun e => q e.1)) k = if q k then KMap.find m k else none := by
  induction m with
  | nil => simp
  | cons e t ih =>
    obtain ⟨j, v⟩ := e
    by_cases hj : j = k
    · subst hj
      cases hq : q j <;> simp_all [KMap.find]
    · cases hq : q j <;> simp_all [KMap.find]

/-- A range cleared reads as zero, and every other byte as before. -/
theorem Mem.read_clear (m : Mem) (lo n a : Nat) :
    Mem.read (Mem.clear m lo n) a = if lo ≤ a ∧ a < lo + n then 0 else Mem.read m a := by
  unfold Mem.clear
  induction m with
  | nil => simp [Mem.read]
  | cons c t ih =>
    obtain ⟨j, b⟩ := c
    rw [List.filter_cons]
    by_cases hin : lo ≤ j ∧ j < lo + n
    · rw [if_neg (by simp; omega), ih, Mem.read]
      by_cases hja : j = a
      · subst hja; rw [if_pos hin, if_pos hin]
      · rw [if_neg hja]
    · rw [if_pos (by simp; omega), Mem.read, Mem.read, ih]
      by_cases hja : j = a
      · subst hja; rw [if_pos rfl, if_pos rfl, if_neg hin]
      · rw [if_neg hja, if_neg hja]

section
variable {s t : State} {p tier : Nat} {parity mirror : Bool} {why : Want} {x : Spot}

/-! ## The tier of a placement (08_memory_tiers R256) -/

theorem State.leastSpot_tier (h : s.leastSpot tier parity mirror = some x) : x.tier = tier := by
  obtain ⟨f, -, hf⟩ := List.exists_of_findSome?_eq_some h
  obtain ⟨d, -, hd⟩ := List.exists_of_findSome?_eq_some hf
  obtain ⟨m, -, hm⟩ := List.exists_of_findSome?_eq_some hd
  split_ifs at hm
  cases hm
  rfl

theorem State.pickSpot_tier (h : s.pickSpot tier parity mirror = some x) : x.tier = tier := by
  obtain ⟨d, hd, rfl⟩ := Option.map_eq_some_iff.1 h
  split_ifs
  · rfl
  · exact State.leastSpot_tier hd

/-- The equation of `State.pageOutSpot`, stated of the function and not of its value: the kernel would evaluate the tier's frames. -/
theorem State.pageOutSpot_eq : State.pageOutSpot = fun s => match s.pickSpot 2 false false with
    | some x => some (x, { s with fresh := s.fresh + 1 })
    | none =>
      (leastBy (fun (a b : Nat × Page) => decide (a.2.age < b.2.age) || (a.2.age == b.2.age && decide (a.1 < b.1)))
        (s.pages.filter (fun e => decide (e.2.tier < 2) && e.2.flag 6 && e.2.back.isSome))).map (fun e =>
          (⟨2, 0, e.2.back.getD 0, 0⟩, s.modPage e.1 (fun g => { g.setFlag 6 false with back := none }))) := rfl

/-- A frame of the paging area taken: its place is in tier T2, and at most page entries and the count of free values have changed. -/
theorem State.pageOutSpot_spec (h : s.pageOutSpot = some (x, t)) :
    x.tier = 2 ∧ ∃ ps n, t = { s with pages := ps, fresh := n } := by
  rw [State.pageOutSpot_eq] at h
  beta_reduce at h
  generalize hpick : s.pickSpot 2 false false = o at h
  cases o with
  | some y =>
    obtain ⟨rfl, rfl⟩ := Prod.mk.inj (Option.some.inj h)
    exact ⟨State.pickSpot_tier hpick, _, _, rfl⟩
  | none =>
    obtain ⟨e, -, he⟩ := Option.map_eq_some_iff.1 h
    obtain ⟨rfl, rfl⟩ := Prod.mk.inj he
    exact ⟨rfl, _, _, rfl⟩

theorem State.placeIn_tier (htier : tier ≤ 2) (h : s.placeIn p tier parity mirror why = some (t, x)) : x.tier = tier := by
  unfold State.placeIn at h
  split at h
  · cases h
  obtain ⟨u, -, hu⟩ := Option.bind_eq_some_iff.1 h
  split at hu
  · obtain ⟨y, hy, he⟩ := Option.map_eq_some_iff.1 hu
    obtain ⟨-, rfl⟩ := Prod.mk.inj he
    exact State.pickSpot_tier hy
  · obtain ⟨⟨y, v⟩, hy, he⟩ := Option.map_eq_some_iff.1 hu
    obtain ⟨-, rfl⟩ := Prod.mk.inj he
    rw [(State.pageOutSpot_spec hy).1]
    omega

theorem State.place_tier {mayT2 : Bool} (h : s.place p tier parity mirror mayT2 why = some (t, x)) :
    tier ≤ x.tier ∧ x.tier ≤ 2 ∧ (x.tier = 2 → mayT2 = true) := by
  obtain ⟨n, hn, hplace⟩ := List.exists_of_findSome?_eq_some h
  obtain ⟨hmem, hok⟩ := List.mem_filter.1 hn
  have hn2 : n ≤ 2 := by simp at hmem; omega
  simp only [Bool.and_eq_true, Bool.or_eq_true, decide_eq_true_eq] at hok
  rw [State.placeIn_tier hn2 hplace]
  exact ⟨hok.1, hn2, fun h2 => hok.2.resolve_right (by omega)⟩

end

/-! ## Allocation and freeing -/

/-- An allocated page has its entry, in the tier asked for or a lower one (08_memory_tiers R248, R250, R256). -/
theorem State.allocPage_find {s t : State} {p k tier : Nat} {flags : BitVec 16} (h : s.allocPage p k tier flags = some t) :
    ∃ g, KMap.find t.pages k = some g ∧ g.owner = p ∧ g.flags = flags ∧ g.age = s.turn % 2 ^ 48 ∧ g.mstate = 0 ∧
      tier ≤ g.tier ∧ g.tier ≤ 2 ∧ (g.tier = 2 → flags.getLsbD 0 = false ∧ flags.getLsbD 1 = false) := by
  obtain ⟨⟨u, x⟩, hplace, rfl⟩ := Option.map_eq_some_iff.1 h
  obtain ⟨hlow, hhigh, hT2⟩ := State.place_tier hplace
  exact ⟨_, KMap.find_put_same .., rfl, rfl, rfl, rfl, hlow, hhigh, fun h2 => by simpa using hT2 h2⟩

/-- Pages freed: their entries are gone, every other entry stands. -/
theorem State.freePages_find (s : State) (k n i : Nat) :
    KMap.find (s.freePages k n).pages i = if k ≤ i ∧ i < k + n then none else KMap.find s.pages i := by
  rw [State.freePages, KMap.find_filter_key s.pages (fun j => decide (j < k) || decide (k + n ≤ j))]
  by_cases hin : k ≤ i ∧ i < k + n
  · rw [if_pos hin, if_neg (by simp; omega)]
  · rw [if_neg hin, if_pos (by simp; omega)]

/-- Pages freed: their bytes read 0, every other byte as before (log 4). -/
theorem State.freePages_read (s : State) (k n a : Nat) :
    (s.freePages k n).dev.read a = if 65536 * k ≤ a ∧ a < 65536 * (k + n) then 0 else s.dev.read a := by
  rw [State.freePages, Mem.read_clear, Nat.mul_add]

section
variable {s : State} {r : Ref} {e : CmdE} {a : MArgs}

theorem execPageAlloc_places {k : Nat} {t : State} (hs : s.starts r 0x80 e = true) (ha : argsM e.area = a) (hpages : a.pages ≠ 0)
    (htier : a.tier < 3) (hflags : bit a.pgflags 2 = true → bit a.pgflags 3 = true)
    (halloc : s.alloc e.part a.pages a.tier (hostFlags a.pgflags) = some (k, t)) :
    execPageAlloc r a s = .next (t.done e 0 (65536 * k)) := by
  unfold execPageAlloc
  rw [State.command_of_starts hs (by simp [ha]), State.checked_pass (firstBad_none (by simpa using ⟨⟨hpages, htier⟩, hflags⟩)), halloc]

theorem execPageAlloc_full (hs : s.starts r 0x80 e = true) (ha : argsM e.area = a) (hpages : a.pages ≠ 0)
    (htier : a.tier < 3) (hflags : bit a.pgflags 2 = true → bit a.pgflags 3 = true)
    (halloc : s.alloc e.part a.pages a.tier (hostFlags a.pgflags) = none) :
    execPageAlloc r a s = .next (s.reject e Code.poolExhausted) := by
  unfold execPageAlloc
  rw [State.command_of_starts hs (by simp [ha]), State.checked_pass (firstBad_none (by simpa using ⟨⟨hpages, htier⟩, hflags⟩)), halloc]

theorem execPageFree_waits (hs : s.starts r 0x81 e = true) (ha : argsM e.area = a)
    (hown : s.pagesErr e.part a = 0 ∨ s.pagesErr e.part a = Code.pageLost) (hmapped : s.anyPage a (fun g => g.flag 1) = false) :
    execPageFree r a s = .next (s.keep { e with aux := pageNums a }) := by
  unfold execPageFree
  rw [State.command_of_starts hs (by simp [ha]), State.checked_pass (firstBad_none (by simp; tauto))]

theorem execPageFreeComplete_frees (he : s.at? r .running = some e) (hopc : e.opc = 0x81)
    (hruns : ∀ x ∈ s.runs, x.2.part = e.part → e.tag ≤ x.2.tag) (hbatches : ∀ k ∈ e.aux, s.batchReads k = false) :
    execPageFreeComplete r s = .next ((e.aux.foldl (fun t k => t.freePages k 1) s).done e 0 0) := by
  simp only [execPageFreeComplete, he]
  exact if_neg (by simpa [hopc] using ⟨fun n x hx => hruns (n, x) hx, hbatches⟩)

end

/-- Settles O26: the rows by their checks, an allocated page by the tier of its placement, freed pages by what filtering the page table
and clearing the DUA range leave. -/
theorem pagesAreAllocatedAndFreed : Obligations.PagesAreAllocatedAndFreed := by
  refine ⟨fun s r a e => ⟨fun hs ha hpages htier hflags => ⟨fun hsome => ?_, execPageAlloc_full hs ha hpages htier hflags⟩,
    execPageFree_waits, execPageFreeComplete_frees⟩, fun s t p k tier flags => State.allocPage_find, fun s k n _ => ?freed⟩
  · obtain ⟨⟨k, t⟩, halloc⟩ := Option.isSome_iff_exists.1 hsome
    exact ⟨k, t, halloc, execPageAlloc_places hs ha hpages htier hflags halloc⟩
  case freed =>
    refine ⟨fun i hlo hhi => ?_, fun i hi => ?_, fun a hlo hhi => ?_, fun a ha => ?_⟩
    · rw [State.freePages_find, if_pos ⟨hlo, hhi⟩]
    · rw [State.freePages_find, if_neg (by omega)]
    · rw [State.freePages_read, if_pos ⟨hlo, hhi⟩]
    · rw [State.freePages_read, if_neg (by omega)]

/-! ## Moving, pinning and mapping (08_memory_tiers R272, R273, R275, R284 to R286) -/

section
variable {s : State} {r : Ref} {e : CmdE} {a : MArgs}

theorem execPageMove_moves (hs : s.starts r 0x82 e = true) (ha : argsM e.area = a) (hown : s.pagesErr e.part a = 0)
    (htier : a.tier < 3) (hT2 : a.tier = 2 → s.anyPage a (fun g => g.flag 0 || g.flag 1) = false ∧ s.flash.readonly = false) :
    execPageMove r a s = .next (s.moveAll e (pageNums a) (fun g => g.leaves a.tier) (fun _ => a.tier)) := by
  have hfixed : (a.tier == 2 && s.anyPage a (fun g => g.flag 0 || g.flag 1)) = false := by
    by_cases h2 : a.tier = 2 <;> simp [h2, (hT2 · |>.1)]
  have hwritable : (a.tier == 2 && s.flash.readonly) = false := by
    by_cases h2 : a.tier = 2 <;> simp [h2, (hT2 · |>.2)]
  unfold execPageMove
  rw [State.command_of_starts hs (by simp [ha]), State.checked_pass (firstBad_none (by simp [hown, hfixed, hwritable, htier]))]

theorem execPagePin_moves (hs : s.starts r 0x83 e = true) (ha : argsM e.area = a) (hown : s.pagesErr e.part a = 0) :
    execPagePin r a s = .next (s.moveAll e (pageNums a) Page.toT2 Page.raiseTier) := by
  unfold execPagePin
  rw [State.command_of_starts hs (by simp [ha]), State.checked_pass (firstBad_none (by simp [hown]))]

theorem execPageUnpin_unpins (hs : s.starts r 0x84 e = true) (ha : argsM e.area = a) (hown : s.pagesErr e.part a = 0) :
    execPageUnpin r a s = .next (((pageNums a).foldl (fun t k => t.modPage k (fun g =>
      if g.flag 1 then { g with pinCmd := false } else { g.setFlag 0 false with pinCmd := false })) s).done e 0 0) := by
  unfold execPageUnpin
  rw [State.command_of_starts hs (by simp [ha]), State.checked_pass (firstBad_none (by simp [hown]))]

/-- What HDM_MAP does once its checks have passed, by what the mirrors of its pages answer (08_memory_tiers R272). -/
def State.mapAll (s : State) (e : CmdE) (a : MArgs) : Option State → State
  | none => s.reject e Code.poolExhausted
  | some t => (t.modPart e.part (fun v => { v with maps := v.maps ++
      [{ off := a.winOff, page := a.dua / 65536, pages := a.pages, tag := e.tag }] })).moveAll e (pageNums a) Page.toT2 Page.raiseTier

theorem execHdmMap_maps (hs : s.starts r 0x85 e = true) (ha : argsM e.area = a) (hown : s.pagesErr e.part a = 0) (htier : a.tier < 2)
    (hkv : s.anyPage a (fun g => g.poolKv) = false) (hrange : (s.part e.part).rangeBad a.winOff a.pages = false) :
    execHdmMap r a s = .next (s.mapAll e a ((pageNums a).foldl (fun o k => o.bind (fun (u : State) => u.mapPage k)) (some s))) := by
  unfold execHdmMap
  rw [State.command_of_starts hs (by simp [ha]),
    State.checked_pass (firstBad_none (by simp [hown, hkv, hrange, htier.ne, Nat.lt_succ_of_lt htier]))]
  rfl

theorem execHdmUnmap_unmaps (hs : s.starts r 0x86 e = true) (ha : argsM e.area = a)
    (hown : s.pagesErr e.part a = 0 ∨ s.pagesErr e.part a = Code.pageLost) :
    execHdmUnmap r a s = .next ((((pageNums a).foldl (fun t k => t.modPage k (fun g =>
      if g.pinCmd then g.setFlag 1 false else (g.setFlag 1 false).setFlag 0 false)) s).modPart e.part (fun v => { v with
        maps := v.maps.flatMap (fun m => m.without (a.dua / 65536) a.pages) })).done e 0 0) := by
  unfold execHdmUnmap
  rw [State.command_of_starts hs (by simp [ha]), State.checked_pass (firstBad_none (by simp; tauto))]

end

/-- Settles O27: each row by its checks; HDM_MAP by what the mirrors of its pages answer. -/
theorem pagesAreMovedPinnedAndMapped : Obligations.PagesAreMovedPinnedAndMapped := by
  intro s r a e ha c
  refine ⟨fun hs => execPageMove_moves hs ha, fun hs => execPagePin_moves hs ha, fun hs => execPageUnpin_unpins hs ha,
    ?map, fun hs => execHdmUnmap_unmaps hs ha⟩
  case map =>
    intro hs hown htier hkv hrange mapped
    have hmap : exec (.hdmMap r a) s = .next (s.mapAll e a mapped) := execHdmMap_maps hs ha hown htier hkv hrange
    refine ⟨fun hsome => ?_, fun hnone => by rw [hmap, hnone]; rfl⟩
    obtain ⟨t, ht⟩ := Option.isSome_iff_exists.1 hsome
    exact ⟨t, ht, by rw [hmap, ht]; rfl⟩

/-! ## Bytes written by DUA (08_memory_tiers R249, R251, R262) -/

/-- A page of tier T2 on its way up whose frame of the paging area is marked as a copy of it (BACKED). -/
def risingPage : Page := { tier := 2, flags := 0x40, mstate := 1 }

/-- The module after reset with that page as page 0. -/
def risingState : State := { State.reset with pages := [(0, risingPage)] }

/-- Refutes O28: a byte written by DUA to a page of tier T2 on its way up leaves its flag BACKED set (`State.devPut` clears the flag of a
page that stands higher, or whose copy is in the extent store), while the statement says that the flag of every page on the move is
clear. -/
theorem not_pageBytesAreWrittenAndRead : ¬ Obligations.PageBytesAreWrittenAndRead := by
  rintro ⟨-, bytes⟩
  obtain ⟨-, -, -, -, -, moving⟩ := bytes risingState 0 [1] ⟨rfl, rfl⟩
  obtain ⟨h, hfind, hbacked, -⟩ := moving 0 risingPage rfl (by decide) (.inl rfl)
  have hstays : (KMap.find (risingState.devPut 0 [1]).pages 0).map (fun g => g.flag 6) = some true := by decide
  rw [hfind, Option.map_some, hbacked] at hstays
  cases hstays

end Sys2Proof.Machine
end

section
/-! Queries of the memory tiers, extents and the upkeep of flash (01_architecture R11; 08_memory_tiers R248, R271, R279, R281 to R284,
R286): each row by its checks, and what a maintenance state raised changes. -/

namespace Sys2Proof.Machine

section
variable {s : State} {r : Ref} {e : CmdE}

/-! ## Queries of the tiers (08_memory_tiers R248, R271, R283, R284) -/

theorem execTierQuery_answers {a : MArgs} (hs : s.starts r 0x89 e = true) (ha : argsM e.area = a) (haligned : a.dua % 65536 = 0)
    (hpages : a.pages ≠ 0) (hwindow : inWindow e.part a.dua (65536 * a.pages) = true)
    (hout : s.writable e.part (bit a.mflags 0) a.hostAddr
      ((pageNums a).flatMap (fun k => tierEntry (KMap.find s.pages k))).length = true) :
    execTierQuery r a s = .next ((s.stored (bit a.mflags 0) a.hostAddr
      ((pageNums a).flatMap (fun k => tierEntry (KMap.find s.pages k)))).done e 0 0) := by
  unfold execTierQuery
  rw [State.command_of_starts hs (by simp [ha]), State.checked_pass (firstBad_none (by simp [haligned, hpages, hwindow])),
    State.writeBuf_of_writable hout]

theorem execPoolStats_answers {a : QArgs} (hs : s.starts r 0x8A e = true) (ha : argsQ e.area = a)
    (hout : s.delivers e a [(List.range 3).flatMap (fun n => leBytes 4 (s.framesOf e.part n)),
      ctrBytes (s.part e.part).ctr 0x100 22] = true) :
    execPoolStats r a s = .next ((s.delivered e a [(List.range 3).flatMap (fun n => leBytes 4 (s.framesOf e.part n)),
      ctrBytes (s.part e.part).ctr 0x100 22]).done e 0 0) := by
  unfold execPoolStats
  rw [State.command_of_starts hs (by simp [ha]), State.answer_of_delivers hout]

theorem execFlashHealth_answers {a : QArgs} (hs : s.starts r 0x8F e = true) (ha : argsQ e.area = a)
    (hout : s.delivers e a [ctrBytes s.flashCtrs 0x900 8] = true) :
    execFlashHealth r a s = .next ((s.delivered e a [ctrBytes s.flashCtrs 0x900 8]).done e 0 0) := by
  unfold execFlashHealth
  rw [State.command_of_starts hs (by simp [ha]), State.answer_of_delivers hout]

/-! ## Extents (08_memory_tiers R281, R282, R284, R286) -/

section
variable {a : EArgs}

theorem execExtentCreate_creates (hs : s.starts r 0x8B e = true) (ha : argsE e.area = a)
    (hroom : s.extentBytes + s.flash.pagingSizeWr * 2 ^ 30 + a.len ≤ flashBytes) :
    ∃ id, execExtentCreate r a s = .next ({ s with
      fresh := s.fresh + 1
      flash := { s.flash with
        extents := KMap.put s.flash.extents id { owner := e.part, size := a.len }
        nextExtent := max s.flash.nextExtent (id + 1) } }.done e 0 id) := by
  unfold execExtentCreate
  rw [State.command_of_starts hs (by simp [ha])]
  dsimp only
  rw [decide_eq_false hroom.not_gt, State.checked_pass (firstBad_none (by simp))]
  exact ⟨_, rfl⟩

theorem execExtentWrite_waits (hs : s.starts r 0x8C e = true) (ha : argsE e.area = a)
    (hown : s.extentOk e.part a.extent a.offset a.len = true) (hwritable : s.flash.readonly = false)
    (hsource : s.readable e.part (bit a.eflags 0) a.addr a.len = true) :
    let t := s.seen e.part (bit a.eflags 0) a.addr a.len
    execExtentWrite r a s = .next ({ t with flash := { t.flash with
      extents := KMap.mod t.flash.extents a.extent (fun v => { v with
        pend := v.pend ++ [(e.tag, a.offset, s.bytesAt (bit a.eflags 0) a.addr a.len)] }) } }.keep e) := by
  unfold execExtentWrite
  rw [State.command_of_starts hs (by simp [ha]), State.checked_pass (firstBad_none (by simp [hown, hwritable])),
    State.readBuf_of_readable hsource]

theorem execExtentCommit_completes {x tag o : Nat} {v : Extent} {bs : List Byte} {rest : List (Nat × Nat × List Byte)} {c : CmdE}
    (hv : KMap.find s.flash.extents x = some v) (hpend : v.pend = (tag, o, bs) :: rest) (hc : s.cmd tag = some c)
    (hup : s.flashUp = true) :
    execExtentCommit x s = .next (((({ s with flash := { s.flash with
      extents := KMap.put s.flash.extents x { v with pend := rest, data := v.data.writeN o bs } } }.flashCount
        Ctr.hostBytesWritten bs.length).flashCount Ctr.mediaBytesWritten bs.length)).done c 0 0) := by
  simp only [execExtentCommit, hv, hup, hpend, Bool.not_true, Bool.false_eq_true, if_false]
  split
  · next hnone => exact absurd (hnone.symm.trans hc) (by simp)
  · next hsome => rw [Option.some.inj (hsome.symm.trans hc)]

theorem execExtentRead_answers (hs : s.starts r 0x8D e = true) (ha : argsE e.area = a)
    (hown : s.extentOk e.part a.extent a.offset a.len = true)
    (hout : s.writable e.part (bit a.eflags 0) a.addr (s.extentRead a.extent a.offset a.len).length = true) :
    execExtentRead r a s = .next ((s.stored (bit a.eflags 0) a.addr (s.extentRead a.extent a.offset a.len)).done e 0 0) := by
  unfold execExtentRead
  rw [State.command_of_starts hs (by simp [ha]), State.checked_pass (firstBad_none (by simp [hown])),
    State.writeBuf_of_writable hout]

theorem execExtentDelete_deletes (hs : s.starts r 0x8E e = true) (ha : argsE e.area = a)
    (hown : s.extentOk e.part a.extent 0 0 = true) :
    execExtentDelete r a s =
      .next ({ s with flash := { s.flash with extents := KMap.del s.flash.extents a.extent } }.done e 0 0) := by
  unfold execExtentDelete
  rw [State.command_of_starts hs (by simp [ha]), State.checked_pass (firstBad_none (by simp [hown]))]

end
end

/-! ## The upkeep of flash (01_architecture R11; 08_memory_tiers R279, R282, R283) -/

/-- A maintenance state raised: one is in force, and power, the log and the events alone may have changed (23_management R680). -/
theorem State.maintain_spec (s : State) {m : Nat} (hm : m ≠ 0) :
    ∃ w g, s.maintain m = { s with power := w, mgmt := g } ∧ w.maint ≠ 0 := by
  unfold State.maintain
  split_ifs with hraised
  · exact ⟨_, _, rfl, hraised⟩
  · obtain ⟨g, hevent⟩ := State.platformEvent_eq { s with power := { s.power with maint := m } } 260 m
    dsimp only
    rw [hevent]
    obtain ⟨g', hlog⟩ := State.logEv_eq { s with power := { s.power with maint := m }, mgmt := g } 9 m 0xFF 260 0 0
    exact ⟨_, g', hlog, hm⟩

theorem execTierReadonly_spares {s : State} {sp : Nat} (h : 2 ≤ sp) : execTierReadonly sp s =
    .next { s with flash := { s.flash with ctr := KMap.put s.flash.ctr Ctr.sparePercent sp } } := if_neg (by omega)

theorem execTierReadonly_wears {s : State} {sp : Nat} (h : sp < 2) :
    ∃ t, execTierReadonly sp s = .next t ∧ t.flash.readonly = true ∧ t.power.maint ≠ 0 ∧
      t.dev = s.dev ∧ t.pages = s.pages ∧ t.flash.extents = s.flash.extents := by
  obtain ⟨w, g, hmaintain, hraised⟩ := State.maintain_spec { s with flash := { s.flash with
    ctr := KMap.put s.flash.ctr Ctr.sparePercent sp, readonly := true } } one_ne_zero
  refine ⟨_, if_pos h, ?_⟩
  dsimp only
  rw [hmaintain]
  exact ⟨rfl, hraised, rfl, rfl, rfl⟩

/-- Settles O29: the queries and the rows of extents by their checks, the upkeep of flash by whether its domain is up, and the end of the
spare blocks by what a maintenance state raised changes. -/
theorem tiersExtentsAndFlash : Obligations.TiersExtentsAndFlash := by
  refine ⟨fun s r e => ⟨fun a hs ha haligned hpages hwindow => execTierQuery_answers hs ha haligned hpages hwindow,
      fun a hs ha => execPoolStats_answers hs ha, fun a hs ha => execFlashHealth_answers hs ha⟩,
    fun s r a e ha => ⟨fun hs => execExtentCreate_creates hs ha,
      fun hs hown hwritable hsource => execExtentWrite_waits hs ha hown hwritable hsource,
      fun v tag o bs rest c => execExtentCommit_completes, fun hs hown => execExtentRead_answers hs ha hown,
      fun hs => execExtentDelete_deletes hs ha⟩,
    fun s => ⟨fun hup n m => ?refresh, fun hup => ?patrol, fun hdown => ?still, fun sp => execTierReadonly_spares,
      fun sp => execTierReadonly_wears⟩⟩
  case refresh => exact if_neg (by simp [hup])
  case patrol => exact ⟨congrArg _ (if_pos (by simp [hup])), rfl⟩
  case still => exact congrArg _ (if_neg (by simp [hdown]))

end Sys2Proof.Machine
end

section
/-! Candidates are merged, re-ranked and packed (08_memory_tiers R268; 09_vector_search R318 to R324): what packing may take up, and the
rows, each by the pages it is held for. -/

namespace Sys2Proof.Machine

/-! ## Records read and pages waited for -/

/-- Readings that all succeed give the list of what each gives. -/
theorem mapM_ok {ε α β : Type} {f : α → Except ε β} {g : α → β} {l : List α} (h : ∀ x ∈ l, f x = .ok (g x)) :
    l.mapM f = .ok (l.map g) := by
  induction l with
  | nil => rfl
  | cons x t ih =>
    rw [List.mapM_cons, h x (by simp), ih (fun y hy => h y (by simp [hy]))]
    rfl

/-- A command is held for pages of tier T2 (08_memory_tiers R268). -/
theorem State.hold_some {s : State} {ks : List Nat} (e : CmdE) (h : s.inT2 ks ≠ []) : ∃ u, s.hold e ks = some u :=
  Option.ne_none_iff_exists'.1 (fun hnone => h (State.hold_eq_none.1 hnone))

section
variable {s : State} {r : Ref} {e : CmdE}

/-! ## SHARD_MERGE (09_vector_search R318) -/

section
variable {a : ShardArgs}

/-- The records that a SHARD_MERGE reads. -/
def State.shards (s : State) (a : ShardArgs) : List InRec :=
  (List.range a.inCnt).map (fun i => s.itemsAt (bit a.dua 0) (a.inAddr + i * a.inStride))

/-- The pages that it reads. -/
def State.shardPages (s : State) (p : Nat) (a : ShardArgs) : List Nat :=
  (s.shards a).zipIdx.flatMap (fun x => s.duaPages p (bit a.dua 0) (a.inAddr + x.2 * a.inStride) (32 + 16 * x.1.hdr.valid))

/-- What a SHARD_MERGE does once it has read its records. -/
def State.mergeShards (s : State) (e : CmdE) (a : ShardArgs) : State :=
  if !(s.shards a).all InRec.itemsOk then s.reject e Code.listInvalid
  else
    let out := mergeItems a.k (s.shards a)
    match s.hold e (s.shardPages e.part a ++ s.duaPages e.part (bit a.dua 0) a.outAddr out.length) with
    | some held => held
    | none => match (s.readPages e.part (s.shardPages e.part a)).writeBuf e.part (bit a.dua 0) a.outAddr out with
      | .error c => s.reject e c
      | .ok u => u.done e 0 (readHdr out).valid

theorem execShardMerge_merges (hs : s.starts r 0x37 e = true) (ha : argsShard e.area = a) (hk : 0 < a.k) (hk' : a.k ≤ 4096)
    (hin : 0 < a.inCnt) (hin' : a.inCnt ≤ 1024)
    (hrec : ∀ i, i < a.inCnt → s.recordOk e.part (bit a.dua 0) (a.inAddr + i * a.inStride) 1 16 = true) :
    execShardMerge r a s = .next (s.mergeShards e a) := by
  have hread : (List.range a.inCnt).mapM (fun i => s.readRec e.part (bit a.dua 0) (a.inAddr + i * a.inStride)) =
      .ok (s.shards a) := mapM_ok (fun i hi => State.readRec_of_ok (hrec i (List.mem_range.1 hi)))
  have hlimits : (a.k == 0 || decide (4096 < a.k) || a.inCnt == 0 || decide (1024 < a.inCnt)) = false := by
    simp; omega
  unfold execShardMerge
  rw [State.command_of_starts hs (by simp [ha]), hlimits, hread]
  rfl

theorem State.mergeShards_bad (h : ∃ x ∈ s.shards a, x.itemsOk = false) :
    s.mergeShards e a = s.reject e Code.listInvalid := if_pos (by simpa using h)

theorem State.mergeShards_held (hok : ∀ x ∈ s.shards a, x.itemsOk = true)
    (h : s.inT2 (s.shardPages e.part a ++ s.duaPages e.part (bit a.dua 0) a.outAddr (mergeItems a.k (s.shards a)).length) ≠ []) :
    ∃ u, s.hold e (s.shardPages e.part a ++
        s.duaPages e.part (bit a.dua 0) a.outAddr (mergeItems a.k (s.shards a)).length) = some u ∧ s.mergeShards e a = u := by
  obtain ⟨u, hu⟩ := State.hold_some e h
  refine ⟨u, hu, (if_neg (by simpa using hok)).trans ?_⟩
  simp only [hu]

theorem State.mergeShards_merged (hok : ∀ x ∈ s.shards a, x.itemsOk = true)
    (h : s.inT2 (s.shardPages e.part a ++ s.duaPages e.part (bit a.dua 0) a.outAddr (mergeItems a.k (s.shards a)).length) = [])
    (hout : (s.readPages e.part (s.shardPages e.part a)).writable e.part (bit a.dua 0) a.outAddr
      (mergeItems a.k (s.shards a)).length = true) :
    s.mergeShards e a = ((s.readPages e.part (s.shardPages e.part a)).stored (bit a.dua 0) a.outAddr
      (mergeItems a.k (s.shards a))).done e 0 (readHdr (mergeItems a.k (s.shards a))).valid := by
  refine (if_neg (by simpa using hok)).trans ?_
  simp only [State.hold_eq_none.2 h, State.writeBuf_of_writable hout]

end

/-! ## RERANK (09_vector_search R319, R320) -/

section
variable {a : RerankArgs} {im : Image} {ix : Index} {scores : List Word}

/-- The candidates that a RERANK reads. -/
def State.candidates (s : State) (a : RerankArgs) : InRec := s.itemsAt (bit a.dua 0) a.inAddr

/-- Those of them that have their passage, with their scores. -/
def State.ranked (s : State) (a : RerankArgs) (ix : Index) (scores : List Word) : List SelEl :=
  ix.scored ((s.candidates a).items.map (fun i => (i.id, i.epoch))) scores

/-- The pages that the RERANK reads. -/
def State.rerankPages (s : State) (p : Nat) (a : RerankArgs) (im : Image) : List Nat :=
  im.passPages ++ s.duaPages p (bit a.dua 0) a.qtokAddr (4 * a.qtokCnt) ++
    s.duaPages p (bit a.dua 0) a.inAddr (32 + 16 * (s.candidates a).hdr.valid)

/-- What a RERANK does once its checks have passed: `els` are the candidates with a passage. -/
def State.rankAll (s : State) (e : CmdE) (a : RerankArgs) (im : Image) (els : List SelEl) : State :=
  let bs := topkRow true false a.top els
  match s.hold e (s.rerankPages e.part a im ++ s.duaPages e.part (bit a.dua 0) a.outAddr bs.length) with
  | some held => held
  | none => match (s.readPages e.part (s.rerankPages e.part a im)).writeBuf e.part (bit a.dua 0) a.outAddr bs with
    | .error c => s.reject e c
    | .ok u =>
      let gone := (s.candidates a).items.length - els.length
      (u.modIndex e.part a.index (fun x => { x with ctr := bump x.ctr IxCtr.passageGoneCnt gone })).done e
        (if gone = 0 then 0 else Code.passageGone) gone

/-- What a RERANK does once it has read its candidates and found their number in its limits. -/
def State.rerankAll (s : State) (e : CmdE) (a : RerankArgs) (im : Image) (ix : Index) (scores : List Word) : State :=
  if s.tooWide e.part a.image then s.done e Code.gangSizeInvalid 0
  else if scores.length ≠ (s.candidates a).items.length then s
  else if s.anyLost im.passPages then s.reject e Code.pageLost
  else s.rankAll e a im (s.ranked a ix scores)

theorem execRerank_reranks (hs : s.starts r 0x38 e = true) (ha : argsRerank e.area = a) (hlow : 32 ≤ a.pairLimit)
    (hhigh : a.pairLimit ≤ 8192) (htop : 0 < a.top) (him : s.image? e.part a.image = some im)
    (hix : s.index? e.part a.index e.tag = some ix) (hfit : rerankBad im ix = false) (hbarred : s.barred e.part e.queue a.image = false)
    (hq : s.readable e.part (bit a.dua 0) a.qtokAddr (4 * a.qtokCnt) = true)
    (hrec : s.recordOk e.part (bit a.dua 0) a.inAddr 1 16 = true) (hmany : (s.candidates a).items.length ≤ 4096)
    (hfew : a.top ≤ (s.candidates a).items.length) :
    execRerank r a scores s = .next (s.rerankAll e a im ix scores) := by
  have hlimits : (decide (a.pairLimit < 32) || decide (8192 < a.pairLimit) || a.top == 0) = false := by simp; omega
  have hcount : (decide (4096 < (s.itemsAt (bit a.dua 0) a.inAddr).items.length) ||
      decide ((s.itemsAt (bit a.dua 0) a.inAddr).items.length < a.top)) = false := by
    unfold State.candidates at hmany hfew
    simp; omega
  unfold execRerank
  rw [State.command_of_starts hs (by simp [ha])]
  simp only [hlimits, him, hix, hfit, hbarred, State.readBuf_of_readable hq, State.readRec_of_ok hrec, List.length_map, hcount,
    Bool.false_eq_true, if_false]
  rfl

theorem State.rerankAll_tooWide (h : s.tooWide e.part a.image = true) :
    s.rerankAll e a im ix scores = s.done e Code.gangSizeInvalid 0 := if_pos h

theorem State.rerankAll_lost (hwide : s.tooWide e.part a.image = false) (hlen : scores.length = (s.candidates a).items.length)
    (h : s.anyLost im.passPages = true) : s.rerankAll e a im ix scores = s.reject e Code.pageLost := by
  simp [State.rerankAll, hwide, hlen, h]

theorem State.rerankAll_ranks (hwide : s.tooWide e.part a.image = false) (hlen : scores.length = (s.candidates a).items.length)
    (h : s.anyLost im.passPages = false) : s.rerankAll e a im ix scores = s.rankAll e a im (s.ranked a ix scores) := by
  simp [State.rerankAll, hwide, hlen, h]

theorem State.rankAll_held {els : List SelEl} (h : s.inT2 (s.rerankPages e.part a im ++
      s.duaPages e.part (bit a.dua 0) a.outAddr (topkRow true false a.top els).length) ≠ []) :
    ∃ u, s.hold e (s.rerankPages e.part a im ++
      s.duaPages e.part (bit a.dua 0) a.outAddr (topkRow true false a.top els).length) = some u ∧ s.rankAll e a im els = u := by
  obtain ⟨u, hu⟩ := State.hold_some e h
  exact ⟨u, hu, by simp only [State.rankAll, hu]⟩

theorem State.rankAll_ranked {els : List SelEl} (h : s.inT2 (s.rerankPages e.part a im ++
      s.duaPages e.part (bit a.dua 0) a.outAddr (topkRow true false a.top els).length) = [])
    (hout : (s.readPages e.part (s.rerankPages e.part a im)).writable e.part (bit a.dua 0) a.outAddr
      (topkRow true false a.top els).length = true) :
    let gone := (s.candidates a).items.length - els.length
    s.rankAll e a im els = (((s.readPages e.part (s.rerankPages e.part a im)).stored (bit a.dua 0) a.outAddr
      (topkRow true false a.top els)).modIndex e.part a.index (fun y => { y with
        ctr := bump y.ctr IxCtr.passageGoneCnt gone })).done e (if gone = 0 then 0 else Code.passageGone) gone := by
  simp only [State.rankAll, State.hold_eq_none.2 h, State.writeBuf_of_writable hout]

end
end

/-! ## PACK (09_vector_search R321 to R324) -/

/-- Packing takes up no more room than there is, and no more passages. -/
theorem packGo_bounds (pre post : List Nat) (cut : Bool) (psgs : List (List Nat)) (room : Nat) :
    (packGo pre post cut room psgs).body.length ≤ room ∧ (packGo pre post cut room psgs).used ≤ psgs.length := by
  induction psgs generalizing room with
  | nil => simp [packGo]
  | cons p t ih =>
    obtain ⟨hbody, hused⟩ := ih (room - (pre.length + p.length + post.length))
    simp only [packGo]
    split_ifs with hneed hcut
    · simp only [List.length_append, List.length_cons]
      omega
    · simp only [List.length_append, List.length_take, List.length_cons]
      simp at hcut
      omega
    · simp

theorem Template.pack_bounds (tp : Template) (cut : Bool) (budget : Nat) (psgs : List (List Nat)) (q : List Nat)
    (h : tp.fixed q ≤ budget) : (tp.pack cut budget psgs q).1.length ≤ budget ∧ (tp.pack cut budget psgs q).2.used ≤ psgs.length := by
  obtain ⟨hbody, hused⟩ := packGo_bounds (tp.list 1) (tp.list 2) cut psgs (budget - tp.fixed q)
  refine ⟨?_, hused⟩
  simp only [Template.pack, List.length_append]
  unfold Template.fixed at h hbody ⊢
  omega

section
variable {s : State} {r : Ref} {e : CmdE} {a : PackArgs} {tp : Template} {ix : Index}

/-- The items that a PACK reads. -/
def State.packItems (s : State) (a : PackArgs) : List ItemEl := (s.itemsAt (bit a.flags 1) a.itemAddr).items

/-- The order that it packs them in. -/
def State.packOrder (s : State) (a : PackArgs) : List Nat :=
  if bit a.flags 2 = true then s.tagsAt (bit a.flags 1) a.rrAddr else List.range (s.packItems a).length

/-- Their passages in that order. -/
def State.packPassages (s : State) (a : PackArgs) (ix : Index) : List (Option (List Nat)) :=
  (s.packOrder a).map (fun i => ((s.packItems a)[i]?).bind (fun y => ix.passage y.id y.epoch))

/-- The packed sequence. -/
def State.packed (s : State) (a : PackArgs) (tp : Template) (ix : Index) : List Nat × Packed :=
  tp.pack (bit a.flags 0) a.budget ((s.packPassages a ix).filterMap id) (words 4 (s.bytesAt (bit a.flags 1) a.qtokAddr (4 * a.qtokCnt)))

theorem State.packOrder_of_ok (hrank : bit a.flags 2 = true → s.recordOk e.part (bit a.flags 1) a.rrAddr 0 8 = true ∧
      ∀ g ∈ s.tagsAt (bit a.flags 1) a.rrAddr, g < (s.packItems a).length) :
    (if bit a.flags 2 then s.rankOrder e.part (bit a.flags 1) a.rrAddr (s.packItems a).length
      else .ok (List.range (s.packItems a).length)) = .ok (s.packOrder a) := by
  unfold State.packOrder
  split_ifs with hreranked
  · exact State.rankOrder_of_ok (hrank hreranked).1 (hrank hreranked).2
  · rfl

theorem execPack_packs (hs : s.starts r 0x39 e = true) (ha : argsPack e.area = a) (htp : s.template? e.part a.template e.tag = some tp)
    (hix : s.index? e.part a.index e.tag = some ix) (hvocab : tp.vocab = ix.vocab) (hvocabId : tp.vocabId = ix.vocabId)
    (hbudget : tp.fixed [] + a.qtokCnt ≤ a.budget) (hq : s.readable e.part (bit a.flags 1) a.qtokAddr (4 * a.qtokCnt) = true)
    (hrec : s.recordOk e.part (bit a.flags 1) a.itemAddr 1 16 = true)
    (hrank : bit a.flags 2 = true → s.recordOk e.part (bit a.flags 1) a.rrAddr 0 8 = true ∧
      ∀ g ∈ s.tagsAt (bit a.flags 1) a.rrAddr, g < (s.packItems a).length)
    (hout : s.writable e.part (bit a.flags 1) a.outAddr (packRecord (s.packed a tp ix).1 (s.packed a tp ix).2).length = true) :
    let gone := ((s.packPassages a ix).filter Option.isNone).length
    execPack r a s = .next (((s.stored (bit a.flags 1) a.outAddr (packRecord (s.packed a tp ix).1 (s.packed a tp ix).2)).modIndex
      e.part a.index (fun y => { y with ctr := bump y.ctr IxCtr.passageGoneCnt gone })).done e
        (if gone = 0 then 0 else Code.passageGone) (s.packed a tp ix).1.length) := by
  have hfits : (decide (tp.vocab ≠ ix.vocab) || decide (tp.vocabId ≠ ix.vocabId) || decide (a.budget < tp.fixed [] + a.qtokCnt)) =
      false := by simp [hvocab, hvocabId, hbudget]
  unfold execPack
  rw [State.command_of_starts hs (by simp [ha])]
  simp only [htp, hix, hfits, State.readBuf_of_readable hq, State.readRec_of_ok hrec]
  have horder := State.packOrder_of_ok hrank
  unfold State.packItems at horder
  simp only [horder]
  have hwrite := State.writeBuf_of_writable hout
  unfold State.packed State.packPassages State.packItems at hwrite
  simp only [hwrite]
  rfl

end

/-- Settles O41: SHARD_MERGE and RERANK by what they are held for once their records are read, PACK by the order of its passages, and
the bounds of a packed sequence by induction over the passages. -/
theorem mergedRerankedPacked : Obligations.MergedRerankedPacked := by
  refine fun s r e => ⟨fun a hs ha hk hk' hin hin' hrec => ?merge, ?rerank, ?pack, Template.pack_bounds⟩
  case merge =>
    intro ins out
    have hmerge : exec (.shardMerge r a) s = .next (s.mergeShards e a) := execShardMerge_merges hs ha hk hk' hin hin' hrec
    refine ⟨fun hbad => hmerge.trans (congrArg _ (State.mergeShards_bad hbad)), ?_⟩
    intro ks hs
    refine ⟨fun hok hheld => ?_, fun hok hfree hout => hmerge.trans (congrArg _ (State.mergeShards_merged hok hfree hout))⟩
    obtain ⟨u, hu, hmerged⟩ := State.mergeShards_held hok hheld
    exact ⟨u, hu, hmerge.trans (congrArg _ hmerged)⟩
  case rerank =>
    intro a im ix scores hs ha hlow hhigh htop him hix hfit hbarred hq hrec x els bs ks hs' hmany hfew
    have hrerank : exec (.rerank r a scores) s = .next (s.rerankAll e a im ix scores) :=
      execRerank_reranks hs ha hlow hhigh htop him hix hfit hbarred hq hrec hmany hfew
    refine ⟨fun hwide => hrerank.trans (congrArg _ (State.rerankAll_tooWide hwide)), fun hwide hlen =>
      ⟨fun hlost => hrerank.trans (congrArg _ (State.rerankAll_lost hwide hlen hlost)), fun hwhole hheld => ?_, ?_⟩⟩
    · obtain ⟨u, hu, hranked⟩ := State.rankAll_held hheld
      exact ⟨u, hu, hrerank.trans (congrArg _ ((State.rerankAll_ranks hwide hlen hwhole).trans hranked))⟩
    · intro hwhole hfree gone hout
      exact hrerank.trans (congrArg _ ((State.rerankAll_ranks hwide hlen hwhole).trans (State.rankAll_ranked hfree hout)))
  case pack =>
    intro a tp ix hs ha htp hix hvocab hvocabId hbudget hq hrec qb x hrank order psgs gone o hout
    exact execPack_packs hs ha htp hix hvocab hvocabId hbudget hq hrec hrank hout

end Sys2Proof.Machine
end

section
/-! Migrations switch whole and lost pages are rebuilt (08_memory_tiers R250, R254, R258, R261 to R263, R266, R276, R278, R280;
21_reliability R652): the place an engine reaches, where a page stands once it has arrived, what waits for a page that flash has lost,
the rows. -/

namespace Sys2Proof.Machine

/-! ## Flags of a page (08_memory_tiers R249) -/

theorem Page.flag_setFlag (g : Page) (i j : Nat) (b : Bool) (hj : j < 16) :
    (g.setFlag i b).flag j = if i = j then b else g.flag j := by
  cases b <;> by_cases h : i = j <;>
    simp only [Page.setFlag, Page.flag, Bool.false_eq_true, if_true, if_false, BitVec.getLsbD_or, BitVec.getLsbD_and,
      BitVec.getLsbD_not, BitVec.getLsbD_ofNat, Nat.testBit_two_pow, hj, h] <;> simp

/-! ## The place an engine reaches (08_memory_tiers R261) -/

section
variable {s : State} {n : Nat} {g : Page} {x y : Spot}

theorem State.leastSpotOn_place {tier die : Nat} {parity mirror : Bool} (h : s.leastSpotOn tier die parity mirror = some x) :
    x.tier = tier ∧ x.die = die := by
  obtain ⟨f, -, hf⟩ := List.exists_of_findSome?_eq_some h
  obtain ⟨m, -, hm⟩ := List.exists_of_findSome?_eq_some hf
  split_ifs at hm
  cases hm
  exact ⟨rfl, rfl⟩

/-- An engine copies to the place it was given, to the same frame of its own die, or to the least frame of that in tier T0. -/
theorem State.engineSpot_cases (h : s.engineSpot n g y = some x) :
    ((n = 8 ∨ y.tier ≠ 0 ∨ y.die = n) ∧ x = y) ∨ x = { y with die := n } ∨ (x.tier = 0 ∧ x.die = n) := by
  unfold State.engineSpot at h
  split_ifs at h with hreach hown
  · exact .inl ⟨by simpa [or_assoc] using hreach, (Option.some.inj h).symm⟩
  · exact .inr (.inl (Option.some.inj h).symm)
  · exact .inr (.inr (State.leastSpotOn_place h))

theorem State.engineSpot_tier (h : s.engineSpot n g y = some x) : x.tier = y.tier ∨ x.tier = 0 := by
  obtain ⟨-, rfl⟩ | rfl | ⟨htier, -⟩ := State.engineSpot_cases h
  · exact .inl rfl
  · exact .inl rfl
  · exact .inr htier

theorem State.engineSpot_die (hn : n ≠ 8) (hy : y.tier = 0) (h : s.engineSpot n g y = some x) : x.die = n ∧ x.tier = 0 := by
  obtain ⟨hreach, rfl⟩ | rfl | ⟨htier, hdie⟩ := State.engineSpot_cases h
  · exact ⟨by tauto, hy⟩
  · exact ⟨rfl, hy⟩
  · exact ⟨hdie, htier⟩

end

/-! ## Where a page stands (08_memory_tiers R262, R265) -/

/-- Where a page stands and since when: what the end of a command that waits for it leaves alone. -/
def Page.standing (g : Page) : Nat × Nat × Nat × Nat × Nat := (g.tier, g.die, g.frame, g.mstate, g.age)

@[simp] theorem Page.standing_setFlag (g : Page) (i : Nat) (b : Bool) : (g.setFlag i b).standing = g.standing := rfl

theorem State.endMove_standing (s : State) (e : CmdE) (status k : Nat) :
    (KMap.find (s.endMove e status).pages k).map Page.standing = (KMap.find s.pages k).map Page.standing := by
  unfold State.endMove
  rw [State.done_pages, State.modPart_pages, KMap.find_each, Option.map_map]
  refine congrArg (Option.map · _) (funext fun g => ?_)
  simp only [Function.comp]
  split_ifs <;> rfl

@[simp] theorem State.endMove_dev (s : State) (e : CmdE) (status : Nat) : (s.endMove e status).dev = s.dev := State.done_dev ..

theorem State.settle_standing (s : State) (k : Nat) :
    (KMap.find s.settle.pages k).map Page.standing = (KMap.find s.pages k).map Page.standing := by
  refine foldl_keeps (fun t : State => (KMap.find t.pages k).map Page.standing) (fun t e => ?_) _ s
  dsimp only
  split
  · rfl
  · exact State.endMove_standing ..

@[simp] theorem State.settle_dev (s : State) : s.settle.dev = s.dev := by
  refine foldl_keeps State.dev (fun t e => ?_) _ s
  dsimp only
  split
  · rfl
  · exact State.endMove_dev ..

/-- The entry of a page that arrives (08_memory_tiers R254, R262, R265). -/
def State.arrived (s : State) (k : Nat) (g : Page) (x : Spot) : Page :=
  let stay := g.queued && g.wantTier ≠ x.tier
  let h := (({ g with
    dirty := [], rounds := 0, mstate := 0, demand := false, queued := stay, age := s.arrivalAge g
    asked := g.asked && stay, moveTag := if stay then g.moveTag else 0, forBatch := if stay then g.forBatch else 0 }).at
      x).setFlag 4 false
  if !g.mirrored || decide (2 ≤ x.tier) then h
  else if s.mirrorOk k x then { h.setFlag 5 true with remirror := false }
  else { h.setFlag 5 false with remirror := true }

theorem State.arrived_standing (s : State) (k : Nat) (g : Page) (x : Spot) :
    (s.arrived k g x).standing = (x.tier, x.die, x.frame, 0, s.arrivalAge g) := by
  unfold State.arrived
  dsimp only
  split_ifs <;> rfl

/-- An arrival puts that entry, may count a late prefetch, and lets what waits for the page complete. -/
theorem State.arrive_eq (s : State) (k : Nat) (g : Page) (x : Spot) :
    ∃ ps, s.arrive k g x = State.settle { s with pages := KMap.put s.pages k (s.arrived k g x), parts := ps } := by
  let t : State := { s with pages := KMap.put s.pages k (s.arrived k g x) }
  let late := g.asked && (decide (g.deadline.1 < s.turn) || (g.deadline.1 == s.turn && decide (g.deadline.2 < s.wheel.now)))
  have harrive : s.arrive k g x = (if late && !(g.queued && g.wantTier ≠ x.tier) then t.count g.owner Ctr.prefetchLate 1
    else t).settle := rfl
  rw [harrive]
  split
  · exact ⟨_, rfl⟩
  · exact ⟨s.parts, rfl⟩

/-- A page that has arrived stands at its place, no copy of it under way, with the AGE of its arrival. -/
theorem State.arrive_find (s : State) (k : Nat) (g : Page) (x : Spot) :
    ∃ h, KMap.find (s.arrive k g x).pages k = some h ∧ h.standing = (x.tier, x.die, x.frame, 0, s.arrivalAge g) := by
  obtain ⟨ps, harrive⟩ := s.arrive_eq k g x
  have hstanding := State.settle_standing { s with pages := KMap.put s.pages k (s.arrived k g x), parts := ps } k
  rw [← harrive, KMap.find_put_same, Option.map_some, State.arrived_standing] at hstanding
  exact Option.map_eq_some_iff.1 hstanding

@[simp] theorem State.arrive_dev (s : State) (k : Nat) (g : Page) (x : Spot) : (s.arrive k g x).dev = s.dev := by
  obtain ⟨ps, harrive⟩ := s.arrive_eq k g x
  rw [harrive, State.settle_dev]

theorem State.arrivalAge_alone {s : State} {g : Page} (h : KMap.find s.batches g.forBatch = none) :
    s.arrivalAge g = s.turn % 2 ^ 48 := by
  simp [State.arrivalAge, h]

theorem State.arrivalAge_batch {s : State} {g : Page} {b : Batch} (h : KMap.find s.batches g.forBatch = some b) :
    s.arrivalAge g = (if b.carried then s.turn + 1 else s.turn) % 2 ^ 48 := by
  simp [State.arrivalAge, h]

/-! ## The rows of a migration (08_memory_tiers R258, R261 to R263) -/

section
variable {s t : State} {k n : Nat} {g : Page}

/-- The order of an engine's queue: earliest deadline, then lowest page number (08_memory_tiers R266). -/
def engineBefore (a b : Nat × Page) : Bool :=
  decide (a.2.deadline.1 < b.2.deadline.1) ||
    (a.2.deadline.1 == b.2.deadline.1 && (decide (a.2.deadline.2 < b.2.deadline.2) ||
      (a.2.deadline.2 == b.2.deadline.2 && decide (a.1 < b.1))))

/-- The place asked for a page that an engine takes. -/
def State.engineAsks (s : State) (g : Page) : Option (State × Spot) :=
  s.placeIn g.owner (if g.tier = 1 then g.wantTier else 1) (g.flag 2) g.mirrored
    (if g.demand then .demand else if g.moveTag = 0 then .prefetch else .alloc)

theorem execMigrationStart_starts {x y : Spot} (hnext : leastBy engineBefore (s.pages.filter (engineTakes n)) = some (k, g))
    (hawake : s.asleep = false) (hup : n = 8 → s.flashUp = true) (hplace : s.engineAsks g = some (t, y))
    (hreach : t.engineSpot n g y = some x) :
    execMigrationStart n s = .next ((t.thrash s g).modPage k (fun v => ({ v with
      mstate := 1, age := s.turn % 2 ^ 48, dstTier := x.tier, dstDie := x.die, dstFrame := x.frame
      dstMirror := x.mirror, dirty := [], rounds := 0 }).setFlag 4 true)) := by
  have hruns : (s.asleep || (decide (n = 8) && !s.flashUp)) = false := by
    by_cases h8 : n = 8 <;> simp [hawake, h8, (hup · )]
  unfold engineBefore at hnext
  unfold State.engineAsks at hplace
  simp only [execMigrationStart, hnext, hruns, Bool.false_eq_true, if_false, hplace, hreach]

theorem execMigrationStart_drops (hnext : leastBy engineBefore (s.pages.filter (engineTakes n)) = some (k, g))
    (hawake : s.asleep = false) (hup : n = 8 → s.flashUp = true) (hplace : s.engineAsks g = none)
    (htag : g.moveTag = 0) (hdemand : g.demand = false) :
    execMigrationStart n s = .next ((s.modPage k (fun v => { v with queued := false, asked := false })).count g.owner
      Ctr.prefetchDrop 1) := by
  have hruns : (s.asleep || (decide (n = 8) && !s.flashUp)) = false := by
    by_cases h8 : n = 8 <;> simp [hawake, h8, (hup · )]
  unfold engineBefore at hnext
  unfold State.engineAsks at hplace
  simp only [execMigrationStart, hnext, hruns, Bool.false_eq_true, if_false, hplace]
  exact if_pos (by simp [htag, hdemand])

theorem execMigrationSwitch_ends (hg : KMap.find s.pages k = some g) (hawake : s.asleep = false) (hmoving : g.mstate = 1 ∨ g.mstate = 2)
    (htier : g.tier ≠ 2) (hup : g.dstTier = 2 → s.flashUp = true) (ok : Bool) :
    execMigrationSwitch k ok s =
      if !ok then .next (s.abandon k g)
      else if g.dirty ≠ [] && (s.tablePage k).isSome then
        (match s.tablePage k with
          | none => .next s
          | some (p, h) => .next ((s.modPage k (fun v => { v with mstate := 2, dirty := [], rounds := v.rounds + 1 })).modPart p
              (fun v => { v with tables := KMap.mod v.tables h (fun t => { t with ctr := bump t.ctr TbCtr.migRowReplay g.dirty.length }) })))
      else if g.dirty ≠ [] then
        (if 4 ≤ g.rounds then .next (s.abandon k g)
         else .next (s.modPage k (fun v => { v with mstate := 2, dirty := [], rounds := v.rounds + 1 })))
      else
        .next ((if g.dstTier = 2 then s.pageOut else s).arrive k (if g.dstTier = 2 then g.setFlag 6 true else g) g.dstSpot) := by
  have hends : (!(g.mstate == 1 || g.mstate == 2) || g.tier == 2 || s.asleep || (g.dstTier == 2 && !s.flashUp)) = false := by
    have hcopied : (g.mstate == 1 || g.mstate == 2) = true := by simpa using hmoving
    by_cases h2 : g.dstTier = 2 <;> simp [hawake, hcopied, htier, h2, (hup · )]
  simp only [execMigrationSwitch, hg]
  exact if_neg (Bool.eq_false_iff.1 hends)

end

/-! ## Flash data that arrives or is lost (08_memory_tiers R278, R280; 21_reliability R652) -/

section
variable {s : State} {k : Nat} {g : Page}

/-- A page lost to flash: LOST, no copy of it under way (08_memory_tiers R280). -/
def Page.gone (v : Page) : Page :=
  ({ v with mstate := 0, queued := false, moveTag := 0, demand := false, asked := false }.setFlag 4 false).setFlag 7 true

theorem Page.gone_flags (g : Page) : g.gone.flag 7 = true ∧ g.gone.flag 4 = false := by
  constructor
  · rw [Page.gone, Page.flag_setFlag _ _ _ _ (by omega), if_pos rfl]
  · rw [Page.gone, Page.flag_setFlag _ _ _ _ (by omega), if_neg (by omega), Page.flag_setFlag _ _ _ _ (by omega), if_pos rfl]

/-- The state with page k lost to flash, before what waits for it is told (08_memory_tiers R280). -/
def State.mediaGone (s : State) (k : Nat) : State := (s.flashCount Ctr.mediaUe 1).modPage k Page.gone

theorem execT2PageRead_reads (hg : KMap.find s.pages k = some g) (hmoving : g.mstate = 1) (htier : g.tier = 2)
    (hup : s.flashUp = true) (hawake : s.asleep = false) (media : Nat) :
    execT2PageRead k media s =
      if media = 0 then .next (s.arrive k g g.dstSpot)
      else if media = 1 then
        let t := (s.flashCount Ctr.mediaCe 1).flashFault g.owner k 3
        .next ((if g.demand then t.count g.owner Ctr.stallT2medEvt 1 else t).arrive k g g.dstSpot)
      else .next ((s.mediaLost k g).flashFault g.owner k 5) := by
  simp only [execT2PageRead, hg]
  exact if_neg (by simp [hmoving, htier, hup, hawake])

theorem State.settle_idle (h : s.inflight = []) : s.settle = s := by
  unfold State.settle
  rw [h]
  rfl

theorem State.mediaMoves_idle (h : s.inflight = []) : s.mediaMoves k = s := by
  unfold State.mediaMoves
  rw [h]
  rfl

theorem State.mediaFails_idle (h : s.inflight = []) (hruns : s.runs = []) : s.mediaFails k = s := by
  unfold State.mediaFails
  dsimp only
  rw [h]
  show List.foldl _ s (s.runs.flatMap _) = s
  rw [hruns]
  rfl

/-- With nothing in flight and no run, a page lost to flash changes its entry and the counter alone. -/
theorem State.mediaLost_idle (h : s.inflight = []) (hruns : s.runs = []) (hkv : g.poolKv = false) :
    s.mediaLost k g = s.mediaGone k := by
  have hu : (if g.poolKv then (s.mediaGone k).loseBlocks (fun r => ((s.mediaGone k).blkPages r).contains k) else s.mediaGone k) =
      s.mediaGone k := if_neg (by simp [hkv])
  have hlost : s.mediaLost k g = (((if g.poolKv then (s.mediaGone k).loseBlocks (fun r => ((s.mediaGone k).blkPages r).contains k)
      else s.mediaGone k).mediaMoves k).mediaFails k).settle := rfl
  have hidle : (s.mediaGone k).inflight = [] := h
  rw [hlost, hu, State.mediaMoves_idle hidle, State.mediaFails_idle hidle hruns, State.settle_idle hidle]

theorem State.mediaGone_find (hg : KMap.find s.pages k = some g) : KMap.find (s.mediaGone k).pages k = some g.gone :=
  (KMap.find_mod_same ..).trans (congrArg _ hg)

@[simp] theorem State.done_runs (e : CmdE) (status result : Nat) : (s.done e status result).runs = s.runs := by
  obtain ⟨_, _, _, _, h, -⟩ := State.done_eq s e status result
  rw [h]

theorem State.endMove_runs (e : CmdE) (status : Nat) : (s.endMove e status).runs = s.runs := by
  unfold State.endMove
  exact State.done_runs ..

/-- A PAGE_MOVE that alone is in flight ends with MEDIA_ERROR when flash has lost its page. -/
theorem State.mediaLost_move {e : CmdE} (h : s.inflight = [e]) (hruns : s.runs = []) (hkv : g.poolKv = false)
    (hst : e.st = .running) (hopc : e.opc = 0x82) (hk : k ∈ e.aux) :
    s.mediaLost k g = (s.mediaGone k).endMove e Code.mediaError := by
  have hu : (if g.poolKv then (s.mediaGone k).loseBlocks (fun r => ((s.mediaGone k).blkPages r).contains k) else s.mediaGone k) =
      s.mediaGone k := if_neg (by simp [hkv])
  have hlost : s.mediaLost k g = (((if g.poolKv then (s.mediaGone k).loseBlocks (fun r => ((s.mediaGone k).blkPages r).contains k)
      else s.mediaGone k).mediaMoves k).mediaFails k).settle := rfl
  have hgone : (s.mediaGone k).inflight = [e] := h
  have hmoves : (s.mediaGone k).mediaMoves k = (s.mediaGone k).endMove e Code.mediaError := by
    unfold State.mediaMoves
    rw [hgone, List.filter_cons_of_pos (by simp [hst, hopc, hk])]
    rfl
  have hidle : ((s.mediaGone k).endMove e Code.mediaError).inflight = [] := by
    unfold State.endMove
    rw [State.done_inflight]
    show List.filter _ (s.mediaGone k).inflight = []
    simp [hgone]
  rw [hlost, hu, hmoves, State.mediaFails_idle hidle ((State.endMove_runs ..).trans hruns), State.settle_idle hidle]

end

/-! ## Rebuilds (08_memory_tiers R276) -/

section
variable {s : State} {k : Nat} {g : Page}

theorem execParityRebuild_rebuilds {x : Spot} (hg : KMap.find s.pages k = some g) (hrebuild : g.rebuild = true)
    (hfirst : (g.flag 0 && g.flag 1 && g.flag 3) = true ∨
      ∀ y ∈ s.pages, y.2.rebuild = true → (y.2.flag 0 && y.2.flag 1 && y.2.flag 3) = false)
    (hspot : s.pickSpot g.tier false (g.flag 5) = some x) :
    execParityRebuild k s = .next (({ s with fresh := s.fresh + 1 }.modPage k (fun v =>
      (s.copied { v with rebuild := false, remirror := v.remirror || (v.flag 1 && !v.flag 5) } x).setFlag 2 false)).count
        g.owner Ctr.parityReconPages 1) := by
  have hturn : (!(g.flag 0 && g.flag 1 && g.flag 3) &&
      s.pages.any (fun y => y.2.rebuild && (y.2.flag 0 && y.2.flag 1 && y.2.flag 3))) = false := by
    rw [Bool.and_eq_false_iff]
    refine hfirst.imp (fun hmine => by rw [hmine]; rfl) (fun hnone => List.any_eq_false.2 fun y hy hboth => ?_)
    obtain ⟨hre, hpin⟩ := Bool.and_eq_true_iff.1 hboth
    rw [hnone y hy hre] at hpin
    cases hpin
  simp only [execParityRebuild, hg, hrebuild, hturn, hspot, Bool.not_true, Bool.false_eq_true, if_false]

theorem execParityRebuild_regroups {x : Spot} (hg : KMap.find s.pages k = some g) (hwhole : g.rebuild = false)
    (hparity : g.flag 2 = true) (htier : g.tier < 2) (hstill : g.flag 4 = false)
    (hlost : s.stackLost.getD (g.frame % 8) false = true) (hspot : s.pickSpot g.tier true (g.flag 5) = some x) :
    execParityRebuild k s = .next ({ s with fresh := s.fresh + 1 }.modPage k (fun v => s.copied v x)) := by
  simp only [execParityRebuild, hg, hwhole, hparity, htier, hstill, hlost, hspot]
  rfl

/-- The third stack for a page's mirror (08_memory_tiers R276). -/
def State.thirdStack (s : State) (g : Page) : Option Nat :=
  (s.dies g.tier).find? (fun m => m ≠ g.die && !s.held g.tier m g.frame && !s.parityFrame g.tier m g.frame)

theorem execMirrorRebuild_mirrors {m : Nat} (hg : KMap.find s.pages k = some g) (hremirror : g.remirror = true)
    (hhere : g.flag 7 = false) (hthird : s.thirdStack g = some m) :
    execMirrorRebuild k s = .next (s.modPage k (fun v => ({ v with
      remirror := false, mirrorDie := m, age := s.turn % 2 ^ 48 }).setFlag 5 true)).settle := by
  unfold State.thirdStack at hthird
  simp only [execMirrorRebuild, hg, hremirror, hhere, hthird, Bool.not_true, Bool.or_self, Bool.false_eq_true, if_false]

theorem execMirrorRebuild_moves {t : State} {x : Spot} (hg : KMap.find s.pages k = some g) (hremirror : g.remirror = true)
    (hhere : g.flag 7 = false) (hthird : s.thirdStack g = none) (hplace : s.placeIn g.owner g.tier (g.flag 2) true .alloc = some (t, x)) :
    execMirrorRebuild k s =
      .next (t.modPage k (fun v => (t.copied { v with remirror := false } x).setFlag 5 true)).settle := by
  unfold State.thirdStack at hthird
  simp only [execMirrorRebuild, hg, hremirror, hhere, hthird, hplace, Bool.not_true, Bool.or_self, Bool.false_eq_true, if_false]

end

/-- Settles O30: the place of an engine by `State.engineSpot_cases`, an arrival by what `State.settle` leaves of a page, lost data by the
commands and runs that wait for the page, and the rows by their conditions. -/
theorem migrationsSwitchWholeAndRebuild : Obligations.MigrationsSwitchWholeAndRebuild := by
  refine ⟨fun s k g hg hawake => ⟨fun t n y x => State.engineSpot_tier, fun t n y x => State.engineSpot_die, ?start, ?switch, ?arrive⟩,
    fun s k g hg => ⟨?flash, ?rebuild, ?regroup, ?mirror⟩⟩
  case start =>
    intro n hnext hup got
    exact ⟨fun t y x hgot => execMigrationStart_starts hnext hawake hup hgot, execMigrationStart_drops hnext hawake hup⟩
  case switch =>
    intro hmoving htier hup
    have ends := execMigrationSwitch_ends hg hawake hmoving htier hup
    refine ⟨ends false, fun hclean hdst => ?_, fun hclean hdst => ?_, fun hdirty hplain hrounds => ?_,
      fun hdirty hplain hrounds => ?_, fun hdirty p h htable => ?_⟩
    · exact (ends true).trans (by simp [hclean, hdst])
    · exact (ends true).trans (by simp [hclean, hdst])
    · exact (ends true).trans (by simp [hdirty, hplain, hrounds.not_ge])
    · exact (ends true).trans (by simp [hdirty, hplain, hrounds])
    · exact (ends true).trans (by simp [hdirty, htable])
  case arrive =>
    intro x
    obtain ⟨h, hfind, hstanding⟩ := s.arrive_find k g x
    simp only [Page.standing, Prod.mk.injEq] at hstanding
    obtain ⟨htier, hdie, hframe, hmstate, hage⟩ := hstanding
    exact ⟨h, hfind, htier, hdie, hframe, hmstate, fun hnone => hage.trans (State.arrivalAge_alone hnone),
      fun b hb => hage.trans (State.arrivalAge_batch hb), State.arrive_dev s k g x⟩
  case flash =>
    intro hmoving htier hup hawake
    have reads := execT2PageRead_reads hg hmoving htier hup hawake
    refine ⟨reads 0, fun hdemand => (reads 1).trans (by simp [hdemand]), fun hdemand => (reads 1).trans (by simp [hdemand]), reads 2,
      fun hidle hruns hkv => ?_, fun e hflight hruns hkv hst hopc hk => ?_⟩
    · rw [State.mediaLost_idle hidle hruns hkv]
      exact ⟨g.gone, State.mediaGone_find hg, g.gone_flags.1, g.gone_flags.2, rfl, fun j hj => KMap.find_mod_other _ _ hj, rfl, rfl⟩
    · exact (reads 2).trans (by rw [State.mediaLost_move hflight hruns hkv hst hopc hk]; rfl)
  case rebuild =>
    intro hrebuild hfirst hsome
    obtain ⟨x, hx⟩ := Option.isSome_iff_exists.1 hsome
    exact ⟨x, hx, execParityRebuild_rebuilds hg hrebuild hfirst hx⟩
  case regroup =>
    intro hwhole hparity htier hstill hlost hsome
    obtain ⟨x, hx⟩ := Option.isSome_iff_exists.1 hsome
    exact ⟨x, hx, execParityRebuild_regroups hg hwhole hparity htier hstill hlost hx⟩
  case mirror =>
    intro hremirror hhere third
    refine ⟨fun hsome => ?_, fun hnone hplace => ?_⟩
    · obtain ⟨m, hm⟩ := Option.isSome_iff_exists.1 hsome
      exact ⟨m, hm, execMirrorRebuild_mirrors hg hremirror hhere hm⟩
    · obtain ⟨⟨t, x⟩, ht⟩ := Option.isSome_iff_exists.1 hplace
      exact ⟨t, x, ht, execMirrorRebuild_moves hg hremirror hhere hnone ht⟩

end Sys2Proof.Machine
end

section
/-! Memories stay in canonical form, I (logs 3 and 4): the shared operations, doorbells and fetching, gangs, the pages of the tiers. -/

namespace Sys2Proof.Machine

/-- An outcome whose next state, where there is one, has its memories in canonical form. -/
def AnswersCanonical : Host.Outcome State Fault Refusal → Prop
  | .next t => t.canonical
  | .fault _ => True
  | .refused _ => True

section
open State
variable {s t : State}

/-- A row that names a fetched command keeps the form where the command's effect does. -/
theorem canonical_row (h : s.canonical) {r : Ref} {opc : Nat} {same : CmdE → Bool} {f : State → CmdE → State}
    (hf : ∀ u e, u.canonical → (f u e).canonical) : AnswersCanonical (s.command r opc same f) := by
  obtain ⟨t, ht⟩ := s.command_next r opc same f
  rw [ht]
  exact canonical_command h hf ht

/-! ## The shared operations -/

theorem State.canonical_modPart (h : s.canonical) {p : Nat} {f : Part → Part} : (s.modPart p f).canonical := h
theorem State.canonical_modQueue (h : s.canonical) {p q : Nat} {f : Queue → Queue} : (s.modQueue p q f).canonical := h
theorem State.canonical_modHead (h : s.canonical) {n : Nat} {f : Head → Head} : (s.modHead n f).canonical := h
theorem State.canonical_modTile (h : s.canonical) {n : Nat} {f : Tile → Tile} : (s.modTile n f).canonical := h
theorem State.canonical_modPage (h : s.canonical) {n : Nat} {f : Page → Page} : (s.modPage n f).canonical := h
theorem State.canonical_modSess (h : s.canonical) {n : Nat} {f : Session → Session} : (s.modSess n f).canonical := h
theorem State.canonical_count (h : s.canonical) {p c n : Nat} : (s.count p c n).canonical := h
theorem State.canonical_devCount (h : s.canonical) {c n : Nat} : (s.devCount c n).canonical := h
theorem State.canonical_powCount (h : s.canonical) {c n : Nat} : (s.powCount c n).canonical := h
theorem State.canonical_flashCount (h : s.canonical) {c n : Nat} : (s.flashCount c n).canonical := h
theorem State.canonical_headCount (h : s.canonical) {n c m : Nat} : (s.headCount n c m).canonical := h
theorem State.canonical_tileCount (h : s.canonical) {n c m : Nat} : (s.tileCount n c m).canonical := h
theorem State.canonical_convEvents (h : s.canonical) {n sat nan : Nat} : (s.convEvents n sat nan).canonical := h

theorem State.canonical_setCmd (h : s.canonical) {e : CmdE} : (s.setCmd e).canonical := h
theorem State.canonical_keep (h : s.canonical) {e : CmdE} : (s.keep e).canonical := h
theorem State.canonical_slotBack (h : s.canonical) {e : CmdE} : (s.slotBack e).canonical := h

theorem State.canonical_log (h : s.canonical) {cls ev part source : Nat} {payload : List Byte} :
    (s.log cls ev part source payload).canonical := by
  obtain ⟨m, hm⟩ := s.log_eq cls ev part source payload
  exact hm ▸ h

theorem State.canonical_logEv (h : s.canonical) {cls ev part source x y : Nat} : (s.logEv cls ev part source x y).canonical :=
  canonical_log h

theorem State.canonical_logFault (h : s.canonical) {kind domain tile part outcome seq addr detail : Nat} :
    (s.logFault kind domain tile part outcome seq addr detail).canonical := by
  obtain ⟨m, f, hm⟩ := s.logFault_eq kind domain tile part outcome seq addr detail
  exact hm ▸ h

theorem State.canonical_raise (h : s.canonical) {p v : Nat} : (s.raise p v).canonical := by
  obtain ⟨l, hl⟩ := s.raise_eq p v
  exact hl ▸ h

theorem State.canonical_due (h : s.canonical) {p v : Nat} : (s.due p v).canonical := by
  obtain ⟨l, hl⟩ := s.due_eq p v
  exact hl ▸ h

theorem State.canonical_platformEvent (h : s.canonical) {id : Nat} {v : Int} : (s.platformEvent id v).canonical := by
  obtain ⟨m, hm⟩ := s.platformEvent_eq id v
  exact hm ▸ h

theorem State.canonical_trigger (h : s.canonical) {src w : Nat} : (s.trigger src w).canonical := by
  obtain ⟨m, hm⟩ := s.trigger_eq src w
  exact hm ▸ h

theorem State.canonical_readPages (h : s.canonical) {p : Nat} {ks : List Nat} : (s.readPages p ks).canonical :=
  canonical_congr h (s.readPages_hostMem p ks) (s.readPages_dev p ks)

/-- Bytes of the DUA range written past the page table keep the form. -/
theorem State.canonical_writeDev (h : s.canonical) (a : Nat) (bs : List Byte) :
    State.canonical { s with dev := s.dev.writeN a bs } := ⟨h.1, Mem.writeN_wf h.2 _ _⟩

theorem State.canonical_stageOver (h : s.canonical) {e : CmdE} {n status result : Nat} :
    (s.stageOver e n status result).canonical := canonical_slotBack (canonical_post h _ _ _ _)

/-! ## Doorbells, fetching, queue reset (18_queues R561 to R580) -/

theorem State.canonical_doorbell (h : s.canonical) {p q word len value : Nat} : (s.doorbell p q word len value).canonical := by
  unfold State.doorbell
  dsimp only
  split_ifs
  · exact h
  · exact canonical_modQueue (canonical_logEv (canonical_count h))
  · exact h

theorem State.canonical_ring (h : s.canonical) {p q word len value : Nat} : (s.ring p q word len value).canonical := by
  unfold State.ring
  split
  · exact h
  · exact canonical_doorbell h

theorem execSqTail_canonical (h : s.canonical) {p q len : Nat} {v : BitVec 64} {cells : List Host.Cell} :
    AnswersCanonical (execSqTail p q len v cells s) := canonical_ring (s := { s with hostMem := _ }) ⟨Mem.foldl_write_wf h.1 _, h.2⟩

theorem execDescriptorFetch_canonical (h : s.canonical) {p q : Nat} : AnswersCanonical (execDescriptorFetch p q s) := by
  unfold execDescriptorFetch
  dsimp only
  split
  · exact h
  · split
    · exact h
    · refine canonical_reject (canonical_modQueue (canonical_count ?_)) _ _
      exact h

theorem execParameterBlockRead_canonical (h : s.canonical) {r : Ref} : AnswersCanonical (execParameterBlockRead r s) := by
  unfold execParameterBlockRead
  split
  · exact h
  · split
    · exact canonical_reject h _ _
    · next hread =>
      have ht := canonical_readBuf h hread
      dsimp only
      split
      · exact ht
      · exact canonical_reject ht _ _

theorem execOrderedStart_canonical (h : s.canonical) {r : Ref} : AnswersCanonical (execOrderedStart r s) := by
  unfold execOrderedStart
  split
  · exact h
  · split <;> exact h

theorem State.canonical_readFails (h : s.canonical) {p q : Nat} {cid : Option Nat} {status : Nat} :
    (s.readFails p q cid status).canonical := by
  unfold State.readFails
  split
  · unfold State.fetchFails
    split
    · exact h
    · exact canonical_logEv (canonical_raise (canonical_count (canonical_modQueue h)))
  · split
    · exact h
    · exact canonical_reject h _ _

theorem execCqHead_canonical (h : s.canonical) {p q len : Nat} {v : BitVec 64} : AnswersCanonical (execCqHead p q len v s) :=
  canonical_ring h
theorem execStrHead_canonical (h : s.canonical) {p q len : Nat} {v : BitVec 64} : AnswersCanonical (execStrHead p q len v s) :=
  canonical_ring h
theorem execHostReadTimeout_canonical (h : s.canonical) {p q : Nat} {c : Option Nat} :
    AnswersCanonical (execHostReadTimeout p q c s) := canonical_readFails h
theorem execHostReadError_canonical (h : s.canonical) {p q : Nat} {c : Option Nat} {k : ReadErr} :
    AnswersCanonical (execHostReadError p q c k s) := canonical_readFails h

theorem State.canonical_abort (h : s.canonical) {p : CmdE → Bool} {status : Nat} : (s.abort p status).canonical :=
  canonical_foldl (fun _ _ hu => canonical_done hu _ _ _) _ h

theorem State.canonical_cancelAt (h : s.canonical) {p : Nat → Session → Bool} {tb : Nat} : (s.cancelAt p tb).canonical := h

theorem execQueueReset_canonical (h : s.canonical) {r : Ref} {a : HArgs} : AnswersCanonical (execQueueReset r a s) :=
  canonical_row h fun _ _ hu => canonical_checked hu _ _ (canonical_keep (canonical_modQueue (canonical_cancelAt (canonical_abort hu))))

theorem execQueueResetDone_canonical (h : s.canonical) {p q : Nat} : AnswersCanonical (execQueueResetDone p q s) := by
  have ht : ∀ n m, (((s.modQueue p q (fun v => { v.cleared .enabled with ptbReset := 0, aborted := 0 })).count
      p Ctr.queueResets n).raise p m).canonical := fun n m => canonical_raise (canonical_count (canonical_modQueue h))
  unfold execQueueResetDone
  dsimp only
  split
  · exact h
  · split
    · exact ht ..
    · exact canonical_done (ht ..) _ _ _

theorem execDisablePendingClear_canonical (h : s.canonical) {p : Nat} {q : Option Nat} :
    AnswersCanonical (execDisablePendingClear p q s) := by
  unfold execDisablePendingClear
  split <;> dsimp only <;> split
  · exact h
  · exact canonical_raise (canonical_modPart h)
  · exact h
  · exact canonical_raise (canonical_modQueue h)

/-! ## Gangs (16_scheduling R514 to R531) -/

theorem State.canonical_raiseShare (h : s.canonical) {p : Nat} : (s.raiseShare p).canonical := by
  unfold State.raiseShare
  split
  · exact h
  · split <;> exact h

theorem State.canonical_addTask (h : s.canonical) {p g : Nat} {w : Work} : (s.addTask p w g).2.canonical :=
  canonical_raiseShare (p := p) h

theorem State.canonical_charge (h : s.canonical) {p n : Nat} : (s.charge p n).canonical := h
theorem State.canonical_freeTiles (h : s.canonical) {n : Nat} : (s.freeTiles n).canonical := h

theorem State.canonical_quietTiles (h : s.canonical) {l : List Nat} : (s.quietTiles l).canonical :=
  canonical_foldl (fun _ _ hu => canonical_modTile hu) _ h

theorem State.canonical_holdTiles (h : s.canonical) {l : List Nat} {i image : Nat} : (s.holdTiles l i image).canonical :=
  canonical_foldl (fun _ _ hu => canonical_modTile hu) _ h

theorem State.canonical_endTask (h : s.canonical) {n : Nat} : (s.endTask n).canonical := by
  unfold State.endTask
  split <;> exact h

theorem State.canonical_endTasks (h : s.canonical) {p : Nat} : (s.endTasks p).canonical :=
  canonical_foldl (fun _ _ hu => canonical_endTask hu) _ h

theorem State.canonical_assign (h : s.canonical) {n pos : Nat} {k : Task} {gang : List Nat} : (s.assign n k pos gang).canonical := by
  have ht : ∀ f : State → Nat → State, (∀ u i, u.canonical → (f u i).canonical) → (gang.foldl f s).canonical :=
    fun f hf => canonical_foldl hf gang h
  unfold State.assign
  dsimp only
  split_ifs <;> exact ht _ fun _ _ hu => canonical_modTile hu

theorem execTaskPlace_canonical (h : s.canonical) {n : Nat} : AnswersCanonical (execTaskPlace n s) := by
  unfold execTaskPlace
  split
  · exact h
  · split
    · exact h
    · split
      · exact h
      · split_ifs
        · exact h
        · exact h
        · exact canonical_assign h

theorem execAffinityQueueJoin_canonical (h : s.canonical) {n : Nat} {l : List Nat} :
    AnswersCanonical (execAffinityQueueJoin n l s) := by
  unfold execAffinityQueueJoin
  split
  · exact h
  · dsimp only
    split <;> exact h

theorem execTileRelease_canonical (h : s.canonical) {n m : Nat} : AnswersCanonical (execTileRelease n m s) := by
  unfold execTileRelease
  split
  · exact h
  · split
    · exact h
    · dsimp only
      split
      · exact h
      · exact canonical_endTask (canonical_freeTiles (canonical_charge h))

theorem execTileZeroing_canonical (h : s.canonical) {n : Nat} : AnswersCanonical (execTileZeroing n s) := by
  unfold execTileZeroing
  split <;> exact h

theorem State.canonical_preempt (h : s.canonical) {n : Nat} {k : Task} : (s.preempt n k).canonical := by
  unfold State.preempt
  split
  · split <;> exact h
  · split <;> exact h

theorem State.canonical_preemption (h : s.canonical) : s.preemption.canonical := by
  unfold State.preemption
  dsimp only
  split
  · exact h
  · split
    · exact h
    · exact canonical_count (canonical_foldl (fun _ _ hu => canonical_preempt hu) _ h)

theorem State.canonical_preemptAll (h : s.canonical) : s.preemptAll.canonical :=
  canonical_foldl (fun _ _ hu => canonical_preempt hu) _ h

theorem execSaveComplete_canonical (h : s.canonical) {n : Nat} : AnswersCanonical (execSaveComplete n s) := by
  unfold execSaveComplete
  split
  · exact h
  · split <;> exact h

theorem execRestoreComplete_canonical (h : s.canonical) {n : Nat} : AnswersCanonical (execRestoreComplete n s) := by
  have ht : ∀ {α : Type} (l : List α) f, (∀ u i, u.canonical → (f u i).canonical) → (l.foldl f s).canonical :=
    fun l f hf => canonical_foldl hf l h
  unfold execRestoreComplete
  split
  · exact h
  · split
    · exact h
    · exact ht _ _ fun _ _ hu => canonical_modTile hu

theorem execRegulatorPiece_canonical (h : s.canonical) {p n m : Nat} {path : RegPath} :
    AnswersCanonical (execRegulatorPiece p path n m s) := by
  unfold execRegulatorPiece
  dsimp only
  split_ifs <;> exact h

end
end Sys2Proof.Machine
end

section
/-! Memories stay in canonical form, II: placements and evictions, migrations, the page commands, extents and flash upkeep, the blocks of
KV pools. -/

namespace Sys2Proof.Machine

section
open State
variable {s t : State}

/-- A change of state that may fail, repeated over a list, keeps the form where each does. -/
theorem canonical_bindAll {α : Type} {f : State → α → Option State} (hf : ∀ u x v, u.canonical → f u x = some v → v.canonical)
    {l : List α} (h : s.canonical) (ht : l.foldl (fun o x => o.bind (fun u => f u x)) (some s) = some t) : t.canonical := by
  have hkeep : ∀ (l : List α) (o : Option State), (∀ u, o = some u → u.canonical) →
      ∀ v, l.foldl (fun o x => o.bind (fun u => f u x)) o = some v → v.canonical := by
    intro l
    induction l with
    | nil => exact fun o ho => ho
    | cons x l ih =>
      refine fun o ho => ih _ fun v hv => ?_
      obtain ⟨u, hu, hfu⟩ := Option.bind_eq_some_iff.1 hv
      exact hf u x v (ho u hu) hfu
  exact hkeep l (some s) (fun u hu => Option.some.inj hu ▸ h) t ht

/-! ## Placement and eviction (08_memory_tiers R256 to R259) -/

theorem State.canonical_freePages (h : s.canonical) {k n : Nat} : (s.freePages k n).canonical := ⟨h.1, Mem.clear_wf h.2 _ _⟩

theorem State.canonical_chainPages (h : s.canonical) {c : Chain} : (s.chainPages c).canonical :=
  canonical_foldl (fun _ _ hu => canonical_freePages hu) _ h

theorem State.canonical_dropBlock (h : s.canonical) {p m b : Nat} : (s.dropBlock p m b).canonical := by
  unfold State.dropBlock
  split
  · exact h
  · exact canonical_foldl (fun _ _ hu => canonical_freePages hu) _ (canonical_modPart h)

theorem State.canonical_pageOutSpot (h : s.canonical) {x : Spot} (ht : s.pageOutSpot = some (x, t)) : t.canonical := by
  obtain ⟨-, ps, n, rfl⟩ := State.pageOutSpot_spec ht
  exact h

theorem State.canonical_evictT1 (h : s.canonical) {e : Nat × Page} (ht : s.evictT1 e = some t) : t.canonical := by
  have hd : ∀ f : State → Nat × Nat × Nat → State, (∀ u b, u.canonical → (f u b).canonical) → ((s.cachedOn e.1).foldl f s).canonical :=
    fun f hf => canonical_foldl hf _ h
  have hd := hd (fun a b => a.dropBlock b.1 b.2.1 b.2.2) fun _ _ hu => canonical_dropBlock hu
  unfold State.evictT1 at ht
  dsimp only at ht
  split_ifs at ht
  · exact Option.some.inj ht ▸ hd
  · exact Option.some.inj ht ▸ hd
  · obtain ⟨x, hx, rfl⟩ := Option.map_eq_some_iff.1 ht
    exact (canonical_pageOutSpot hd hx :)

theorem State.canonical_roomT1 {n p : Nat} {parity mirror : Bool} {why : Want} (h : s.canonical)
    (ht : s.roomT1 n p parity mirror why = some t) : t.canonical := by
  induction n generalizing s with
  | zero => cases ht
  | succ n ih =>
    rw [State.roomT1] at ht
    split at ht
    · exact Option.some.inj ht ▸ h
    · split at ht
      · cases ht
      · obtain ⟨u, hu, hroom⟩ := Option.bind_eq_some_iff.1 ht
        exact ih (canonical_evictT1 h hu) hroom

theorem State.canonical_toT1 (h : s.canonical) {e : Nat × Page} {why : Want} (ht : s.toT1 e why = some t) : t.canonical := by
  obtain ⟨u, hu, hspot⟩ := Option.bind_eq_some_iff.1 ht
  obtain ⟨x, -, rfl⟩ := Option.map_eq_some_iff.1 hspot
  exact (canonical_roomT1 h hu :)

theorem State.canonical_evictT0 (h : s.canonical) {e : Nat × Page} {why : Want} (ht : s.evictT0 e why = some t) : t.canonical := by
  obtain ⟨u, hu, rfl⟩ := Option.map_eq_some_iff.1 ht
  exact canonical_count (canonical_toT1 h hu)

theorem State.canonical_roomT0 {n p : Nat} {parity mirror : Bool} {why : Want} (h : s.canonical)
    (ht : s.roomT0 n p parity mirror why = some t) : t.canonical := by
  induction n generalizing s with
  | zero => cases ht
  | succ n ih =>
    rw [State.roomT0] at ht
    split at ht
    · exact Option.some.inj ht ▸ h
    · split at ht
      · cases ht
      · obtain ⟨u, hu, hroom⟩ := Option.bind_eq_some_iff.1 ht
        exact ih (canonical_evictT0 h hu) hroom

theorem State.canonical_placeIn (h : s.canonical) {p tier : Nat} {parity mirror : Bool} {why : Want} {x : Spot}
    (ht : s.placeIn p tier parity mirror why = some (t, x)) : t.canonical := by
  unfold State.placeIn at ht
  split at ht
  · cases ht
  obtain ⟨u, hroom, hu⟩ := Option.bind_eq_some_iff.1 ht
  have hcanon : u.canonical := by
    split at hroom
    · exact canonical_roomT0 h hroom
    · exact canonical_roomT1 h hroom
    · split at hroom
      · cases hroom
      · exact Option.some.inj hroom ▸ h
  split at hu
  · obtain ⟨y, -, he⟩ := Option.map_eq_some_iff.1 hu
    exact (Prod.mk.inj he).1 ▸ hcanon
  · obtain ⟨⟨y, v⟩, hy, he⟩ := Option.map_eq_some_iff.1 hu
    exact (Prod.mk.inj he).1 ▸ canonical_pageOutSpot hcanon hy

theorem State.canonical_place (h : s.canonical) {p tier : Nat} {parity mirror mayT2 : Bool} {why : Want} {x : Spot}
    (ht : s.place p tier parity mirror mayT2 why = some (t, x)) : t.canonical := by
  obtain ⟨n, -, hplace⟩ := List.exists_of_findSome?_eq_some ht
  exact canonical_placeIn h hplace

theorem State.canonical_allocPage (h : s.canonical) {p k tier : Nat} {flags : BitVec 16} (ht : s.allocPage p k tier flags = some t) :
    t.canonical := by
  obtain ⟨⟨u, x⟩, hplace, rfl⟩ := Option.map_eq_some_iff.1 ht
  exact (canonical_place h hplace :)

theorem State.canonical_allocRun {n p k tier : Nat} {flags : BitVec 16} (h : s.canonical)
    (ht : s.allocRun n p k tier flags = some t) : t.canonical := by
  induction n generalizing s k with
  | zero => exact Option.some.inj ht ▸ h
  | succ n ih =>
    obtain ⟨u, hu, hrun⟩ := Option.bind_eq_some_iff.1 ht
    exact ih (canonical_allocPage h hu) hrun

theorem State.canonical_alloc (h : s.canonical) {p n tier k : Nat} {flags : BitVec 16} (ht : s.alloc p n tier flags = some (k, t)) :
    t.canonical := by
  obtain ⟨j, -, hj⟩ := Option.bind_eq_some_iff.1 ht
  obtain ⟨u, hu, he⟩ := Option.map_eq_some_iff.1 hj
  exact (Prod.mk.inj he).2 ▸ canonical_allocRun (by exact h) hu

/-! ## Migration (08_memory_tiers R261 to R266) -/

theorem State.canonical_endMove (h : s.canonical) {e : CmdE} {status : Nat} : (s.endMove e status).canonical :=
  canonical_done (canonical_modPart (by exact h)) _ _ _

theorem State.canonical_settle (h : s.canonical) : s.settle.canonical := by
  refine canonical_foldl (fun u e hu => ?_) _ h
  dsimp only
  split
  · exact hu
  · exact canonical_endMove hu

theorem State.canonical_arrive (h : s.canonical) {k : Nat} {g : Page} {x : Spot} : (s.arrive k g x).canonical := by
  obtain ⟨ps, harrive⟩ := s.arrive_eq k g x
  exact harrive ▸ canonical_settle (by exact h)

theorem State.canonical_thrash (h : s.canonical) {u : State} {g : Page} : (s.thrash u g).canonical := by
  unfold State.thrash
  split <;> exact h

theorem State.canonical_demand (h : s.canonical) {b : Nat} {ks : List Nat} (ht : s.demand b ks = some t) : t.canonical := by
  unfold State.demand at ht
  split at ht
  · cases ht
  · exact Option.some.inj ht ▸ canonical_foldl (fun _ _ hu => canonical_modPage hu) _ h

theorem State.canonical_hold (h : s.canonical) {e : CmdE} {ks : List Nat} (ht : s.hold e ks = some t) : t.canonical := by
  obtain ⟨u, hu, rfl⟩ := Option.map_eq_some_iff.1 ht
  have hcanon := canonical_demand h hu
  refine canonical_setCmd ?_
  split <;> exact hcanon

theorem State.canonical_abandon (h : s.canonical) {k : Nat} {g : Page} : (s.abandon k g).canonical :=
  canonical_settle (canonical_count (canonical_modPage h))

theorem State.canonical_prefetch (h : s.canonical) {p b : Nat} {ks : List Nat} {dl : Nat × Nat} : (s.prefetch p b ks dl).canonical := by
  refine canonical_foldl (fun u k hu => ?_) _ h
  split
  · exact hu
  · split <;> exact hu

theorem execMigrationStart_canonical (h : s.canonical) {n : Nat} : AnswersCanonical (execMigrationStart n s) := by
  unfold execMigrationStart
  split
  · exact h
  · dsimp only
    split
    · exact h
    · split
      · split <;> exact h
      · next hplace =>
        have hcanon := canonical_placeIn h hplace
        split
        · exact h
        · exact canonical_modPage (canonical_thrash hcanon)

theorem execMigrationSwitch_canonical (h : s.canonical) {k : Nat} {ok : Bool} : AnswersCanonical (execMigrationSwitch k ok s) := by
  unfold execMigrationSwitch
  split
  · exact h
  · split
    · exact h
    · split
      · exact canonical_abandon h
      · split
        · split <;> exact h
        · split
          · split
            · exact canonical_abandon h
            · exact h
          · refine canonical_arrive ?_
            split <;> exact h

theorem execParityRebuild_canonical (h : s.canonical) {k : Nat} : AnswersCanonical (execParityRebuild k s) := by
  unfold execParityRebuild
  dsimp only
  split
  · exact h
  · split
    · split
      · exact h
      · split <;> exact h
    · split
      · exact h
      · split <;> exact h

theorem execMirrorRebuild_canonical (h : s.canonical) {k : Nat} : AnswersCanonical (execMirrorRebuild k s) := by
  unfold execMirrorRebuild
  split
  · exact h
  · split
    · exact h
    · split
      · split
        · exact h
        · next hplace => exact canonical_settle (canonical_modPage (canonical_placeIn h hplace))
      · exact canonical_settle (canonical_modPage h)

/-! ## The page commands (08_memory_tiers R272 to R275, R284) -/

theorem State.canonical_moveAll (h : s.canonical) {e : CmdE} {ks : List Nat} {need : Page → Bool} {tier : Page → Nat} :
    (s.moveAll e ks need tier).canonical := by
  refine canonical_settle (canonical_keep (canonical_foldl (fun u k hu => ?_) _ h))
  split
  · exact hu
  · split <;> exact hu

theorem State.canonical_mapPage (h : s.canonical) {k : Nat} (ht : s.mapPage k = some t) : t.canonical := by
  unfold State.mapPage at ht
  split at ht
  · cases ht
  · dsimp only at ht
    split at ht
    · exact Option.some.inj ht ▸ h
    · split at ht
      · split at ht
        · cases ht
        · exact Option.some.inj ht ▸ h
      · obtain ⟨⟨u, x⟩, hplace, rfl⟩ := Option.map_eq_some_iff.1 ht
        exact (canonical_placeIn h hplace :)

theorem State.canonical_rewrite (h : s.canonical) {ks : List Nat} (ht : s.rewrite ks = some t) : t.canonical := by
  refine canonical_bindAll (fun u k v hu hv => ?_) h ht
  split at hv
  · exact Option.some.inj hv ▸ hu
  · split at hv
    · exact Option.some.inj hv ▸ hu
    · obtain ⟨⟨w, x⟩, hplace, rfl⟩ := Option.map_eq_some_iff.1 hv
      have hw := canonical_placeIn hu hplace
      dsimp only
      split <;> exact hw

theorem execPageAlloc_canonical (h : s.canonical) {r : Ref} {a : MArgs} : AnswersCanonical (execPageAlloc r a s) := by
  refine canonical_row h fun u e hu => canonical_checked hu _ _ ?_
  split
  · exact canonical_reject hu _ _
  · next halloc => exact canonical_done (canonical_alloc hu halloc) _ _ _

theorem execPageFree_canonical (h : s.canonical) {r : Ref} {a : MArgs} : AnswersCanonical (execPageFree r a s) :=
  canonical_row h fun _ _ hu => canonical_checked hu _ _ (canonical_keep hu)

theorem execPageFreeComplete_canonical (h : s.canonical) {r : Ref} : AnswersCanonical (execPageFreeComplete r s) := by
  unfold execPageFreeComplete
  split
  · exact h
  · split
    · exact h
    · exact canonical_done (canonical_foldl (fun _ _ hu => canonical_freePages hu) _ h) _ _ _

theorem execPageMove_canonical (h : s.canonical) {r : Ref} {a : MArgs} : AnswersCanonical (execPageMove r a s) :=
  canonical_row h fun _ _ hu => canonical_checked hu _ _ (canonical_moveAll hu)

theorem execPagePin_canonical (h : s.canonical) {r : Ref} {a : MArgs} : AnswersCanonical (execPagePin r a s) :=
  canonical_row h fun _ _ hu => canonical_checked hu _ _ (canonical_moveAll hu)

theorem execPageUnpin_canonical (h : s.canonical) {r : Ref} {a : MArgs} : AnswersCanonical (execPageUnpin r a s) :=
  canonical_row h fun _ _ hu => canonical_checked hu _ _
    (canonical_done (canonical_foldl (fun _ _ hv => canonical_modPage hv) _ hu) _ _ _)

theorem execHdmMap_canonical (h : s.canonical) {r : Ref} {a : MArgs} : AnswersCanonical (execHdmMap r a s) := by
  refine canonical_row h fun u e hu => canonical_checked hu _ _ ?_
  dsimp only
  split
  · exact canonical_reject hu _ _
  · next hmap => exact canonical_moveAll (canonical_modPart (canonical_bindAll (fun _ _ _ hv => canonical_mapPage hv) hu hmap))

theorem execHdmUnmap_canonical (h : s.canonical) {r : Ref} {a : MArgs} : AnswersCanonical (execHdmUnmap r a s) :=
  canonical_row h fun _ _ hu => canonical_checked hu _ _
    (canonical_done (canonical_modPart (canonical_foldl (fun _ _ hv => canonical_modPage hv) _ hu)) _ _ _)

theorem execPageWrite_canonical (h : s.canonical) {r : Ref} {a : MArgs} : AnswersCanonical (execPageWrite r a s) := by
  refine canonical_row h fun u e hu => canonical_checked hu _ _ ?_
  split
  · exact canonical_reject hu _ _
  · next hread =>
    split
    · exact canonical_reject hu _ _
    · next hrewrite => exact canonical_done (canonical_devPut (canonical_rewrite (canonical_readBuf hu hread) hrewrite) _ _) _ _ _

/-- A command's output written, and the command done, keeps the form; so does the command rejected. -/
theorem canonical_output (h : s.canonical) (hu : t.canonical) {e : CmdE} {p : Nat} {dua : Bool} {a : Nat} {bs : List Byte}
    {f : State → State} (hf : ∀ v, v.canonical → (f v).canonical) :
    State.canonical (match t.writeBuf p dua a bs with | .error c => s.reject e c | .ok v => f v) := by
  split
  · exact canonical_reject h _ _
  · next hwrite => exact hf _ (canonical_writeBuf hu hwrite)

theorem execPageRead_canonical (h : s.canonical) {r : Ref} {a : MArgs} : AnswersCanonical (execPageRead r a s) :=
  canonical_row h fun _ _ hu => canonical_checked hu _ _
    (canonical_output hu (canonical_readPages hu) fun _ hv => canonical_done hv _ _ _)

theorem execTierQuery_canonical (h : s.canonical) {r : Ref} {a : MArgs} : AnswersCanonical (execTierQuery r a s) :=
  canonical_row h fun _ _ hu => canonical_checked hu _ _ (canonical_output hu hu fun _ hv => canonical_done hv _ _ _)

theorem execPoolStats_canonical (h : s.canonical) {r : Ref} {a : QArgs} : AnswersCanonical (execPoolStats r a s) :=
  canonical_row h fun _ _ hu => canonical_answer hu _ _ _

/-! ## Extents and flash (08_memory_tiers R278 to R284) -/

theorem execExtentCreate_canonical (h : s.canonical) {r : Ref} {a : EArgs} : AnswersCanonical (execExtentCreate r a s) :=
  canonical_row h fun _ _ hu => canonical_checked hu _ _ (canonical_done (by exact hu) _ _ _)

theorem execExtentWrite_canonical (h : s.canonical) {r : Ref} {a : EArgs} : AnswersCanonical (execExtentWrite r a s) := by
  refine canonical_row h fun u e hu => canonical_checked hu _ _ ?_
  dsimp only
  split
  · exact canonical_reject hu _ _
  · next hread => exact canonical_keep (by exact (canonical_readBuf hu hread :))

theorem execExtentCommit_canonical (h : s.canonical) {x : Nat} : AnswersCanonical (execExtentCommit x s) := by
  unfold execExtentCommit
  split
  · exact h
  · split
    · exact h
    · split
      · exact h
      · dsimp only
        split
        · exact h
        · exact canonical_done (canonical_flashCount (canonical_flashCount (by exact h))) _ _ _

theorem execExtentRead_canonical (h : s.canonical) {r : Ref} {a : EArgs} : AnswersCanonical (execExtentRead r a s) :=
  canonical_row h fun _ _ hu => canonical_checked hu _ _ (canonical_output hu hu fun _ hv => canonical_done hv _ _ _)

theorem execExtentDelete_canonical (h : s.canonical) {r : Ref} {a : EArgs} : AnswersCanonical (execExtentDelete r a s) :=
  canonical_row h fun _ _ hu => canonical_checked hu _ _ (canonical_done (by exact hu) _ _ _)

theorem execFlashHealth_canonical (h : s.canonical) {r : Ref} {a : QArgs} : AnswersCanonical (execFlashHealth r a s) :=
  canonical_row h fun _ _ hu => canonical_answer hu _ _ _

theorem execFlashRefresh_canonical (h : s.canonical) {n m : Nat} : AnswersCanonical (execFlashRefresh n m s) := by
  unfold execFlashRefresh
  split <;> exact h

theorem execPatrolRead_canonical (h : s.canonical) {b : Bool} : AnswersCanonical (execPatrolRead b s) := by
  show State.canonical (if _ then _ else _)
  split <;> exact h

theorem State.canonical_maintain (h : s.canonical) {m : Nat} : (s.maintain m).canonical := by
  unfold State.maintain
  split
  · exact h
  · exact canonical_logEv (canonical_platformEvent (by exact h))

theorem execTierReadonly_canonical (h : s.canonical) {n : Nat} : AnswersCanonical (execTierReadonly n s) := by
  unfold execTierReadonly
  dsimp only
  split
  · exact canonical_maintain (by exact h)
  · exact h

/-! ## KV pools (13_serving R434 to R438, R457) -/

theorem State.canonical_openPool (h : s.canonical) {p m n : Nat} {im : Image} (ht : s.openPool p m n im = some t) : t.canonical := by
  unfold State.openPool at ht
  split at ht
  · exact Option.some.inj ht ▸ h
  · refine canonical_bindAll (fun u e v hu hv => ?_) (by exact h) ht
    obtain ⟨k, -, rfl⟩ := Option.map_eq_some_iff.1 hv
    exact hu

theorem State.canonical_modBlk (h : s.canonical) {r : BlkRef} {f : KvBlk → KvBlk} : (s.modBlk r f).canonical := h

theorem State.canonical_kvPage (h : s.canonical) {p k st : Nat} (ht : s.kvPage p k st = some t) : t.canonical := by
  unfold State.kvPage at ht
  dsimp only at ht
  split at ht
  · exact Option.some.inj ht ▸ h
  · obtain ⟨u, hu, rfl⟩ := Option.map_eq_some_iff.1 ht
    exact canonical_modPage (canonical_allocPage h hu)

theorem State.canonical_kvPagesAt (h : s.canonical) {p st : Nat} {ks : List Nat} (ht : s.kvPagesAt p st ks = some t) : t.canonical := by
  refine canonical_bindAll (fun u k v hu hv => ?_) h ht
  split at hv
  · exact Option.some.inj hv ▸ hu
  · exact canonical_kvPage hu hv

theorem State.canonical_takeBlock {n p m st : Nat} (h : s.canonical) : (s.takeBlock n p m st).1.canonical := by
  induction n generalizing s with
  | zero => exact h
  | succ n ih =>
    have again : ∀ l : List BlkRef, State.canonical (match s.oldest l with
        | none => (s, none)
        | some r => (s.dropBlock r.1 r.2.1 r.2.2).takeBlock n p m st).1 := by
      intro l
      split
      · exact h
      · exact ih (canonical_dropBlock h)
    rw [State.takeBlock]
    split
    · exact h
    · dsimp only
      split
      · exact again _
      · split
        · exact again _
        · next hpages => exact canonical_modPart (canonical_kvPagesAt h hpages)

theorem State.canonical_unref (h : s.canonical) {r : BlkRef} : (s.unref r).canonical := by
  unfold State.unref
  split
  · exact h
  · split
    · exact canonical_dropBlock h
    · exact h

theorem State.canonical_unrefAll (h : s.canonical) {l : List BlkRef} : (s.unrefAll l).canonical :=
  canonical_foldl (fun _ _ hu => canonical_unref hu) _ h

theorem State.canonical_takeBlocks (h : s.canonical) {p m st n : Nat} : (s.takeBlocks p m st n).1.canonical := by
  induction n with
  | zero => exact h
  | succ n ih =>
    rw [State.takeBlocks]
    split
    · exact ih
    · split
      · next htake => exact (htake ▸ canonical_takeBlock ih :)
      · next htake => exact canonical_unrefAll (htake ▸ canonical_takeBlock ih :)

theorem State.canonical_lookupHits {dom : Nat} {l : List Nat} (h : s.canonical) : (s.lookupHits dom l).1.canonical := by
  induction l generalizing s with
  | nil => exact h
  | cons x l ih =>
    rw [State.lookupHits]
    split
    · exact h
    · exact ih (canonical_modBlk h)

theorem State.canonical_lookupTable (h : s.canonical) {v : Session} {image glaze full last : Nat} {toks : List Nat}
    {table : List BlkRef} : (s.lookupTable v image glaze toks table full last).1.canonical := by
  unfold State.lookupTable
  dsimp only
  split
  · exact h
  · exact canonical_unrefAll (canonical_lookupHits h)

theorem State.canonical_insertHash (h : s.canonical) {p hash : Nat} {r : BlkRef} : (s.insertHash p r hash).canonical := by
  unfold State.insertHash
  dsimp only
  split
  · split <;> exact h
  · split
    · exact h
    · split
      · exact h
      · next hroom =>
        refine canonical_modBlk ?_
        unfold State.indexRoom at hroom
        split at hroom
        · exact Option.some.inj hroom ▸ h
        · obtain ⟨q, -, rfl⟩ := Option.map_eq_some_iff.1 hroom
          exact canonical_dropBlock h

theorem State.canonical_sealBlock (h : s.canonical) {r : BlkRef} : (s.sealBlock r).canonical := by
  unfold State.sealBlock
  split
  · exact h
  · split
    · exact h
    · exact canonical_devCount (canonical_foldl (fun _ _ hu => canonical_modPage hu) _ (canonical_modBlk h))

theorem State.canonical_parityBlock (h : s.canonical) {r : BlkRef} : (s.parityBlock r).canonical := by
  refine canonical_modBlk (canonical_foldl (fun u k hu => ?_) _ h)
  dsimp only
  split
  · exact hu
  · split <;> exact hu

theorem State.canonical_parityDue (h : s.canonical) : s.parityDue.canonical :=
  canonical_foldl (fun _ _ hu => canonical_parityBlock hu) _ h

theorem State.canonical_fillBlocks (h : s.canonical) {v : Session} {image glaze n m : Nat} {toks : List Nat} {table : List BlkRef} :
    (s.fillBlocks v image glaze toks table n m).canonical := by
  refine canonical_foldl (fun u i hu => ?_) _ h
  dsimp only
  split
  · exact hu
  · refine canonical_sealBlock ?_
    split
    · exact hu
    · exact canonical_insertHash hu

theorem State.canonical_sweepPool (h : s.canonical) {p m : Nat} : (s.sweepPool p m).canonical := by
  unfold State.sweepPool
  split
  · exact h
  · split
    · exact h
    · exact canonical_modPart (canonical_foldl (fun _ _ hu => canonical_dropBlock hu) _ h)

theorem State.canonical_freeSession (h : s.canonical) {i : Nat} : (s.freeSession i).canonical := by
  unfold State.freeSession
  split
  · exact h
  · exact canonical_sweepPool (canonical_sweepPool (canonical_unrefAll (canonical_unrefAll (by exact h))))

theorem State.canonical_cutTable (h : s.canonical) {lost : BlkRef → Bool} {l : List BlkRef} : (s.cutTable lost l).1.canonical :=
  canonical_unrefAll (canonical_foldl (fun _ _ hu => canonical_modBlk hu) _ h)

theorem State.canonical_cutSession (h : s.canonical) {lost : BlkRef → Bool} {i : Nat} : (s.cutSession lost i).canonical := by
  have hcut : ∀ l m, ((s.cutTable lost l).1.cutTable lost m).1.canonical := fun l m => canonical_cutTable (canonical_cutTable h)
  unfold State.cutSession
  split
  · exact h
  · split
    · exact h
    · dsimp only
      split_ifs <;> exact hcut _ _

theorem State.canonical_loseBlocks (h : s.canonical) {lost : BlkRef → Bool} : (s.loseBlocks lost).canonical :=
  canonical_foldl (fun _ _ hu => canonical_cutSession hu) _ (canonical_foldl (fun _ _ hu => canonical_dropBlock hu) _ h)

end
end Sys2Proof.Machine
end

section
/-! Memories stay in canonical form, III (logs 3 and 4): registers, the CXL links and the fabric, the system's commands. -/

namespace Sys2Proof.Machine

section
open State
variable {s t : State}

theorem State.canonical_ite {c : Prop} [Decidable c] (hs : s.canonical) (ht : t.canonical) : (if c then s else t).canonical := by
  split
  · exact hs
  · exact ht

/-! ## Registers (24_external_interfaces, 04_partitions) -/

theorem State.canonical_writeQueue (h : s.canonical) {p q b off : Nat} {ws : RegWrites} : (s.writeQueue p q b ws off).canonical := by
  unfold State.writeQueue
  dsimp only
  split
  · split_ifs <;> exact h
  · exact h

theorem State.canonical_writeDoorbell (h : s.canonical) {p off : Nat} {ws : RegWrites} : (s.writeDoorbell p ws off).canonical := by
  unfold State.writeDoorbell
  dsimp only
  split_ifs <;> exact h

theorem State.canonical_writeWheel (h : s.canonical) {p off : Nat} {ws : RegWrites} : (s.writeWheel p ws off).canonical := by
  unfold State.writeWheel
  dsimp only
  split_ifs <;> exact h

theorem State.canonical_writeTier (h : s.canonical) {p off : Nat} {ws : RegWrites} : (s.writeTier p ws off).canonical := by
  unfold State.writeTier
  dsimp only
  split_ifs <;> exact h

theorem State.canonical_writeCone (h : s.canonical) {p off : Nat} {ws : RegWrites} : (s.writeCone p ws off).canonical := by
  unfold State.writeCone
  dsimp only
  split
  · exact h
  · split
    · exact h
    · have ht : ∀ m, State.canonical { s with mgmt := m } := fun _ => h
      split_ifs
      · exact canonical_trigger (ht _)
      · exact canonical_trigger h
      · exact h
      · exact h

theorem State.canonical_writeGlobal (h : s.canonical) {off : Nat} {ws : RegWrites} : (s.writeGlobal ws off).canonical := by
  unfold State.writeGlobal
  dsimp only
  split_ifs <;> exact h

theorem State.canonical_disablePart (h : s.canonical) {p : Nat} : (s.disablePart p).canonical := by
  unfold State.disablePart
  dsimp only
  split <;> exact h

theorem State.canonical_writeSlot (h : s.canonical) {p b off : Nat} {ws : RegWrites} : (s.writeSlot p b ws off).canonical := by
  unfold State.writeSlot
  dsimp only
  split
  · exact canonical_ite h (canonical_ite h (canonical_ite (canonical_disablePart (canonical_modPart h)) h))
  · exact h

theorem State.canonical_applyWrite (h : s.canonical) {p off : Nat} {ws : RegWrites} : (s.applyWrite p ws off).canonical :=
  canonical_ite h <| canonical_ite h <| canonical_ite h <| canonical_ite (canonical_ite h h) <|
  canonical_ite (canonical_writeQueue h) <| canonical_ite (canonical_writeDoorbell h) <| canonical_ite (canonical_writeWheel h) <|
  canonical_ite (canonical_writeTier h) <| canonical_ite h <| canonical_ite (canonical_writeCone h) <|
  canonical_ite (canonical_writeGlobal h) (canonical_writeSlot h)

theorem State.canonical_barWrite (h : s.canonical) {p off size value : Nat} : (s.barWrite p off size value).canonical := by
  unfold State.barWrite
  split
  · exact h
  · dsimp only
    split
    · exact h
    · exact canonical_applyWrite (canonical_modPart h)

theorem execRegisterWrite_canonical (h : s.canonical) {p off size : Nat} {v : BitVec 64} :
    AnswersCanonical (execRegisterWrite p off size v s) := canonical_barWrite h

theorem execRefuseLogClear_canonical (h : s.canonical) {p : Nat} {v : Word} : AnswersCanonical (execRefuseLogClear p v s) :=
  canonical_barWrite h

theorem execQueueEnable_canonical (h : s.canonical) {p q : Nat} {v : Word} : AnswersCanonical (execQueueEnable p q v s) :=
  canonical_ite (canonical_barWrite h) h
theorem execQueueDisable_canonical (h : s.canonical) {p q : Nat} {v : Word} : AnswersCanonical (execQueueDisable p q v s) :=
  canonical_ite (canonical_barWrite h) h
theorem execPartitionEnable_canonical (h : s.canonical) {p q : Nat} {v : Word} : AnswersCanonical (execPartitionEnable p q v s) :=
  canonical_ite (canonical_barWrite h) h
theorem execPartitionDisable_canonical (h : s.canonical) {p q : Nat} {v : Word} : AnswersCanonical (execPartitionDisable p q v s) :=
  canonical_ite (canonical_barWrite h) h
theorem execConeFire_canonical (h : s.canonical) {p : Nat} {v : Word} : AnswersCanonical (execConeFire p v s) := canonical_barWrite h

/-! ## The CXL links and the host's window (17_links, 08_memory_tiers R267) -/

theorem execLinkTraining_canonical (h : s.canonical) {n : Nat} {a : TrainArgs} : AnswersCanonical (execLinkTraining n a s) := by
  unfold execLinkTraining
  split
  · exact h
  · split
    · exact h
    · have ht : ∀ f, (s.modHead n f).canonical := fun _ => canonical_modHead h
      exact canonical_ite (canonical_logEv (canonical_ite (canonical_logEv (ht _)) (ht _)))
        (canonical_ite (canonical_logEv (ht _)) (ht _))

theorem execLaneExcluded_canonical (h : s.canonical) {n l : Nat} : AnswersCanonical (execLaneExcluded n l s) := by
  have ht : ∀ f a b c d, (((s.modHead n f).headCount n a 1).logEv b c 0xFF n d 0).canonical :=
    fun _ _ _ _ _ => canonical_logEv (canonical_headCount (canonical_modHead h))
  unfold execLaneExcluded
  dsimp only
  split
  · exact h
  · dsimp only [AnswersCanonical]
    split
    · exact canonical_headCount (ht ..)
    · exact ht ..

theorem execLinkRecovery_canonical (h : s.canonical) {n m : Nat} {f : FlitCounts} {l : List (List Nat)} :
    AnswersCanonical (execLinkRecovery n f m l s) := by
  unfold execLinkRecovery
  dsimp only
  split
  · exact h
  · refine canonical_headCount (canonical_headCount (canonical_headCount (canonical_modHead ?_)))
    split <;> exact h

theorem execIdeFailure_canonical (h : s.canonical) {n : Nat} : AnswersCanonical (execIdeFailure n s) := by
  unfold execIdeFailure
  dsimp only
  split
  · exact h
  · exact canonical_logEv (canonical_headCount (canonical_modHead h))

theorem execViral_canonical (h : s.canonical) {n : Nat} : AnswersCanonical (execViral n s) := by
  unfold execViral
  split
  · exact h
  · exact canonical_logEv (canonical_foldl (fun _ _ hu => canonical_disablePart hu) _ h)

theorem State.canonical_memEvent (h : s.canonical) {p k o : Nat} {c : Option Nat} : (s.memEvent p k o c).canonical := by
  cases c with
  | none => exact canonical_ite h (canonical_modPart (canonical_logEv h))
  | some i => exact canonical_ite (canonical_count h) (canonical_modPart (canonical_logEv (canonical_count h)))

theorem State.canonical_poisoned (h : s.canonical) {p : Nat} : (s.poisoned p).canonical := h

theorem execCxlMemRead_canonical (h : s.canonical) {p off len : Nat} : AnswersCanonical (execCxlMemRead p off len s) := by
  unfold execCxlMemRead
  dsimp only
  split
  · exact h
  · split
    · exact h
    · split
      · exact h
      · split
        · split
          · exact canonical_modPart (canonical_memEvent (canonical_poisoned h))
          · exact (canonical_readPages h :)
        · exact canonical_memEvent (canonical_poisoned h)

theorem execCxlMemWrite_canonical (h : s.canonical) {p off : Nat} {d : List Byte} : AnswersCanonical (execCxlMemWrite p off d s) := by
  unfold execCxlMemWrite
  dsimp only
  split
  · exact h
  · split
    · split <;> exact canonical_doorbell h
    · split
      · split
        · exact canonical_memEvent h
        · split
          · exact h
          · refine canonical_foldl (fun u e hu => ?_) _ h
            split
            · exact hu
            · exact canonical_devPut hu _ _
      · exact canonical_memEvent h

theorem execHdmDecoderCommit_canonical (h : s.canonical) {p n : Nat} : AnswersCanonical (execHdmDecoderCommit p n s) := by
  unfold execHdmDecoderCommit
  split <;> exact h

/-! ## The mailbox and the fabric manager's commands (17_links) -/

theorem canonical_mailbox (h : s.canonical) {p : Nat} {f : Unit → State} (hf : (f ()).canonical) : AnswersCanonical (s.mailbox p f) := by
  unfold State.mailbox
  split_ifs
  · exact h
  · exact h
  · exact hf

theorem State.canonical_answers (h : s.canonical) {k : Nat} {l : List Nat} : (s.answers k l).canonical := h

theorem execIdentifyMemoryDevice_canonical (h : s.canonical) {p : Nat} : AnswersCanonical (execIdentifyMemoryDevice p s) :=
  canonical_mailbox h (canonical_answers h)
theorem execGetSupportedLogs_canonical (h : s.canonical) {p : Nat} : AnswersCanonical (execGetSupportedLogs p s) :=
  canonical_mailbox h (canonical_answers h)
theorem execGetLog_canonical (h : s.canonical) {p : Nat} : AnswersCanonical (execGetLog p s) :=
  canonical_mailbox h (canonical_answers h)
theorem execGetEventRecords_canonical (h : s.canonical) {p : Nat} : AnswersCanonical (execGetEventRecords p s) :=
  canonical_mailbox h (canonical_answers h)
theorem execClearEventRecords_canonical (h : s.canonical) {p : Nat} : AnswersCanonical (execClearEventRecords p s) :=
  canonical_mailbox h (canonical_answers (canonical_modPart h))
theorem execGetHealthInfo_canonical (h : s.canonical) {p : Nat} : AnswersCanonical (execGetHealthInfo p s) :=
  canonical_mailbox h (canonical_answers h)
theorem execGetPoisonList_canonical (h : s.canonical) {p : Nat} : AnswersCanonical (execGetPoisonList p s) :=
  canonical_mailbox h (canonical_answers h)

theorem execMailboxUnsupported_canonical (h : s.canonical) {p n : Nat} : AnswersCanonical (execMailboxUnsupported p n s) := by
  refine canonical_mailbox h ?_
  split <;> exact h

theorem canonical_fm (h : s.canonical) {f : Unit → State} (hf : (f ()).canonical) : AnswersCanonical (s.fm f) := by
  unfold State.fm
  split_ifs
  · exact hf
  · exact h

theorem execFmIdentify_canonical (h : s.canonical) : AnswersCanonical (execFmIdentify s) := canonical_fm h (canonical_answers h)
theorem execGetLdInfo_canonical (h : s.canonical) : AnswersCanonical (execGetLdInfo s) := canonical_fm h (canonical_answers h)
theorem execGetLdAllocations_canonical (h : s.canonical) : AnswersCanonical (execGetLdAllocations s) :=
  canonical_fm h (canonical_answers h)

theorem execSetLdAllocations_canonical (h : s.canonical) {n : Nat} {l : List Nat} : AnswersCanonical (execSetLdAllocations n l s) := by
  refine canonical_fm h ?_
  dsimp only
  split
  · exact h
  · split
    · exact h
    · exact canonical_answers (canonical_foldl (fun _ _ hu => canonical_modPart hu) _ h)

theorem execGetQosControl_canonical (h : s.canonical) {n : Nat} : AnswersCanonical (execGetQosControl n s) :=
  canonical_fm h (canonical_answers h)

theorem execSetQosControl_canonical (h : s.canonical) {n m k : Nat} : AnswersCanonical (execSetQosControl n m k s) := by
  refine canonical_fm h ?_
  split <;> exact h

theorem execGetQosStatus_canonical (h : s.canonical) {n : Nat} : AnswersCanonical (execGetQosStatus n s) := by
  refine canonical_fm h ?_
  split <;> exact h

theorem execGetQosAllocatedBw_canonical (h : s.canonical) {n : Nat} : AnswersCanonical (execGetQosAllocatedBw n s) := by
  refine canonical_fm h ?_
  split <;> exact h

theorem State.canonical_setRegs (h : s.canonical) {op reg first : Nat} {vals : List Nat} {f : Part → Nat → PendingRegs} :
    (s.setRegs op reg first vals f).canonical := by
  unfold State.setRegs
  dsimp only
  split
  · exact h
  · split
    · exact h
    · exact canonical_answers (canonical_foldl (fun _ _ hu => canonical_modPart hu) _ h)

theorem execSetQosAllocatedBw_canonical (h : s.canonical) {n m : Nat} {l : List Nat} :
    AnswersCanonical (execSetQosAllocatedBw n m l s) := canonical_fm h (canonical_setRegs h)

theorem execGetQosBwLimit_canonical (h : s.canonical) {n : Nat} : AnswersCanonical (execGetQosBwLimit n s) := by
  refine canonical_fm h ?_
  split <;> exact h

theorem execSetQosBwLimit_canonical (h : s.canonical) {n m : Nat} {l : List Nat} :
    AnswersCanonical (execSetQosBwLimit n m l s) := canonical_fm h (canonical_setRegs h)

theorem execGetMultiHeadedInfo_canonical (h : s.canonical) : AnswersCanonical (execGetMultiHeadedInfo s) :=
  canonical_fm h (canonical_answers h)
theorem execGetHeadInfo_canonical (h : s.canonical) : AnswersCanonical (execGetHeadInfo s) := canonical_fm h (canonical_answers h)

/-! ## The system's commands (18_queues R588, 20_management) -/

theorem execIdentify_canonical (h : s.canonical) {r : Ref} {a : QArgs} : AnswersCanonical (execIdentify r a s) :=
  canonical_row h fun _ _ hu => canonical_checked hu _ _ (canonical_answer hu _ _ _)
theorem execCounterQuery_canonical (h : s.canonical) {r : Ref} {a : QArgs} : AnswersCanonical (execCounterQuery r a s) :=
  canonical_row h fun _ _ hu => canonical_checked hu _ _ (canonical_answer hu _ _ _)
theorem execDiagQuery_canonical (h : s.canonical) {r : Ref} {a : QArgs} : AnswersCanonical (execDiagQuery r a s) :=
  canonical_row h fun _ _ hu => canonical_checked hu _ _ (canonical_answer hu _ _ _)
theorem execLinkQuery_canonical (h : s.canonical) {r : Ref} {a : QArgs} : AnswersCanonical (execLinkQuery r a s) :=
  canonical_row h fun _ _ hu => canonical_checked hu _ _ (canonical_answer hu _ _ _)

theorem execConeProgram_canonical (h : s.canonical) {r : Ref} {a : ConeArgs} : AnswersCanonical (execConeProgram r a s) := by
  refine canonical_row h fun u e hu => ?_
  dsimp only
  split
  · split
    · exact canonical_reject hu _ _
    · exact canonical_done (canonical_modPart hu) _ _ _
  · refine canonical_checked hu _ _ ?_
    split
    · exact canonical_reject hu _ _
    · exact canonical_done (canonical_modPart hu) _ _ _

theorem execProgrammedTrigger_canonical (h : s.canonical) {p n : Nat} : AnswersCanonical (execProgrammedTrigger p n s) := by
  unfold execProgrammedTrigger
  split
  · exact h
  · split
    · exact h
    · exact canonical_trigger (by exact h)

theorem execConeIn_canonical (h : s.canonical) {n : Nat} : AnswersCanonical (execConeIn n s) := by
  dsimp only [execConeIn, AnswersCanonical]
  split
  · exact canonical_trigger h
  · exact h

theorem execSnapshotStore_canonical (h : s.canonical) : AnswersCanonical (execSnapshotStore s) := by
  dsimp only [execSnapshotStore, AnswersCanonical]
  split
  · exact canonical_logEv (by exact h)
  · exact h

theorem execSnapshotRead_canonical (h : s.canonical) {r : Ref} {a : QArgs} : AnswersCanonical (execSnapshotRead r a s) := by
  refine canonical_row h fun u e hu => ?_
  split
  · exact canonical_reject hu _ _
  · exact canonical_answer hu _ _ _

theorem execLogRead_canonical (h : s.canonical) {r : Ref} {a : LogArgs} : AnswersCanonical (execLogRead r a s) := by
  refine canonical_row h fun u e hu => ?_
  dsimp only
  split
  · exact canonical_done (canonical_count hu) _ _ _
  · split
    · exact canonical_done hu _ _ _
    · exact canonical_output hu hu fun _ hv => canonical_done hv _ _ _

theorem execLogFlush_canonical (h : s.canonical) : AnswersCanonical (execLogFlush s) := by
  unfold execLogFlush
  dsimp only
  split <;> exact h

theorem execTimeSet_canonical (h : s.canonical) {r : Ref} {n : Nat} : AnswersCanonical (execTimeSet r n s) :=
  canonical_row h fun _ _ hu => canonical_checked hu _ _ (canonical_keep (by exact hu))

end
end Sys2Proof.Machine
end

section
/-! Memories stay in canonical form, IV (logs 3 and 4): power, security, start-up and resets, memory errors. -/

namespace Sys2Proof.Machine

section
open State
variable {s t : State}

/-! ## Power and cooling (22_power) -/

theorem execPowerSet_canonical (h : s.canonical) {r : Ref} {n : Nat} : AnswersCanonical (execPowerSet r n s) := by
  refine canonical_row h fun u e hu => canonical_checked hu _ _ ?_
  have hkeep : ∀ p x, State.canonical { u.keep x with power := p } := fun _ x => canonical_keep (e := x) hu
  extract_lets t
  split
  · exact canonical_ite (hkeep _ _) (canonical_ite (canonical_keep hu) (hkeep _ _))
  · exact canonical_ite (canonical_done hu _ _ _) (canonical_ite (hkeep _ _) (hkeep _ _))

theorem State.canonical_powerDone (h : s.canonical) {x : Nat} : (s.powerDone x).canonical :=
  canonical_foldl (fun _ _ hu => canonical_done hu _ _ _) _ h

theorem State.canonical_enterState (h : s.canonical) {x : Nat} : (s.enterState x).canonical :=
  canonical_powerDone (canonical_platformEvent (canonical_powCount (by exact h)))

theorem execQuiescence_canonical (h : s.canonical) : AnswersCanonical (execQuiescence s) := by
  unfold execQuiescence
  dsimp only
  split <;> exact h

theorem State.canonical_evacuate {l : List (Nat × Page)} (h : s.canonical) : (State.evacuate l s).1.canonical := by
  induction l generalizing s with
  | nil => exact h
  | cons e l ih =>
    rw [State.evacuate]
    split
    · next hmove => exact ih (canonical_toT1 h hmove)
    · exact ih h

theorem State.canonical_endMoves (h : s.canonical) : s.endMoves.canonical := by
  refine canonical_foldl (fun u e hu => ?_) _ h
  split
  · exact hu
  · exact canonical_ite hu (canonical_ite (canonical_abandon hu) (canonical_ite (canonical_arrive hu) hu))

theorem execT0Evacuation_canonical (h : s.canonical) : AnswersCanonical (execT0Evacuation s) := by
  unfold execT0Evacuation
  extract_lets w m r
  have hr : r.1.canonical := canonical_evacuate (canonical_endMoves h)
  split
  · exact h
  · split
    · exact hr
    · exact canonical_logEv (canonical_powCount (by exact hr))

theorem State.canonical_emptyTiles (h : s.canonical) : s.emptyTiles.canonical := h

theorem execPowerStateEntry_canonical (h : s.canonical) : AnswersCanonical (execPowerStateEntry s) := by
  have ht : ∀ p, State.canonical { s with power := p } := fun _ => h
  unfold execPowerStateEntry
  dsimp only
  split
  · exact h
  · exact canonical_enterState (canonical_ite (canonical_emptyTiles (ht _)) (ht _))

theorem execPowerStateExit_canonical (h : s.canonical) : AnswersCanonical (execPowerStateExit s) := by
  unfold execPowerStateExit
  extract_lets w t _ _ u
  have hu : u.canonical := canonical_enterState (canonical_ite (by exact h) (by exact h))
  split
  · exact h
  · split <;> exact hu

theorem State.canonical_withhold (h : s.canonical) {l : List Nat} : (s.withhold l).canonical := by
  refine canonical_foldl (fun u e hu => ?_) _ h
  exact canonical_ite hu (canonical_foldl (fun _ _ hv => canonical_tileCount hv) _ hu)

theorem execGovernorStep_canonical (h : s.canonical) {l m : List Nat} : AnswersCanonical (execGovernorStep l m s) :=
  canonical_powCount (canonical_withhold (by exact h))

theorem execCurrentClamp_canonical (h : s.canonical) : AnswersCanonical (execCurrentClamp s) := by
  unfold execCurrentClamp
  split <;> exact h
theorem execClampHoldEnd_canonical (h : s.canonical) : AnswersCanonical (execClampHoldEnd s) := by
  unfold execClampHoldEnd
  split <;> exact h
theorem execClampRelease_canonical (h : s.canonical) : AnswersCanonical (execClampRelease s) := by
  unfold execClampRelease
  split <;> exact h
theorem execSustainedLimit_canonical (h : s.canonical) : AnswersCanonical (execSustainedLimit s) := by
  unfold execSustainedLimit
  split <;> exact h
theorem execSustainedLimitRelease_canonical (h : s.canonical) : AnswersCanonical (execSustainedLimitRelease s) := h

theorem execDieHot_canonical (h : s.canonical) {n : Nat} {l : List Int} : AnswersCanonical (execDieHot n l s) := by
  unfold execDieHot
  dsimp only
  split_ifs <;> exact h

theorem execInputLow_canonical (h : s.canonical) {b : Bool} : AnswersCanonical (execInputLow b s) := by
  unfold execInputLow
  dsimp only
  split
  · exact canonical_logEv (by exact h)
  · exact h

theorem execInputLoss_canonical (h : s.canonical) : AnswersCanonical (execInputLoss s) := h
theorem execInputOvervoltage_canonical (h : s.canonical) : AnswersCanonical (execInputOvervoltage s) := h

theorem State.canonical_setSensor (h : s.canonical) {id : Nat} {v : Sensor} : (s.setSensor id v).canonical := by
  unfold State.setSensor
  extract_lets x _ t u n
  have ht : t.canonical := h
  have hu : u.canonical := canonical_ite (canonical_platformEvent ht) ht
  split <;> exact hu

theorem State.canonical_coolantLimit (h : s.canonical) {old : State} : (old.coolantLimit s).canonical := by
  have hlog : ∀ {b : Prop} [Decidable b] {u : State} {x y : Nat}, u.canonical →
      (if b then u.logEv 7 3 0xFF x y 0 else u).canonical := fun hu => canonical_ite (canonical_logEv hu) hu
  have hkeep : ∀ {b : Prop} [Decidable b] {u : State} {x : Nat}, u.canonical →
      (if b then u.maintain x else u).canonical := fun hu => canonical_ite (canonical_maintain hu) hu
  exact hlog (hkeep (hlog (by exact h)))

theorem State.canonical_sensorActs (h : s.canonical) {old : State} {id : Nat} : (old.sensorActs s id).canonical :=
  canonical_ite (canonical_ite (canonical_maintain (canonical_logEv h)) h) (canonical_ite (canonical_coolantLimit h) h)

theorem execSensorSample_canonical (h : s.canonical) {n : Nat} {v : Int} : AnswersCanonical (execSensorSample n v s) := by
  unfold execSensorSample
  split
  · exact h
  · split
    · exact h
    · dsimp only
      split
      · split
        · exact canonical_setSensor h
        · exact canonical_sensorActs (canonical_logEv (canonical_powCount (canonical_setSensor h)))
      · refine canonical_sensorActs (canonical_setSensor ?_)
        split <;> exact h

theorem execSensorStale_canonical (h : s.canonical) {n : Nat} : AnswersCanonical (execSensorStale n s) := by
  unfold execSensorStale
  dsimp only
  split
  · exact h
  · exact canonical_sensorActs (canonical_logEv (canonical_powCount (canonical_setSensor h)))

/-! ## Security (23_security) -/

theorem State.canonical_measure (h : s.canonical) {i ev : Nat} {d : List Byte} : (s.measure i ev d).canonical := h
theorem State.canonical_endSpdm (h : s.canonical) : s.endSpdm.canonical := h
theorem State.canonical_erase (h : s.canonical) : s.erase.canonical := h

theorem State.canonical_alarmAt (h : s.canonical) {src level : Nat} : (s.alarmAt src level).canonical := by
  unfold State.alarmAt
  extract_lets _ t u
  have ht : t.canonical := canonical_logEv (by exact h)
  have hu : u.canonical := canonical_ite (canonical_platformEvent ht) ht
  exact canonical_ite (canonical_erase hu) (canonical_ite (by exact hu) hu)

theorem execAlarm_canonical (h : s.canonical) {a : AlarmSource} {b : Bool} : AnswersCanonical (execAlarm a b s) := by
  unfold execAlarm
  split
  · exact h
  · exact canonical_alarmAt h

theorem execDebugChallenge_canonical (h : s.canonical) : AnswersCanonical (execDebugChallenge s) := by
  unfold execDebugChallenge
  split <;> exact h

theorem State.canonical_unlock (h : s.canonical) {n : Nat} : (s.unlock n).canonical := by
  unfold State.unlock
  extract_lets _ t u
  have hu : u.canonical := canonical_ite (canonical_endSpdm (canonical_logEv (by exact h))) (canonical_logEv (by exact h))
  split <;> exact hu

theorem execDebugResponse_canonical (h : s.canonical) {n : Nat} {l : List Byte} : AnswersCanonical (execDebugResponse n l s) := by
  unfold execDebugResponse
  split
  · exact h
  · dsimp only
    split
    · exact h
    · split
      · exact canonical_unlock (by exact h)
      · split
        · exact canonical_alarmAt (by exact h)
        · exact h

theorem State.canonical_spdmError (h : s.canonical) {n : Nat} : (s.spdmError n).canonical := h
theorem State.canonical_spdmAnswer (h : s.canonical) {n : Nat} {l : List Nat} {bs : List Byte} : (s.spdmAnswer n l bs).canonical := h

theorem canonical_spdm (h : s.canonical) {p n : Nat} {f : Part → State} (hf : ∀ v, (f v).canonical) :
    AnswersCanonical (s.spdm p n f) := by
  unfold State.spdm
  split_ifs
  · exact h
  · exact h
  · exact hf _

theorem execGetVersion_canonical (h : s.canonical) {p : Nat} : AnswersCanonical (execGetVersion p s) :=
  canonical_spdm h fun _ => canonical_spdmAnswer (canonical_modPart h)
theorem execGetCapabilities_canonical (h : s.canonical) {p : Nat} : AnswersCanonical (execGetCapabilities p s) :=
  canonical_spdm h fun _ => canonical_spdmAnswer (canonical_modPart h)
theorem execNegotiateAlgorithms_canonical (h : s.canonical) {p : Nat} {b : Bool} : AnswersCanonical (execNegotiateAlgorithms p b s) :=
  canonical_spdm h fun _ => canonical_ite (canonical_spdmError h) (canonical_spdmAnswer (canonical_modPart h))
theorem execGetDigests_canonical (h : s.canonical) {p : Nat} : AnswersCanonical (execGetDigests p s) :=
  canonical_spdm h fun _ => canonical_spdmAnswer h

theorem execGetCertificate_canonical (h : s.canonical) {p n : Nat} : AnswersCanonical (execGetCertificate p n s) := by
  refine canonical_spdm h fun _ => ?_
  split <;> exact h

theorem execChallenge_canonical (h : s.canonical) {p : Nat} {l : List Byte} : AnswersCanonical (execChallenge p l s) :=
  canonical_spdm h fun _ => canonical_ite (canonical_spdmError h) (canonical_spdmAnswer h)
theorem execGetMeasurements_canonical (h : s.canonical) {p n : Nat} {b : Bool} : AnswersCanonical (execGetMeasurements p n b s) :=
  canonical_spdm h fun _ => canonical_ite (canonical_spdmError h) (canonical_spdmAnswer h)
theorem execKeyExchange_canonical (h : s.canonical) {p : Nat} {l : List Byte} : AnswersCanonical (execKeyExchange p l s) :=
  canonical_spdm h fun _ => canonical_ite (canonical_spdmError h) (canonical_spdmAnswer (by exact h))
theorem execFinish_canonical (h : s.canonical) {p : Nat} {b : Bool} : AnswersCanonical (execFinish p b s) :=
  canonical_spdm h fun _ => canonical_ite (canonical_spdmError h)
    (canonical_ite (canonical_spdmAnswer (canonical_modPart h)) (canonical_spdmError (canonical_modPart h)))
theorem execEndSession_canonical (h : s.canonical) {p : Nat} : AnswersCanonical (execEndSession p s) :=
  canonical_spdm h fun _ => canonical_spdmAnswer (canonical_modPart h)
theorem execHeartbeat_canonical (h : s.canonical) {p : Nat} : AnswersCanonical (execHeartbeat p s) :=
  canonical_spdm h fun _ => canonical_spdmAnswer h
theorem execKeyUpdate_canonical (h : s.canonical) {p : Nat} : AnswersCanonical (execKeyUpdate p s) :=
  canonical_spdm h fun _ => canonical_spdmAnswer (canonical_modPart h)
theorem execIdeKm_canonical (h : s.canonical) {p : Nat} {b c : Bool} : AnswersCanonical (execIdeKm p b c s) :=
  canonical_spdm h fun _ => canonical_ite (canonical_spdmError h) (canonical_spdmAnswer (canonical_modHead h))
theorem execTrustGet_canonical (h : s.canonical) {p : Nat} : AnswersCanonical (execTrustGet p s) :=
  canonical_spdm h fun _ => canonical_spdmAnswer h
theorem execTrustSet_canonical (h : s.canonical) {p n : Nat} {l : List (List Byte)} {g : List Byte} :
    AnswersCanonical (execTrustSet p n l g s) :=
  canonical_spdm h fun _ => canonical_ite (canonical_spdmError h) (canonical_spdmAnswer (canonical_modPart h))
theorem execKeyRotate_canonical (h : s.canonical) {p : Nat} : AnswersCanonical (execKeyRotate p s) :=
  canonical_spdm h fun _ => canonical_ite (canonical_spdmError h) (canonical_spdmAnswer (canonical_modPart h))

/-! ## Start-up and resets (25_module) -/

/-- The reset's DUA range is empty, and host memory stays. -/
theorem State.canonical_cold (h : s.canonical) : s.cold.canonical := ⟨h.1, rfl⟩
theorem State.canonical_warm (h : s.canonical) : s.warm.canonical := ⟨h.1, rfl⟩

theorem execColdStart_canonical (h : s.canonical) {a b : Bool} : AnswersCanonical (execColdStart a b s) := by
  have hfault : ∀ {u : State}, u.canonical → (if u.recovery then u.logFault 5 0xFF 0xFFFF 0xFF 5 0 0 0 else u).canonical :=
    fun hu => canonical_ite (canonical_logFault hu) hu
  have halarm : ∀ {c : Bool} {u : State} {i n : Nat}, u.canonical → (if c then u else u.alarmAt i n).canonical :=
    fun hu => canonical_ite hu (canonical_alarmAt hu)
  unfold execColdStart
  split
  · exact h
  · exact halarm (halarm (hfault (canonical_measure (canonical_measure (canonical_cold h)))))

theorem execFirmwareVerify_canonical (h : s.canonical) {n : Nat} : AnswersCanonical (execFirmwareVerify n s) := by
  unfold execFirmwareVerify
  extract_lets cs c
  split
  · exact h
  · split
    · exact canonical_logFault (by exact h)
    · next v slot _ =>
      extract_lets t cs' _ u w
      have hu : u.canonical := canonical_logEv (by exact h)
      exact (canonical_ite (canonical_logEv hu) hu : w.canonical)

theorem execFtlMount_canonical (h : s.canonical) : AnswersCanonical (execFtlMount s) := by
  unfold execFtlMount
  split <;> exact h

theorem State.canonical_leaveOut (h : s.canonical) {d : Nat} : (s.leaveOut d).canonical :=
  canonical_logFault (canonical_devCount (by exact h))

theorem execHbmTraining_canonical (h : s.canonical) {l : List Nat} : AnswersCanonical (execHbmTraining l s) := by
  unfold execHbmTraining
  split
  · exact h
  · exact (canonical_foldl (fun u d hu => canonical_leaveOut hu) _ h :)

theorem State.canonical_retire (h : s.canonical) {tier die f : Nat} : (s.retire tier die f).canonical :=
  canonical_ite h (canonical_logFault (canonical_devCount (by exact h)))

theorem execT0March_canonical (h : s.canonical) {l : List (Nat × Nat)} : AnswersCanonical (execT0March l s) := by
  have hretire : ∀ l : List (Nat × Nat), (l.foldl (fun (t : State) e => t.retire 0 e.1 e.2) s).canonical :=
    fun l => canonical_foldl (fun _ _ hu => canonical_retire hu) _ h
  have hleave : ∀ {u : State}, u.canonical → ∀ l : List Nat, (l.foldl (fun (t : State) d => t.leaveOut (8 + d)) u).canonical :=
    fun hu l => canonical_foldl (fun _ _ hv => canonical_leaveOut hv) _ hu
  unfold execT0March
  dsimp only
  split
  · exact h
  · exact (hleave (hretire _) _ :)

theorem State.canonical_degrade (h : s.canonical) : s.degrade.canonical :=
  canonical_ite h (canonical_ite (canonical_platformEvent (by exact h)) (by exact h))

theorem State.canonical_quarantine (h : s.canonical) {l : List Nat} : (s.quarantine l).canonical := by
  have ht : ∀ {l : List Nat} {n : Nat}, ((l.foldl (fun (a : State) t => a.modTile t (fun v => { v with quarantined := true })) s).devCount
      Ctr.tilesQuarantined n).canonical := canonical_devCount (canonical_foldl (fun _ _ hu => canonical_modTile hu) _ h)
  exact canonical_ite ht (canonical_degrade ht)

theorem execTileBist_canonical (h : s.canonical) {l m : List Nat} : AnswersCanonical (execTileBist l m s) := by
  have hlog : ∀ {u : State} (l : List Nat), u.canonical → (l.foldl (fun (a : State) t => a.logFault 3 (t / 128) t 0xFF 5 0 0 0) u).canonical :=
    fun _ hu => canonical_foldl (fun _ _ hv => canonical_logFault hv) _ hu
  have hdie : ∀ {u : State} (l : List Nat), u.canonical →
      (l.foldl (fun (a : State) d => (a.leaveOut d).quarantine ((List.range 128).map (fun i => 128 * d + i))) u).canonical :=
    fun _ hu => canonical_foldl (fun _ _ hv => canonical_quarantine (canonical_leaveOut hv)) _ hu
  unfold execTileBist
  dsimp only
  split
  · exact h
  · exact (hdie _ (hlog _ (canonical_quarantine h)) :)

theorem State.canonical_writeFloors (h : s.canonical) : s.writeFloors.canonical :=
  canonical_ite h (canonical_foldl (fun _ _ hu => canonical_logEv hu) _ (by exact h))

theorem execReady_canonical (h : s.canonical) {b : Bool} : AnswersCanonical (execReady b s) := by
  unfold execReady
  dsimp only
  split
  · exact h
  · split
    · exact canonical_logFault (by exact h)
    · exact canonical_platformEvent (canonical_writeFloors (canonical_logEv (canonical_enterState (by exact h))))

theorem execPerstAssert_canonical (h : s.canonical) {n us : Nat} : AnswersCanonical (execPerstAssert n us s) := by
  unfold execPerstAssert
  dsimp only
  split
  · exact h
  · split
    · exact canonical_warm (canonical_modHead h)
    · exact h

theorem State.canonical_flr (h : s.canonical) {p : Nat} : (s.flr p).canonical := by
  unfold State.flr
  extract_lets own t ks u
  have ht : t.canonical := canonical_endTasks (canonical_loseBlocks (canonical_foldl (fun _ _ hv => canonical_freeSession hv) own h))
  have hu : u.canonical := canonical_modPart (canonical_foldl (fun _ _ hv => canonical_freePages hv) ks ht)
  clear_value u
  exact hu

theorem execFunctionLevelReset_canonical (h : s.canonical) {p : Nat} : AnswersCanonical (execFunctionLevelReset p s) := by
  unfold execFunctionLevelReset
  split
  · exact canonical_flr h
  · exact h

theorem execPerstDeassert_canonical (h : s.canonical) {n : Nat} : AnswersCanonical (execPerstDeassert n s) := by
  unfold execPerstDeassert
  extract_lets s' t
  have hs : s'.canonical := canonical_ite (by exact h) h
  split
  · exact hs
  · split
    · split <;> exact hs
    · split
      · exact canonical_foldl (fun _ _ hu => canonical_flr hu) _ (by exact hs)
      · exact hs

/-! ## Memory errors (21_reliability R637 to R645) -/

theorem State.canonical_moveOff (h : s.canonical) {tier die f : Nat} : (s.moveOff tier die f).canonical := by
  unfold State.moveOff
  split
  · exact h
  · split
    · exact h
    · next hplace => exact canonical_modPage (canonical_placeIn h hplace)

theorem State.canonical_noteCe (h : s.canonical) {kind die a : Nat} : (s.noteCe kind die a).2.2.canonical := h

theorem State.canonical_frameCe (h : s.canonical) {tier die f : Nat} : (s.frameCe tier die f).canonical := by
  have ht : ∀ {b : Bool}, (if b then ((s.noteCe tier die f).2.2.devCount Ctr.memCe 1).logFault 0 (8 + die) 0xFFFF 0xFF 0 0 f 0
      else (s.noteCe tier die f).2.2.devCount Ctr.memCe 1).canonical :=
    canonical_ite (canonical_logFault (canonical_devCount (canonical_noteCe h))) (canonical_devCount (canonical_noteCe h))
  exact canonical_ite (canonical_moveOff (canonical_retire ht)) ht

theorem State.canonical_tileWordCe (h : s.canonical) {n a : Nat} : (s.tileWordCe n a).canonical :=
  have ht : (((s.noteCe 3 n a).2.2.tileCount n TileCtr.eccCeCnt 1).devCount Ctr.memCe 1).canonical := canonical_devCount (by exact h)
  canonical_ite (canonical_logFault ht) ht

theorem State.canonical_hubWordCe (h : s.canonical) {a : Nat} : (s.hubWordCe a).canonical :=
  have ht : ((s.noteCe 4 0 a).2.2.devCount Ctr.memCe 1).canonical := canonical_devCount (by exact h)
  canonical_ite (canonical_logFault ht) ht

theorem State.canonical_frameUe (h : s.canonical) {tier die f : Nat} : (s.frameUe tier die f).canonical := by
  have hd : (s.devCount Ctr.memUe 1).canonical := h
  have hstill : ∀ {k : Nat} {g : Page},
      (if g.flag 4 then (s.devCount Ctr.memUe 1).abandon k g else s.devCount Ctr.memUe 1).canonical :=
    canonical_ite (canonical_abandon hd) hd
  unfold State.frameUe
  dsimp only
  split
  · exact canonical_logFault hd
  · refine canonical_ite (canonical_logFault (canonical_count hd)) (canonical_ite (canonical_logFault hd) (canonical_ite ?_
      (canonical_ite ?_ ?_)))
    · exact canonical_logFault (canonical_modPage hstill)
    · exact canonical_logFault (canonical_loseBlocks hd)
    · exact canonical_logFault (canonical_settle (canonical_modPage hstill))

end
end Sys2Proof.Machine
end

section
/-! Memories stay in canonical form, V (logs 3 and 4): images, vocabularies and text, the vector search, embedding tables. Where an
allocator is the subject of a `match`, the proof puts a name in its place first: the kernel would evaluate it otherwise. -/

namespace Sys2Proof.Machine

section
open State
variable {s t : State}

/-! ## Images (04_models) -/

theorem State.canonical_loadPages (h : s.canonical) {p k : Nat} {l : List (Nat × Nat × List Byte)}
    (ht : s.loadPages p l = some (k, t)) : t.canonical := by
  obtain ⟨j, -, hj⟩ := Option.bind_eq_some_iff.1 ht
  obtain ⟨u, hu, he⟩ := Option.map_eq_some_iff.1 hj
  refine (Prod.mk.inj he).2 ▸ canonical_bindAll (fun v e w hv hw => ?_) (by exact h) hu
  obtain ⟨x, hx, rfl⟩ := Option.map_eq_some_iff.1 hw
  exact canonical_writeDev (canonical_allocPage hv hx) _ _

theorem execImageLoad_canonical (h : s.canonical) {r : Ref} {a : SArgs} : AnswersCanonical (execImageLoad r a s) := by
  refine canonical_row h fun u e hu => ?_
  obtain ⟨load, hload⟩ : ∃ f, f = State.loadPages := ⟨_, rfl⟩
  rw [← hload]
  dsimp only
  split
  · exact canonical_reject hu _ _
  · next hsource =>
    split
    · exact canonical_reject hu _ _
    · split
      · exact canonical_done (canonical_count hu) _ _ _
      · split
        · exact canonical_reject hu _ _
        · split
          · exact canonical_reject hu _ _
          · split
            · exact canonical_reject hu _ _
            · next hpages =>
              subst hload
              exact canonical_ite (canonical_reject hu _ _)
                (canonical_done (canonical_modPart (canonical_measure (canonical_loadPages (canonical_source hu hsource) hpages))) _ _ _)

theorem execImageUnload_canonical (h : s.canonical) {r : Ref} {a : HArgs} : AnswersCanonical (execImageUnload r a s) :=
  canonical_row h fun _ _ hu => canonical_checked hu _ _ (canonical_keep (canonical_modPart hu))

theorem execImageUnloadComplete_canonical (h : s.canonical) {p n : Nat} : AnswersCanonical (execImageUnloadComplete p n s) := by
  have hfree : ∀ {k m f}, ((s.freePages k m).modPart p f).canonical := canonical_modPart (canonical_freePages h)
  unfold execImageUnloadComplete
  split
  · exact h
  · split
    · exact h
    · dsimp only
      split
      · exact hfree
      · exact canonical_done hfree _ _ _

theorem execImageQuery_canonical (h : s.canonical) {r : Ref} {a : QArgs} : AnswersCanonical (execImageQuery r a s) := by
  refine canonical_row h fun u e hu => ?_
  split
  · exact canonical_reject hu _ _
  · exact canonical_answer hu _ _ _

/-! ## Vocabularies and text (11_text) -/

theorem execVocabLoad_canonical (h : s.canonical) {r : Ref} {a : SArgs} : AnswersCanonical (execVocabLoad r a s) := by
  refine canonical_row h fun u e hu => canonical_checked hu _ _ ?_
  split
  · exact canonical_reject hu _ _
  · next hsource =>
    have ht := canonical_source hu hsource
    split
    · exact canonical_done (by exact ht) _ _ _
    · exact canonical_reject hu _ _

theorem execVocabUnload_canonical (h : s.canonical) {r : Ref} {a : HArgs} : AnswersCanonical (execVocabUnload r a s) := by
  refine canonical_row h fun u e hu => ?_
  split
  · exact canonical_reject hu _ _
  · exact canonical_checked hu _ _ (canonical_done (by exact hu) _ _ _)

theorem execVocabQuery_canonical (h : s.canonical) {r : Ref} {a : QArgs} : AnswersCanonical (execVocabQuery r a s) := by
  refine canonical_row h fun u e hu => ?_
  split
  · exact canonical_reject hu _ _
  · exact canonical_answer hu _ _ _

theorem State.canonical_putCtx (h : s.canonical) {p : Nat} {a : TextArgs} {c : TextCtx} : (s.putCtx p a c).canonical :=
  canonical_ite h (canonical_modPart h)

theorem execTokenise_canonical (h : s.canonical) {r : Ref} {a : TextArgs} : AnswersCanonical (execTokenise r a s) := by
  refine canonical_row h fun u e hu => canonical_ite (canonical_reject hu _ _) ?_
  split
  · exact canonical_reject hu _ _
  · refine canonical_ite (canonical_reject hu _ _) ?_
    split
    · exact canonical_reject hu _ _
    · split
      · exact canonical_reject hu _ _
      · next hread =>
        split
        · exact canonical_done (canonical_count (canonical_ite hu (canonical_modPart hu))) _ _ _
        · exact canonical_ite (canonical_reject hu _ _) (canonical_output hu (canonical_readBuf hu hread) fun _ hv =>
            canonical_done (canonical_count (canonical_count (canonical_count (canonical_putCtx hv)))) _ _ _)

theorem execDetokenise_canonical (h : s.canonical) {r : Ref} {a : TextArgs} : AnswersCanonical (execDetokenise r a s) := by
  refine canonical_row h fun u e hu => canonical_ite (canonical_reject hu _ _) ?_
  split
  · exact canonical_reject hu _ _
  · split
    · exact canonical_reject hu _ _
    · split
      · exact canonical_reject hu _ _
      · next hread =>
        exact canonical_ite (canonical_reject hu _ _) (canonical_ite (canonical_reject hu _ _)
          (canonical_output hu (canonical_readBuf hu hread) fun _ hv => canonical_done (canonical_count (canonical_putCtx hv)) _ _ _))

/-! ## The vector search (09_vector_search) -/

theorem State.canonical_putBlock (h : s.canonical) {ix : Index} {b : Block} : (s.putBlock ix b).canonical := canonical_devPut h _ _
theorem State.canonical_putEntry (h : s.canonical) {ix : Index} {p base pages : Nat} : (s.putEntry ix p base pages).canonical :=
  canonical_devPut h _ _
theorem State.canonical_modIndex (h : s.canonical) {p n : Nat} {f : Index → Index} : (s.modIndex p n f).canonical := h

theorem State.canonical_freeIndex (h : s.canonical) {p n : Nat} {ix : Index} : (s.freeIndex p n ix).canonical :=
  canonical_modPart (canonical_foldl (fun _ _ hu => canonical_freePages hu) _ h)

theorem State.canonical_sweepIndex (h : s.canonical) {p n : Nat} : (s.sweepIndex p n).canonical := by
  unfold State.sweepIndex
  split
  · exact h
  · exact canonical_ite (canonical_freeIndex h) h

theorem State.canonical_pinIndex (h : s.canonical) {p n tag : Nat} : (s.pinIndex p n tag).canonical := h
theorem State.canonical_unpinIndex (h : s.canonical) {p n tag : Nat} : (s.unpinIndex p n tag).canonical :=
  canonical_sweepIndex (canonical_modIndex h)
theorem State.canonical_searched (h : s.canonical) {p m n : Nat} {rs : List (List Byte × Nat × Nat)} : (s.searched p m n rs).canonical := h

theorem execSearch_canonical (h : s.canonical) {r : Ref} {a : SearchArgs} : AnswersCanonical (execSearch r a s) := by
  refine canonical_row h fun u e hu => canonical_ite (canonical_reject hu _ _) ?_
  split
  · exact canonical_reject hu _ _
  · refine canonical_ite (canonical_reject hu _ _) ?_
    split
    · exact canonical_reject hu _ _
    · next hread =>
      have ht := canonical_readBuf hu hread
      refine canonical_ite (canonical_unpinIndex (canonical_reject hu _ _)) ?_
      dsimp only
      split
      · next hhold => exact canonical_hold (canonical_pinIndex ht) hhold
      · split
        · exact canonical_unpinIndex (canonical_reject hu _ _)
        · next hwrite =>
          exact canonical_unpinIndex (canonical_done (canonical_searched (canonical_writeBuf (canonical_readPages ht) hwrite)) _ _ _)

theorem execInsert_canonical (h : s.canonical) {r : Ref} {a : InsertArgs} : AnswersCanonical (execInsert r a s) := by
  refine canonical_row h fun u e hu => ?_
  dsimp only
  split
  · exact canonical_reject hu _ _
  · refine canonical_ite (canonical_reject hu _ _) (canonical_ite (canonical_reject hu _ _) ?_)
    split
    · next hhold => exact canonical_hold hu hhold
    · split
      · exact canonical_reject hu _ _
      · next hread =>
        split
        · exact canonical_reject hu _ _
        · split
          · exact canonical_reject hu _ _
          · refine canonical_ite (canonical_reject hu _ _) ?_
            split
            · exact canonical_reject hu _ _
            · exact canonical_done (canonical_modIndex (canonical_readBuf hu hread)) _ _ _

theorem execDelete_canonical (h : s.canonical) {r : Ref} {a : InsertArgs} : AnswersCanonical (execDelete r a s) := by
  refine canonical_row h fun u e hu => ?_
  dsimp only
  split
  · exact canonical_reject hu _ _
  · refine canonical_ite (canonical_reject hu _ _) ?_
    split
    · exact canonical_reject hu _ _
    · next hread =>
      refine canonical_ite (canonical_reject hu _ _) ?_
      split
      · exact canonical_reject hu _ _
      · exact canonical_done (canonical_modIndex (canonical_readBuf hu hread)) _ _ _

theorem canonical_fst_ite {α : Type} {x y : State × α} {c : Prop} [Decidable c] (hx : x.1.canonical) (hy : y.1.canonical) :
    (if c then x else y).1.canonical := by
  split
  · exact hx
  · exact hy

theorem State.canonical_wedgePart (h : s.canonical) {p n q : Nat} {b : Bool} : (s.wedgePart p n b q).1.canonical := by
  unfold State.wedgePart
  obtain ⟨alloc, halloc⟩ : ∃ f, f = State.alloc := ⟨_, rfl⟩
  rw [← halloc]
  obtain ⟨rewrite, hrewrite⟩ : ∃ f, f = State.rewrite := ⟨_, rfl⟩
  rw [← hrewrite]
  split
  · exact h
  · extract_lets live go blk cent cnt reuse b1 b2 pages
    refine canonical_fst_ite h (canonical_fst_ite h (canonical_fst_ite h (canonical_fst_ite h ?_)))
    split
    · exact h
    · next hpages =>
      split
      · exact h
      · next hown =>
        subst halloc hrewrite
        exact canonical_modIndex (canonical_putEntry (canonical_putBlock (canonical_foldl (fun _ _ hv => canonical_putBlock hv) _
          (canonical_readPages (canonical_rewrite (canonical_alloc h hpages) hown)))))

theorem State.canonical_wedgeAll (h : s.canonical) {p n : Nat} {b : Bool} {qs : List Nat} : (s.wedgeAll p n b qs).1.canonical :=
  List.foldlRecOn qs _ (motive := fun a : State × List Wedged => a.1.canonical) h fun _ ha _ _ => canonical_wedgePart ha

theorem execWedge_canonical (h : s.canonical) {r : Ref} {a : WedgeArgs} : AnswersCanonical (execWedge r a s) := by
  refine canonical_row h fun u e hu => ?_
  dsimp only
  split
  · exact canonical_reject hu _ _
  · refine canonical_ite (canonical_reject hu _ _) (canonical_ite (canonical_reject hu _ _) (canonical_ite (canonical_reject hu _ _) ?_))
    split
    · next hhold => exact canonical_hold hu hhold
    · exact canonical_done (canonical_wedgeAll hu) _ _ _

theorem execWedgeForced_canonical (h : s.canonical) {p n : Nat} : AnswersCanonical (execWedgeForced p n s) := by
  unfold execWedgeForced
  dsimp only
  split
  · exact h
  · split
    · exact h
    · split
      · exact h
      · split
        · next hdemand => exact canonical_demand h hdemand
        · exact canonical_wedgeAll (canonical_modIndex h)

theorem execWedgeRelease_canonical (h : s.canonical) {p n : Nat} : AnswersCanonical (execWedgeRelease p n s) := by
  have hfree : ∀ l : List (Nat × Nat × Nat), (l.foldl (fun (u : State) o => u.freePages o.2.1 o.2.2) s).canonical :=
    fun l => canonical_foldl (fun _ _ hu => canonical_freePages hu) l h
  unfold execWedgeRelease
  split
  · exact h
  · exact canonical_sweepIndex (canonical_modIndex (hfree _))

theorem State.canonical_newIndex (h : s.canonical) {p n pub : Nat} {a : IndexArgs} {v : Vocab} {cents : List Byte}
    {passages : List (Nat × Nat × List Nat)} {blocks : Nat → List Byte} {backed : Bool}
    (ht : s.newIndex p n a v cents pub passages blocks backed = some t) : t.canonical := by
  obtain ⟨⟨c, u⟩, hu, ht⟩ := Option.bind_eq_some_iff.1 ht
  obtain ⟨⟨d, v⟩, hv, ht⟩ := Option.bind_eq_some_iff.1 ht
  obtain ⟨⟨b, w⟩, hw, rfl⟩ := Option.map_eq_some_iff.1 ht
  have hwc : w.canonical := canonical_alloc (canonical_alloc (canonical_alloc h hu) hv) hw
  extract_lets t dev ix
  have hdev : dev.wf := by
    refine List.foldlRecOn _ _ (motive := fun m : Mem => m.wf) (Mem.writeN_wf hwc.2 _ _) fun m hm q _ => ?_
    exact Mem.writeN_wf (Mem.writeN_wf hm _ _) _ _
  exact canonical_modPart (s := { w with dev := dev }) ⟨hwc.1, hdev⟩

theorem State.canonical_makeIndex (h : s.canonical) (ht : t.canonical) {e : CmdE} {a : IndexArgs} {v : Vocab} {cents : List Byte}
    {pub : Nat} {passages : List (Nat × Nat × List Nat)} {blocks : Nat → List Byte} {backed : Bool} :
    (s.makeIndex e a v cents pub passages blocks backed t).canonical := by
  unfold State.makeIndex
  obtain ⟨index, hindex⟩ : ∃ f, f = State.newIndex := ⟨_, rfl⟩
  rw [← hindex]
  split
  · exact canonical_reject h _ _
  · split
    · exact canonical_reject h _ _
    · next hnew =>
      subst hindex
      exact canonical_done (canonical_newIndex ht hnew) _ _ _

theorem execIndexCreate_canonical (h : s.canonical) {r : Ref} {a : IndexArgs} : AnswersCanonical (execIndexCreate r a s) := by
  refine canonical_row h fun u e hu => canonical_ite (canonical_reject hu _ _) ?_
  split
  · exact canonical_reject hu _ _
  · refine canonical_ite (canonical_reject hu _ _) ?_
    split
    · exact canonical_reject hu _ _
    · next hread => exact canonical_makeIndex hu (canonical_readBuf hu hread)

theorem execIndexLoad_canonical (h : s.canonical) {r : Ref} {a : IndexArgs} : AnswersCanonical (execIndexLoad r a s) := by
  refine canonical_row h fun u e hu => canonical_ite (canonical_reject hu _ _) ?_
  dsimp only
  split
  · exact canonical_reject hu _ _
  · split
    · exact canonical_reject hu _ _
    · exact canonical_ite (canonical_reject hu _ _) (canonical_makeIndex hu hu)

theorem execIndexDrop_canonical (h : s.canonical) {r : Ref} {a : HArgs} : AnswersCanonical (execIndexDrop r a s) := by
  refine canonical_row h fun u e hu => ?_
  split
  · exact canonical_reject hu _ _
  · exact canonical_done (canonical_sweepIndex (canonical_modIndex hu)) _ _ _

theorem execIndexQuery_canonical (h : s.canonical) {r : Ref} {a : QArgs} : AnswersCanonical (execIndexQuery r a s) := by
  refine canonical_row h fun u e hu => ?_
  split
  · exact canonical_reject hu _ _
  · exact canonical_answer hu _ _ _

theorem execShardMerge_canonical (h : s.canonical) {r : Ref} {a : ShardArgs} : AnswersCanonical (execShardMerge r a s) := by
  refine canonical_row h fun u e hu => canonical_ite (canonical_reject hu _ _) ?_
  split
  · exact canonical_reject hu _ _
  · refine canonical_ite (canonical_reject hu _ _) ?_
    dsimp only
    split
    · next hhold => exact canonical_hold hu hhold
    · exact canonical_output hu (canonical_readPages hu) fun _ hv => canonical_done hv _ _ _

theorem execRerank_canonical (h : s.canonical) {r : Ref} {a : RerankArgs} {l : List Word} : AnswersCanonical (execRerank r a l s) := by
  refine canonical_row h fun u e hu => canonical_ite (canonical_reject hu _ _) ?_
  dsimp only
  split
  · exact canonical_reject hu _ _
  · split
    · exact canonical_reject hu _ _
    · refine canonical_ite (canonical_reject hu _ _) (canonical_ite (canonical_reject hu _ _) ?_)
      split
      · exact canonical_reject hu _ _
      · split
        · exact canonical_reject hu _ _
        · refine canonical_ite (canonical_reject hu _ _) (canonical_ite (canonical_done hu _ _ _) (canonical_ite hu
            (canonical_ite (canonical_reject hu _ _) ?_)))
          split
          · next hhold => exact canonical_hold hu hhold
          · exact canonical_output hu (canonical_readPages hu) fun _ hv => canonical_done (canonical_modIndex hv) _ _ _

theorem execPack_canonical (h : s.canonical) {r : Ref} {a : PackArgs} : AnswersCanonical (execPack r a s) := by
  refine canonical_row h fun u e hu => ?_
  dsimp only
  split
  · exact canonical_reject hu _ _
  · split
    · exact canonical_reject hu _ _
    · refine canonical_ite (canonical_reject hu _ _) ?_
      split
      · exact canonical_reject hu _ _
      · split
        · exact canonical_reject hu _ _
        · split
          · exact canonical_reject hu _ _
          · exact canonical_output hu hu fun _ hv => canonical_done (canonical_modIndex hv) _ _ _

theorem execTemplateLoad_canonical (h : s.canonical) {r : Ref} {a : TemplateArgs} : AnswersCanonical (execTemplateLoad r a s) := by
  refine canonical_row h fun u e hu => ?_
  dsimp only
  split
  · exact canonical_reject hu _ _
  · split
    · exact canonical_reject hu _ _
    · exact canonical_reject hu _ _
    · exact canonical_ite (canonical_reject hu _ _) (canonical_done (canonical_modPart hu) _ _ _)

theorem execTemplateUnload_canonical (h : s.canonical) {r : Ref} {a : HArgs} : AnswersCanonical (execTemplateUnload r a s) := by
  refine canonical_row h fun u e hu => ?_
  split
  · exact canonical_reject hu _ _
  · exact canonical_keep (canonical_modPart hu)

theorem execTemplateFree_canonical (h : s.canonical) {p n : Nat} : AnswersCanonical (execTemplateFree p n s) := by
  unfold execTemplateFree
  split
  · exact h
  · split
    · exact h
    · dsimp only
      split
      · exact h
      · exact canonical_done (canonical_modPart h) _ _ _

/-! ## Embedding tables (10_embedding_tables) -/

theorem State.canonical_modTable (h : s.canonical) {p n : Nat} {f : Table → Table} : (s.modTable p n f).canonical := h

theorem State.canonical_putRow (h : s.canonical) {b : Table} {v : TVer} {r : Nat} {codes : List Nat} {st : Option Num} :
    (s.putRow b v r codes st).canonical := by
  have hrow := canonical_writeDev h (b.rowAddr v r) (codes.flatMap (leBytes 2))
  cases st with
  | none => exact hrow
  | some x => exact (canonical_writeDev hrow (v.stAddr r) (leBytes 4 (f32Code x)) :)

theorem State.canonical_newVersion (h : s.canonical) {p n : Nat} {b : Table} {v : TVer} (ht : s.newVersion p b n = some (v, t)) :
    t.canonical := by
  obtain ⟨⟨k, u⟩, hu, ht⟩ := Option.bind_eq_some_iff.1 ht
  obtain ⟨⟨j, w⟩, hw, he⟩ := Option.map_eq_some_iff.1 ht
  have huc := canonical_alloc h hu
  refine (Prod.mk.inj he).2 ▸ ?_
  split at hw
  · exact canonical_alloc huc hw
  · exact (Prod.mk.inj (Option.some.inj hw)).2 ▸ huc

theorem State.canonical_dropVersion (h : s.canonical) {v : TVer} : (s.dropVersion v).canonical :=
  canonical_freePages (canonical_freePages h)

theorem execTableCreate_canonical (h : s.canonical) {r : Ref} {a : TableArgs} : AnswersCanonical (execTableCreate r a s) := by
  refine canonical_row h fun u e hu => ?_
  obtain ⟨version, hversion⟩ : ∃ f, f = State.newVersion := ⟨_, rfl⟩
  rw [← hversion]
  dsimp only
  split
  · exact canonical_reject hu _ _
  · split
    · exact canonical_reject hu _ _
    · split
      · exact canonical_reject hu _ _
      · next hnew =>
        subst hversion
        exact canonical_done (canonical_modPart (canonical_newVersion hu hnew)) _ _ _

theorem execTableDrop_canonical (h : s.canonical) {r : Ref} {a : HArgs} : AnswersCanonical (execTableDrop r a s) := by
  refine canonical_row h fun u e hu => ?_
  have hdrop : ∀ l : List TVer, (l.foldl State.dropVersion u).canonical :=
    fun l => canonical_foldl (fun _ _ hv => canonical_dropVersion hv) l hu
  dsimp only
  split
  · exact canonical_reject hu _ _
  · exact canonical_ite (canonical_done (canonical_modPart (hdrop _)) _ _ _) (canonical_done (canonical_modTable (hdrop _)) _ _ _)

/-- A staged version's copy of the rows and the state words that stand. -/
theorem State.canonical_copyVersion (h : s.canonical) {b : Prop} [Decidable b] {x y : Nat} {xs ys : List Byte} :
    State.canonical { s with dev := if b then s.dev else (s.dev.writeN x xs).writeN y ys } := by
  refine ⟨h.1, ?_⟩
  dsimp only
  split
  · exact h.2
  · exact Mem.writeN_wf (Mem.writeN_wf h.2 _ _) _ _

theorem execTableStage_canonical (h : s.canonical) {r : Ref} {a : StageArgs} : AnswersCanonical (execTableStage r a s) := by
  refine canonical_row h fun u e hu => canonical_ite (canonical_reject hu _ _) ?_
  obtain ⟨version, hversion⟩ : ∃ f, f = State.newVersion := ⟨_, rfl⟩
  rw [← hversion]
  dsimp only
  split
  · exact canonical_reject hu _ _
  · refine canonical_ite (canonical_reject hu _ _) ?_
    split
    · next hhold =>
      split at hhold
      · exact canonical_hold hu hhold
      · cases hhold
    · split
      · exact canonical_reject hu _ _
      · next hnew =>
        subst hversion
        exact canonical_done (canonical_modTable (canonical_copyVersion
          (canonical_newVersion (canonical_ite (canonical_readPages hu) hu) hnew))) _ _ _

theorem execTableWrite_canonical (h : s.canonical) {r : Ref} {a : SArgs} : AnswersCanonical (execTableWrite r a s) := by
  refine canonical_row h fun u e hu => ?_
  split
  · exact canonical_reject hu _ _
  · split
    · exact canonical_reject hu _ _
    · refine canonical_ite (canonical_reject hu _ _) ?_
      split
      · exact canonical_reject hu _ _
      · next hsource =>
        split
        · exact canonical_reject hu _ _
        · next hrewrite =>
          exact canonical_done (canonical_foldl (fun _ _ hv => canonical_devPut hv _ _) _
            (canonical_rewrite (canonical_source hu hsource) hrewrite)) _ _ _

theorem execTablePublish_canonical (h : s.canonical) {r : Ref} {a : HArgs} : AnswersCanonical (execTablePublish r a s) := by
  refine canonical_row h fun u e hu => ?_
  split
  · exact canonical_reject hu _ _
  · split
    · exact canonical_reject hu _ _
    · exact canonical_ite (canonical_reject hu _ _) (canonical_done (canonical_modTable hu) _ _ _)

theorem execTableDiscard_canonical (h : s.canonical) {r : Ref} {a : HArgs} : AnswersCanonical (execTableDiscard r a s) := by
  refine canonical_row h fun u e hu => ?_
  split
  · exact canonical_reject hu _ _
  · split
    · exact canonical_reject hu _ _
    · exact canonical_done (canonical_modTable (canonical_dropVersion hu)) _ _ _

theorem execVersionRetire_canonical (h : s.canonical) {p n m : Nat} : AnswersCanonical (execVersionRetire p n m s) := by
  unfold execVersionRetire
  split
  · exact h
  · split
    · exact h
    · split
      · exact h
      · split
        · exact canonical_modPart (canonical_dropVersion h)
        · exact canonical_modTable (canonical_dropVersion h)

theorem execEmbedLookup_canonical (h : s.canonical) {r : Ref} {a : EmbedArgs} : AnswersCanonical (execEmbedLookup r a s) := by
  refine canonical_row h fun u e hu => ?_
  dsimp only
  split
  · exact canonical_reject hu _ _
  · split
    · exact canonical_reject hu _ _
    · refine canonical_ite (canonical_reject hu _ _) ?_
      split
      · exact canonical_reject hu _ _
      · next hread =>
        split
        · exact canonical_reject hu _ _
        · next s2 hread2 =>
          have ht : s2.canonical := canonical_readBuf (canonical_readBuf hu hread) hread2
          refine canonical_ite (canonical_reject hu _ _) (canonical_ite (canonical_reject hu _ _) ?_)
          split
          · next hhold => exact canonical_hold hu hhold
          · exact canonical_output hu (canonical_readPages (by exact ht)) fun _ hv =>
              canonical_done (canonical_convEvents (canonical_modTable hv)) _ _ _

theorem State.canonical_update (h : s.canonical) {b : Table} {v : TVer} {ada : Bool} {lr eps : Num} {is : List Nat}
    {grads : List (List Num)} : (s.update b v ada lr eps is grads).state.canonical := by
  refine List.foldlRecOn _ _ (motive := fun a : Updated => a.state.canonical) h fun a ha _ _ => ?_
  dsimp only
  split
  · exact ha
  · exact canonical_putRow ha

theorem State.canonical_fresh (h : s.canonical) {n : Nat} : State.canonical { s with fresh := n } := h

theorem execEmbedUpdate_canonical (h : s.canonical) {r : Ref} {a : EmbedArgs} : AnswersCanonical (execEmbedUpdate r a s) := by
  refine canonical_row h fun u e hu => ?_
  dsimp only
  split
  · exact canonical_reject hu _ _
  · split
    · exact canonical_reject hu _ _
    · refine canonical_ite (canonical_reject hu _ _) (canonical_ite (canonical_reject hu _ _) ?_)
      split
      · exact canonical_reject hu _ _
      · next hread =>
        split
        · exact canonical_reject hu _ _
        · next s2 hread2 =>
          have ht : s2.canonical := canonical_readBuf (canonical_readBuf hu hread) hread2
          refine canonical_ite (canonical_reject hu _ _) (canonical_ite (canonical_setCmd hu) ?_)
          split
          · next hhold => exact canonical_hold hu hhold
          · exact canonical_done (canonical_convEvents (canonical_modTable (canonical_fresh (canonical_update ht)))) _ _ _

theorem execTableRead_canonical (h : s.canonical) {r : Ref} {a : TReadArgs} : AnswersCanonical (execTableRead r a s) := by
  refine canonical_row h fun u e hu => ?_
  split
  · exact canonical_reject hu _ _
  · refine canonical_ite (canonical_reject hu _ _) (canonical_ite (canonical_reject hu _ _) ?_)
    split
    · next hhold => exact canonical_hold hu hhold
    · exact canonical_output hu (canonical_readPages hu) fun _ hv => canonical_done hv _ _ _

theorem execTableQuery_canonical (h : s.canonical) {r : Ref} {a : QArgs} : AnswersCanonical (execTableQuery r a s) := by
  refine canonical_row h fun u e hu => ?_
  split
  · exact canonical_reject hu _ _
  · exact canonical_answer hu _ _ _

end
end Sys2Proof.Machine
end

section
/-! Memories stay in canonical form, VI (logs 3 and 4): records and graph runs, re-execution, layers and refire, grammars. -/

namespace Sys2Proof.Machine

section
open State
variable {s t : State}

/-! ## Runs of records (05_dataflow, 16_scheduling, 21_reliability) -/

theorem State.canonical_corrected (h : s.canonical) {g : Region} : (s.corrected g).canonical := by
  cases g with
  | tileWord n a => exact canonical_ite h (canonical_tileWordCe h)
  | frame tier die f => exact canonical_ite h (canonical_frameCe h)
  | hubSram a => exact canonical_ite h (canonical_hubWordCe h)

theorem State.canonical_brokenFrame (h : s.canonical) {g : Region} : (s.brokenFrame g).canonical := by
  cases g with
  | tileWord n a => exact h
  | frame tier die f => exact canonical_ite h (canonical_frameUe h)
  | hubSram a => exact h

theorem State.canonical_pinTables (h : s.canonical) {p n : Nat} {l : List Nat} : (s.pinTables p n l).2.canonical :=
  canonical_foldl (fun _ _ hu => canonical_modTable hu) _ h

theorem State.canonical_unpinTables (h : s.canonical) {p n : Nat} : (s.unpinTables p n).canonical := h

theorem State.canonical_loadTiles (h : s.canonical) {r : Rec} {l : List Nat} : (s.loadTiles r l).canonical :=
  canonical_ite (canonical_foldl (fun _ _ hu => canonical_ite (canonical_tileCount (canonical_modTile hu)) hu) _ h) h

theorem State.canonical_applyTiles (h : s.canonical) {r : Rec} {l : List Nat} {b : Bench} : (s.applyTiles r l b).canonical := by
  have hl : ∀ f : State → Nat × Nat → State, (∀ u e, u.canonical → (f u e).canonical) → (l.zipIdx.foldl f s).canonical :=
    fun f hf => canonical_foldl hf _ h
  refine canonical_tileCount (canonical_tileCount (canonical_convEvents (canonical_fresh (hl _ fun _ _ hu => ?_))))
  exact canonical_tileCount (canonical_tileCount (canonical_modTile hu))

theorem State.canonical_applyBench (h : s.canonical) {p : Nat} {r : Rec} {l ks : List Nat} {b : Bench} :
    (s.applyBench p r l b ks).canonical :=
  canonical_applyTiles (canonical_foldl (fun _ _ hu => canonical_devPut hu _ _) _ (canonical_readPages h))

theorem State.canonical_told (h : s.canonical) {l : List Nat} {o : Issue} : (s.told l o).canonical :=
  canonical_foldl (fun _ _ hu => canonical_ite (canonical_tileCount hu) hu) _
    (canonical_foldl (fun _ _ hu => canonical_brokenFrame hu) _ (canonical_foldl (fun _ _ hu => canonical_corrected hu) _ h))

theorem State.canonical_heldFor (h : s.canonical) {p : Nat} {l : List (StallCause × Nat)} : (s.heldFor p l).canonical :=
  canonical_foldl (fun _ _ hu => canonical_count (canonical_ite (canonical_count hu) hu)) _ h

theorem State.canonical_dropPacket (h : s.canonical) {p n : Nat} : (s.dropPacket p n).canonical := canonical_logEv (canonical_tileCount h)

theorem State.canonical_measured (h : s.canonical) {p n i ns : Nat} : (s.measured p n i ns).canonical :=
  canonical_ite h (canonical_modPart h)

/-- The state that a record's run leaves has its memories in canonical form. -/
def RanCanonical : Ran → Prop
  | .ended _ t => t.canonical
  | .waits t => t.canonical
  | .held _ t => t.canonical
  | .done _ t => t.canonical

/-- What a table record answers, where it runs, leaves memories in canonical form. -/
def TableRunCanonical : Except Nat TableRun → Prop
  | .error _ => True
  | .ok y => y.after.canonical

theorem canonical_tableRunIte {x y : Except Nat TableRun} {c : Prop} [Decidable c] (hx : TableRunCanonical x)
    (hy : TableRunCanonical y) : TableRunCanonical (if c then x else y) := by
  split
  · exact hx
  · exact hy

theorem State.canonical_bagRecord (h : s.canonical) {p n : Nat} {b : Bench} {r : Rec} {x : Table} {v : TVer} :
    TableRunCanonical (s.bagRecord p b r n x v) := by
  refine canonical_tableRunIte trivial (canonical_tableRunIte trivial ?_)
  split
  · trivial
  · split
    · trivial
    · refine canonical_tableRunIte trivial (canonical_tableRunIte trivial ?_)
      dsimp only
      split
      · trivial
      · exact canonical_modTable h

theorem State.canonical_updateRecord (h : s.canonical) {p n : Nat} {tag : Option Nat} {b : Bench} {r : Rec} {x : Table} {v : TVer} :
    TableRunCanonical (s.updateRecord p tag b r n x v) := by
  refine canonical_tableRunIte trivial (canonical_tableRunIte trivial (canonical_tableRunIte trivial ?_))
  split
  · trivial
  · split
    · trivial
    · exact canonical_tableRunIte trivial (canonical_modTable (canonical_update h))

theorem State.canonical_runRecord (h : s.canonical) {p : Nat} {pins : List (Nat × Nat)} {tag : Option Nat} {b : Bench} {r : Rec}
    {bytes : List Byte} : TableRunCanonical (s.runRecord p pins tag b r bytes) := by
  unfold State.runRecord
  split
  · split
    · trivial
    · exact h
  · split
    · trivial
    · exact canonical_tableRunIte (canonical_bagRecord h) (canonical_updateRecord h)

theorem canonical_ranIte {x y : Ran} {c : Prop} [Decidable c] (hx : RanCanonical x) (hy : RanCanonical y) :
    RanCanonical (if c then x else y) := by
  split
  · exact hx
  · exact hy

theorem State.canonical_perform (h : s.canonical) {w : Place} {i err : Nat} {l : List Nat} {b : Bench} {r : Rec} {bytes : List Byte}
    {o : Issue} : RanCanonical (s.perform w i l b r bytes err o) := by
  unfold State.perform
  refine canonical_ranIte h ?_
  split
  · exact canonical_dropPacket h
  · refine canonical_ranIte h ?_
    split
    · exact h
    · next hy =>
      refine canonical_ranIte h ?_
      split
      · next hdemand => exact canonical_holdTiles (canonical_demand h hdemand)
      · exact canonical_measured (canonical_applyBench (canonical_loadTiles (hy ▸ canonical_runRecord h :)))

theorem State.canonical_spawn (h : s.canonical) {n : Nat} : (s.spawn n).canonical := by
  unfold State.spawn
  split
  · exact h
  · split
    · exact h
    · exact canonical_foldl (fun _ _ hu => canonical_ite (canonical_addTask hu) hu) _ h

theorem State.canonical_endRun (h : s.canonical) {n : Nat} {x : Run} : (s.endRun n x).canonical := by
  unfold State.endRun
  dsimp only
  split
  · exact h
  · exact canonical_done (canonical_unpinTables (by exact h)) _ _ _

theorem State.canonical_finishRecord (h : s.canonical) {n i status : Nat} : (s.finishRecord n i status).canonical := by
  unfold State.finishRecord
  split
  · exact h
  · split
    · exact h
    · exact canonical_ite (canonical_endRun (by exact h)) (canonical_spawn (by exact h))

theorem execGraphRun_canonical (h : s.canonical) {r : Ref} {n : Nat} {l : List Nat} : AnswersCanonical (execGraphRun r n l s) := by
  refine canonical_row h fun u e hu => ?_
  split
  · exact canonical_reject hu _ _
  · dsimp only
    split
    · exact canonical_reject hu _ _
    · have hpins : ∀ p n l, (u.pinTables p n l).2.canonical := fun _ _ _ => canonical_pinTables hu
      exact canonical_spawn (canonical_keep (by exact hpins _ _ _))

/-! ## Faults of tiles and re-execution (21_reliability) -/

theorem State.canonical_tileFault (h : s.canonical) {tile part outcome seq : Nat} {k : FaultKind} :
    (s.tileFault tile part outcome seq k).canonical := by
  have ht : ∀ x a, (((s.quarantine [tile]).modTile tile (fun v => { v with untrusted := true })).logFault x 0xFF tile part outcome seq a
      0).canonical := fun _ _ => canonical_logFault (canonical_modTile (canonical_quarantine h))
  cases k with
  | residue => exact canonical_devCount (ht _ _)
  | knownAnswer => exact canonical_devCount (ht _ _)
  | parity => exact ht _ _
  | uncorrectable a => exact canonical_tileCount (canonical_devCount (ht _ _))

theorem State.canonical_refireTime (h : s.canonical) {v : Batch} {ns : Nat} : (s.refireTime v ns).canonical :=
  canonical_ite (canonical_count h) h

theorem State.canonical_strike (h : s.canonical) {tile : Nat} {k : FaultKind} : (s.strike tile k).canonical := by
  unfold State.strike
  split
  · exact canonical_tileFault h
  · split
    · exact canonical_tileFault h
    · exact (canonical_tileFault h :)
    · split
      · exact canonical_tileFault h
      · have ht : ∀ {p x n v b}, State.canonical { (s.tileFault tile p x n k).refireTime v ((s.tileFault tile p x n k).wheel.now) with
            batches := b } := canonical_refireTime (canonical_tileFault h)
        exact canonical_ite (canonical_logFault ht) ht

theorem execKnownAnswerTest_canonical (h : s.canonical) {n : Nat} {b : Bool} : AnswersCanonical (execKnownAnswerTest n b s) := by
  unfold execKnownAnswerTest
  split
  · exact h
  · exact canonical_strike h

theorem State.canonical_reform (h : s.canonical) {n : Nat} {k : Task} {l : List Nat} (ht : s.reform n k = some (l, t)) :
    t.canonical := by
  have hl : ∀ {u : State} (l : List Nat), u.canonical →
      (l.foldl (fun (a : State) i => a.modTile i (fun v => { v with untrusted := true, acc := [] })) u).canonical :=
    fun l hu => canonical_foldl (fun _ _ hv => canonical_modTile hv) l hu
  unfold State.reform at ht
  dsimp only at ht
  split at ht
  · cases ht
  · exact (Prod.mk.inj (Option.some.inj ht)).2 ▸ hl _ (canonical_assign (canonical_freeTiles h))

theorem State.canonical_rebuild (h : s.canonical) {x : Run} {j : Nat} {l : List Nat} {r : Rec} {bytes : List Byte} :
    (s.rebuild x j l r bytes).1.canonical := by
  unfold State.rebuild
  split
  · exact h
  · exact canonical_applyTiles (canonical_loadTiles (canonical_readPages h))

theorem State.canonical_reexecRun (h : s.canonical) {n i : Nat} {x : Run} : (s.reexecRun n x i).canonical := by
  have hruns : ∀ {u : State} (l : List Nat) (y : Run) (f : State × Run → Nat → State × Run), u.canonical →
      (∀ a j, a.1.canonical → (f a j).1.canonical) → (l.foldl f (u, y)).1.canonical := fun l _ _ hu hf =>
    List.foldlRecOn l _ (motive := fun a : State × Run => a.1.canonical) hu fun a ha j _ => hf a j ha
  unfold State.reexecRun
  split
  · refine canonical_ite h ?_
    split
    · exact h
    · next hreform =>
      extract_lets rs first y
      have hy : y.1.canonical := hruns _ _ _ (canonical_reform h hreform) fun _ _ ha => canonical_rebuild ha
      exact canonical_devCount (by exact hy)
  · exact h

theorem State.canonical_reexecBatch (h : s.canonical) {b ns : Nat} {v : Batch} : (s.reexecBatch b v ns).canonical := by
  unfold State.reexecBatch
  refine canonical_ite h (canonical_ite h ?_)
  split
  · refine canonical_ite h ?_
    split
    · exact h
    · next hreform =>
      extract_lets old u mine
      have hu : u.canonical := canonical_foldl (fun _ _ hv => canonical_modTile hv) _ (canonical_reform h hreform)
      exact canonical_devCount (by exact hu)
  · exact h

theorem execReExecution_canonical (h : s.canonical) {o : Owner} {ns : Nat} : AnswersCanonical (execReExecution o ns s) := by
  unfold execReExecution
  split
  · exact h
  · split
    · split
      · exact h
      · split
        · exact h
        · exact canonical_reexecRun h
    · split
      · exact h
      · exact canonical_reexecBatch h

/-! ## Issue of records, layers and refire (12_weight_cache, 03_numeric R78 to R96) -/

theorem State.canonical_holdRecord (h : s.canonical) {n i p : Nat} {ks : List Nat} : (s.holdRecord n i p ks).canonical :=
  canonical_ite (canonical_count (by exact h)) (by exact h)

theorem State.canonical_issueRun (h : s.canonical) {n i : Nat} {x : Run} {o : Issue} : (s.issueRun n x i o).canonical := by
  unfold State.issueRun
  split
  · exact h
  · refine canonical_ite h (canonical_ite (canonical_finishRecord h) (canonical_ite (canonical_finishRecord h) ?_))
    split
    · exact h
    · refine canonical_ite h ?_
      split
      · exact canonical_ite (canonical_strike (canonical_quietTiles h)) h
      · extract_lets a w
        have hran := fun l b r bytes err => State.canonical_perform (s := a) (w := w) (i := i) (l := l) (b := b) (r := r)
          (bytes := bytes) (err := err) (o := o) (canonical_told (canonical_quietTiles h))
        split
        · next hp => exact canonical_finishRecord (hp ▸ hran _ _ _ _ _ :)
        · next hp => exact (hp ▸ hran _ _ _ _ _ :)
        · next hp => exact canonical_holdRecord (hp ▸ hran _ _ _ _ _ :)
        · next hp => exact canonical_finishRecord (by exact (hp ▸ hran _ _ _ _ _ :))

theorem State.canonical_requestLayer (h : s.canonical) {p b l : Nat} {im : Image} {dl : Nat × Nat} :
    (s.requestLayer p b im l dl).canonical := by
  unfold State.requestLayer
  split
  · exact h
  · exact canonical_prefetch h

theorem State.canonical_prefetchAt (h : s.canonical) {p b l : Nat} {im : Image} : (s.prefetchAt p b im l).canonical :=
  canonical_ite h (canonical_ite (canonical_requestLayer h) (canonical_requestLayer h))

theorem State.canonical_startLayer (h : s.canonical) {b : Nat} {v : Batch} {im : Image} {r : Rec} :
    (s.startLayer b v im r).1.canonical :=
  canonical_fst_ite h (canonical_prefetchAt h)

theorem State.canonical_issueBatch (h : s.canonical) {n i : Nat} {v : Batch} {o : Issue} : (s.issueBatch n v i o).canonical := by
  unfold State.issueBatch
  split
  · refine canonical_ite h ?_
    split
    · exact canonical_ite (canonical_strike (canonical_quietTiles h)) h
    · extract_lets x b w put
      have hran := fun l r bytes err => State.canonical_perform (s := x.1) (w := w) (i := i) (l := l) (b := b) (r := r)
        (bytes := bytes) (err := err) (o := o) (canonical_startLayer (canonical_heldFor (canonical_told (canonical_quietTiles h))))
      split
      · next hp => exact (hp ▸ hran _ _ _ _ :)
      · next hp => exact (hp ▸ hran _ _ _ _ :)
      · next hp => exact canonical_ite (hp ▸ hran _ _ _ _ :) (canonical_count (hp ▸ hran _ _ _ _ :))
      · next hp => exact (hp ▸ hran _ _ _ _ :)
  · exact h

theorem execRecordIssue_canonical (h : s.canonical) {o : Owner} {n : Nat} {i : Issue} : AnswersCanonical (execRecordIssue o n i s) := by
  unfold execRecordIssue
  split
  · exact h
  · split
    · split
      · exact h
      · exact canonical_issueRun h
    · split
      · exact h
      · exact canonical_issueBatch h

theorem execLayerClose_canonical (h : s.canonical) {b ns : Nat} : AnswersCanonical (execLayerClose b ns s) := by
  unfold execLayerClose
  split
  · exact h
  · split
    · exact h
    · split
      · exact h
      · extract_lets _ u w
        exact (canonical_refireTime (by exact h) : u.canonical)

theorem State.canonical_trip (h : s.canonical) {v : Batch} {im : Image} {e : List Byte} {c : Nat} : (s.trip v im e c).canonical := by
  have hcount : ∀ {u : State} {b : Prop} [Decidable b] {p c n : Nat}, u.canonical → (if b then u.count p c n else u).canonical :=
    fun hu => canonical_ite (canonical_count hu) hu
  exact canonical_log (canonical_modPart (hcount (hcount (hcount (hcount (canonical_count h))))))

theorem execRefireDecision_canonical (h : s.canonical) {b : Nat} : AnswersCanonical (execRefireDecision b s) := by
  unfold execRefireDecision
  split
  · exact h
  · split
    · exact h
    · split
      · exact h
      · extract_lets cause put t _ res u w keep
        have ht : t.canonical := canonical_trip h
        have hw : w.canonical := canonical_ite (canonical_count (canonical_count ht)) (canonical_count ht)
        have hput : ∀ (a : State) x, a.canonical → (put a x).canonical := fun _ _ ha => ha
        split
        · exact h
        · split
          · exact hput _ _ (canonical_ite h (canonical_count h))
          · split
            · exact h
            · split
              · exact ht
              · split
                · exact ht
                · exact hw

/-! ## Grammars (11_text) -/

theorem execGrammarLoad_canonical (h : s.canonical) {r : Ref} {a : SArgs} : AnswersCanonical (execGrammarLoad r a s) := by
  refine canonical_row h fun u e hu => ?_
  dsimp only
  split
  · exact canonical_reject hu _ _
  · split
    · exact canonical_reject hu _ _
    · refine canonical_ite (canonical_reject hu _ _) ?_
      split
      · exact canonical_reject hu _ _
      · next hsource =>
        have ht := canonical_source hu hsource
        refine canonical_ite (canonical_reject hu _ _) ?_
        split
        · exact canonical_done (by exact ht) _ _ _
        · exact canonical_reject hu _ _

theorem execGrammarUnload_canonical (h : s.canonical) {r : Ref} {a : HArgs} : AnswersCanonical (execGrammarUnload r a s) := by
  refine canonical_row h fun u e hu => ?_
  split
  · exact canonical_reject hu _ _
  · exact canonical_checked hu _ _ (canonical_done (by exact hu) _ _ _)

theorem execGrammarQuery_canonical (h : s.canonical) {r : Ref} {a : QArgs} : AnswersCanonical (execGrammarQuery r a s) := by
  refine canonical_row h fun u e hu => ?_
  split
  · exact canonical_reject hu _ _
  · exact canonical_answer hu _ _ _

theorem execGrammarMask_canonical (h : s.canonical) {r : Ref} {a : MaskArgs} : AnswersCanonical (execGrammarMask r a s) := by
  refine canonical_row h fun u e hu => ?_
  dsimp only
  split
  · exact canonical_reject hu _ _
  · refine canonical_ite (canonical_done (canonical_count hu) _ _ _) ?_
    split
    · exact canonical_reject hu _ _
    · next hread => exact canonical_output hu (canonical_readBuf hu hread) fun _ hv => canonical_done (canonical_count hv) _ _ _

end
end Sys2Proof.Machine
end

section
/-! Memories stay in canonical form, VII (logs 3 and 4): sessions, glazes, batches. -/

namespace Sys2Proof.Machine

section
open State
variable {s t : State}

/-! ## Sessions (13_serving R421 to R432) -/

theorem State.canonical_doneTags (h : s.canonical) {l : List Nat} {x y : Nat} : (s.doneTags l x y).canonical := by
  refine canonical_foldl (fun u n hu => ?_) _ h
  split
  · exact hu
  · exact canonical_done hu _ _ _

theorem State.canonical_endSession (h : s.canonical) {i : Nat} : (s.endSession i).canonical := by
  unfold State.endSession
  split
  · exact h
  · exact canonical_doneTags (canonical_doneTags (canonical_freeSession h))

theorem execSessionOpen_canonical (h : s.canonical) {r : Ref} {a : OpenArgs} : AnswersCanonical (execSessionOpen r a s) := by
  refine canonical_row h fun u e hu => canonical_checked hu _ _ ?_
  split
  · exact canonical_reject hu _ _
  · next t hpool =>
    obtain ⟨v, hv, hw⟩ := Option.bind_eq_some_iff.1 hpool
    have hvc := canonical_openPool hu hv
    have ht : t.canonical := by
      split at hw
      · exact Option.some.inj hw ▸ hvc
      · exact canonical_openPool hvc hw
    exact canonical_done (by exact ht) _ _ _

theorem State.canonical_beginGen (h : s.canonical) {i tag m f e a : Nat} {l : List Nat} {c : Bool} :
    (s.beginGen i tag l m f e a c).canonical := h

theorem State.canonical_genInput (h : s.canonical) {p : Nat} {v : Session} {a : GenArgs} {l : List Nat} {n : Nat}
    (ht : s.genInput p v a = .ok (l, n, t)) : t.canonical := by
  unfold State.genInput at ht
  dsimp only at ht
  split at ht
  · cases ht
  · split at ht
    · cases ht
      exact h
    · split at ht
      · cases ht
      · next hread =>
        have hu := canonical_readBuf h hread
        split at ht
        · split at ht
          · cases ht
          · cases ht
            exact hu
        · split at ht
          · cases ht
          · cases ht
            exact hu

theorem execGenerate_canonical (h : s.canonical) {r : Ref} {a : GenArgs} : AnswersCanonical (execGenerate r a s) := by
  refine canonical_row h fun u e hu => canonical_ite (canonical_reject hu _ _) ?_
  split
  · exact canonical_reject hu _ _
  · refine canonical_ite (canonical_reject hu _ _) (canonical_ite (canonical_reject hu _ _) ?_)
    split
    · exact canonical_done (canonical_count hu) _ _ _
    · next hinput =>
      extract_lets v
      have hv : v.canonical := canonical_keep (canonical_beginGen (canonical_genInput hu hinput))
      exact canonical_ite (canonical_reject hu _ _) (canonical_ite (canonical_count (canonical_count (canonical_count hv))) hv)

theorem execSessionCancel_canonical (h : s.canonical) {r : Ref} {a : HArgs} : AnswersCanonical (execSessionCancel r a s) := by
  refine canonical_row h fun u e hu => ?_
  split
  · exact canonical_reject hu _ _
  · exact canonical_keep (canonical_modSess hu)

theorem execSessionClose_canonical (h : s.canonical) {r : Ref} {a : HArgs} : AnswersCanonical (execSessionClose r a s) := by
  refine canonical_row h fun u e hu => ?_
  split
  · exact canonical_reject hu _ _
  · exact canonical_ite (canonical_reject hu _ _) (canonical_done (canonical_endSession hu) _ _ _)

theorem execSessionPromote_canonical (h : s.canonical) {r : Ref} {a : HArgs} : AnswersCanonical (execSessionPromote r a s) := by
  refine canonical_row h fun u e hu => ?_
  split
  · exact canonical_reject hu _ _
  · exact canonical_ite (canonical_reject hu _ _) (canonical_keep (canonical_modSess hu))

theorem execSessionQuery_canonical (h : s.canonical) {r : Ref} {a : QArgs} : AnswersCanonical (execSessionQuery r a s) := by
  refine canonical_row h fun u e hu => ?_
  split
  · exact canonical_reject hu _ _
  · exact canonical_answer hu _ _ _

theorem execShadowFeed_canonical (h : s.canonical) {r : Ref} {a : FeedArgs} : AnswersCanonical (execShadowFeed r a s) := by
  refine canonical_row h fun u e hu => canonical_ite (canonical_reject hu _ _) ?_
  split
  · exact canonical_reject hu _ _
  · refine canonical_ite (canonical_reject hu _ _) (canonical_ite (canonical_reject hu _ _) ?_)
    split
    · exact canonical_reject hu _ _
    · next hread =>
      refine canonical_ite (canonical_reject hu _ _) ?_
      split
      · exact canonical_done (canonical_count hu) _ _ _
      · exact canonical_keep (canonical_modSess (canonical_readBuf hu hread))

theorem execClassSet_canonical (h : s.canonical) {r : Ref} {a : ClassArgs} : AnswersCanonical (execClassSet r a s) :=
  canonical_row h fun _ _ hu => canonical_checked hu _ _ (canonical_done (canonical_modPart hu) _ _ _)

theorem execPrefixFlush_canonical (h : s.canonical) {r : Ref} : AnswersCanonical (execPrefixFlush r s) :=
  canonical_row h fun _ _ hu => canonical_done (canonical_foldl (fun _ _ hv => canonical_dropBlock hv) _ hu) _ _ _

/-! ## Glazes (13_serving R452, R453) -/

theorem execGlazeRegister_canonical (h : s.canonical) {r : Ref} {a : SArgs} : AnswersCanonical (execGlazeRegister r a s) := by
  refine canonical_row h fun u e hu => ?_
  split
  · exact canonical_reject hu _ _
  · next hsource =>
    refine canonical_checked hu _ _ ?_
    split
    · exact canonical_reject hu _ _
    · next hpages => exact canonical_done (canonical_modPart (canonical_loadPages (canonical_source hu hsource) hpages)) _ _ _

theorem State.canonical_dropGlaze (h : s.canonical) {p i : Nat} {z : Glaze} : (s.dropGlaze p i z).canonical :=
  canonical_ite (canonical_modPart h) (canonical_freePages h)

theorem State.canonical_glazesOver (h : s.canonical) : s.glazesOver.canonical := by
  have ht : ∀ l : List (Nat × Part),
      (l.foldl (fun (a : State) e => e.2.glazeGone.foldl (fun (b : State) g => b.freePages g.1 g.2) a) s).canonical :=
    fun l => canonical_foldl (fun _ _ hu => canonical_foldl (fun _ _ hv => canonical_freePages hv) _ hu) l h
  exact (ht s.parts :)

theorem execGlazeDeregister_canonical (h : s.canonical) {r : Ref} {a : HArgs} : AnswersCanonical (execGlazeDeregister r a s) := by
  refine canonical_row h fun u e hu => ?_
  split
  · exact canonical_reject hu _ _
  · exact canonical_checked hu _ _ (canonical_done (canonical_modPart (canonical_dropGlaze hu)) _ _ _)

theorem execGlazeQuery_canonical (h : s.canonical) {r : Ref} {a : QArgs} : AnswersCanonical (execGlazeQuery r a s) := by
  refine canonical_row h fun u e hu => ?_
  split
  · exact canonical_reject hu _ _
  · exact canonical_answer hu _ _ _

/-! ## Batches (13_serving R440 to R470) -/

theorem State.canonical_genDone (h : s.canonical) {v : Session} {x y n : Nat} {b : Bool} : (s.genDone v x y n b).canonical := by
  unfold State.genDone
  split
  · exact h
  · extract_lets result t u
    have hu : u.canonical := (canonical_ite (canonical_stageOver h) h : t.canonical)
    exact canonical_ite (canonical_done h _ _ _) (canonical_ite (canonical_done hu _ _ _) (canonical_done hu _ _ _))

theorem State.canonical_rollback (h : s.canonical) {i : Nat} : (s.rollback i).canonical := by
  unfold State.rollback
  split
  · exact h
  · exact canonical_modSess (canonical_unrefAll (canonical_unrefAll h))

theorem State.canonical_idle (h : s.canonical) {i : Nat} : (s.idle i).canonical := canonical_rollback (canonical_modSess h)

theorem State.canonical_letIn (h : s.canonical) {i : Nat} : (s.letIn i).canonical := by
  unfold State.letIn
  split
  · exact h
  · extract_lets full last dfull a b m t
    have ha : a.1.canonical := canonical_fst_ite h (canonical_lookupTable h)
    have hb : b.1.canonical := canonical_fst_ite ha (canonical_lookupTable ha)
    exact canonical_ite h (canonical_modSess (canonical_ite (canonical_count hb) hb))

theorem State.canonical_refuseLate (h : s.canonical) {l : List Nat} : (s.refuseLate l).canonical :=
  canonical_foldl (fun _ _ hu => canonical_count (canonical_idle (canonical_genDone hu))) _ h

theorem State.canonical_offer (h : s.canonical) {i n : Nat} : (s.offer i n).1.canonical := by
  unfold State.offer
  obtain ⟨take, htake⟩ : ∃ f, f = State.takeBlocks := ⟨_, rfl⟩
  rw [← htake]
  have hblocks : ∀ {u : State} {p m st n : Nat}, u.canonical → (take u p m st n).1.canonical :=
    fun hu => htake ▸ canonical_takeBlocks hu
  split
  · exact h
  · refine canonical_fst_ite (canonical_count h) (canonical_fst_ite (canonical_count h) ?_)
    dsimp only
    split
    · exact canonical_count (canonical_modSess (hblocks h))
    · split
      · exact canonical_count (canonical_modSess (canonical_unrefAll (hblocks (hblocks h))))
      · exact canonical_modQueue (canonical_modSess (hblocks (hblocks h)))

theorem State.canonical_allow (h : s.canonical) {n : Nat} : (s.allow n).canonical := h
theorem State.canonical_addDeficit (h : s.canonical) {p c : Nat} {d : Int} : (s.addDeficit p c d).canonical := h

theorem drrClass_canonical {p c chunk : Nat} {l : List Nat} {b : Bool} {d : Drr} (h : d.s.canonical) :
    (drrClass p c chunk l d b).1.s.canonical := by
  induction l generalizing d b with
  | nil => exact h
  | cons i l ih =>
    have hoffer : ∀ n, (d.s.offer i n).1.canonical := fun _ => canonical_offer h
    rw [drrClass]
    split
    · split
      · next ho => exact ih (canonical_addDeficit (ho ▸ hoffer _ :))
      · next ho => exact ih (ho ▸ hoffer _ :)
      · next ho => exact (ho ▸ hoffer _ :)
    · exact h

theorem drrTurn_canonical {p c chunk : Nat} {d : Drr} (h : d.s.canonical) : (drrTurn p chunk d c).s.canonical := by
  unfold drrTurn
  split
  · exact h
  · extract_lets v w r s1
    have hr : r.1.s.canonical := drrClass_canonical (canonical_addDeficit h)
    have hs : s1.canonical := canonical_modPart hr
    split
    · exact canonical_ite hs (canonical_modPart hs)
    · split
      · exact hs
      · exact hs

theorem drrRounds_canonical {p chunk n : Nat} {d : Drr} (h : d.s.canonical) : (drrRounds p chunk n d).s.canonical := by
  induction n generalizing d with
  | zero => exact h
  | succ n ih =>
    rw [drrRounds]
    split
    · exact h
    · exact ih (List.foldlRecOn _ _ (motive := fun d : Drr => d.s.canonical) h fun _ hd _ _ => drrTurn_canonical hd)

theorem State.canonical_placeCarried {p chunk : Nat} {d : Drr} (hd : d.s.canonical) :
    (s.placeCarried p chunk d).s.canonical := by
  refine List.foldlRecOn _ _ (motive := fun d : Drr => d.s.canonical) hd fun d hd i _ => ?_
  have hoffer : ∀ n, (d.s.offer i n).1.canonical := fun _ => canonical_offer hd
  dsimp only
  split
  · next ho => exact canonical_addDeficit (ho ▸ hoffer _ :)
  · next ho => exact (ho ▸ hoffer _ :)

theorem State.canonical_placeSteps (h : s.canonical) {p chunk : Nat} : (s.placeSteps p chunk).canonical :=
  drrRounds_canonical (d := { State.placeCarried s p chunk _ with elig := _ }) (canonical_placeCarried h)

theorem State.canonical_requestFirst (h : s.canonical) {p n : Nat} {im : Image} : (s.requestFirst p n im).canonical :=
  canonical_foldl (fun _ _ hu => canonical_requestLayer hu) _ h

theorem State.canonical_formBatch (h : s.canonical) {p i n : Nat} {l : List Nat} {lrs : List (Nat × Nat)} :
    (s.formBatch p i l lrs n).canonical := by
  unfold State.formBatch
  split
  · exact h
  · extract_lets n pins k on v _ t u
    have hk : k.2.canonical := canonical_addTask (canonical_pinTables h)
    have ht : t.canonical := hk
    exact canonical_prefetch (canonical_foldl (fun _ _ hv => canonical_requestFirst hv) _ ht)

theorem State.canonical_formBatches (h : s.canonical) {lrs : List (List (Nat × Nat))} {lvs : List Nat} :
    (s.formBatches lrs lvs).canonical := canonical_foldl (fun _ _ hu => canonical_formBatch hu) _ h

theorem State.canonical_waitsOver (h : s.canonical) : (s.waitsOver t).canonical := h

theorem State.canonical_placeChains (h : s.canonical) {l : List (Ref × Nat)} : (s.placeChains l).canonical := by
  refine canonical_foldl (fun u e hu => ?_) _ h
  split
  · exact hu
  · split
    · exact hu
    · exact canonical_foldl (fun _ _ hv => canonical_requestFirst hv) _ (by exact hu)

theorem State.canonical_released (h : s.canonical) : s.released.canonical := h

theorem execBatchRelease_canonical (h : s.canonical) {p : Policy} : AnswersCanonical (execBatchRelease p s) := by
  have ht : ((s.refuseLate p.unreachable).allow p.bMod).canonical := canonical_allow (canonical_refuseLate h)
  unfold execBatchRelease
  split
  · exact h
  · exact canonical_released (canonical_placeChains (canonical_formBatches (canonical_waitsOver
      (canonical_foldl (fun _ _ hu => canonical_placeSteps hu) _ ht))))

theorem execBatchFallback_canonical (h : s.canonical) : AnswersCanonical (execBatchFallback s) := by
  unfold execBatchFallback
  extract_lets place carried t again u
  have hplace : ∀ a i n, a.canonical → (place a i n).canonical := fun _ _ _ ha => canonical_ite ha (canonical_offer ha)
  have ht : t.canonical := canonical_foldl (fun _ _ hv => hplace _ _ _ hv) _ h
  have hu : u.canonical := canonical_foldl (fun _ _ hv => hplace _ _ _ hv) _ ht
  split
  · exact h
  · exact canonical_devCount (canonical_released (canonical_formBatches (canonical_waitsOver hu)))

theorem execKvExhausted_canonical (h : s.canonical) {n : Nat} : AnswersCanonical (execKvExhausted n s) := canonical_modSess h

theorem State.canonical_disallow (h : s.canonical) {i n : Nat} {v : Session} : (s.disallow i v n).canonical :=
  canonical_count (canonical_modSess h)

theorem State.canonical_buildMask (h : s.canonical) {i : Nat} {v : Session} {g : Grammar} : (s.buildMask i v g).canonical := by
  unfold State.buildMask
  dsimp only
  split
  · exact h
  · refine canonical_ite (canonical_disallow h) (canonical_ite (canonical_modSess h) ?_)
    split
    · exact canonical_disallow (canonical_count h)
    · exact canonical_ite (canonical_disallow (canonical_count (canonical_count h))) (canonical_modSess (canonical_count (canonical_count h)))

theorem execMaskBuild_canonical (h : s.canonical) {n : Nat} : AnswersCanonical (execMaskBuild n s) := by
  unfold execMaskBuild
  split
  · exact h
  · split
    · exact h
    · split
      · exact h
      · exact canonical_buildMask h

theorem execDraftPass_canonical (h : s.canonical) {n us : Nat} {l : List Word} : AnswersCanonical (execDraftPass n l us s) := by
  unfold execDraftPass
  split
  · exact h
  · dsimp only
    split
    · exact h
    · split
      · split
        · exact h
        · split
          · exact canonical_modSess (canonical_count (canonical_charge (canonical_readPages h)))
          · exact canonical_modSess (canonical_count (canonical_charge (canonical_readPages h)))
      · exact h

theorem execLvs_canonical (h : s.canonical) {n : Nat} : AnswersCanonical (execLvs n s) := by
  unfold execLvs
  split
  · exact h
  · split
    · exact h
    · refine canonical_foldl (fun u i hu => ?_) _ (by exact h)
      split
      · exact hu
      · exact canonical_ite (canonical_count (canonical_modSess hu)) hu

theorem execVerification_canonical (h : s.canonical) {n : Nat} {j : Judged} : AnswersCanonical (execVerification n j s) := by
  unfold execVerification
  split
  · exact h
  · split
    · exact h
    · split
      · exact h
      · have ht : ∀ p m f, ((s.count p Ctr.maskWaitNs m).modSess n f).canonical := fun _ _ _ => canonical_modSess (canonical_count h)
        dsimp only
        split
        · exact ht ..
        · exact canonical_count (canonical_count (canonical_count (canonical_count (canonical_count (ht ..)))))

end
end Sys2Proof.Machine
end

section
/-! Memories stay in canonical form, VIII (logs 3 and 4): chains, the commit, lost domains and scrubbing. -/

namespace Sys2Proof.Machine

section
open State
variable {s t : State}

/-! ## Chains (14_chains) -/

theorem State.canonical_stagePost (h : s.canonical) {e : CmdE} {n x y : Nat} : (s.stagePost e n x y).canonical :=
  canonical_ite (canonical_stageOver h) h

theorem State.canonical_dropUser (h : s.canonical) {p n tag : Nat} : (s.dropUser p n tag).canonical := h

theorem State.canonical_chainRelease (h : s.canonical) {e : CmdE} : (s.chainRelease e).canonical :=
  canonical_dropUser (canonical_unpinIndex h)

theorem State.canonical_chainFail (h : s.canonical) {e : CmdE} {n x y : Nat} : (s.chainFail e n x y).canonical := by
  unfold State.chainFail
  extract_lets p q t
  have hp : p.canonical := canonical_stagePost h
  have hq : q.canonical := by
    dsimp only [q]
    split
    · exact hp
    · exact canonical_chainPages hp
  have ht : t.canonical := hq
  exact canonical_chainRelease (canonical_done ht _ _ _)

theorem State.canonical_chainStore (h : s.canonical) {c : Chain} {k : Nat} {bs : List Byte} (ht : s.chainStore c k bs = some t) :
    t.canonical := by
  obtain ⟨⟨j, u⟩, hu, rfl⟩ := Option.map_eq_some_iff.1 ht
  exact (canonical_devPut (canonical_alloc h hu) (65536 * j) bs :)

theorem execChain_canonical (h : s.canonical) {r : Ref} {a : ChainArgs} : AnswersCanonical (execChain r a s) := by
  refine canonical_row h fun u e hu => canonical_checked hu _ _ ?_
  obtain ⟨store, hstore⟩ : ∃ f, f = State.chainStore := ⟨_, rfl⟩
  rw [← hstore]
  split
  · exact canonical_reject hu _ _
  · next hread =>
    extract_lets v held k
    have hk : k.canonical := canonical_keep (canonical_modPart (canonical_readBuf hu hread))
    split
    · exact canonical_chainFail hk
    · split
      · exact canonical_chainFail hk
      · next hput =>
        subst hstore
        exact canonical_count (canonical_count (canonical_count (canonical_chainStore hk hput)))

theorem State.canonical_chainEmbed (h : s.canonical) {e : CmdE} {a : ChainArgs} {c : Chain} {n : Nat} :
    (s.chainEmbed e a c n).canonical := by
  unfold State.chainEmbed
  obtain ⟨store, hstore⟩ : ∃ f, f = State.chainStore := ⟨_, rfl⟩
  rw [← hstore]
  refine canonical_ite (canonical_chainFail h) ?_
  split
  · exact canonical_chainFail (canonical_stagePost h)
  · split
    · exact canonical_chainFail h
    · next hput =>
      subst hstore
      exact canonical_stagePost (canonical_chainStore h hput)

theorem State.canonical_chainSearch (h : s.canonical) {e : CmdE} {a : ChainArgs} {c : Chain} : (s.chainSearch e a c).canonical := by
  unfold State.chainSearch
  obtain ⟨store, hstore⟩ : ∃ f, f = State.chainStore := ⟨_, rfl⟩
  rw [← hstore]
  split
  · exact canonical_chainFail h
  · dsimp only
    split
    · exact canonical_chainFail h
    · next hput =>
      subst hstore
      exact canonical_stagePost (canonical_searched (canonical_chainStore h hput))

theorem State.canonical_chainRerank (h : s.canonical) {e : CmdE} {a : ChainArgs} {c : Chain} {l : List Word} :
    (s.chainRerank e a c l).canonical := by
  unfold State.chainRerank
  split
  · refine canonical_ite (canonical_chainFail h) (canonical_ite (canonical_chainFail h) (canonical_ite h ?_))
    dsimp only
    split
    · exact canonical_chainFail h
    · next hput => exact canonical_stagePost (canonical_modIndex (canonical_chainStore h hput))
  · exact canonical_chainFail h

theorem State.canonical_chainGenerate (h : s.canonical) {e : CmdE} {a : ChainArgs} {l : List Nat} :
    (s.chainGenerate e a l).canonical := by
  unfold State.chainGenerate
  split
  · exact canonical_chainFail h
  · refine canonical_ite (canonical_chainFail h) (canonical_ite (canonical_chainFail h) ?_)
    extract_lets t
    have ht : t.canonical := canonical_beginGen h
    split
    · exact ht
    · exact (canonical_chainPages ht :)

theorem State.canonical_chainPack (h : s.canonical) {e : CmdE} {a : ChainArgs} {c : Chain} : (s.chainPack e a c).canonical := by
  unfold State.chainPack
  split
  · refine canonical_ite (canonical_chainFail h) ?_
    dsimp only
    split
    · exact canonical_chainFail h
    · next hput =>
      exact canonical_chainGenerate (canonical_chainRelease (canonical_stagePost (canonical_modIndex (canonical_chainStore h hput))))
  · exact canonical_chainFail h

theorem execChainStageComplete_canonical (h : s.canonical) {r : Ref} {n : Nat} {l : List Word} :
    AnswersCanonical (execChainStageComplete r n l s) := by
  unfold execChainStageComplete
  split
  · exact h
  · split
    · exact h
    · extract_lets a p ks u
      have hp : p.canonical := canonical_ite (canonical_pinIndex h) h
      have hu : u.canonical := canonical_readPages (canonical_setCmd hp)
      split
      · exact h
      · split
        · exact canonical_chainFail hp
        · split
          · next hhold => exact canonical_hold hp hhold
          · split
            · exact canonical_chainEmbed hu
            · exact canonical_chainSearch hu
            · exact canonical_chainRerank hu
            · exact canonical_chainPack hu

/-! ## Records and the commit (13_serving R471 to R486) -/

theorem State.canonical_putRecord (h : s.canonical) {p q : Nat} {bs : List Byte} : (s.putRecord p q bs).canonical := by
  unfold State.putRecord
  refine canonical_ite h (canonical_ite (canonical_count h) ?_)
  extract_lets k size pad at' m
  have hm : m.wf := by
    dsimp only [m]
    split
    · exact h.1
    · exact Mem.writeN_wf h.1 _ _
  exact canonical_count (canonical_modQueue (s := { s with hostMem := _ }) ⟨Mem.writeN_wf hm _ _, h.2⟩)

theorem State.canonical_record (h : s.canonical) {i x n : Nat} {f : RFlags} {bs : List Byte} {ids : List Nat} :
    (s.record i f x n bs ids).canonical := by
  unfold State.record
  split
  · exact h
  · exact canonical_putRecord h

theorem State.canonical_seqUp (h : s.canonical) {i : Nat} : (s.seqUp i).canonical := h
theorem State.canonical_countDetok (h : s.canonical) {p : Nat} {d : Detok} : (s.countDetok p d).canonical := h

theorem State.canonical_countEnd (h : s.canonical) {p x : Nat} : (s.countEnd p x).canonical :=
  canonical_ite (canonical_count h) (canonical_ite (canonical_count h) (canonical_ite (canonical_count h) h))

theorem State.canonical_fillSession (h : s.canonical) {i : Nat} : (s.fillSession i).canonical := by
  unfold State.fillSession
  split
  · exact h
  · exact canonical_ite (canonical_fillBlocks h) (canonical_fillBlocks (canonical_fillBlocks h))

theorem State.canonical_stepDone (h : s.canonical) {i : Nat} {v : Session} : (s.stepDone i v).canonical := h

theorem State.canonical_retireLate (h : s.canonical) {i : Nat} {v : Session} {b : Bool} : (s.retireLate i v b).canonical :=
  canonical_ite (canonical_endSession (canonical_genDone (canonical_record (canonical_count h))))
    (canonical_ite (canonical_endSession (canonical_genDone (canonical_record (canonical_countDetok (canonical_count h)))))
      (canonical_endSession (canonical_genDone (canonical_record (canonical_count h)))))

theorem State.canonical_commitCancel (h : s.canonical) {i : Nat} {v : Session} : (s.commitCancel i v).canonical := by
  unfold State.commitCancel
  extract_lets status t a b
  have ht : t.canonical := canonical_ite (canonical_count h) h
  have ha : a.canonical := canonical_seqUp (canonical_count ht)
  have hb : b.canonical := canonical_ite (canonical_fillSession (canonical_stepDone ha)) ha
  exact canonical_ite (canonical_endSession (canonical_genDone (canonical_record hb))) (canonical_endSession ht)

theorem State.canonical_carry (h : s.canonical) {i : Nat} {v : Session} : (s.carry i v).canonical := h

theorem State.canonical_commitCarry (h : s.canonical) {i : Nat} {v : Session} : (s.commitCarry i v).canonical :=
  canonical_ite (canonical_retireLate (canonical_seqUp (canonical_carry h))) (canonical_record (canonical_seqUp (canonical_carry h)))

theorem State.canonical_commitChunk (h : s.canonical) {i : Nat} {v : Session} : (s.commitChunk i v).canonical := by
  unfold State.commitChunk
  extract_lets t u c
  have hu : u.canonical := canonical_fillSession (canonical_modSess (canonical_stepDone (canonical_seqUp h)))
  have hc : c.canonical := canonical_ite (canonical_count hu) hu
  exact canonical_ite (canonical_retireLate hc) (canonical_record hc)

theorem State.canonical_echo (h : s.canonical) {i : Nat} {v : Session} : (s.echo i v).canonical :=
  canonical_ite (canonical_modSess (canonical_record h)) h

theorem State.canonical_firstFired (h : s.canonical) {v : Session} {l : List Nat} : (s.firstFired v l).canonical := by
  unfold State.firstFired
  split
  · exact h
  · exact canonical_ite (canonical_stageOver h) h

theorem State.canonical_settleFired (h : s.canonical) {i : Nat} {v : Session} {f : Fired} {d : Detok} {m : Option Nat} :
    (s.settleFired i v f d m).canonical := canonical_modSess (canonical_unrefAll (canonical_unrefAll h))

theorem State.canonical_commitFire (h : s.canonical) {i : Nat} {v : Session} : (s.commitFire i v).canonical := by
  unfold State.commitFire
  extract_lets voc g t f late e ends d status reason a b r w x
  have ht : t.canonical := canonical_echo (canonical_stepDone (canonical_seqUp h))
  have ha : a.canonical := canonical_count (canonical_countEnd (canonical_countDetok (canonical_count (canonical_count (canonical_count ht)))))
  have hb : b.canonical := canonical_fillSession (canonical_settleFired ha)
  have hw : w.canonical := canonical_firstFired (canonical_record hb)
  exact canonical_ite (canonical_retireLate (canonical_count (canonical_fillSession ht)))
    (canonical_ite (canonical_endSession (canonical_genDone (canonical_count hw))) (canonical_ite (canonical_idle (canonical_genDone hw)) hw))

theorem State.canonical_commitKvOut (h : s.canonical) {i : Nat} {v : Session} : (s.commitKvOut i v).canonical :=
  canonical_idle (canonical_genDone (canonical_record (canonical_modSess (canonical_countDetok (canonical_seqUp h)))))

theorem State.canonical_feedDone (h : s.canonical) {i : Nat} {v : Session} : (s.feedDone i v).canonical := by
  unfold State.feedDone
  split
  · exact h
  · extract_lets ctx voc q t
    have ht : t.canonical := canonical_fillSession (canonical_modSess h)
    split
    · exact ht
    · exact canonical_done ht _ _ _

theorem State.canonical_promote (h : s.canonical) {i : Nat} : (s.promote i).canonical := by
  unfold State.promote
  split
  · exact h
  · exact canonical_ite h (canonical_doneTags (canonical_doneTags (canonical_modSess h)))

theorem State.canonical_commitShadow (h : s.canonical) {i : Nat} {v : Session} : (s.commitShadow i v).canonical := by
  refine canonical_promote ?_
  split
  · exact h
  · exact canonical_modSess h
  · exact canonical_carry h
  · exact canonical_feedDone h

theorem State.canonical_commitSession (h : s.canonical) {i : Nat} : (s.commitSession i).canonical := by
  unfold State.commitSession
  split
  · exact h
  · refine canonical_ite (canonical_commitCancel h) ?_
    split
    · exact h
    · exact canonical_commitShadow h
    · refine canonical_ite (canonical_ite (canonical_retireLate (canonical_seqUp h)) (canonical_commitKvOut h)) (canonical_ite h ?_)
      split
      · exact canonical_commitCarry h
      · exact canonical_ite (canonical_commitFire h) (canonical_commitChunk h)
      · exact canonical_ite (canonical_retireLate (canonical_seqUp (canonical_modSess h))) (canonical_modSess h)

theorem State.canonical_tail (h : s.canonical) {p q : Nat} : (s.tail p q).canonical :=
  canonical_ite h (canonical_due (canonical_modQueue (s := { s with hostMem := _ }) ⟨Mem.writeN_wf h.1 _ _, h.2⟩))

theorem State.canonical_signal (h : s.canonical) : s.signal.canonical := by
  unfold State.signal
  extract_lets t u
  have ht : t.canonical := canonical_foldl (fun _ _ hu => canonical_foldl (fun _ _ hv => canonical_tail hv) _ hu) _ h
  have hu : u.canonical := canonical_foldl (fun _ _ hv => canonical_raise hv) _ ht
  exact hu

theorem State.canonical_endBatches (h : s.canonical) : s.endBatches.canonical := by
  unfold State.endBatches
  extract_lets t
  have ht : t.canonical := by
    refine canonical_foldl (fun u e hu => ?_) _ h
    dsimp only
    split
    · exact hu
    · exact canonical_ite (canonical_endTask (canonical_unpinTables hu)) (canonical_unpinTables hu)
  exact ht

theorem State.canonical_refireOver (h : s.canonical) {v : Batch} : (s.refireOver v).canonical := canonical_ite h (canonical_refireTime h)

theorem State.canonical_windowEnd (h : s.canonical) : s.windowEnd.canonical := by
  unfold State.windowEnd
  extract_lets _ w t u x
  have ht : t.canonical := canonical_parityDue (canonical_foldl (fun _ _ hv => canonical_refireOver hv) _ (by exact h))
  have hu : u.canonical := canonical_foldl (fun _ _ hv => canonical_commitSession hv) _ ht
  have hx : x.canonical := canonical_signal (canonical_endBatches hu)
  clear_value x
  exact hx

theorem execComputeWindowEnd_canonical (h : s.canonical) : AnswersCanonical (execComputeWindowEnd s) := by
  unfold execComputeWindowEnd
  split
  · exact h
  · exact canonical_windowEnd h

/-! ## Lost domains and scrubbing (21_reliability) -/

theorem State.canonical_dieTask (h : s.canonical) {k : Task} : (s.dieTask k).canonical := by
  unfold State.dieTask
  split
  · exact h
  · exact h
  · split
    · exact h
    · split
      · exact h
      · exact canonical_ite h (by exact h)

theorem State.canonical_dieTiles (h : s.canonical) {d : Nat} : (s.dieTiles d).canonical := h

theorem State.canonical_loseDie (h : s.canonical) {d : Nat} : (s.loseDie d).canonical :=
  canonical_degrade (canonical_quarantine (canonical_dieTiles (canonical_foldl (fun _ _ hu => canonical_dieTask hu) _ (by exact h))))

theorem State.canonical_dropMoves (h : s.canonical) {n : Nat} : (s.dropMoves n).canonical :=
  canonical_foldl (fun _ _ hu => canonical_abandon hu) _ h

theorem State.canonical_loseJournals (h : s.canonical) : s.loseJournals.canonical := h

theorem State.canonical_loseStack (h : s.canonical) {n : Nat} : (s.loseStack n).canonical := by
  unfold State.loseStack
  extract_lets _ t here gone u v w
  have ht : t.canonical := canonical_dropMoves h
  have hu : u.canonical := canonical_foldl (fun _ _ hv => canonical_dropBlock hv) _ ht
  have hv : v.canonical := canonical_loseBlocks hu
  have hw : w.canonical := canonical_ite (canonical_loseJournals hv) hv
  exact canonical_degrade (canonical_settle (by exact hw))

theorem State.canonical_loseDomain (h : s.canonical) {d : Nat} : (s.loseDomain d).canonical := by
  unfold State.loseDomain
  extract_lets _ t u v n w
  have hu : u.canonical := h
  have hv : v.canonical := canonical_loseStack hu
  have hw : w.canonical := canonical_logFault hu
  exact canonical_ite (canonical_logFault (canonical_loseDie hu)) (canonical_ite (canonical_logFault hv) (canonical_ite hw (by exact hw)))

theorem execDomainLost_canonical (h : s.canonical) {n : Nat} : AnswersCanonical (execDomainLost n s) := by
  unfold execDomainLost
  split
  · exact h
  · exact canonical_loseDomain h

theorem execDieTrip_canonical (h : s.canonical) {n : Nat} : AnswersCanonical (execDieTrip n s) := by
  unfold execDieTrip
  split
  · exact h
  · exact canonical_loseDomain (canonical_powCount (by exact h))

theorem execPatrolScrub_canonical (h : s.canonical) {g : Region} {b : Bool} : AnswersCanonical (execPatrolScrub g b s) := by
  unfold execPatrolScrub
  split
  · split
    · exact h
    · split
      · exact canonical_strike h
      · exact canonical_tileWordCe h
  · exact canonical_ite (canonical_brokenFrame h) (canonical_corrected h)
  · have hlog : ∀ a b c d e f g i, ((s.devCount Ctr.memUe 1).logFault a b c d e f g i).canonical := fun _ _ _ _ _ _ _ _ =>
      canonical_logFault (canonical_devCount h)
    split
    · exact h
    · split
      · exact hlog ..
      · exact canonical_hubWordCe h

theorem execHubSramReload_canonical (h : s.canonical) {n : Nat} : AnswersCanonical (execHubSramReload n s) := by
  unfold execHubSramReload
  split <;> exact h

theorem execRenobLinkFail_canonical (h : s.canonical) {n m : Nat} : AnswersCanonical (execRenobLinkFail n m s) := by
  unfold execRenobLinkFail
  split
  · exact h
  · exact canonical_logFault (by exact h)

end
end Sys2Proof.Machine
end

section
/-! Memories stay in canonical form, IX (logs 3 and 4): flash, management, the wheel and the turn boundary. -/

namespace Sys2Proof.Machine

section
open State
variable {s t : State}

/-! ## Flash (08_memory_tiers R276 to R280) -/

theorem State.canonical_mediaFails (h : s.canonical) {k : Nat} : (s.mediaFails k).canonical :=
  canonical_foldl (fun _ _ hu => canonical_finishRecord hu) _
    (canonical_foldl (fun _ _ hu => canonical_ite (canonical_chainFail hu) (canonical_reject hu _ _)) _ h)

theorem State.canonical_mediaMoves (h : s.canonical) {k : Nat} : (s.mediaMoves k).canonical :=
  canonical_foldl (fun _ _ hu => canonical_endMove hu) _ h

theorem State.canonical_mediaLost (h : s.canonical) {k : Nat} {g : Page} : (s.mediaLost k g).canonical := by
  unfold State.mediaLost
  extract_lets t u
  have ht : t.canonical := canonical_modPage (canonical_flashCount h)
  have hu : u.canonical := canonical_ite (canonical_loseBlocks ht) ht
  exact canonical_settle (canonical_mediaFails (canonical_mediaMoves hu))

theorem State.canonical_flashFault (h : s.canonical) {p k x : Nat} : (s.flashFault p k x).canonical := canonical_logFault h

theorem execT2PageRead_canonical (h : s.canonical) {n m : Nat} : AnswersCanonical (execT2PageRead n m s) := by
  unfold execT2PageRead
  split
  · exact h
  · split
    · exact h
    · split
      · exact canonical_arrive h
      · extract_lets t
        have ht : t.canonical := canonical_flashFault (canonical_flashCount h)
        split
        · exact canonical_arrive (canonical_ite (canonical_count ht) ht)
        · exact canonical_flashFault (canonical_mediaLost h)

/-! ## The management side (20_management) -/

theorem execMctpControl_canonical (h : s.canonical) {n m : Nat} : AnswersCanonical (execMctpControl n m s) := by
  unfold execMctpControl
  split
  · exact h
  · exact canonical_answers (canonical_ite (by exact h) h)

theorem execPldmRequest_canonical (h : s.canonical) {a b c : Nat} : AnswersCanonical (execPldmRequest a b c s) := by
  unfold execPldmRequest
  split
  · exact h
  · split
    · exact h
    · split
      · exact h
      · split
        · split <;> exact h
        · exact h

theorem execPowerCap_canonical (h : s.canonical) {n : Nat} : AnswersCanonical (execPowerCap n s) := by
  unfold execPowerCap
  split
  · exact h
  · split <;> exact h

theorem execRequestUpdate_canonical (h : s.canonical) {n m : Nat} {a b : Bool} : AnswersCanonical (execRequestUpdate n m a b s) := by
  unfold execRequestUpdate
  split
  · exact h
  · extract_lets c b' bad d _ t
    have ht : t.canonical := h
    split <;> exact canonical_answers (canonical_logEv ht)

theorem State.canonical_activate (h : s.canonical) {i : Nat} : (s.activate i).canonical := by
  unfold State.activate
  dsimp only
  split
  · exact h
  · exact canonical_ite (canonical_logEv (by exact h)) (canonical_logEv (by exact h))

theorem execActivateFirmware_canonical (h : s.canonical) {l : List Nat} {m : Option (List Nat)} :
    AnswersCanonical (execActivateFirmware l m s) := by
  unfold execActivateFirmware
  split
  · exact h
  · extract_lets t _ u w
    have ht : t.canonical := canonical_foldl (fun _ _ hv => canonical_activate hv) _ h
    have hu : u.canonical := by
      dsimp only [u]
      split
      · exact ht
      · exact canonical_ite ht (by exact ht)
    exact canonical_answers (canonical_ite (canonical_writeFloors hu) hu)

theorem execI3cTargetReset_canonical (h : s.canonical) {n : Nat} : AnswersCanonical (execI3cTargetReset n s) := by
  unfold execI3cTargetReset
  split <;> exact h

/-! ## The wheel and PACE (15_wheel) -/

theorem State.canonical_holdTime (h : s.canonical) : s.holdTime.canonical := canonical_ite h (canonical_devCount (by exact h))

theorem State.canonical_setPace (h : s.canonical) {n : Nat} : (s.setPace n).canonical := by
  unfold State.setPace
  extract_lets t _ w u
  have hu : u.canonical := canonical_platformEvent (by exact canonical_holdTime h)
  split
  · exact canonical_devCount hu
  · exact canonical_devCount hu
  · exact hu

theorem State.canonical_refLost (h : s.canonical) : s.refLost.canonical := canonical_ite (canonical_setPace h) (by exact h)

theorem execPpsEdge_canonical (h : s.canonical) {n : Nat} {a b : Int} : AnswersCanonical (execPpsEdge n a b s) := by
  unfold execPpsEdge
  extract_lets w near n t
  have ht : t.canonical := h
  split
  · exact h
  · split
    · split <;> exact h
    · split
      · exact h
      · split <;> exact ht

theorem execRefPresenceLoss_canonical (h : s.canonical) : AnswersCanonical (execRefPresenceLoss s) := by
  unfold execRefPresenceLoss
  split
  · exact h
  · exact canonical_refLost (by exact h)

theorem execRefFrequencyCheck_canonical (h : s.canonical) {b : Bool} {n : Int} : AnswersCanonical (execRefFrequencyCheck b n s) := by
  unfold execRefFrequencyCheck
  split
  · exact h
  · split
    · exact h
    · exact canonical_refLost (by exact h)

theorem execPpsContinuityLoss_canonical (h : s.canonical) : AnswersCanonical (execPpsContinuityLoss s) := by
  unfold execPpsContinuityLoss
  split
  · exact canonical_refLost h
  · exact h

theorem execHoldoverLimit_canonical (h : s.canonical) : AnswersCanonical (execHoldoverLimit s) := by
  unfold execHoldoverLimit
  split
  · exact canonical_setPace h
  · exact h

theorem execAcquireTimeout_canonical (h : s.canonical) : AnswersCanonical (execAcquireTimeout s) := by
  unfold execAcquireTimeout
  split
  · exact canonical_setPace h
  · exact h

theorem execSecondMark_canonical (h : s.canonical) {n : Nat} : AnswersCanonical (execSecondMark n s) := by
  unfold execSecondMark
  split
  · exact h
  · refine canonical_foldl (fun u e hu => ?_) _ (by exact h)
    split
    · exact hu
    · exact canonical_done hu _ _ _

/-! ## The turn boundary (15_wheel R488 to R492) -/

theorem State.canonical_wheelTurn (h : s.canonical) : s.wheelTurn.canonical := by
  have hcount : ∀ {u : State} {b : Bool} {c n : Nat}, u.canonical → (if b then u.devCount c n else u).canonical :=
    fun hu => canonical_ite (canonical_devCount hu) hu
  have ht : ∀ w x, State.canonical { ({ s with wheel := w } : State).holdTime with wheel := x } :=
    fun _ _ => canonical_holdTime (by exact h)
  unfold State.wheelTurn
  dsimp only
  exact canonical_ite (canonical_setPace (hcount (hcount (ht _ _)))) (hcount (hcount (ht _ _)))

theorem State.canonical_newSalt (h : s.canonical) {d : Nat} : (s.newSalt d).canonical := by
  unfold State.newSalt
  extract_lets cached t
  have ht : t.canonical := canonical_foldl (fun _ _ hv => canonical_dropBlock hv) _ h
  exact ht

theorem State.canonical_salts (h : s.canonical) : (s.salts t).canonical := canonical_foldl (fun _ _ hu => canonical_newSalt hu) _ h

theorem State.canonical_dropOrphans (h : s.canonical) : s.dropOrphans.canonical := by
  unfold State.dropOrphans
  extract_lets dead t gone u
  have ht : t.canonical := canonical_foldl (fun _ _ hv => canonical_foldl (fun _ _ hw => canonical_endTask hw) _ (by exact hv)) _ h
  have hu : u.canonical := canonical_foldl (fun _ _ hv => canonical_chainPages hv) _ ht
  exact hu

theorem State.canonical_disableAt (h : s.canonical) {p : Nat} : (s.disableAt p).canonical :=
  canonical_modPart (canonical_endTasks (canonical_foldl (fun _ _ hu => canonical_freeSession hu) _ (canonical_abort h)))

theorem State.canonical_queueAt (h : s.canonical) {p q : Nat} : (s.queueAt p q).canonical := by
  refine canonical_ite h ?_
  split
  · exact canonical_modQueue (canonical_abort h)
  · exact canonical_abort h
  · exact h

theorem State.canonical_disables (h : s.canonical) : s.disables.canonical :=
  canonical_dropOrphans (canonical_foldl (fun _ _ hu =>
    canonical_ite (canonical_disableAt hu) (canonical_foldl (fun _ _ hv => canonical_queueAt hv) _ hu)) _ h)

theorem State.canonical_lock (h : s.canonical) : s.lock.canonical := by
  unfold State.lock
  refine canonical_ite h ?_
  extract_lets gen t u v _ _
  have ht : t.canonical := canonical_foldl (fun _ _ hv => canonical_idle (canonical_genDone (canonical_record (canonical_seqUp hv)))) _ h
  have hu : u.canonical := canonical_signal (canonical_abort ht)
  have hv : v.canonical := canonical_foldl (fun _ _ hv => canonical_endTasks hv) _ (canonical_endSpdm hu)
  exact (canonical_foldl (fun _ _ hw => canonical_chainPages hw) _ hv :)

theorem State.canonical_preemptions (h : s.canonical) : s.preemptions.canonical :=
  canonical_ite (canonical_preemptAll h) (canonical_preemption h)

theorem State.canonical_trimSave (h : s.canonical) {p : Nat} : (s.trimSave p).canonical := canonical_modPart h

theorem execTurnBoundary_canonical (h : s.canonical) : AnswersCanonical (execTurnBoundary s) := by
  unfold execTurnBoundary
  split
  · exact h
  · extract_lets s' _ w t u x
    have hs : s'.canonical := canonical_ite (canonical_windowEnd h) h
    have hw : w.canonical := (canonical_wheelTurn (canonical_glazesOver hs) :)
    have ht : t.canonical := hw
    have hu : u.canonical := canonical_lock (canonical_salts (canonical_disables ht))
    split
    · exact hu
    · exact canonical_foldl (fun _ _ hv => canonical_trimSave hv) _
        (canonical_preemptions (canonical_foldl (fun _ _ hv => canonical_letIn hv) _ hu))

end
end Sys2Proof.Machine
end

section
/-! Memories stay in canonical form (logs 3 and 4): every command, and the obligations. -/

namespace Sys2Proof.Machine

/-- Every command keeps the form: one lemma per command. -/
theorem exec_answersCanonical {s : State} (h : s.canonical) (i : Instr) : AnswersCanonical (exec i s) :=
  match i with
  | .identify _ _ => execIdentify_canonical h
  | .queueReset _ _ => execQueueReset_canonical h
  | .counterQuery _ _ => execCounterQuery_canonical h
  | .diagQuery _ _ => execDiagQuery_canonical h
  | .coneProgram _ _ => execConeProgram_canonical h
  | .snapshotRead _ _ => execSnapshotRead_canonical h
  | .logRead _ _ => execLogRead_canonical h
  | .powerSet _ _ => execPowerSet_canonical h
  | .timeSet _ _ => execTimeSet_canonical h
  | .linkQuery _ _ => execLinkQuery_canonical h
  | .imageLoad _ _ => execImageLoad_canonical h
  | .imageUnload _ _ => execImageUnload_canonical h
  | .graphRun _ _ _ => execGraphRun_canonical h
  | .imageQuery _ _ => execImageQuery_canonical h
  | .indexCreate _ _ => execIndexCreate_canonical h
  | .indexLoad _ _ => execIndexLoad_canonical h
  | .indexDrop _ _ => execIndexDrop_canonical h
  | .indexQuery _ _ => execIndexQuery_canonical h
  | .insert _ _ => execInsert_canonical h
  | .delete _ _ => execDelete_canonical h
  | .search _ _ => execSearch_canonical h
  | .wedge _ _ => execWedge_canonical h
  | .shardMerge _ _ => execShardMerge_canonical h
  | .rerank _ _ _ => execRerank_canonical h
  | .pack _ _ => execPack_canonical h
  | .templateLoad _ _ => execTemplateLoad_canonical h
  | .templateUnload _ _ => execTemplateUnload_canonical h
  | .tableCreate _ _ => execTableCreate_canonical h
  | .tableDrop _ _ => execTableDrop_canonical h
  | .tableStage _ _ => execTableStage_canonical h
  | .tableWrite _ _ => execTableWrite_canonical h
  | .tablePublish _ _ => execTablePublish_canonical h
  | .tableDiscard _ _ => execTableDiscard_canonical h
  | .embedLookup _ _ => execEmbedLookup_canonical h
  | .embedUpdate _ _ => execEmbedUpdate_canonical h
  | .tableRead _ _ => execTableRead_canonical h
  | .tableQuery _ _ => execTableQuery_canonical h
  | .vocabLoad _ _ => execVocabLoad_canonical h
  | .vocabUnload _ _ => execVocabUnload_canonical h
  | .vocabQuery _ _ => execVocabQuery_canonical h
  | .tokenise _ _ => execTokenise_canonical h
  | .detokenise _ _ => execDetokenise_canonical h
  | .grammarLoad _ _ => execGrammarLoad_canonical h
  | .grammarUnload _ _ => execGrammarUnload_canonical h
  | .grammarQuery _ _ => execGrammarQuery_canonical h
  | .grammarMask _ _ => execGrammarMask_canonical h
  | .sessionOpen _ _ => execSessionOpen_canonical h
  | .generate _ _ => execGenerate_canonical h
  | .sessionCancel _ _ => execSessionCancel_canonical h
  | .sessionClose _ _ => execSessionClose_canonical h
  | .sessionQuery _ _ => execSessionQuery_canonical h
  | .glazeRegister _ _ => execGlazeRegister_canonical h
  | .glazeDeregister _ _ => execGlazeDeregister_canonical h
  | .glazeQuery _ _ => execGlazeQuery_canonical h
  | .prefixFlush _ => execPrefixFlush_canonical h
  | .shadowFeed _ _ => execShadowFeed_canonical h
  | .sessionPromote _ _ => execSessionPromote_canonical h
  | .classSet _ _ => execClassSet_canonical h
  | .chain _ _ => execChain_canonical h
  | .pageAlloc _ _ => execPageAlloc_canonical h
  | .pageFree _ _ => execPageFree_canonical h
  | .pageMove _ _ => execPageMove_canonical h
  | .pagePin _ _ => execPagePin_canonical h
  | .pageUnpin _ _ => execPageUnpin_canonical h
  | .hdmMap _ _ => execHdmMap_canonical h
  | .hdmUnmap _ _ => execHdmUnmap_canonical h
  | .pageWrite _ _ => execPageWrite_canonical h
  | .pageRead _ _ => execPageRead_canonical h
  | .tierQuery _ _ => execTierQuery_canonical h
  | .poolStats _ _ => execPoolStats_canonical h
  | .extentCreate _ _ => execExtentCreate_canonical h
  | .extentWrite _ _ => execExtentWrite_canonical h
  | .extentRead _ _ => execExtentRead_canonical h
  | .extentDelete _ _ => execExtentDelete_canonical h
  | .flashHealth _ _ => execFlashHealth_canonical h
  | .sqTail _ _ _ _ _ => execSqTail_canonical h
  | .cqHead _ _ _ _ => execCqHead_canonical h
  | .strHead _ _ _ _ => execStrHead_canonical h
  | .descriptorFetch _ _ => execDescriptorFetch_canonical h
  | .parameterBlockRead _ => execParameterBlockRead_canonical h
  | .hostReadTimeout _ _ _ => execHostReadTimeout_canonical h
  | .orderedStart _ => execOrderedStart_canonical h
  | .registerWrite _ _ _ _ => execRegisterWrite_canonical h
  | .refuseLogClear _ _ => execRefuseLogClear_canonical h
  | .queueEnable _ _ _ => execQueueEnable_canonical h
  | .queueDisable _ _ _ => execQueueDisable_canonical h
  | .partitionEnable _ _ _ => execPartitionEnable_canonical h
  | .partitionDisable _ _ _ => execPartitionDisable_canonical h
  | .coneFire _ _ => execConeFire_canonical h
  | .disablePendingClear _ _ => execDisablePendingClear_canonical h
  | .queueResetDone _ _ => execQueueResetDone_canonical h
  | .turnBoundary => execTurnBoundary_canonical h
  | .kvExhausted _ => execKvExhausted_canonical h
  | .batchRelease _ => execBatchRelease_canonical h
  | .batchFallback => execBatchFallback_canonical h
  | .taskPlace _ => execTaskPlace_canonical h
  | .affinityQueueJoin _ _ => execAffinityQueueJoin_canonical h
  | .tileRelease _ _ => execTileRelease_canonical h
  | .tileZeroing _ => execTileZeroing_canonical h
  | .saveComplete _ => execSaveComplete_canonical h
  | .restoreComplete _ => execRestoreComplete_canonical h
  | .recordIssue _ _ _ => execRecordIssue_canonical h
  | .regulatorPiece _ _ _ _ => execRegulatorPiece_canonical h
  | .layerClose _ _ => execLayerClose_canonical h
  | .refireDecision _ => execRefireDecision_canonical h
  | .draftPass _ _ _ => execDraftPass_canonical h
  | .maskBuild _ => execMaskBuild_canonical h
  | .lvs _ => execLvs_canonical h
  | .verification _ _ => execVerification_canonical h
  | .reExecution _ _ => execReExecution_canonical h
  | .computeWindowEnd => execComputeWindowEnd_canonical h
  | .chainStageComplete _ _ _ => execChainStageComplete_canonical h
  | .migrationStart _ => execMigrationStart_canonical h
  | .migrationSwitch _ _ => execMigrationSwitch_canonical h
  | .t2PageRead _ _ => execT2PageRead_canonical h
  | .extentCommit _ => execExtentCommit_canonical h
  | .flashRefresh _ _ => execFlashRefresh_canonical h
  | .patrolRead _ => execPatrolRead_canonical h
  | .tierReadonly _ => execTierReadonly_canonical h
  | .pageFreeComplete _ => execPageFreeComplete_canonical h
  | .imageUnloadComplete _ _ => execImageUnloadComplete_canonical h
  | .templateFree _ _ => execTemplateFree_canonical h
  | .versionRetire _ _ _ => execVersionRetire_canonical h
  | .wedgeRelease _ _ => execWedgeRelease_canonical h
  | .wedgeForced _ _ => execWedgeForced_canonical h
  | .patrolScrub _ _ => execPatrolScrub_canonical h
  | .hubSramReload _ => execHubSramReload_canonical h
  | .parityRebuild _ => execParityRebuild_canonical h
  | .knownAnswerTest _ _ => execKnownAnswerTest_canonical h
  | .domainLost _ => execDomainLost_canonical h
  | .renobLinkFail _ _ => execRenobLinkFail_canonical h
  | .governorStep _ _ => execGovernorStep_canonical h
  | .currentClamp => execCurrentClamp_canonical h
  | .clampHoldEnd => execClampHoldEnd_canonical h
  | .clampRelease => execClampRelease_canonical h
  | .sustainedLimit => execSustainedLimit_canonical h
  | .sustainedLimitRelease => execSustainedLimitRelease_canonical h
  | .dieHot _ _ => execDieHot_canonical h
  | .dieTrip _ => execDieTrip_canonical h
  | .sensorSample _ _ => execSensorSample_canonical h
  | .sensorStale _ => execSensorStale_canonical h
  | .inputLow _ => execInputLow_canonical h
  | .inputLoss => execInputLoss_canonical h
  | .inputOvervoltage => execInputOvervoltage_canonical h
  | .quiescence => execQuiescence_canonical h
  | .t0Evacuation => execT0Evacuation_canonical h
  | .powerStateExit => execPowerStateExit_canonical h
  | .ppsEdge _ _ _ => execPpsEdge_canonical h
  | .refPresenceLoss => execRefPresenceLoss_canonical h
  | .refFrequencyCheck _ _ => execRefFrequencyCheck_canonical h
  | .ppsContinuityLoss => execPpsContinuityLoss_canonical h
  | .holdoverLimit => execHoldoverLimit_canonical h
  | .acquireTimeout => execAcquireTimeout_canonical h
  | .secondMark _ => execSecondMark_canonical h
  | .logFlush => execLogFlush_canonical h
  | .coneIn _ => execConeIn_canonical h
  | .programmedTrigger _ _ => execProgrammedTrigger_canonical h
  | .snapshotStore => execSnapshotStore_canonical h
  | .linkTraining _ _ => execLinkTraining_canonical h
  | .laneExcluded _ _ => execLaneExcluded_canonical h
  | .ideFailure _ => execIdeFailure_canonical h
  | .viral _ => execViral_canonical h
  | .cxlMemRead _ _ _ => execCxlMemRead_canonical h
  | .cxlMemWrite _ _ _ => execCxlMemWrite_canonical h
  | .coldStart _ _ => execColdStart_canonical h
  | .firmwareVerify _ => execFirmwareVerify_canonical h
  | .ftlMount => execFtlMount_canonical h
  | .hbmTraining _ => execHbmTraining_canonical h
  | .t0March _ => execT0March_canonical h
  | .tileBist _ _ => execTileBist_canonical h
  | .ready _ => execReady_canonical h
  | .perstAssert _ _ => execPerstAssert_canonical h
  | .perstDeassert _ => execPerstDeassert_canonical h
  | .functionLevelReset _ => execFunctionLevelReset_canonical h
  | .alarm _ _ => execAlarm_canonical h
  | .debugChallenge => execDebugChallenge_canonical h
  | .debugResponse _ _ => execDebugResponse_canonical h
  | .getVersion _ => execGetVersion_canonical h
  | .getCapabilities _ => execGetCapabilities_canonical h
  | .negotiateAlgorithms _ _ => execNegotiateAlgorithms_canonical h
  | .getDigests _ => execGetDigests_canonical h
  | .getCertificate _ _ => execGetCertificate_canonical h
  | .challenge _ _ => execChallenge_canonical h
  | .getMeasurements _ _ _ => execGetMeasurements_canonical h
  | .keyExchange _ _ => execKeyExchange_canonical h
  | .finish _ _ => execFinish_canonical h
  | .endSession _ => execEndSession_canonical h
  | .heartbeat _ => execHeartbeat_canonical h
  | .keyUpdate _ => execKeyUpdate_canonical h
  | .ideKm _ _ _ => execIdeKm_canonical h
  | .trustGet _ => execTrustGet_canonical h
  | .trustSet _ _ _ _ => execTrustSet_canonical h
  | .keyRotate _ => execKeyRotate_canonical h
  | .mctpControl _ _ => execMctpControl_canonical h
  | .pldmRequest _ _ _ => execPldmRequest_canonical h
  | .powerCap _ => execPowerCap_canonical h
  | .requestUpdate _ _ _ _ => execRequestUpdate_canonical h
  | .activateFirmware _ _ => execActivateFirmware_canonical h
  | .fmIdentify => execFmIdentify_canonical h
  | .getLdInfo => execGetLdInfo_canonical h
  | .getLdAllocations => execGetLdAllocations_canonical h
  | .setLdAllocations _ _ => execSetLdAllocations_canonical h
  | .getQosControl _ => execGetQosControl_canonical h
  | .setQosControl _ _ _ => execSetQosControl_canonical h
  | .getQosStatus _ => execGetQosStatus_canonical h
  | .getQosAllocatedBw _ => execGetQosAllocatedBw_canonical h
  | .setQosAllocatedBw _ _ _ => execSetQosAllocatedBw_canonical h
  | .getQosBwLimit _ => execGetQosBwLimit_canonical h
  | .setQosBwLimit _ _ _ => execSetQosBwLimit_canonical h
  | .getMultiHeadedInfo => execGetMultiHeadedInfo_canonical h
  | .getHeadInfo => execGetHeadInfo_canonical h
  | .identifyMemoryDevice _ => execIdentifyMemoryDevice_canonical h
  | .getSupportedLogs _ => execGetSupportedLogs_canonical h
  | .getLog _ => execGetLog_canonical h
  | .getEventRecords _ => execGetEventRecords_canonical h
  | .clearEventRecords _ => execClearEventRecords_canonical h
  | .getHealthInfo _ => execGetHealthInfo_canonical h
  | .getPoisonList _ => execGetPoisonList_canonical h
  | .mailboxUnsupported _ _ => execMailboxUnsupported_canonical h
  | .i3cTargetReset _ => execI3cTargetReset_canonical h
  | .hostReadError _ _ _ _ => execHostReadError_canonical h
  | .hdmDecoderCommit _ _ => execHdmDecoderCommit_canonical h
  | .mirrorRebuild _ => execMirrorRebuild_canonical h
  | .powerStateEntry => execPowerStateEntry_canonical h
  | .linkRecovery _ _ _ _ => execLinkRecovery_canonical h

theorem State.canonical_step {s : State} (h : s.canonical) : AnswersCanonical (step s) := by
  unfold step
  split
  · exact h
  · exact exec_answersCanonical (by exact h) _

/-- Settles O3: both memories are empty after reset. -/
theorem memoriesCanonicalAtReset : Obligations.MemoriesCanonicalAtReset := ⟨rfl, rfl⟩

/-- Settles O4, by one lemma per state function and per command: memories change only by writes and clears, which keep the form. -/
theorem memoriesStayCanonical : Obligations.MemoriesStayCanonical := by
  intro s s' h hs
  have ht : AnswersCanonical (.next s') := hs ▸ State.canonical_step h
  exact ht

end Sys2Proof.Machine
end

section
/-! Inserts and deletes publish (09_vector_search R294, R298, R306 to R309): what the list of an INSERT holds, and the rows of INSERT
and DELETE. -/

namespace Sys2Proof.Machine

section
variable {s : State} {r : Ref} {e : CmdE} {a : InsertArgs} {ix : Index}

/-- The limits on the number of entries pass (09 R308 step 2). -/
theorem insertLimits_pass (hpos : 0 < a.cnt) (hmax : a.cnt ≤ 65536) : (a.cnt == 0 || decide (65536 < a.cnt)) = false := by
  simp; omega

/-! ## INSERT -/

/-- The pages of centroids, by which an INSERT finds the partitions of its items (09 R293). -/
def Index.centroidPages (ix : Index) : List Nat := (List.range ix.centPages).map (fun i => ix.centPage + i)

/-- The entries that an INSERT reads (09 R307). -/
def State.insEntries (s : State) (a : InsertArgs) (ix : Index) : List InsEntry :=
  (pieces (24 + ix.bits / 8) a.cnt (s.bytesAt (bit a.lflags 0) a.listAddr ((24 + ix.bits / 8) * a.cnt))).map (readIns ix.bits)

/-- Those entries, each with its passage. -/
def State.insPassages (s : State) (a : InsertArgs) (ix : Index) : List (InsEntry × List Nat) :=
  (s.insEntries a ix).map (fun x => (x, words 4 (s.bytesAt (bit a.lflags 0) (a.tokAddr + x.off) (4 * x.tok))))

/-- The slip entry of an insert entry (09 R293, R294). -/
def State.slipOf (s : State) (ix : Index) (y : InsEntry) : Slip :=
  { item := y.id, epoch := ix.pub + 1, code := y.code, attr := y.attr, part := (s.nearParts ix y.code).headD 0 }

/-- What an INSERT commits (09 R308, R309). -/
def State.inserted (s : State) (e : CmdE) (a : InsertArgs) (ix : Index) : State :=
  ((s.seen e.part (bit a.lflags 0) a.listAddr ((24 + ix.bits / 8) * a.cnt)).modIndex e.part a.index (fun x => { x with
    slip := x.slip ++ (s.insEntries a ix).map (s.slipOf ix)
    pub := ix.pub + 1
    passages := x.passages ++ (s.insPassages a ix).map (fun p => (p.1.id, ix.pub + 1, p.2)) })).done e 0 (ix.pub + 1)

section
variable (hs : s.starts r 0x33 e = true) (ha : argsInsert e.area = a) (hix : s.index? e.part a.index e.tag = some ix)
  (hpos : 0 < a.cnt) (hmax : a.cnt ≤ 65536)
include hs ha hix hpos hmax

theorem execInsert_lost (hlost : s.anyLost ix.centroidPages = true) : execInsert r a s = .next (s.reject e Code.pageLost) := by
  unfold Index.centroidPages at hlost
  unfold execInsert
  rw [State.command_of_starts hs (by simp [ha])]
  simp only [hix, insertLimits_pass hpos hmax, hlost, Bool.false_eq_true, if_false, if_true]

variable (hwhole : s.anyLost ix.centroidPages = false)
include hwhole

theorem execInsert_held (h : s.inT2 ix.centroidPages ≠ []) :
    ∃ u, s.hold e ix.centroidPages = some u ∧ execInsert r a s = .next u := by
  obtain ⟨u, hu⟩ := State.hold_some e h
  refine ⟨u, hu, ?_⟩
  unfold Index.centroidPages at hwhole hu
  unfold execInsert
  rw [State.command_of_starts hs (by simp [ha])]
  simp only [hix, insertLimits_pass hpos hmax, hwhole, hu, Bool.false_eq_true, if_false]

variable (hfree : s.inT2 ix.centroidPages = [])
  (hlist : s.readable e.part (bit a.lflags 0) a.listAddr ((24 + ix.bits / 8) * a.cnt) = true)
  (hrsv : (s.insEntries a ix).any InsEntry.rsv = false)
include hfree hlist hrsv

theorem execInsert_duplicate (hdup : idsBad ((s.insEntries a ix).map InsEntry.id) = true) :
    execInsert r a s = .next (s.reject e Code.itemDuplicate) := by
  have hhold : s.hold e ix.centroidPages = none := State.hold_eq_none.2 hfree
  unfold Index.centroidPages at hwhole hhold
  unfold State.insEntries at hrsv hdup
  unfold execInsert
  rw [State.command_of_starts hs (by simp [ha])]
  simp only [hix, insertLimits_pass hpos hmax, hwhole, hhold, State.readBuf_of_readable hlist, hrsv, hdup, firstBad_cons_false,
    firstBad_cons_true, Bool.false_eq_true, if_false]

theorem execInsert_inserts (hids : idsBad ((s.insEntries a ix).map InsEntry.id) = false) (hshort : ∀ x ∈ s.insEntries a ix, x.tok ≤ 8192)
    (hread : ∀ x ∈ s.insEntries a ix, s.readable e.part (bit a.lflags 0) (a.tokAddr + x.off) (4 * x.tok) = true)
    (htokens : ∀ p ∈ s.insPassages a ix, ∀ y ∈ p.2, y < ix.tokenCnt) (hcommit : s.commitErr ix a.cnt a.cnt = none) :
    execInsert r a s = .next (s.inserted e a ix) := by
  have hhold : s.hold e ix.centroidPages = none := State.hold_eq_none.2 hfree
  have hlong : (s.insEntries a ix).any (fun x => decide (8192 < x.tok)) = false := by simpa using hshort
  have hpassages : (s.insEntries a ix).mapM (fun x => (s.readBuf e.part (bit a.lflags 0) (a.tokAddr + x.off) (4 * x.tok)).map
      (fun y => (x, words 4 y.1))) = .ok (s.insPassages a ix) :=
    mapM_ok (fun x hx => by rw [State.readBuf_of_readable (hread x hx)]; rfl)
  have hrange : (s.insPassages a ix).any (fun p => p.2.any (fun y => decide (ix.tokenCnt ≤ y))) = false := by simpa using htokens
  unfold Index.centroidPages at hwhole hhold
  unfold State.insEntries at hrsv hids hlong hpassages
  unfold execInsert
  rw [State.command_of_starts hs (by simp [ha])]
  simp only [hix, insertLimits_pass hpos hmax, hwhole, hhold, State.readBuf_of_readable hlist, hrsv, hids, hlong, firstBad_cons_false,
    firstBad_nil, hpassages, hrange, hcommit, Bool.false_eq_true, if_false]
  rfl

end

/-! ## DELETE -/

/-- The IDs that a DELETE reads (09 R307). -/
def State.delIds (s : State) (a : InsertArgs) : List Nat := words 8 (s.bytesAt (bit a.lflags 0) a.listAddr (8 * a.cnt))

/-- What a DELETE commits (09 R308, R309). -/
def State.deleted (s : State) (e : CmdE) (a : InsertArgs) (ix : Index) : State :=
  ((s.seen e.part (bit a.lflags 0) a.listAddr (8 * a.cnt)).modIndex e.part a.index (fun x => { x with
    slip := x.slip ++ (s.delIds a).map (fun i => ({ item := i, del := true, epoch := ix.pub + 1 } : Slip))
    pub := ix.pub + 1 })).done e 0
      (ix.pub + 1 + 2 ^ 48 * min ((s.delIds a).filter (fun i => !s.idVisible ix i)).length 0xFFFF)

section
variable (hs : s.starts r 0x34 e = true) (ha : argsInsert e.area = a) (hix : s.index? e.part a.index e.tag = some ix)
  (hpos : 0 < a.cnt) (hmax : a.cnt ≤ 65536) (hlist : s.readable e.part (bit a.lflags 0) a.listAddr (8 * a.cnt) = true)
include hs ha hix hpos hmax hlist

theorem execDelete_duplicate (hdup : idsBad (s.delIds a) = true) : execDelete r a s = .next (s.reject e Code.itemDuplicate) := by
  unfold State.delIds at hdup
  unfold execDelete
  rw [State.command_of_starts hs (by simp [ha])]
  simp only [hix, insertLimits_pass hpos hmax, State.readBuf_of_readable hlist, hdup, Bool.false_eq_true, if_false, if_true]

theorem execDelete_deletes (hids : idsBad (s.delIds a) = false) (hcommit : s.commitErr ix a.cnt 0 = none) :
    execDelete r a s = .next (s.deleted e a ix) := by
  unfold State.delIds at hids
  unfold execDelete
  rw [State.command_of_starts hs (by simp [ha])]
  simp only [hix, insertLimits_pass hpos hmax, State.readBuf_of_readable hlist, hids, hcommit, Bool.false_eq_true, if_false]
  rfl

end
end

/-- Settles O38: the checks of R308 in their order, then one lemma for each commit. -/
theorem insertsAndDeletesPublish : Obligations.InsertsAndDeletesPublish := by
  refine fun s r e a ix ha hix hpos hmax => ⟨fun hs => ?insert, fun hs hlist => ?delete⟩
  case insert =>
    refine ⟨execInsert_lost hs ha hix hpos hmax, execInsert_held hs ha hix hpos hmax, fun hwhole hfree hlist =>
      ⟨fun hdup hrsv => execInsert_duplicate hs ha hix hpos hmax hwhole hfree hlist hrsv hdup, ?_⟩⟩
    exact fun hrsv => execInsert_inserts hs ha hix hpos hmax hwhole hfree hlist hrsv
  case delete =>
    exact ⟨execDelete_duplicate hs ha hix hpos hmax hlist, execDelete_deletes hs ha hix hpos hmax hlist⟩

end Sys2Proof.Machine
end

section
/-! A search answers its queries (09_vector_search R295 to R297, R299 to R305): what a walk has found at every point of it, what is
visible, and the rows of SEARCH. -/

namespace Sys2Proof.Machine

/-! ## Order of pairs and sorted insertion (09_vector_search R301) -/

/-- Pairs are in the lexicographic order. -/
theorem pairLt_iff {x y : Nat × Nat} : pairLt x y = true ↔ toLex x < toLex y := by
  simp [pairLt, Prod.Lex.toLex_lt_toLex]

theorem insertBy_perm {α : Type} (lt : α → α → Bool) (x : α) (l : List α) : (insertBy lt x l).Perm (x :: l) := by
  induction l with
  | nil => exact .refl _
  | cons y t ih =>
    unfold insertBy
    split
    · exact (ih.cons y).trans (.swap x y t)
    · exact .refl _

/-- A new pair put into an ascending list leaves it ascending. -/
theorem insertBy_ascending {x : Nat × Nat} {l : List (Nat × Nat)} (h : l.Pairwise (fun y z => pairLt y z = true)) (hx : x ∉ l) :
    (insertBy pairLt x l).Pairwise (fun y z => pairLt y z = true) := by
  induction l with
  | nil => exact List.pairwise_singleton _ _
  | cons y t ih =>
    obtain ⟨hy, ht⟩ := List.pairwise_cons.1 h
    obtain ⟨hne, hxt⟩ := List.ne_and_not_mem_of_not_mem_cons hx
    unfold insertBy
    split
    · next hlt =>
      refine List.pairwise_cons.2 ⟨fun z hz => ?_, ih ht hxt⟩
      obtain rfl | hz := List.mem_cons.1 ((insertBy_perm _ _ _).mem_iff.1 hz)
      · exact hlt
      · exact hy z hz
    · next hge =>
      have hlt : toLex x < toLex y := lt_of_le_of_ne (not_lt.1 (fun hlt => hge (pairLt_iff.2 hlt))) (fun heq => hne (toLex.injective heq))
      refine List.pairwise_cons.2 ⟨fun z hz => pairLt_iff.2 ?_, h⟩
      obtain rfl | hz := List.mem_cons.1 hz
      · exact hlt
      · exact hlt.trans (pairLt_iff.1 (hy z hz))

/-! ## Walks (09_vector_search R302) -/

section
variable {w q ef : Nat} {b : Block} {elig : Nat → Node → Bool} {k : Walk}

/-- What a walk has found: at most EF eligible slots, all different, nearest first, each of them seen. -/
structure Walk.Sound (w : Nat) (b : Block) (q ef : Nat) (elig : Nat → Node → Bool) (k : Walk) : Prop where
  few : k.res.length ≤ ef
  nodup : (k.res.map Prod.snd).Nodup
  ascending : k.res.Pairwise (fun x y => pairLt x y = true)
  seen : ∀ c ∈ k.res, c.2 ∈ k.seen
  eligible : ∀ c ∈ k.res, ∃ n, b.nodes[c.2]? = some n ∧ elig c.2 n = true ∧ c.1 = hamming w q n.code

/-- A slot reached keeps the results, or is new, eligible and put among them. -/
theorem Walk.reach_cases (w : Nat) (b : Block) (q ef : Nat) (elig : Nat → Node → Bool) (k : Walk) (t : Nat) :
    (k.reach w b q ef elig t).x = k.x ∧ k.seen ⊆ (k.reach w b q ef elig t).seen ∧
    ((k.reach w b q ef elig t).res = k.res ∨ ∃ n, b.nodes[t]? = some n ∧ elig t n = true ∧ t ∉ k.seen ∧
      t ∈ (k.reach w b q ef elig t).seen ∧
      (k.reach w b q ef elig t).res = (insertBy pairLt (hamming w q n.code, t) k.res).take ef) := by
  unfold Walk.reach
  split
  · exact ⟨rfl, List.Subset.refl _, .inl rfl⟩
  · next n hn =>
    dsimp only
    split
    · exact ⟨rfl, List.Subset.refl _, .inl rfl⟩
    · next hnew =>
      refine ⟨rfl, List.subset_cons_self _ _, ?_⟩
      by_cases helig : elig t n = true
      · exact .inr ⟨n, hn, helig, by simpa using hnew, List.mem_cons_self, if_pos helig⟩
      · exact .inl (if_neg helig)

theorem Walk.reach_x (k : Walk) (t : Nat) : (k.reach w b q ef elig t).x = k.x := (Walk.reach_cases w b q ef elig k t).1

theorem Walk.Sound.reach (h : k.Sound w b q ef elig) (t : Nat) : (k.reach w b q ef elig t).Sound w b q ef elig := by
  obtain ⟨-, hseen, hres | ⟨n, hn, helig, hnew, ht, hres⟩⟩ := Walk.reach_cases w b q ef elig k t
  · exact ⟨hres ▸ h.few, hres ▸ h.nodup, hres ▸ h.ascending, fun c hc => hseen (h.seen c (hres ▸ hc)), hres ▸ h.eligible⟩
  · have hslot : t ∉ k.res.map Prod.snd := by
      rw [List.mem_map]
      rintro ⟨c, hc, rfl⟩
      exact hnew (h.seen c hc)
    have hperm := insertBy_perm pairLt (hamming w q n.code, t) k.res
    have htake := List.take_sublist ef (insertBy pairLt (hamming w q n.code, t) k.res)
    have hmem : ∀ c ∈ (k.reach w b q ef elig t).res, c = (hamming w q n.code, t) ∨ c ∈ k.res := fun c hc =>
      List.mem_cons.1 (hperm.mem_iff.1 (htake.subset (hres ▸ hc)))
    refine ⟨hres ▸ List.length_take_le _ _, ?_, ?_, fun c hc => ?_, fun c hc => ?_⟩
    · rw [hres]
      exact ((hperm.map Prod.snd).nodup_iff.2 (List.nodup_cons.2 ⟨hslot, h.nodup⟩)).sublist (htake.map Prod.snd)
    · rw [hres]
      exact (insertBy_ascending h.ascending (fun hc => hslot (List.mem_map_of_mem hc))).sublist htake
    · obtain rfl | hc := hmem c hc
      · exact ht
      · exact hseen (h.seen c hc)
    · obtain rfl | hc := hmem c hc
      · exact ⟨n, hn, helig, rfl⟩
      · exact h.eligible c hc

theorem Walk.Sound.foldl_reach (h : k.Sound w b q ef elig) (l : List Nat) :
    (l.foldl (Walk.reach w b q ef elig) k).Sound w b q ef elig :=
  List.foldlRecOn l _ (motive := Walk.Sound w b q ef elig) h fun _ hk t _ => hk.reach t

theorem Walk.foldl_reach_x (k : Walk) (l : List Nat) : (l.foldl (Walk.reach w b q ef elig) k).x = k.x :=
  foldl_keeps Walk.x (fun _ _ => Walk.reach_x _ _) l k

/-- The loop expands at most as many nodes as it may, and keeps what the walk has found sound. -/
theorem Walk.run_sound (n : Nat) (h : k.Sound w b q ef elig) :
    (Walk.run w b q ef elig n k).x ≤ k.x + n ∧ (Walk.run w b q ef elig n k).Sound w b q ef elig := by
  induction n generalizing k with
  | zero => exact ⟨Nat.le_refl _, h⟩
  | succ n ih =>
    unfold Walk.run
    split
    · exact ⟨Nat.le_add_right _ _, h⟩
    · next c rest _ =>
      split_ifs
      · exact ⟨Nat.le_add_right _ _, h⟩
      · have hpop : Walk.Sound w b q ef elig { k with cand := rest, x := k.x + 1 } :=
          ⟨h.few, h.nodup, h.ascending, h.seen, h.eligible⟩
        obtain ⟨hx, hsound⟩ := ih (hpop.foldl_reach ((b.nodes[c.2]?.map Node.edges).getD []))
        refine ⟨?_, hsound⟩
        rw [Walk.foldl_reach_x] at hx
        simp only at hx ⊢
        omega

theorem walk_sound (w : Nat) (b : Block) (q ef visits : Nat) (elig : Nat → Node → Bool) :
    (walk w b q ef visits elig).x ≤ visits ∧ (walk w b q ef visits elig).Sound w b q ef elig := by
  have hstart : Walk.Sound w b q ef elig {} := ⟨Nat.zero_le _, .nil, .nil, by simp, by simp⟩
  obtain ⟨hx, hsound⟩ := Walk.run_sound visits (hstart.foldl_reach b.entry)
  rw [Walk.foldl_reach_x] at hx
  exact ⟨hx.trans_eq (Nat.zero_add visits), hsound⟩

end

/-! ## Visibility (09_vector_search R296) -/

theorem visible_iff (vers : List (Nat × Nat)) (slip : List Slip) (id ins x : Nat) (tomb : Bool) :
    visible vers slip id ins tomb x = true ↔
      ins ≤ x ∧ tomb = false ∧ (∀ d ∈ slip, d.del = true → d.item = id → ins < d.epoch → x < d.epoch) ∧
      (∀ u ∈ vers, u.1 = id → ins < u.2 → x < u.2) := by
  have hdeleted : slip.any (fun d => d.del && d.item == id && decide (ins < d.epoch) && decide (d.epoch ≤ x)) = false ↔
      ∀ d ∈ slip, d.del = true → d.item = id → ins < d.epoch → x < d.epoch := by simp
  have hsuperseded : vers.any (fun u => u.1 == id && decide (ins < u.2) && decide (u.2 ≤ x)) = false ↔
      ∀ u ∈ vers, u.1 = id → ins < u.2 → x < u.2 := by simp
  rw [← hdeleted, ← hsuperseded]
  simp only [visible, Bool.and_eq_true, decide_eq_true_eq, Bool.not_eq_true']
  tauto

/-! ## SEARCH (09_vector_search R295, R297, R299 to R305) -/

section
variable {s : State} {r : Ref} {e : CmdE} {a : SearchArgs} {ix : Index}

/-- The state once a SEARCH has read its queries. -/
def State.querySeen (s : State) (p : Nat) (a : SearchArgs) (ix : Index) : State :=
  s.seen p (bit a.flags 2) a.queryAddr (a.qcnt * (ix.bits / 8))

/-- The codes that it searches for. -/
def State.queryCodes (s : State) (a : SearchArgs) (ix : Index) : List Nat :=
  words (ix.bits / 8) (s.bytesAt (bit a.flags 2) a.queryAddr (a.qcnt * (ix.bits / 8)))

/-- The pages of the index that it reads. -/
def State.indexReads (s : State) (a : SearchArgs) (ix : Index) : List Nat := s.searchPages ix a.nprobe (s.queryCodes a ix)

/-- Its answer for each query, read at the epoch of its pin. -/
def State.searchLists (s : State) (e : CmdE) (a : SearchArgs) (ix : Index) : List (List Byte × Nat × Nat) :=
  (s.queryCodes a ix).map (s.searchOne ix (searchQ a) (ix.readEpoch e.tag))

/-- The records that it writes. -/
def State.searchBytes (s : State) (e : CmdE) (a : SearchArgs) (ix : Index) : List Byte :=
  (s.searchLists e a ix).flatMap (fun x => x.1)

/-- The pages that it waits for. -/
def State.searchWaits (s : State) (e : CmdE) (a : SearchArgs) (ix : Index) : List Nat :=
  s.indexReads a ix ++ s.duaPages e.part (bit a.flags 2) a.queryAddr (a.qcnt * (ix.bits / 8)) ++
    s.duaPages e.part (bit a.flags 3) a.outAddr (s.searchBytes e a ix).length

/-- What a SEARCH does once it has read its queries. -/
def State.searchAll (s : State) (e : CmdE) (a : SearchArgs) (ix : Index) : State :=
  if s.anyLost (s.indexReads a ix) then (s.reject e Code.pageLost).unpinIndex e.part a.index e.tag
  else match ((s.querySeen e.part a ix).pinIndex e.part a.index e.tag).hold e (s.searchWaits e a ix) with
    | some held => held
    | none =>
      match ((s.querySeen e.part a ix).readPages e.part (s.indexReads a ix)).writeBuf e.part (bit a.flags 3) a.outAddr
        (s.searchBytes e a ix) with
      | .error c => (s.reject e c).unpinIndex e.part a.index e.tag
      | .ok u => ((u.searched e.part a.index a.qcnt (s.searchLists e a ix)).done e 0 (ix.readEpoch e.tag +
          2 ^ 48 * ((s.searchLists e a ix).filter (fun x => recShort a.k x.1)).length)).unpinIndex e.part a.index e.tag

section
variable (hs : s.starts r 0x35 e = true) (ha : argsSearch e.area = a)
include hs ha

theorem execSearch_badField (h : (searchQ a).bad = true ∨ a.qcnt = 0 ∨ 64 < a.qcnt) :
    execSearch r a s = .next (s.reject e Code.searchParamInvalid) := by
  have hbad : ((searchQ a).bad || a.qcnt == 0 || decide (64 < a.qcnt)) = true := by simpa [or_assoc] using h
  unfold execSearch
  rw [State.command_of_starts hs (by simp [ha])]
  simp only [hbad, if_true]

variable (hfields : (searchQ a).bad = false) (hpos : 0 < a.qcnt) (hmax : a.qcnt ≤ 64)
  (hix : s.index? e.part a.index e.tag = some ix)
include hfields hpos hmax hix

theorem execSearch_tooManyProbes (h : ix.npart < a.nprobe) : execSearch r a s = .next (s.reject e Code.searchParamInvalid) := by
  have hlimits : ((searchQ a).bad || a.qcnt == 0 || decide (64 < a.qcnt)) = false := by simp [hfields]; omega
  unfold execSearch
  rw [State.command_of_starts hs (by simp [ha])]
  simp only [hlimits, hix, h, Bool.false_eq_true, if_false, if_true]

theorem execSearch_searches (hprobes : a.nprobe ≤ ix.npart)
    (hread : s.readable e.part (bit a.flags 2) a.queryAddr (a.qcnt * (ix.bits / 8)) = true) :
    execSearch r a s = .next (s.searchAll e a ix) := by
  have hlimits : ((searchQ a).bad || a.qcnt == 0 || decide (64 < a.qcnt)) = false := by simp [hfields]; omega
  unfold execSearch
  rw [State.command_of_starts hs (by simp [ha])]
  simp only [hlimits, hix, hprobes.not_gt, State.readBuf_of_readable hread, Bool.false_eq_true, if_false]
  rfl

end

theorem State.searchAll_lost (h : s.anyLost (s.indexReads a ix) = true) :
    s.searchAll e a ix = (s.reject e Code.pageLost).unpinIndex e.part a.index e.tag := if_pos h

theorem State.searchAll_held (hwhole : s.anyLost (s.indexReads a ix) = false)
    (h : ((s.querySeen e.part a ix).pinIndex e.part a.index e.tag).inT2 (s.searchWaits e a ix) ≠ []) :
    ∃ u, ((s.querySeen e.part a ix).pinIndex e.part a.index e.tag).hold e (s.searchWaits e a ix) = some u ∧
      s.searchAll e a ix = u := by
  obtain ⟨u, hu⟩ := State.hold_some e h
  exact ⟨u, hu, by simp only [State.searchAll, hwhole, hu, Bool.false_eq_true, if_false]⟩

theorem State.searchAll_answers (hwhole : s.anyLost (s.indexReads a ix) = false)
    (h : ((s.querySeen e.part a ix).pinIndex e.part a.index e.tag).inT2 (s.searchWaits e a ix) = [])
    (hout : ((s.querySeen e.part a ix).readPages e.part (s.indexReads a ix)).writable e.part (bit a.flags 3) a.outAddr
      (s.searchBytes e a ix).length = true) :
    s.searchAll e a ix = (((((s.querySeen e.part a ix).readPages e.part (s.indexReads a ix)).stored (bit a.flags 3) a.outAddr
      (s.searchBytes e a ix)).searched e.part a.index a.qcnt (s.searchLists e a ix)).done e 0 (ix.readEpoch e.tag +
        2 ^ 48 * ((s.searchLists e a ix).filter (fun x => recShort a.k x.1)).length)).unpinIndex e.part a.index e.tag := by
  simp only [State.searchAll, hwhole, State.hold_eq_none.2 h, State.writeBuf_of_writable hout, Bool.false_eq_true, if_false]

end

/-- Settles O39: SEARCH by what it does once its queries are read, a walk by the soundness that every slot reached keeps, visibility by
`visible_iff`. -/
theorem searchAnswersItsQueries : Obligations.SearchAnswersItsQueries := by
  refine ⟨fun s r e a hs ha => ⟨execSearch_badField hs ha, fun hfields hpos hmax ix hix =>
      ⟨execSearch_tooManyProbes hs ha hfields hpos hmax hix, fun hprobes hread => ?search⟩⟩,
    fun w b q ef visits elig => ?walk, visible_iff⟩
  case search =>
    have hsearch : exec (.search r a) s = .next (s.searchAll e a ix) := execSearch_searches hs ha hfields hpos hmax hix hprobes hread
    refine ⟨fun hlost => hsearch.trans (congrArg _ (State.searchAll_lost hlost)), fun hwhole hheld => ?_, fun hwhole hfree hout =>
      hsearch.trans (congrArg _ (State.searchAll_answers hwhole hfree hout))⟩
    obtain ⟨u, hu, hall⟩ := State.searchAll_held hwhole hheld
    exact ⟨u, hu, hsearch.trans (congrArg _ hall)⟩
  case walk =>
    obtain ⟨hx, hsound⟩ := walk_sound w b q ef visits elig
    exact ⟨hx, hsound.few, hsound.nodup, hsound.ascending, hsound.eligible⟩

end Sys2Proof.Machine
end

section
/-! Wedges move the slip list (09_vector_search R298, R310 to R316, R320): the rows of WEDGE and WEDGE_FORCED by their checks, and what a
release leaves of an index. -/

namespace Sys2Proof.Machine

section
variable {s : State}

/-! ## WEDGE and WEDGE_FORCED (09_vector_search R310, R314) -/

/-- The partitions that a WEDGE names (09 R310). -/
def Index.wedgeParts (ix : Index) (a : WedgeArgs) : List Nat :=
  if bit a.wflags 1 = true then List.range ix.npart else (List.range a.partCnt).map (fun i => a.partFirst + i)

/-- What a WEDGE does once its checks have passed and its pages are at hand (09 R315; log 22 for the largest epoch met midway). -/
def State.wedged (s : State) (e : CmdE) (a : WedgeArgs) (ix : Index) : State :=
  let w := s.wedgeAll e.part a.index (bit a.wflags 0) (ix.wedgeParts a)
  w.1.done e (if Wedged.deferred ∈ w.2 then Code.wedgeDeferred else if Wedged.exhausted ∈ w.2 then Code.epochExhausted else 0)
    (w.2.filter (fun x => x == .done)).length

theorem execWedge_wedges {r : Ref} {e : CmdE} {a : WedgeArgs} {ix : Index} (hs : s.starts r 0x36 e = true) (ha : argsWedge e.area = a)
    (hix : s.index? e.part a.index e.tag = some ix) (hpub : ix.pub < epochMax)
    (hrange : bit a.wflags 1 = false → 0 < a.partCnt ∧ a.partFirst + a.partCnt ≤ ix.npart)
    (hwhole : s.anyLost (blockPages ((ix.wedgeParts a).map (s.block ix))) = false)
    (hfree : s.inT2 (blockPages ((ix.wedgeParts a).map (s.block ix))) = []) : execWedge r a s = .next (s.wedged e a ix) := by
  have hfields : (!bit a.wflags 1 && (a.partCnt == 0 || decide (ix.npart < a.partFirst + a.partCnt))) = false := by
    cases hall : bit a.wflags 1
    · obtain ⟨hpos, hle⟩ := hrange hall
      simp; omega
    · rfl
  have hhold : s.hold e (blockPages ((ix.wedgeParts a).map (s.block ix))) = none := State.hold_eq_none.2 hfree
  unfold Index.wedgeParts at hwhole hhold
  unfold execWedge
  rw [State.command_of_starts hs (by simp [ha])]
  simp only [hix, hfields, hpub.not_ge, hwhole, hhold, List.contains_iff_mem, Bool.false_eq_true, if_false]
  rfl

/-- The partitions with LIVE entries (09 R314). -/
def State.liveParts (s : State) (ix : Index) : List Nat :=
  (List.range ix.npart).filter (fun q => ix.slip.any (fun x => !x.wedged && s.slipPart ix x == q))

theorem execWedgeForced_wedges {p h : Nat} {ix : Index} (hix : KMap.find (s.part p).indexes h = some ix) (hlive : ix.dropped = false)
    (hfull : slipForce ≤ ix.slip.length) (hwhole : s.anyLost (blockPages ((s.liveParts ix).map (s.block ix))) = false)
    (hfree : s.inT2 (blockPages ((s.liveParts ix).map (s.block ix))) = []) :
    execWedgeForced p h s = .next ((s.modIndex p h (fun x => { x with
      ctr := bump x.ctr IxCtr.wedgeForced (s.liveParts ix).length })).wedgeAll p h false (s.liveParts ix)).1 := by
  have hdemand : s.demand 0 (blockPages ((s.liveParts ix).map (s.block ix))) = none := State.demand_eq_none.2 hfree
  unfold State.liveParts at hwhole hdemand
  simp only [execWedgeForced, hix, hlive, hfull.not_gt, decide_false, Bool.or_self, hwhole, hdemand, Bool.false_eq_true, if_false]
  rfl

/-! ## WEDGE_RELEASE (09_vector_search R312, R316, R320) -/

theorem State.modIndex_find (s : State) (p h : Nat) (f : Index → Index) :
    KMap.find ((s.modIndex p h f).part p).indexes h = (KMap.find (s.part p).indexes h).map f := by
  simp only [State.part, State.modIndex, State.modPart, KMap.findD, KMap.find_mod_same]
  cases KMap.find s.parts p with
  | none => rfl
  | some v => exact KMap.find_mod_same v.indexes h f

/-- An index that is not dropped is not swept away. -/
theorem State.sweepIndex_of_live {p h : Nat} {ix : Index} (hix : KMap.find (s.part p).indexes h = some ix) (hlive : ix.dropped = false) :
    s.sweepIndex p h = s := by
  simp only [State.sweepIndex, hix, hlive, Bool.false_and, Bool.false_eq_true, if_false]

/-- Does no pin read below epoch f (09 R312)? -/
def State.unpinned (s : State) (ix : Index) (f : Nat) : Bool := !((s.livePins ix).map (fun e => e.2)).any (fun e => decide (e < f))

theorem State.unpinned_iff {ix : Index} {f : Nat} : s.unpinned ix f = true ↔ ∀ c ∈ s.livePins ix, f ≤ c.2 := by
  simp [State.unpinned]

/-- The state without the pages of the old blocks that no pin reads. -/
def State.freeOld (s : State) (ix : Index) : State :=
  (ix.oldBlocks.filter (fun o => s.unpinned ix o.1)).foldl (fun (u : State) o => u.freePages o.2.1 o.2.2) s

/-- Pages freed keep what is neither a page nor a byte of device memory. -/
theorem State.freeOld_keeps {α : Type} (π : State → α) (hπ : ∀ s k n, π (State.freePages s k n) = π s) (ix : Index) :
    π (s.freeOld ix) = π s := foldl_keeps π (fun _ _ => hπ _ _ _) _ s

/-- Does the newest epoch or a pin see a version that the index knows (09 R320)? -/
def State.versionSeen (s : State) (ix : Index) (id ins : Nat) : Bool :=
  let tombs := (s.blocks ix).flatMap (fun b => (b.nodes.filter (fun n => n.tomb)).map (fun n => (n.item, n.ins)))
  (s.versions ix).contains (id, ins) && (ix.pub :: (s.livePins ix).map (fun e => e.2)).any (fun e =>
    visible (s.versions ix) ix.slip id ins (tombs.contains (id, ins)) e)

/-- What a release leaves of an index. -/
def State.releasedIndex (s : State) (ix x : Index) : Index :=
  { x with
    pins := s.livePins ix
    oldBlocks := x.oldBlocks.filter (fun o => !s.unpinned ix o.1)
    slip := x.slip.filter (fun y => !y.wedged || !s.unpinned ix y.f)
    passages := x.passages.filter (fun y => s.versionSeen ix y.1 y.2.1) }

/-- The state that a release leaves. -/
def State.afterRelease (s : State) (p h : Nat) (ix : Index) : State := (s.freeOld ix).modIndex p h (s.releasedIndex ix)

section
variable {p h : Nat} {ix : Index} (hix : KMap.find (s.part p).indexes h = some ix)
include hix

theorem State.afterRelease_find : KMap.find ((s.afterRelease p h ix).part p).indexes h = some (s.releasedIndex ix ix) := by
  have hfind : KMap.find ((s.freeOld ix).part p).indexes h = some ix :=
    (s.freeOld_keeps (fun t => KMap.find (t.part p).indexes h) (fun _ _ _ => rfl) ix).trans hix
  rw [State.afterRelease, State.modIndex_find, hfind, Option.map_some]

theorem execWedgeRelease_releases (hlive : ix.dropped = false) : execWedgeRelease p h s = .next (s.afterRelease p h ix) := by
  have hrelease : execWedgeRelease p h s = .next ((s.afterRelease p h ix).sweepIndex p h) := by
    simp only [execWedgeRelease, hix]
    rfl
  rw [hrelease, State.sweepIndex_of_live (State.afterRelease_find hix) hlive]

end

theorem State.mem_releasedIndex_slip {ix : Index} {y : Slip} :
    y ∈ (s.releasedIndex ix ix).slip ↔ y ∈ ix.slip ∧ (y.wedged = false ∨ ¬ ∀ c ∈ s.livePins ix, y.f ≤ c.2) := by
  rw [← State.unpinned_iff]
  simp [State.releasedIndex]

theorem State.mem_releasedIndex_oldBlocks {ix : Index} {o : Nat × Nat × Nat} :
    o ∈ (s.releasedIndex ix ix).oldBlocks ↔ o ∈ ix.oldBlocks ∧ ¬ ∀ c ∈ s.livePins ix, o.1 ≤ c.2 := by
  rw [← State.unpinned_iff]
  simp [State.releasedIndex]

end

/-- Settles O40: WEDGE and WEDGE_FORCED once their checks have passed, WEDGE_RELEASE by the index that it leaves. -/
theorem wedgesMoveTheSlipList : Obligations.WedgesMoveTheSlipList := by
  refine fun s => ⟨fun r e a ix hs ha hix hpub hrange => execWedge_wedges hs ha hix hpub hrange, fun p h ix hix =>
    ⟨execWedgeForced_wedges hix, fun hlive => ⟨s.afterRelease p h ix, s.releasedIndex ix ix, execWedgeRelease_releases hix hlive,
      State.afterRelease_find hix, rfl, fun y => State.mem_releasedIndex_slip, fun o => State.mem_releasedIndex_oldBlocks,
      fun y hy => List.mem_of_mem_filter hy, ?_, ?_, ?_⟩⟩⟩
  · exact s.freeOld_keeps State.hostMem (fun _ _ _ => rfl) ix
  · exact s.freeOld_keeps State.sessions (fun _ _ _ => rfl) ix
  · exact s.freeOld_keeps State.inflight (fun _ _ _ => rfl) ix

end Sys2Proof.Machine
end

section
/-! Table versions change (10_embedding_tables R331 to R334, R349, R351, R352, R354, R355, R359, R360): creation and staging by what the
allocation of a version answers, the other rows by the table that their handle names. -/

namespace Sys2Proof.Machine

/-- `State.newVersion` as a function of which nothing is known: through its value the kernel would search the tiers for frames while it
checks the rows that call it. -/
theorem newVersion_function : ∃ f, f = State.newVersion := ⟨_, rfl⟩

section
variable {s : State} {r : Ref} {e : CmdE}

/-! ## TABLE_CREATE (10_embedding_tables R331, R359) -/

section
variable {a : TableArgs}

/-- The table that a TABLE_CREATE describes. -/
def newTable (a : TableArgs) : Table :=
  { rows := a.rows, dim := a.dim, rfmt := a.rfmt, updatable := bit a.flags 0, hasState := bit a.flags 1
    parity := bit a.flags 2, tierPref := bits a.flags 3 2 }

/-- What a TABLE_CREATE does with the free handle h, by what the allocation of version 1 answers. -/
def State.createTable (s : State) (e : CmdE) (h : Nat) (t : Table) : Option (TVer × State) → State
  | none => s.reject e Code.poolExhausted
  | some (v, u) => (u.modPart e.part (fun w => { w with tables := KMap.put w.tables h { t with cur := v } })).done e 0 h

theorem execTableCreate_creates {h : Nat} (hs : s.starts r 0x40 e = true) (ha : argsTable e.area = a) (hrows : 0 < a.rows)
    (hrows' : a.rows ≤ 2 ^ 34) (hdim : 0 < a.dim) (hdim' : a.dim ≤ 4096) (hfmt : a.rfmt ≤ 2) (htier : bits a.flags 3 2 ≠ 3)
    (hupd : bit a.flags 0 = true → a.rfmt = 0 ∧ bit a.flags 2 = false) (hstate : bit a.flags 1 = true → bit a.flags 0 = true)
    (hfree : KMap.free (s.part e.part).tables 1024 = some h) :
    execTableCreate r a s = .next (s.createTable e h (newTable a) (s.newVersion e.part (newTable a) 1)) := by
  have hlimits : (a.rows == 0 || decide (2 ^ 34 < a.rows) || a.dim == 0 || decide (4096 < a.dim)) = false := by
    simp; omega
  have hflags : (decide (2 < a.rfmt) || bits a.flags 3 2 == 3 || (bit a.flags 0 && decide (a.rfmt ≠ 0)) ||
      (bit a.flags 1 && !bit a.flags 0) || (bit a.flags 2 && bit a.flags 0)) = false := by
    cases hu : bit a.flags 0
    · have hnone : bit a.flags 1 = false := Bool.eq_false_iff.2 (fun h1 => by simp [hstate h1] at hu)
      simp [hfmt, htier, hnone]
    · obtain ⟨hzero, hparity⟩ := hupd hu
      simp [hzero, htier, hparity]
  unfold execTableCreate
  obtain ⟨version, hversion⟩ := newVersion_function
  rw [State.command_of_starts hs (by simp [ha]), ← hversion]
  simp only [hlimits, hflags, firstBad_cons_false, firstBad_nil, hfree]
  unfold newTable
  cases version s e.part _ 1 <;> rfl

end

/-! ## TABLE_STAGE (10_embedding_tables R352, R354; 08_memory_tiers R250, R268) -/

section
variable {a : StageArgs} {t : Table}

/-- The pages of a table's current version: the row plane, then the state plane. -/
def Table.curPages (t : Table) : List Nat :=
  (List.range t.cur.rowPages).map (fun i => t.cur.rowBase + i) ++ (List.range t.cur.stPages).map (fun i => t.cur.stBase + i)

/-- The state that a staged version is allocated in: a copy has read the pages of the current one. -/
def State.stageRead (s : State) (p mode : Nat) (t : Table) : State := if mode = 1 then s.readPages p t.curPages else s

/-- What a TABLE_STAGE does once it may run, by what the allocation of the next version answers. -/
def State.stageTable (s : State) (e : CmdE) (a : StageArgs) (t : Table) : Option (TVer × State) → State
  | none => s.reject e Code.poolExhausted
  | some (v, u) => (State.modTable { u with
      dev := if a.mode = 0 then u.dev
        else (u.dev.writeN (65536 * v.rowBase) (s.dev.readN (65536 * t.cur.rowBase) (65536 * v.rowPages))).writeN
          (65536 * v.stBase) (s.dev.readN (65536 * t.cur.stBase) (65536 * v.stPages)) } e.part a.handle (fun x =>
      { x with staged := some v, verNext := (x.verNext + 1) % 2 ^ 32 })).done e 0 t.verNext

variable (hs : s.starts r 0x42 e = true) (ha : argsStage e.area = a) (ht : s.table? e.part a.handle = some t)
include hs ha ht

theorem execTableStage_busy (hstaged : t.staged.isSome = true) (hmode : a.mode ≤ 1) :
    execTableStage r a s = .next (s.reject e Code.tableVersionBusy) := by
  unfold execTableStage
  obtain ⟨version, hversion⟩ := newVersion_function
  rw [State.command_of_starts hs (by simp [ha]), ← hversion]
  simp only [hmode.not_gt, ht, hstaged, if_true, if_false]

theorem execTableStage_held (hstaged : t.staged = none) (hmode : a.mode = 1) (hheld : s.inT2 t.curPages ≠ []) :
    ∃ u, s.hold e t.curPages = some u ∧ execTableStage r a s = .next u := by
  obtain ⟨u, hu⟩ := State.hold_some e hheld
  refine ⟨u, hu, ?_⟩
  unfold Table.curPages at hu
  unfold execTableStage
  obtain ⟨version, hversion⟩ := newVersion_function
  rw [State.command_of_starts hs (by simp [ha]), ← hversion]
  simp only [hmode, ht, hstaged, hu, lt_irrefl, Option.isSome_none, Bool.false_eq_true, if_true, if_false]

theorem execTableStage_stages (hstaged : t.staged = none) (hmode : a.mode ≤ 1) (hfree : a.mode = 1 → s.inT2 t.curPages = []) :
    execTableStage r a s = .next (s.stageTable e a t ((s.stageRead e.part a.mode t).newVersion e.part t t.verNext)) := by
  have hhold : (if a.mode = 1 then s.hold e t.curPages else none) = none := by
    split_ifs with hcopy
    · exact State.hold_eq_none.2 (hfree hcopy)
    · rfl
  unfold Table.curPages at hhold
  unfold execTableStage
  obtain ⟨version, hversion⟩ := newVersion_function
  rw [State.command_of_starts hs (by simp [ha]), ← hversion]
  simp only [hmode.not_gt, ht, hstaged, hhold, Option.isSome_none, Bool.false_eq_true, if_false]
  unfold State.stageRead Table.curPages
  cases version _ e.part t t.verNext <;> rfl

end

/-! ## TABLE_PUBLISH and TABLE_DISCARD (10_embedding_tables R351, R354, R359) -/

section
variable {a : HArgs} {t : Table} {v : TVer} (ha : argsH e.area = a) (ht : s.table? e.part a.handle = some t)
include ha ht

theorem execTablePublish_publishes (hstaged : t.staged = some v) (hs : s.starts r 0x44 e = true) (hretiring : t.retiring.length < 2) :
    execTablePublish r a s = .next ((s.modTable e.part a.handle (fun x => { x with
      cur := v, staged := none, retiring := x.retiring ++ [x.cur]
      ctr := bump x.ctr TbCtr.versionsPublished 1 })).done e 0 v.num) := by
  unfold execTablePublish
  rw [State.command_of_starts hs (by simp [ha])]
  simp only [ht, hstaged, hretiring.not_ge, if_false]

theorem execTableDiscard_discards (hstaged : t.staged = some v) (hs : s.starts r 0x45 e = true) :
    execTableDiscard r a s = .next (((s.dropVersion v).modTable e.part a.handle (fun x => { x with staged := none })).done e 0 0) := by
  unfold execTableDiscard
  rw [State.command_of_starts hs (by simp [ha])]
  simp only [ht, hstaged]

/-! ## TABLE_DROP (10_embedding_tables R355, R358) -/

/-- The versions of a table. -/
def Table.versions (t : Table) : List TVer := t.cur :: (t.staged.toList ++ t.retiring)

theorem execTableDrop_removes (hs : s.starts r 0x41 e = true) (hfree : ∀ w ∈ t.versions, s.verFree e.part a.handle w = true) :
    execTableDrop r a s = .next (((t.versions.foldl State.dropVersion s).modPart e.part (fun w => { w with
      tables := KMap.del w.tables a.handle })).done e 0 0) := by
  have hall : t.versions.all (s.verFree e.part a.handle) = true := List.all_eq_true.2 hfree
  unfold Table.versions at hall
  unfold execTableDrop
  rw [State.command_of_starts hs (by simp [ha])]
  simp only [ht, hall, if_true]
  rfl

theorem execTableDrop_marks (hs : s.starts r 0x41 e = true) (hused : ∃ w ∈ t.versions, s.verFree e.part a.handle w = false) :
    execTableDrop r a s = .next (((t.staged.toList.foldl State.dropVersion s).modTable e.part a.handle (fun x => { x with
      dropped := true, staged := none })).done e 0 0) := by
  have hall : t.versions.all (s.verFree e.part a.handle) = false := by simpa [List.all_eq_false] using hused
  unfold Table.versions at hall
  unfold execTableDrop
  rw [State.command_of_starts hs (by simp [ha])]
  simp only [ht, hall, Bool.false_eq_true, if_false]

end
end

/-! ## VERSION_RETIRE (10_embedding_tables R351) -/

/-- A retiring version without users is freed: the current one, of another number, is passed over and stands. -/
theorem execVersionRetire_frees {s : State} {p h n : Nat} {t : Table} {v : TVer} (ht : KMap.find (s.part p).tables h = some t)
    (hcur : t.cur.num ≠ n) (hv : t.retiring.find? (fun w => w.num == n && s.verFree p h w) = some v) :
    execVersionRetire p h n s =
      .next ((s.dropVersion v).modTable p h (fun x => { x with retiring := x.retiring.filter (fun y => y.num ≠ n) })) := by
  have hfind : (t.cur :: t.retiring).find? (fun w => w.num == n && s.verFree p h w) = some v := by
    rw [List.find?_cons_of_neg (by simp [hcur]), hv]
  simp only [execVersionRetire, ht, hfind, hcur, decide_false, Bool.false_and, Bool.false_eq_true, if_false]

/-- Settles O42: creation and staging by what the allocation of the new version answers, the other rows by the table that they find. -/
theorem tableVersionsChange : Obligations.TableVersionsChange := by
  refine fun s r e => ⟨?create, ?stage, fun a t v ha ht hstaged =>
    ⟨execTablePublish_publishes ha ht hstaged, execTableDiscard_discards ha ht hstaged⟩,
    fun p h n t v => execVersionRetire_frees, fun a t hs ha ht => ⟨execTableDrop_removes ha ht hs, execTableDrop_marks ha ht hs⟩⟩
  case create =>
    intro a h hs ha hrows hrows' hdim hdim' hfmt htier hupd hstate hfree t
    have hcreate : exec (.tableCreate r a) s = .next (s.createTable e h t (s.newVersion e.part t 1)) :=
      execTableCreate_creates hs ha hrows hrows' hdim hdim' hfmt htier hupd hstate hfree
    refine ⟨fun hnone => by rw [hcreate, hnone]; rfl, fun hsome => ?_⟩
    obtain ⟨⟨v, u⟩, hnew⟩ := Option.isSome_iff_exists.1 hsome
    exact ⟨v, u, hnew, by rw [hcreate, hnew]; rfl⟩
  case stage =>
    intro a t hs ha ht
    refine ⟨execTableStage_busy hs ha ht, ?_⟩
    intro ks
    refine ⟨execTableStage_held hs ha ht, ?_⟩
    intro s1
    have hstage : t.staged = none → a.mode ≤ 1 → (a.mode = 1 → s.inT2 ks = []) →
        exec (.tableStage r a) s = .next (s.stageTable e a t (s1.newVersion e.part t t.verNext)) := execTableStage_stages hs ha ht
    refine ⟨fun hstaged hmode hfree hnone => by rw [hstage hstaged hmode hfree, hnone]; rfl, fun hstaged hsome => ?_⟩
    obtain ⟨⟨v, u⟩, hnew⟩ := Option.isSome_iff_exists.1 hsome
    rw [hnew] at hstage
    refine ⟨v, u, hnew, fun hempty => ?_, fun hcopy hfree => ?_⟩
    · rw [hstage hstaged (by omega) (by omega), State.stageTable, if_pos hempty]
    · rw [hstage hstaged hcopy.le (fun _ => hfree), State.stageTable, if_neg (by omega)]

end Sys2Proof.Machine
end

section
/-! The stages of the text engine lose no byte (11_text_engine R369, R370, R386, R387, R389): what the cut of a byte list gives, and
what the stop stage holds and has emitted after any bytes. -/

namespace Sys2Proof.Machine

/-! ## The front of a byte list (11_text_engine R369, R370) -/

theorem seqRule_len {b len lo hi : Nat} (h : seqRule b = some (len, lo, hi)) : 1 ≤ len ∧ len ≤ 4 := by
  unfold seqRule at h
  split_ifs at h <;> cases h <;> decide

theorem contLen_le (n lo hi : Nat) (bs : List Byte) : contLen n lo hi bs ≤ n := by
  induction n generalizing lo hi bs with
  | zero => simp [contLen]
  | succ n ih =>
    cases bs with
    | nil => simp [contLen]
    | cons b t =>
      have hrest := ih 0x80 0xBF t
      simp only [contLen]
      split_ifs <;> omega

theorem contLen_le_length (n lo hi : Nat) (bs : List Byte) : contLen n lo hi bs ≤ bs.length := by
  induction bs generalizing n lo hi with
  | nil => cases n <;> simp [contLen]
  | cons b t ih =>
    cases n with
    | zero => simp [contLen]
    | succ n =>
      have hrest := ih n 0x80 0xBF
      simp only [contLen, List.length_cons]
      split_ifs <;> omega

/-- The bytes past the n-th do not matter. -/
theorem contLen_take (n lo hi : Nat) (bs : List Byte) : contLen n lo hi (bs.take n) = contLen n lo hi bs := by
  induction n generalizing lo hi bs with
  | zero => simp [contLen]
  | succ n ih =>
    cases bs with
    | nil => rfl
    | cons b t => simp only [List.take_succ_cons, contLen, ih]

theorem lead_cons_of_none {b : Byte} (h : seqRule b.toNat = none) (t : List Byte) : lead (b :: t) = .bad 1 := by
  simp [lead, h]

theorem lead_cons_of_rule {b : Byte} {len lo hi : Nat} (h : seqRule b.toNat = some (len, lo, hi)) (t : List Byte) :
    lead (b :: t) = if 1 + contLen (len - 1) lo hi t = len then .char len
      else if 1 + contLen (len - 1) lo hi t = (b :: t).length then .part else .bad (1 + contLen (len - 1) lo hi t) := by
  simp [lead, h]

/-- What one segment of a cut is: one to four bytes, and a well-formed sequence where it is a character. -/
def Segment (c : List Byte × Bool) : Prop :=
  1 ≤ c.1.length ∧ c.1.length ≤ 4 ∧ (c.2 = true → lead c.1 = .char c.1.length)

theorem segment_take {bs : List Byte} {k : Nat} {ok : Bool} (hpos : 1 ≤ k) (hmax : k ≤ 4) (hfit : k ≤ bs.length)
    (hchar : ok = true → lead (bs.take k) = .char k) : Segment (bs.take k, ok) := by
  have hlen : (bs.take k).length = k := List.length_take_of_le hfit
  unfold Segment
  rw [hlen]
  exact ⟨hpos, hmax, hchar⟩

/-- What the front of a byte list says of it: a segment stands there, or all its bytes stay and are at most three. -/
def Lead.Fits (bs : List Byte) : Lead → Prop
  | .char k => Segment (bs.take k, true)
  | .bad k => Segment (bs.take k, false)
  | .part => bs.length ≤ 3

theorem lead_fits (bs : List Byte) : (lead bs).Fits bs := by
  cases bs with
  | nil => exact Nat.zero_le 3
  | cons b t =>
    cases hr : seqRule b.toNat with
    | none =>
      rw [lead_cons_of_none hr]
      exact segment_take le_rfl (by omega) (by simp) nofun
    | some x =>
      obtain ⟨len, lo, hi⟩ := x
      obtain ⟨hpos, hmax⟩ := seqRule_len hr
      have hle := contLen_le (len - 1) lo hi t
      have hfit : 1 + contLen (len - 1) lo hi t ≤ (b :: t).length := by
        have hrest := contLen_le_length (len - 1) lo hi t
        simp; omega
      rw [lead_cons_of_rule hr]
      split_ifs with hfull hall
      · refine segment_take hpos hmax (hfull ▸ hfit) fun _ => ?_
        rw [List.take_cons hpos, lead_cons_of_rule hr, contLen_take, if_pos hfull]
      · show (b :: t).length ≤ 3
        omega
      · exact segment_take (by omega) (by omega) hfit nofun

/-! ## The cut of a byte list (11_text_engine R370, R386) -/

/-- One step of a cut: it ends with what stays, or takes a segment off the front. -/
theorem scanText_step (n : Nat) {bs : List Byte} (hbs : bs ≠ []) : (scanText (n + 1) bs = ([], bs) ∧ bs.length ≤ 3) ∨
    ∃ c rest, Segment c ∧ bs = c.1 ++ rest ∧ scanText (n + 1) bs = (c :: (scanText n rest).1, (scanText n rest).2) := by
  have hne : bs.isEmpty = false := by simp [hbs]
  have hfits := lead_fits bs
  rw [scanText]
  cases hl : lead bs <;> rw [hl] at hfits
  case part => exact .inl ⟨by simp [hne], hfits⟩
  case char k => exact .inr ⟨(bs.take k, true), bs.drop k, hfits, (List.take_append_drop k bs).symm, by simp [hne]⟩
  case bad k => exact .inr ⟨(bs.take k, false), bs.drop k, hfits, (List.take_append_drop k bs).symm, by simp [hne]⟩

/-- A cut of bs into segments and what stays. -/
structure Cut (bs : List Byte) (r : List (List Byte × Bool) × List Byte) : Prop where
  whole : (r.1.map Prod.fst).flatten ++ r.2 = bs
  short : r.2.length ≤ 3
  segments : ∀ c ∈ r.1, Segment c

theorem cut_scanText {n : Nat} {bs : List Byte} (h : bs.length ≤ n) : Cut bs (scanText n bs) := by
  induction n generalizing bs with
  | zero =>
    obtain rfl : bs = [] := List.length_eq_zero_iff.1 (by omega)
    exact ⟨rfl, by simp [scanText], by simp [scanText]⟩
  | succ n ih =>
    by_cases hbs : bs = []
    · subst hbs
      exact ⟨rfl, by simp [scanText], by simp [scanText]⟩
    · rcases scanText_step n hbs with ⟨hend, hshort⟩ | ⟨c, rest, hc, rfl, hstep⟩
      · rw [hend]
        exact ⟨rfl, hshort, by simp⟩
      · have hpos := hc.1
        obtain ⟨hwhole, hshort, hsegs⟩ := ih (bs := rest) (by simp at h; omega)
        rw [hstep]
        exact ⟨by simp [hwhole], hshort, List.forall_mem_cons.2 ⟨hc, hsegs⟩⟩

theorem cut_scanBytes (bs : List Byte) : Cut bs (scanBytes bs) := cut_scanText le_rfl

theorem utf8Ok_iff (bs : List Byte) : utf8Ok bs = true ↔ (scanBytes bs).2 = [] ∧ ∀ c ∈ (scanBytes bs).1, c.2 = true := by
  simp [utf8Ok]

/-! ## The longest stop string at the end, the longest suffix that opens one (11_text_engine R387, R389) -/

section
variable {stops : List (List Byte)}

/-- Bytes that begin a stop string and are not the whole of it: they may turn out to belong to it. -/
def Opens (stops : List (List Byte)) (t : List Byte) : Prop := ∃ p ∈ stops, t <+: p ∧ t.length < p.length

theorem leastBy_eq_none {α : Type} {lt : α → α → Bool} {l : List α} : leastBy lt l = none ↔ l = [] := by
  cases l with
  | nil => simp [leastBy]
  | cons x t =>
    simp only [leastBy, reduceCtorEq, iff_false]
    split
    · simp
    · split_ifs <;> simp

/-- The first of the longest lists. -/
theorem leastBy_longest {l : List (List Byte)} {m : List Byte}
    (h : leastBy (fun (x y : List Byte) => decide (y.length < x.length)) l = some m) : m ∈ l ∧ ∀ p ∈ l, p.length ≤ m.length := by
  induction l generalizing m with
  | nil => cases h
  | cons x t ih =>
    cases ht : leastBy (fun (x y : List Byte) => decide (y.length < x.length)) t with
    | none =>
      obtain rfl := leastBy_eq_none.1 ht
      cases h
      simp
    | some y =>
      obtain ⟨hy, hmax⟩ := ih ht
      simp only [leastBy, ht, decide_eq_true_eq] at h
      split_ifs at h with hlt <;> cases h
      · exact ⟨.tail _ hy, List.forall_mem_cons.2 ⟨hlt.le, hmax⟩⟩
      · exact ⟨.head _, List.forall_mem_cons.2 ⟨le_rfl, fun p hp => (hmax p hp).trans (not_lt.1 hlt)⟩⟩

theorem keepSuffix_cases (stops : List (List Byte)) (bs : List Byte) :
    (keepSuffix stops bs = [] ∧ ∀ t, t <:+ bs → ¬ Opens stops t) ∨
    (Opens stops (keepSuffix stops bs) ∧ keepSuffix stops bs <:+ bs ∧
      ∀ t, t <:+ bs → Opens stops t → t <:+ keepSuffix stops bs) := by
  have hopens : ∀ t : List Byte, stops.any (fun p => decide (t.length < p.length) && t.isPrefixOf p) = true ↔ Opens stops t := by
    simp [Opens, and_comm]
  have hdrop : ∀ t, t <:+ bs → t = bs.drop (bs.length - t.length) := fun t => List.suffix_iff_eq_drop.1
  unfold keepSuffix
  rw [List.find?_map]
  cases hfind : (List.range (bs.length + 1)).find?
      ((fun t => stops.any (fun p => decide (t.length < p.length) && t.isPrefixOf p)) ∘ fun i => bs.drop i) with
  | none =>
    simp only [List.find?_range_eq_none, Function.comp_apply, Bool.not_eq_true', ← Bool.not_eq_true, hopens] at hfind
    refine .inl ⟨rfl, fun t ht hopen => hfind (bs.length - t.length) (by omega) ?_⟩
    rwa [← hdrop t ht]
  | some i =>
    simp only [List.find?_range_eq_some, Function.comp_apply, Bool.not_eq_true', ← Bool.not_eq_true, hopens] at hfind
    obtain ⟨hopen, -, hfirst⟩ := hfind
    refine .inr ⟨hopen, List.drop_suffix i bs, fun t ht htopen => ?_⟩
    rw [hdrop t ht] at htopen ⊢
    exact List.drop_suffix_drop_left bs (not_lt.1 fun hlt => hfirst _ hlt htopen)

theorem keepSuffix_suffix (stops : List (List Byte)) (bs : List Byte) : keepSuffix stops bs <:+ bs := by
  rcases keepSuffix_cases stops bs with ⟨h, -⟩ | ⟨-, h, -⟩
  · rw [h]; exact List.nil_suffix
  · exact h

theorem keepSuffix_opens (stops : List (List Byte)) (bs : List Byte) :
    keepSuffix stops bs = [] ∨ Opens stops (keepSuffix stops bs) := by
  rcases keepSuffix_cases stops bs with ⟨h, -⟩ | ⟨h, -⟩
  · exact .inl h
  · exact .inr h

theorem suffix_keepSuffix {t bs : List Byte} (ht : t <:+ bs) (hopen : Opens stops t) : t <:+ keepSuffix stops bs := by
  rcases keepSuffix_cases stops bs with ⟨-, h⟩ | ⟨-, -, h⟩
  · exact absurd hopen (h t ht)
  · exact h t ht hopen

/-! ## The stop stage (11_text_engine R387, R389) -/

variable {incl : Bool} {q : StopSt} {l : List Byte} {b : Byte}

/-- The stop string that ends at the end of h, the longest of those. -/
def endingStop (stops : List (List Byte)) (h : List Byte) : Option (List Byte) :=
  leastBy (fun (x y : List Byte) => decide (y.length < x.length)) (stops.filter (fun p => p.isSuffixOf h))

theorem endingStop_eq_none {h : List Byte} : endingStop stops h = none ↔ ∀ p ∈ stops, ¬ p <:+ h := by
  simp [endingStop, leastBy_eq_none]

theorem endingStop_eq_some {h m : List Byte} (hm : endingStop stops h = some m) :
    m ∈ stops ∧ m <:+ h ∧ ∀ p ∈ stops, p <:+ h → p.length ≤ m.length := by
  obtain ⟨hmem, hmax⟩ := leastBy_longest hm
  simp only [List.mem_filter, List.isSuffixOf_iff_suffix] at hmem hmax
  exact ⟨hmem.1, hmem.2, fun p hp hsuf => hmax p ⟨hp, hsuf⟩⟩

theorem StopSt.byte_stopped (hq : q.stopped = true) : q.byte stops incl b = q := by
  simp [StopSt.byte, hq]

theorem StopSt.byte_ends {m : List Byte} (hq : q.stopped = false) (hm : endingStop stops (q.held ++ [b]) = some m) :
    q.byte stops incl b =
      { held := [], stopped := true
        out := q.out ++ (q.held ++ [b]).take ((q.held ++ [b]).length - m.length) ++ if incl = true then m else [] } := by
  unfold endingStop at hm
  simp only [StopSt.byte, hq, hm, Bool.false_eq_true, if_false]

theorem StopSt.byte_waits (hq : q.stopped = false) (hm : endingStop stops (q.held ++ [b]) = none) :
    q.byte stops incl b =
      { held := keepSuffix stops (q.held ++ [b]), stopped := false
        out := q.out ++ (q.held ++ [b]).take ((q.held ++ [b]).length - (keepSuffix stops (q.held ++ [b])).length) } := by
  unfold endingStop at hm
  simp only [StopSt.byte, hq, hm, Bool.false_eq_true, if_false]

/-- The stage has received l and no stop string has ended in it: it holds back every suffix that may belong to one. -/
structure StopSt.Waits (stops : List (List Byte)) (l : List Byte) (q : StopSt) : Prop where
  live : q.stopped = false
  whole : q.out ++ q.held = l
  unmatched : ∀ p ∈ stops, ¬ p <:+: l
  opens : q.held = [] ∨ Opens stops q.held
  holds : ∀ t, t <:+ l → Opens stops t → t <:+ q.held

/-- The stage has received l and the stop string m has ended the output after the bytes a: none ended before it, and it is the
longest of those that end there. -/
structure StopSt.Ended (stops : List (List Byte)) (incl : Bool) (l : List Byte) (q : StopSt) (a m : List Byte) : Prop where
  stopped : q.stopped = true
  stop : m ∈ stops
  received : a ++ m <+: l
  first : ∀ p ∈ stops, ¬ p <:+: (a ++ m).dropLast
  longest : ∀ p ∈ stops, p <:+ a ++ m → p.length ≤ m.length
  empty : q.held = []
  output : q.out = if incl = true then a ++ m else a

/-- What of a stop string ends the bytes received lies in what is held. -/
theorem StopSt.Waits.suffix_held (h : q.Waits stops l) {p t : List Byte} (hp : p ∈ stops) (hpre : t <+: p) (ht : t <:+ l ++ [b]) :
    t <:+ q.held ++ [b] := by
  rcases List.suffix_concat_iff.1 ht with rfl | ⟨t, rfl, hsuf⟩
  · exact List.nil_suffix
  · have hopen : Opens stops t := ⟨p, hp, (List.prefix_append t [b]).trans hpre, by simpa using hpre.length_le⟩
    exact List.suffix_concat_iff.2 (.inr ⟨t, rfl, h.holds t hsuf hopen⟩)

theorem StopSt.Waits.byte_ends (h : q.Waits stops l) {m : List Byte} (hm : endingStop stops (q.held ++ [b]) = some m) :
    ∃ a, (q.byte stops incl b).Ended stops incl (l ++ [b]) a m := by
  obtain ⟨hstop, hsuf, hmax⟩ := endingStop_eq_some hm
  have hall : q.out ++ (q.held ++ [b]).take ((q.held ++ [b]).length - m.length) ++ m = l ++ [b] := by
    rw [List.append_assoc, List.suffix_iff_eq_append.1 hsuf, ← List.append_assoc, h.whole]
  rw [StopSt.byte_ends h.live hm]
  generalize (q.held ++ [b]).take ((q.held ++ [b]).length - m.length) = c at hall ⊢
  refine ⟨q.out ++ c, rfl, hstop, hall ▸ List.prefix_rfl, ?_, ?_, rfl, ?_⟩
  · rw [hall, List.dropLast_concat]
    exact h.unmatched
  · rw [hall]
    exact fun p hp hend => hmax p hp (h.suffix_held hp List.prefix_rfl hend)
  · cases incl <;> simp

theorem StopSt.Waits.byte_waits (h : q.Waits stops l) (hm : endingStop stops (q.held ++ [b]) = none) :
    (q.byte stops incl b).Waits stops (l ++ [b]) := by
  have hnone := endingStop_eq_none.1 hm
  rw [StopSt.byte_waits h.live hm]
  refine ⟨rfl, ?_, fun p hp hin => ?_, keepSuffix_opens _ _, fun t ht ⟨p, hp, hpre, hlt⟩ =>
    suffix_keepSuffix (h.suffix_held hp hpre ht) ⟨p, hp, hpre, hlt⟩⟩
  · rw [List.append_assoc, List.suffix_iff_eq_append.1 (keepSuffix_suffix stops _), ← List.append_assoc, h.whole]
  · rcases List.infix_concat_iff.1 hin with hend | hold
    · exact hnone p hp (h.suffix_held hp List.prefix_rfl hend)
    · exact h.unmatched p hp hold

theorem StopSt.Ended.byte {a m : List Byte} (h : q.Ended stops incl l a m) :
    (q.byte stops incl b).Ended stops incl (l ++ [b]) a m := by
  rw [StopSt.byte_stopped h.stopped]
  exact { h with received := h.received.trans (List.prefix_append l [b]) }

/-- After any bytes the stage waits or a stop string has ended its output. -/
theorem StopSt.waits_or_ended (hstops : ∀ p ∈ stops, p ≠ []) (l : List Byte) :
    let q := l.foldl (StopSt.byte stops incl) { held := [], out := [], stopped := false }
    q.Waits stops l ∨ ∃ a m, q.Ended stops incl l a m := by
  induction l using List.reverseRecOn with
  | nil => exact .inl ⟨rfl, rfl, by simpa using hstops, .inl rfl, fun t ht _ => ht⟩
  | append_singleton l b ih =>
    simp only [List.foldl_append, List.foldl_cons, List.foldl_nil]
    rcases ih with hwaits | ⟨a, m, hended⟩
    · cases hm : endingStop stops (_ ++ [b]) with
      | none => exact .inl (hwaits.byte_waits hm)
      | some m =>
        obtain ⟨a, ha⟩ := hwaits.byte_ends (incl := incl) hm
        exact .inr ⟨a, m, ha⟩
    · exact .inr ⟨a, m, hended.byte⟩

end

/-- Settles O47: the cut by its steps, the stop stage by what it holds after every byte. -/
theorem textStagesKeepEveryByte : Obligations.TextStagesKeepEveryByte := by
  refine ⟨fun bs => ?cut, fun stops incl l hstops => ?stop⟩
  case cut =>
    obtain ⟨hwhole, hshort, hsegments⟩ := cut_scanBytes bs
    exact ⟨hwhole, hshort, hsegments, utf8Ok_iff bs⟩
  case stop =>
    intro q
    rcases StopSt.waits_or_ended (incl := incl) hstops l with hwaits | ⟨a, m, hended⟩
    · exact ⟨fun _ => ⟨hwaits.whole, hwaits.unmatched, hwaits.opens⟩, fun hq => by simp [q, hwaits.live] at hq⟩
    · obtain ⟨b, hb⟩ := hended.received
      exact ⟨fun hq => by simp [q, hended.stopped] at hq,
        fun _ => ⟨a, m, b, hended.stop, hb.symm, hended.first, hended.longest, hended.empty, hended.output⟩⟩

end Sys2Proof.Machine
end

section
/-! Vocabularies and grammars come and go, text is tokenised and masked (11_text_engine R362 to R383; 12_constrained_decoding R397,
R398, R404, R408, R422, R423): each row by what it finds once its checks have passed. -/

namespace Sys2Proof.Machine

section
variable {s : State} {r : Ref} {e : CmdE}

/-! ## What is unloaded (11_text_engine R363, R368; 12_constrained_decoding R398, R404) -/

section
variable {owner p users busy : Nat} {f : Unit → State}

/-- The checks of an unload: by its owner, and while nothing names what is unloaded. -/
def unloadChecks (owner p users busy : Nat) : List (Bool × Nat) := [(owner ≠ p, Code.privRequired), (users ≠ 0, busy)]

theorem State.unload_foreign (h : owner ≠ p) : s.checked e (unloadChecks owner p users busy) f = s.reject e Code.privRequired :=
  State.checked_stop (by simp [unloadChecks, h])

theorem State.unload_named (h : owner = p) (hused : users ≠ 0) :
    s.checked e (unloadChecks owner p users busy) f = s.reject e busy := State.checked_stop (by simp [unloadChecks, h, hused])

theorem State.unload_removes (h : owner = p) (hunused : users = 0) : s.checked e (unloadChecks owner p users busy) f = f () :=
  State.checked_pass (by simp [unloadChecks, h, hunused])

end

/-! ## Vocabularies (11_text_engine R362, R363, R366, R368) -/

/-- What a VOCAB_LOAD does with the free handle h, by what the container reads as. -/
def State.admitVocab (s : State) (e : CmdE) (a : SArgs) (h : Nat) : Option Vocab → State
  | none => s.reject e Code.vocabInvalid
  | some v => { s.sourceSeen e.part a with vocabs := KMap.put (s.sourceSeen e.part a).vocabs h v }.done e 0 h

theorem execVocabLoad_admits {a : SArgs} {h : Nat} (hs : s.starts r 0x50 e = true) (ha : argsS e.area = a) (hsrc : a.src ≤ 2)
    (hshared : bit a.lflags 0 = true → e.part = 0) (hfew : s.vocabs.length < 16)
    (hroom : (s.vocabs.map (fun v => v.2.footprint)).sum + roundUp (4 * a.len) (2 ^ 20) ≤ 192 * 2 ^ 20)
    (hok : s.sourceOk e.part a = true) (hfree : KMap.free s.vocabs 16 = some h) :
    execVocabLoad r a s = .next (s.admitVocab e a h (readVocab e.part (bit a.lflags 0) (s.sourceBytes a))) := by
  have hpriv : (bit a.lflags 0 && decide (e.part ≠ 0)) = false := by simpa using hshared
  have hlimit : (decide (vocabMax ≤ s.vocabs.length) ||
      decide (vocabStore < (s.vocabs.map (fun v => v.2.footprint)).sum + roundUp (4 * a.len) (2 ^ 20))) = false := by
    simp only [vocabMax, vocabStore, hfew.not_ge, hroom.not_gt, decide_false, Bool.or_self]
  unfold execVocabLoad
  rw [State.command_of_starts hs (by simp [ha]), State.checked_pass (by simp only [hsrc.not_gt, decide_false, hpriv, hlimit,
    firstBad_cons_false, firstBad_nil]), State.source_of_ok hok]
  simp only [vocabMax, hfree]
  cases readVocab e.part (bit a.lflags 0) (s.sourceBytes a) <;> rfl

theorem execVocabUnload_checks {a : HArgs} {v : Vocab} (ha : argsH e.area = a) (hv : s.vocab? e.part a.handle = some v)
    (hs : s.starts r 0x51 e = true) :
    execVocabUnload r a s = .next (s.checked e (unloadChecks v.owner e.part (s.vocabUsers a.handle) Code.vocabInUse)
      (fun _ => { s with vocabs := KMap.del s.vocabs a.handle }.done e 0 0)) := by
  unfold execVocabUnload
  rw [State.command_of_starts hs (by simp [ha])]
  simp only [hv]
  rfl

theorem execVocabQuery_delivers {a : QArgs} {v : Vocab} (ha : argsQ e.area = a) (hv : s.vocab? e.part a.handle = some v)
    (hs : s.starts r 0x52 e = true) :
    let items := [v.hdr, leBytes 8 v.footprint, leBytes 8 (s.vocabUsers a.handle)]
    s.delivers e a items = true → execVocabQuery r a s = .next ((s.delivered e a items).done e 0 0) := by
  intro items hout
  unfold execVocabQuery
  rw [State.command_of_starts hs (by simp [ha])]
  simp only [hv]
  rw [State.answer_of_delivers hout]

/-! ## Grammars (12_constrained_decoding R397, R398, R404, R422) -/

/-- What a GRAMMAR_LOAD does by what the container reads as and by the lowest free handle. -/
def State.admitGrammar (s : State) (e : CmdE) (a : SArgs) : Option Grammar → Option Nat → State
  | none, _ | _, none => s.reject e Code.grammarInvalid
  | some g, some h => { s.sourceSeen e.part a with grammars := KMap.put (s.sourceSeen e.part a).grammars h g }.done e 0 h

section
variable {a : SArgs} {v : Vocab} (hs : s.starts r 0x55 e = true) (ha : argsS e.area = a) (hsrc : a.src ≤ 2)
  (hshared : bit a.lflags 0 = true → e.part = 0) (hv : s.vocab? e.part a.arg16 = some v) (hfew : s.grammars.length < 64)
  (hlen : a.len ≤ 64 * 2 ^ 20)
  (hroom : (s.grammars.map (fun g => g.2.footprint)).sum + roundUp (a.len + 4 * v.toks.length) (2 ^ 20) ≤ 160 * 2 ^ 20)
  (hok : s.sourceOk e.part a = true)
include hs ha hsrc hshared hv hfew hlen hroom hok

/-- A GRAMMAR_LOAD once its source is read. -/
theorem execGrammarLoad_reads : execGrammarLoad r a s = .next (
    if 64 ≤ (s.sourceBytes a).length ∧ (field (s.sourceBytes a) 32 16 ≠ v.vocabId ∨ field (s.sourceBytes a) 48 4 ≠ v.toks.length) then
      s.reject e Code.grammarVocabMismatch
    else s.admitGrammar e a (readGrammar e.part a.arg16 (bit a.lflags 0) v (s.sourceBytes a)) (KMap.free s.grammars 64)) := by
  have hpriv : (bit a.lflags 0 && decide (e.part ≠ 0)) = false := by simpa using hshared
  unfold execGrammarLoad
  rw [State.command_of_starts hs (by simp [ha])]
  simp only [hsrc.not_gt, decide_false, hpriv, firstBad_cons_false, firstBad_nil, hv, hfew.not_ge, hlen.not_gt, grammarStore,
    hroom.not_gt, Bool.or_self, Bool.false_eq_true, if_false, State.source_of_ok hok]
  cases readGrammar e.part a.arg16 (bit a.lflags 0) v (s.sourceBytes a) <;> cases KMap.free s.grammars 64 <;> rfl

theorem execGrammarLoad_mismatch (hheader : 64 ≤ (s.sourceBytes a).length)
    (hother : field (s.sourceBytes a) 32 16 ≠ v.vocabId ∨ field (s.sourceBytes a) 48 4 ≠ v.toks.length) :
    execGrammarLoad r a s = .next (s.reject e Code.grammarVocabMismatch) := by
  rw [execGrammarLoad_reads hs ha hsrc hshared hv hfew hlen hroom hok, if_pos ⟨hheader, hother⟩]

theorem execGrammarLoad_admits (hid : field (s.sourceBytes a) 32 16 = v.vocabId)
    (hcount : field (s.sourceBytes a) 48 4 = v.toks.length) {h : Nat} (hfree : KMap.free s.grammars 64 = some h) :
    execGrammarLoad r a s =
      .next (s.admitGrammar e a (readGrammar e.part a.arg16 (bit a.lflags 0) v (s.sourceBytes a)) (some h)) := by
  rw [execGrammarLoad_reads hs ha hsrc hshared hv hfew hlen hroom hok, if_neg (by simp [hid, hcount]), hfree]

end

theorem execGrammarUnload_checks {a : HArgs} {g : Grammar} (ha : argsH e.area = a) (hg : s.grammar? e.part a.handle = some g)
    (hs : s.starts r 0x56 e = true) :
    execGrammarUnload r a s = .next (s.checked e (unloadChecks g.owner e.part (s.grammarUsers a.handle) Code.grammarInUse)
      (fun _ => { s with grammars := KMap.del s.grammars a.handle }.done e 0 0)) := by
  unfold execGrammarUnload
  rw [State.command_of_starts hs (by simp [ha])]
  simp only [hg]
  rfl

theorem execGrammarQuery_delivers {a : QArgs} {g : Grammar} (ha : argsQ e.area = a) (hg : s.grammar? e.part a.handle = some g)
    (hs : s.starts r 0x57 e = true) :
    let items := [g.hdr, leBytes 8 g.footprint, leBytes 8 (s.grammarUsers a.handle)]
    s.delivers e a items = true → execGrammarQuery r a s = .next ((s.delivered e a items).done e 0 0) := by
  intro items hout
  unfold execGrammarQuery
  rw [State.command_of_starts hs (by simp [ha])]
  simp only [hg]
  rw [State.answer_of_delivers hout]

/-! ## Output written or refused -/

/-- What a command does with its output: it goes on from the state with the bytes written, or the status that stops the write
completes it. -/
def State.written (s : State) (e : CmdE) (f : State → State) : Except Nat State → State
  | .error x => s.reject e x
  | .ok u => f u

theorem State.written_of_writable {t : State} {f : State → State} {p adr : Nat} {dua : Bool} {bs : List Byte}
    (h : t.writable p dua adr bs.length = true) : s.written e f (t.writeBuf p dua adr bs) = f (t.stored dua adr bs) := by
  rw [State.writeBuf_of_writable h, State.written]

/-! ## TOKENISE (11_text_engine R371, R372, R374, R375, R378, R381, R382) -/

section
variable {a : TextArgs} {v : Vocab}

/-- The tokens that a TOKENISE writes: those of its segment, with the ones that ADD_BOS and ADD_EOS add (11 R381). -/
def segmentToks (a : TextArgs) (v : Vocab) (o : SegOut) : List Nat :=
  (if bit a.tflags 0 && bit a.tflags 2 then v.bos else []) ++ o.toks ++ (if bit a.tflags 1 && bit a.tflags 3 then v.eosId else [])

/-- What a TOKENISE does with its segment, once its input is read: an ill-formed one frees the context (11 R371, R375). -/
def State.takeSegment (s : State) (e : CmdE) (a : TextArgs) (v : Vocab) : Except Nat SegOut → State
  | .error off => ((if bit a.tflags 0 && bit a.tflags 1 then s
      else s.modPart e.part (fun w => { w with ctxs := KMap.del w.ctxs a.ctx })).count e.part Ctr.cmdRejected 1).done e
        Code.inputIllFormed off
  | .ok o =>
    let toks := segmentToks a v o
    if a.outCap < toks.length then s.reject e Code.tokenBufferFull
    else s.written e (fun u => ((((u.putCtx e.part a o.ctx).count e.part Ctr.tokBytesIn a.inLen).count e.part
        Ctr.tokTokensOut toks.length).count e.part Ctr.illformedSub o.ill).done e 0 (toks.length + o.carried * 2 ^ 32))
      ((s.seen e.part (bit a.tflags 4) a.inAddr a.inLen).writeBuf e.part (bit a.tflags 5) a.outAddr (toks.flatMap (leBytes 4)))

theorem State.takeSegment_full {o : SegOut} (h : a.outCap < (segmentToks a v o).length) :
    s.takeSegment e a v (.ok o) = s.reject e Code.tokenBufferFull := if_pos h

theorem State.takeSegment_writes {o : SegOut} :
    let t := s.seen e.part (bit a.tflags 4) a.inAddr a.inLen
    let toks := segmentToks a v o
    toks.length ≤ a.outCap → t.writable e.part (bit a.tflags 5) a.outAddr (toks.flatMap (leBytes 4)).length = true →
    s.takeSegment e a v (.ok o) = (((((t.stored (bit a.tflags 5) a.outAddr (toks.flatMap (leBytes 4))).putCtx e.part a o.ctx).count
      e.part Ctr.tokBytesIn a.inLen).count e.part Ctr.tokTokensOut toks.length).count e.part Ctr.illformedSub o.ill).done e 0
        (toks.length + o.carried * 2 ^ 32) :=
  fun hroom hout => (if_neg hroom.not_gt).trans (State.written_of_writable hout)

section
variable (hs : s.starts r 0x53 e = true) (ha : argsText e.area = a) (hfields : textBad a 16777216 = false)
  (hv : s.vocab? e.part a.vocab = some v)
include hs ha hfields hv

theorem execTokenise_noFallback (hpolicy : a.policy = 2) (halg : v.alg = 1) (hnone : v.byteFallback = false) :
    execTokenise r a s = .next (s.reject e Code.byteFallbackAbsent) := by
  unfold execTokenise
  rw [State.command_of_starts hs (by simp [ha])]
  simp only [hfields, hv, hpolicy, halg, hnone, decide_true, beq_self_eq_true, Bool.not_false, Bool.and_self, Bool.false_eq_true, if_true,
    if_false]

/-- A TOKENISE whose checks pass, by what its segment gives. -/
theorem execTokenise_reads {c : TextCtx} (hfallback : a.policy = 2 → v.alg = 1 → v.byteFallback = true)
    (hc : s.textCtx e.part a false = some c) (hin : s.readable e.part (bit a.tflags 4) a.inAddr a.inLen = true) :
    execTokenise r a s = .next (s.takeSegment e a v
      (v.segment a.vocab a.policy (bit a.tflags 1) c (s.bytesAt (bit a.tflags 4) a.inAddr a.inLen))) := by
  have hpolicy : (decide (a.policy = 2) && v.alg == 1 && !v.byteFallback) = false := by simpa using hfallback
  unfold execTokenise
  rw [State.command_of_starts hs (by simp [ha])]
  simp only [hfields, hv, hpolicy, hc, State.readBuf_of_readable hin, Bool.false_eq_true, if_false]
  cases v.segment a.vocab a.policy (bit a.tflags 1) c (s.bytesAt (bit a.tflags 4) a.inAddr a.inLen) <;> rfl

end

/-! ## DETOKENISE (11_text_engine R383, R385, R386) -/

/-- What the UTF-8 stage of a stream gives for a byte list, flushed where the list is its last: the bytes released, the stage after
it, and the U+FFFD made. -/
def detokenised (v : Vocab) (last : Bool) (c : TextCtx) (bs : List Byte) : List Byte × Utf8 × Nat :=
  let o := ({ held := c.carry, first := !c.started } : Utf8).take v.addPrefix bs
  let f := if last then o.2.1.flush v.addPrefix else ([], o.2.1, 0)
  ((o.1 ++ f.1).flatten, f.2.1, o.2.2 + f.2.2)

/-- The context that a DETOKENISE leaves (11 R386). -/
def detokCtx (h : Nat) (u : Utf8) : TextCtx :=
  { active := true, vocab := h, detok := true, carry := u.held, started := !u.first }

/-- What a DETOKENISE does with what its UTF-8 stage gives. -/
def State.releaseText (s : State) (e : CmdE) (a : TextArgs) (o : List Byte × Utf8 × Nat) : State :=
  if a.outCap < o.1.length then s.reject e Code.tokenBufferFull
  else s.written e (fun u => ((u.putCtx e.part a (detokCtx a.vocab o.2.1)).count e.part Ctr.detokReplaced o.2.2).done e 0
      (o.1.length + o.2.1.held.length * 2 ^ 32))
    ((s.seen e.part (bit a.tflags 4) a.inAddr (4 * a.inLen)).writeBuf e.part (bit a.tflags 5) a.outAddr o.1)

theorem State.releaseText_full {o : List Byte × Utf8 × Nat} (h : a.outCap < o.1.length) :
    s.releaseText e a o = s.reject e Code.tokenBufferFull := if_pos h

theorem State.releaseText_writes {o : List Byte × Utf8 × Nat} :
    let t := s.seen e.part (bit a.tflags 4) a.inAddr (4 * a.inLen)
    o.1.length ≤ a.outCap → t.writable e.part (bit a.tflags 5) a.outAddr o.1.length = true →
    s.releaseText e a o = (((t.stored (bit a.tflags 5) a.outAddr o.1).putCtx e.part a (detokCtx a.vocab o.2.1)).count e.part
      Ctr.detokReplaced o.2.2).done e 0 (o.1.length + o.2.1.held.length * 2 ^ 32) :=
  fun hroom hout => (if_neg hroom.not_gt).trans (State.written_of_writable hout)

/-- A DETOKENISE whose checks pass, by whether the vocabulary knows its tokens. -/
theorem execDetokenise_reads {c : TextCtx} (hs : s.starts r 0x54 e = true) (ha : argsText e.area = a) (hpolicy : a.policy = 0)
    (hbos : bit a.tflags 2 = false) (heos : bit a.tflags 3 = false) (hfields : textBad a 16777216 = false)
    (hv : s.vocab? e.part a.vocab = some v) (hc : s.textCtx e.part a true = some c)
    (hin : s.readable e.part (bit a.tflags 4) a.inAddr (4 * a.inLen) = true) :
    let toks := words 4 (s.bytesAt (bit a.tflags 4) a.inAddr (4 * a.inLen))
    execDetokenise r a s = .next (if toks.any (fun x => decide (v.toks.length ≤ x)) then s.reject e Code.tokenInvalid
      else s.releaseText e a (detokenised v (bit a.tflags 1) c (toks.flatMap v.tokBytes))) := by
  intro toks
  unfold execDetokenise
  rw [State.command_of_starts hs (by simp [ha])]
  simp only [hpolicy, hbos, heos, hfields, ne_eq, not_true, decide_false, Bool.or_self, hv, hc, State.readBuf_of_readable hin,
    Bool.false_eq_true, if_false]
  rfl

end

/-! ## GRAMMAR_MASK (12_constrained_decoding R408, R422, R423) -/

/-- Where the tokens of a GRAMMAR_MASK lead (12 R408, R423). -/
def State.maskWalk (s : State) (a : MaskArgs) (g : Grammar) : GPos × Option Nat × Bool :=
  g.walk (KMap.findD s.vocabs g.vocab {}) (words 4 (s.bytesAt (bit a.dua 0) a.inAddr (4 * a.cnt))) 0 g.open false

/-- What a GRAMMAR_MASK writes once its tokens are walked (12 R423). -/
def State.maskOut (s : State) (g : Grammar) (w : GPos × Option Nat × Bool) : List Byte :=
  leBytes 4 w.1.st ++ leBytes 2 w.1.stack.length ++ zeros 2 ++ leBytes 4 (w.2.1.getD 0xFFFFFFFF) ++ zeros 4 ++
    leBytes (maskBytes g.tokenCnt) (if w.2.2 then 0 else g.mask (KMap.findD s.vocabs g.vocab {}) w.1)

section
variable {a : MaskArgs} {g : Grammar} (hs : s.starts r 0x58 e = true) (ha : argsMask e.area = a)
  (hg : s.grammar? e.part a.grammar = some g)
include hs ha hg

theorem execGrammarMask_small (hsmall : a.outCap < 16 + maskBytes g.tokenCnt) :
    execGrammarMask r a s =
      .next ((s.count e.part Ctr.cmdRejected 1).done e Code.outputTooSmall (16 + maskBytes g.tokenCnt)) := by
  unfold execGrammarMask
  rw [State.command_of_starts hs (by simp [ha])]
  simp only [hg, if_pos hsmall]

theorem execGrammarMask_writes (hroom : 16 + maskBytes g.tokenCnt ≤ a.outCap)
    (hin : s.readable e.part (bit a.dua 0) a.inAddr (4 * a.cnt) = true) :
    let t := s.seen e.part (bit a.dua 0) a.inAddr (4 * a.cnt)
    let w := s.maskWalk a g
    t.writable e.part (bit a.dua 0) a.outAddr (s.maskOut g w).length = true →
    execGrammarMask r a s = .next (((t.stored (bit a.dua 0) a.outAddr (s.maskOut g w)).count e.part Ctr.masksBuilt
      (if w.2.2 then 0 else 1)).done e 0 0) := by
  intro t w hout
  have hreads : execGrammarMask r a s = .next (s.written e (fun u => (u.count e.part Ctr.masksBuilt (if w.2.2 then 0 else 1)).done e 0 0)
      (t.writeBuf e.part (bit a.dua 0) a.outAddr (s.maskOut g w))) := by
    unfold execGrammarMask
    rw [State.command_of_starts hs (by simp [ha])]
    simp only [hg, if_neg hroom.not_gt, State.readBuf_of_readable hin]
    rfl
  rw [hreads, State.written_of_writable hout]

end
end

/-- Settles O44: each row of vocabularies and grammars by what it finds. -/
theorem vocabulariesAndGrammarsComeAndGo : Obligations.VocabulariesAndGrammarsComeAndGo := by
  refine fun s r e => ⟨?vocabLoad, fun a v ha hv hs => ?vocabUnload, fun a v => execVocabQuery_delivers, ?grammarLoad,
    fun a g ha hg hs => ?grammarUnload, fun a g => execGrammarQuery_delivers⟩
  case vocabUnload =>
    have hunload : exec (.vocabUnload r a) s = _ := execVocabUnload_checks ha hv hs
    rw [hunload]
    exact ⟨fun h => congrArg _ (State.unload_foreign h), fun h hused => congrArg _ (State.unload_named h hused),
      fun h hunused => congrArg _ (State.unload_removes h hunused)⟩
  case grammarUnload =>
    have hunload : exec (.grammarUnload r a) s = _ := execGrammarUnload_checks ha hg hs
    rw [hunload]
    exact ⟨fun h => congrArg _ (State.unload_foreign h), fun h hused => congrArg _ (State.unload_named h hused),
      fun h hunused => congrArg _ (State.unload_removes h hunused)⟩
  case vocabLoad =>
    intro a h hs ha hsrc hshared hfew hroom hok hfree t
    have hload : exec (.vocabLoad r a) s = _ := execVocabLoad_admits hs ha hsrc hshared hfew hroom hok hfree
    rw [hload]
    cases readVocab e.part (bit a.lflags 0) (s.sourceBytes a) <;> rfl
  case grammarLoad =>
    intro a v hs ha hsrc hshared hv hfew hlen hroom hok bs t
    refine ⟨execGrammarLoad_mismatch hs ha hsrc hshared hv hfew hlen hroom hok, fun hid hcount h hfree => ?_⟩
    have hload : exec (.grammarLoad r a) s = _ :=
      execGrammarLoad_admits hs ha hsrc hshared hv hfew hlen hroom hok hid hcount hfree
    rw [hload]
    cases readGrammar e.part a.arg16 (bit a.lflags 0) v bs <;> rfl

/-- Settles O46: the check of TOKENISE before its context. -/
theorem bytesNeedAFallback : Obligations.BytesNeedAFallback :=
  fun _ _ _ _ _ hs ha hfields hv => execTokenise_noFallback hs ha hfields hv

/-- Settles O45: TOKENISE by what its segment gives, DETOKENISE by its UTF-8 stage, GRAMMAR_MASK by the walk of its tokens. -/
theorem textIsTokenisedAndMasked : Obligations.TextIsTokenisedAndMasked := by
  refine fun s r e => ⟨?tokenise, ?detokenise, fun a g hs ha hg => ⟨execGrammarMask_small hs ha hg, execGrammarMask_writes hs ha hg⟩⟩
  case tokenise =>
    intro a v c hs ha hfields hv hfallback hc hin t
    have hreads : exec (.tokenise r a) s = _ := execTokenise_reads hs ha hfields hv hfallback hc hin
    rw [hreads]
    cases v.segment a.vocab a.policy (bit a.tflags 1) c (s.bytesAt (bit a.tflags 4) a.inAddr a.inLen) with
    | error off => rfl
    | ok o => exact ⟨fun hfull => congrArg _ (State.takeSegment_full hfull),
        fun hroom hout => congrArg _ (State.takeSegment_writes hroom hout)⟩
  case detokenise =>
    intro a v c hs ha hpolicy hbos heos hfields hv hc hin bs t
    have hreads : exec (.detokenise r a) s = _ := execDetokenise_reads hs ha hpolicy hbos heos hfields hv hc hin
    refine ⟨fun hunknown => by rw [hreads, if_pos (by simpa using hunknown)], fun hknown => ?_⟩
    rw [hreads, if_neg (by simpa using hknown)]
    exact ⟨fun hfull => congrArg _ (State.releaseText_full hfull),
      fun hroom hout => congrArg _ (State.releaseText_writes hroom hout)⟩

end Sys2Proof.Machine
end

section
/-! The sampler (12_constrained_decoding R415, R416, R418; 07_selection R216, R233): the result order is that of
ranks and tags, so what is first in it has the largest key and the least tag; the noise is its hash in numbers. -/

namespace Sys2Proof.Machine

/-! ## The order of values and of entries (07_selection R216) -/

/-- The number ±m × 2^e. -/
def dyadic (neg : Bool) (m : Nat) (e : Int) : ℚ := (if neg then -1 else 1) * m * 2 ^ e

theorem scaled_eq_dyadic (neg : Bool) (m : Nat) {e g : Int} (h : g ≤ e) : (scaled neg m e g : ℚ) = dyadic neg m e * 2 ^ (-g) := by
  have hpow : (2 : ℚ) ^ (e - g).toNat = 2 ^ e * 2 ^ (-g) := by
    rw [← zpow_natCast, Int.toNat_of_nonneg (sub_nonneg.2 h), sub_eq_add_neg, zpow_add₀ two_ne_zero]
  cases neg <;> simp [scaled, dyadic, hpow, mul_assoc]

theorem scaled_lt_scaled {a b : Bool} {m n : Nat} {e f : Int} :
    scaled a m e (min e f) < scaled b n f (min e f) ↔ dyadic a m e < dyadic b n f := by
  rw [← Int.cast_lt (R := ℚ), scaled_eq_dyadic a m (min_le_left e f), scaled_eq_dyadic b n (min_le_right e f)]
  exact mul_lt_mul_iff_left₀ (by positivity)

/-- The place of a value among all values: NaN below −∞, −∞ below the numbers, +∞ above them. -/
def Num.rank : Num → ℕ ×ₗ ℚ
  | .nan => toLex (0, 0)
  | .inf true => toLex (1, 0)
  | .fin neg m e => toLex (2, dyadic neg m e)
  | .inf false => toLex (3, 0)

theorem Num.rank_nan_lt {x : Num} : Num.nan.rank < x.rank ↔ x ≠ .nan := by
  rcases x with _ | ⟨_ | _⟩ | _ <;> simp [Num.rank, Prod.Lex.toLex_lt_toLex]

/-- The values that may be sampled: neither NaN nor −∞. -/
theorem Num.rank_inf_lt {x : Num} : (Num.inf true).rank < x.rank ↔ x ≠ .nan ∧ x ≠ .inf true := by
  rcases x with _ | ⟨_ | _⟩ | _ <;> simp [Num.rank, Prod.Lex.toLex_lt_toLex]

theorem Num.lt_iff_rank {x y : Num} (hx : x ≠ .nan) : x.lt y = true ↔ x.rank < y.rank := by
  rcases x with _ | ⟨_ | _⟩ | ⟨a, m, e⟩ <;> rcases y with _ | ⟨_ | _⟩ | ⟨b, n, f⟩ <;>
    simp_all [Num.rank, Num.lt, scaled_lt_scaled, Prod.Lex.toLex_lt_toLex]

/-- Where an element stands in descending order: by its key from the largest down, then by its tag. -/
def SelEl.place (a : SelEl) : (ℕ ×ₗ ℚ)ᵒᵈ ×ₗ ℕ := toLex (.toDual a.key.rank, a.tag)

theorem SelEl.place_lt {a b : SelEl} : a.place < b.place ↔ b.key.rank < a.key.rank ∨ a.key.rank = b.key.rank ∧ a.tag < b.tag := by
  simp [SelEl.place, Prod.Lex.toLex_lt_toLex]

theorem selBefore_iff_place (a b : SelEl) : selBefore true a b = true ↔ a.place < b.place := by
  rw [SelEl.place_lt]
  by_cases ha : a.key = .nan <;> by_cases hb : b.key = .nan
  · simp [selBefore, ha, hb]
  · simp [selBefore, ha, hb, (Num.rank_nan_lt.2 hb).not_gt, (Num.rank_nan_lt.2 hb).ne]
  · simp [selBefore, ha, hb, Num.rank_nan_lt.2 ha]
  · simp only [selBefore, ha, hb, if_false, Num.lt_iff_rank ha, Num.lt_iff_rank hb]
    rcases lt_trichotomy a.key.rank b.key.rank with h | h | h
    · simp [h, h.ne, h.not_gt]
    · simp [h]
    · simp [h, h.not_gt]

/-- An order told by places in a linear order has its least element at the lowest place. -/
theorem leastBy_least {α β : Type} [LinearOrder β] {lt : α → α → Bool} {place : α → β}
    (hlt : ∀ a b, lt a b = true ↔ place a < place b) {l : List α} {m : α} (h : leastBy lt l = some m) :
    m ∈ l ∧ ∀ x ∈ l, place m ≤ place x := by
  induction l generalizing m with
  | nil => cases h
  | cons x t ih =>
    cases ht : leastBy lt t with
    | none =>
      obtain rfl := leastBy_eq_none.1 ht
      cases h
      simp
    | some y =>
      obtain ⟨hy, hmin⟩ := ih ht
      simp only [leastBy, ht, hlt] at h
      split_ifs at h with hbefore <;> cases h
      · exact ⟨.tail _ hy, List.forall_mem_cons.2 ⟨hbefore.le, hmin⟩⟩
      · exact ⟨.head _, List.forall_mem_cons.2 ⟨le_rfl, fun p hp => (not_lt.1 hbefore).trans (hmin p hp)⟩⟩

/-! ## The sampler (12_constrained_decoding R415, R416) -/

section
variable {q : Sampler} {pos mask i j : Nat} {logits : List Num}

@[simp] theorem Sampler.length_keys : (q.keys pos mask logits).length = logits.length := by simp [Sampler.keys]

theorem Sampler.keys_masked (hi : i < logits.length) (hmask : bit mask i = false) :
    (q.keys pos mask logits)[i]? = some (.inf true) := by
  simp [Sampler.keys, hi, hmask]

theorem Sampler.keys_allowed (htemp : q.temp = 0) (hi : i < logits.length) (hmask : bit mask i = true) :
    (q.keys pos mask logits)[i]? = logits[i]? := by
  simp [Sampler.keys, hi, hmask, htemp]

/-- The entries that the sampler chooses from: each key with its token as the tag. -/
def Sampler.entries (q : Sampler) (pos mask : Nat) (logits : List Num) : List SelEl :=
  (q.keys pos mask logits).zipIdx.map (fun e => { key := e.1, raw := 0, tag := e.2 })

theorem Sampler.mem_entries {e : SelEl} :
    e ∈ q.entries pos mask logits ↔ (q.keys pos mask logits)[e.tag]? = some e.key ∧ e.raw = 0 := by
  obtain ⟨key, raw, tag⟩ := e
  simp [Sampler.entries, List.mem_zipIdx_iff_getElem?, eq_comm (a := raw)]

/-- The entry of token i. -/
theorem Sampler.entry_mem (hi : i < logits.length) :
    { key := (q.keys pos mask logits).getD i .nan, raw := 0, tag := i } ∈ q.entries pos mask logits :=
  Sampler.mem_entries.2 ⟨by simp [hi], rfl⟩

/-- The chosen entry, where its key is neither NaN nor −∞. -/
theorem Sampler.pick_eq_some : q.pick pos mask logits = some j ↔
    ∃ e, leastBy (selBefore true) (q.entries pos mask logits) = some e ∧ (Num.inf true).rank < e.key.rank ∧ e.tag = j := by
  rw [Sampler.pick, ← Sampler.entries]
  simp only [Num.rank_inf_lt]
  cases leastBy (selBefore true) (q.entries pos mask logits) with
  | none => simp
  | some e => rcases e with ⟨_ | ⟨_ | _⟩ | _, raw, tag⟩ <;> simp

theorem Sampler.pick_allowed (h : q.pick pos mask logits = some j) : j < logits.length ∧ bit mask j = true := by
  obtain ⟨e, hleast, hkey, rfl⟩ := Sampler.pick_eq_some.1 h
  obtain ⟨hat, -⟩ := Sampler.mem_entries.1 (leastBy_least selBefore_iff_place hleast).1
  have hlt : e.tag < logits.length := by simpa using (List.getElem?_eq_some_iff.1 hat).1
  refine ⟨hlt, Bool.not_eq_false _ ▸ fun hmask => ?_⟩
  rw [Sampler.keys_masked hlt hmask, Option.some_inj] at hat
  exact hkey.ne (congrArg Num.rank hat)

/-- At TEMP +0 a token is chosen where one may be: what is first in the result order has no smaller key. -/
theorem Sampler.pick_isSome (htemp : q.temp = 0) (hi : i < logits.length) (hmask : bit mask i = true)
    (hnan : logits.getD i .nan ≠ .nan) (hinf : logits.getD i .nan ≠ .inf true) : (q.pick pos mask logits).isSome = true := by
  have hmem := Sampler.entry_mem (q := q) (pos := pos) (mask := mask) hi
  have hkey : (q.keys pos mask logits).getD i .nan = logits.getD i .nan := by
    simp only [List.getD_eq_getElem?_getD, Sampler.keys_allowed htemp hi hmask]
  cases hleast : leastBy (selBefore true) (q.entries pos mask logits) with
  | none => simp [leastBy_eq_none.1 hleast] at hmem
  | some e =>
    have hbest : (logits.getD i .nan).rank ≤ e.key.rank := by
      have hplace := (leastBy_least selBefore_iff_place hleast).2 _ hmem
      rw [← not_lt, SelEl.place_lt, not_or, not_lt, hkey] at hplace
      exact hplace.1
    have hkept : (Num.inf true).rank < e.key.rank := (Num.rank_inf_lt.2 ⟨hnan, hinf⟩).trans_le hbest
    exact Option.isSome_iff_exists.2 ⟨e.tag, Sampler.pick_eq_some.2 ⟨e, hleast, hkept, rfl⟩⟩

/-- The sampled token comes before every other one. -/
theorem Sampler.pick_before (h : q.pick pos mask logits = some j) (hi : i < logits.length) (hne : i ≠ j) :
    selBefore true { key := (q.keys pos mask logits).getD j .nan, raw := 0, tag := j }
      { key := (q.keys pos mask logits).getD i .nan, raw := 0, tag := i } = true := by
  obtain ⟨⟨key, raw, tag⟩, hleast, -, rfl⟩ := Sampler.pick_eq_some.1 h
  obtain ⟨hmem, hmin⟩ := leastBy_least selBefore_iff_place hleast
  obtain ⟨hat, rfl⟩ := Sampler.mem_entries.1 hmem
  rw [List.getD_eq_getElem?_getD, hat, Option.getD_some, selBefore_iff_place]
  refine (hmin _ (Sampler.entry_mem hi)).lt_of_ne fun hplace => hne ?_
  simpa [SelEl.place, eq_comm] using congrArg (fun x => (ofLex x).2) hplace

end

/-! ## The noise (12_constrained_decoding R418) -/

/-- mix(h) in numbers. -/
def mixNat (h : Nat) : Nat :=
  let a := (h ^^^ h / 2 ^ 16) * 0x7FEB352D % 2 ^ 32
  let b := (a ^^^ a / 2 ^ 15) * 0x846CA68B % 2 ^ 32
  b ^^^ b / 2 ^ 16

theorem toNat_mul_ofNat (x : Word) (c : Nat) : (x * BitVec.ofNat 32 c).toNat = x.toNat * c % 2 ^ 32 := by
  rw [BitVec.toNat_mul, BitVec.toNat_ofNat, Nat.mul_mod_mod]

theorem toNat_xor_shift (x : Word) (n : Nat) : (x ^^^ (x >>> n)).toNat = x.toNat ^^^ x.toNat / 2 ^ n := by
  rw [BitVec.toNat_xor, BitVec.toNat_ushiftRight, Nat.shiftRight_eq_div_pow]

theorem toNat_mix (h : Word) : (mix h).toNat = mixNat h.toNat := by
  rw [mix, mixNat]
  simp only [toNat_xor_shift, toNat_mul_ofNat]

theorem toNat_low (seed : BitVec 64) : (seed.extractLsb' 0 32).toNat = seed.toNat % 2 ^ 32 := by simp

theorem toNat_high (seed : BitVec 64) : (seed.extractLsb' 32 32).toNat = seed.toNat / 2 ^ 32 := by
  rw [BitVec.extractLsb'_toNat, Nat.shiftRight_eq_div_pow]
  exact Nat.mod_eq_of_lt (by omega)

theorem noise_eq (seed : BitVec 64) (pos j : Nat) :
    noise seed pos j =
      mixNat (mixNat (mixNat (seed.toNat % 2 ^ 32 ^^^ pos % 2 ^ 32 * 0x9E3779B1 % 2 ^ 32) ^^^ seed.toNat / 2 ^ 32) ^^^
        j % 2 ^ 32 * 0x85EBCA77 % 2 ^ 32) / 2 ^ 9 := by
  rw [noise]
  simp only [toNat_mix, toNat_low, toNat_high, BitVec.toNat_xor, toNat_mul_ofNat, BitVec.toNat_ofNat, BitVec.toNat_ushiftRight,
    Nat.shiftRight_eq_div_pow]

/-- Settles O48: the keys by the mask, the pick by the rank of what is first in the result order. -/
theorem samplerMasksAndTakesTheBest : Obligations.SamplerMasksAndTakesTheBest :=
  fun _ _ _ _ => ⟨Sampler.length_keys, fun _ => Sampler.keys_masked, fun htemp _ => Sampler.keys_allowed htemp,
    fun _ => Sampler.pick_allowed, fun htemp ⟨_, hi, hmask, hnan, hinf⟩ => Sampler.pick_isSome htemp hi hmask hnan hinf,
    fun _ _ h _ => Sampler.pick_before h⟩

/-- Settles O49: each operation on words by what it is on numbers. -/
theorem noiseIsTheHashOfTheRule : Obligations.NoiseIsTheHashOfTheRule := noise_eq

end Sys2Proof.Machine
end

section
/-! Drafts are proposed and verified (12_constrained_decoding R410, R413, R415 to R420; 14_speculation R472 to R475, R481): each row once
what holds it back is away, and the verdict of a verification by induction on the drafts. -/

namespace Sys2Proof.Machine

section
variable {s : State} {i bn m : Nat} {v : Session} {b : Batch}

/-! ## Draft passes (12_constrained_decoding R410; 14_speculation R472, R474) -/

/-- The state once a draft pass has read the pages of the draft image and its tile time is charged (log 26). -/
def State.draftRead (s : State) (v : Session) (us : Nat) : State :=
  ((s.readPages v.part (KMap.findD (s.part v.part).images v.draft {}).passPages).charge v.part (1000 * us)).count v.part
    Ctr.draftTileUs us

/-- A draft pass by what its sampling gives. -/
theorem execDraftPass_samples (hv : KMap.find s.sessions i = some v) (hopen : s.proposing v = true) (hproposer : v.proposer = 1)
    (hchain : v.chainStop = false) (hlvs : v.lvsHit = false) (hroom : v.drafts.length < v.specMax) (hb : s.batchOf i = some (bn, b))
    (hreached : b.lvsReached = false) (hcarried : b.carried = false) (hm : s.maskAt v v.drafts.length = some m) (logits : List Word)
    (us : Nat) {o : Option Nat} (hpick : v.sampler.pick (v.all.length + v.drafts.length) m (logitsOf logits) = o) :
    execDraftPass i logits us s = .next ((s.draftRead v us).modSess i (fun w => o.elim
      { w with chainStop := true, draftKv := v.all.length + v.drafts.length }
      (fun d => { w with
        drafts := w.drafts ++ [d], proposed := w.proposed + 1, draftKv := v.all.length + v.drafts.length
        chainStop := decide (v.grammar = 0xFFFF) && ((s.sessVocab v).toks.getD d {}).eos }))) := by
  simp only [execDraftPass, hv, hopen, hproposer, hchain, hlvs, hroom.not_ge, hb, hreached, hcarried, hm, hpick, Bool.not_true,
    ne_eq, not_true, decide_false, Bool.or_self, Bool.false_eq_true, if_false]
  cases o <;> rfl

/-! ## Masks (12_constrained_decoding R406 to R408, R410) -/

theorem execMaskBuild_builds {g : Grammar} (hv : KMap.find s.sessions i = some v) (hg : s.sessGrammar v = some g)
    (hopen : s.proposing v = true) (hchain : v.chainStop = false) (hsram : s.sramBad = []) :
    execMaskBuild i s = .next (s.buildMask i v g) := by
  simp [execMaskBuild, hv, hg, hopen, hchain, hsram]

section
variable {g : Grammar} {d : Nat} (hd : v.drafts[v.shadow.length]? = some d) (hm : s.maskAt v v.shadow.length = some m)
include hd hm

theorem State.buildMask_masked (hout : bit m d = false) : s.buildMask i v g = s.disallow i v v.shadow.length := by
  simp [State.buildMask, hd, hm, hout]

variable (hin : bit m d = true)
include hin

theorem State.buildMask_eos (heos : ((s.sessVocab v).toks.getD d {}).eos = true) :
    s.buildMask i v g = s.modSess i (fun w => { w with drafts := v.drafts.take (v.shadow.length + 1), chainStop := true }) := by
  simp only [State.buildMask, hd, hm, hin, heos, Option.getD_some, Bool.not_true, Bool.false_eq_true, if_false, if_true]

theorem State.buildMask_shadow {q : GPos} (heos : ((s.sessVocab v).toks.getD d {}).eos = false)
    (hmove : g.move (v.posAt v.shadow.length) d = some q) (hmask : g.mask (s.sessVocab v) q ≠ 0) :
    s.buildMask i v g = ((s.count v.part Ctr.shadowSteps 1).count v.part Ctr.masksBuilt 1).modSess i (fun w => { w with
      shadow := w.shadow ++ [(q.st, q.stack, g.mask (s.sessVocab v) q)] }) := by
  simp only [State.buildMask, hd, hm, hin, heos, hmove, hmask, Option.getD_some, Bool.not_true, Bool.false_eq_true, if_false]

end

/-! ## LVS (14_speculation R474) -/

/-- LVS for one session of the batch: its draft passes stop, and what they did not propose is counted. -/
def State.truncateDrafts (s : State) (i : Nat) : State :=
  match KMap.find s.sessions i with
  | none => s
  | some v =>
    if s.proposing v && v.proposer == 1 && !v.chainStop && decide (v.drafts.length < v.specMax) then
      (s.modSess i (fun w => { w with lvsHit := true })).count v.part Ctr.specTrunc (v.specMax - v.drafts.length)
    else s

/-- What LVS for one session leaves as it is. -/
theorem State.truncateDrafts_keeps {β : Type} (π : State → β) (hsess : ∀ (t : State) j f, π (t.modSess j f) = π t)
    (hcount : ∀ (t : State) p c n, π (t.count p c n) = π t) (s : State) (i : Nat) : π (s.truncateDrafts i) = π s := by
  unfold State.truncateDrafts
  split
  · rfl
  · split_ifs
    · rw [hcount, hsess]
    · rfl

theorem execLvs_truncates (hb : KMap.find s.batches bn = some b) (hreached : b.lvsReached = false) (hcommit : s.wheel.commit = false)
    (hlost : s.moduleLost = false) : execLvs bn s =
      .next (b.members.foldl State.truncateDrafts { s with batches := KMap.put s.batches bn { b with lvsReached := true } }) := by
  simp only [execLvs, hb, hreached, hcommit, hlost, Bool.or_self, Bool.false_eq_true, if_false]
  rfl

/-! ## Verification (12_constrained_decoding R413, R420; 14_speculation R475) -/

/-- The verdict on the k + 1 rows of a session's step. -/
def State.verdict (s : State) (v : Session) (logits : List (List Word)) : Verdict :=
  verify v.sampler (fun k => (s.maskAt v k).getD 0) (logits.map logitsOf) v.drafts 0 v.all.length

/-- A verification once its rows are at hand: its candidates kept, a speculative step counted. -/
theorem execVerification_keeps {logits : List (List Word)} {ns : Nat} (hv : KMap.find s.sessions i = some v)
    (hb : s.batchOf i = some (bn, b)) (hplaced : v.placed ≠ 0) (hfirst : v.verified = false) (hrunning : v.st = .running)
    (hcommit : s.wheel.commit = false) (hlost : s.moduleLost = false) (hdone : b.done = true) (hcarried : b.carried = false)
    (hfinal : v.final v.placed = true) (hmasks : s.masksReady v = true) (hrows : v.drafts.length < logits.length) :
    let r := s.verdict v logits
    let t := (s.count v.part Ctr.maskWaitNs ns).modSess i (fun w => { w with cand := r.cand, badLogits := r.bad, verified := true })
    execVerification i ⟨logits, ns⟩ s = .next (if v.generates && v.spec then
      ((((t.count v.part Ctr.specSteps 1).count v.part Ctr.specProposed v.proposed).count v.part Ctr.specAccepted r.accepted).count
        v.part Ctr.specRejected (v.drafts.length - r.accepted)).count v.part Ctr.specBonus (if r.bonus then 1 else 0) else t) := by
  have hrows' : ¬ logits.length < v.drafts.length + 1 := by omega
  simp only [execVerification, hv, hb, hplaced, hfirst, hrunning, hcommit, hlost, hdone, hcarried, hfinal, hmasks, hrows', ne_eq, not_true,
    decide_false, Bool.not_true, Bool.or_self, Bool.false_eq_true, if_false]
  cases v.generates && v.spec <;> rfl

end

section
variable {q : Sampler} {mask : Nat → Nat} {rows : List (List Num)} {drafts : List Nat} {d i pos x : Nat}

/-- Nothing to choose at the first position: the verdict is bad and keeps no token. -/
theorem verify_none (h : q.pick pos (mask i) (rows.getD i []) = none) :
    verify q mask rows drafts i pos = { cand := [], accepted := 0, bonus := false, bad := true } := by
  cases drafts <;> simp only [verify, h]

theorem verify_bonus (h : q.pick pos (mask i) (rows.getD i []) = some x) :
    verify q mask rows [] i pos = { cand := [x], accepted := 0, bonus := true, bad := false } := by
  simp only [verify, h]

theorem verify_rejected (h : q.pick pos (mask i) (rows.getD i []) = some x) (hne : x ≠ d) :
    verify q mask rows (d :: drafts) i pos = { cand := [x], accepted := 0, bonus := false, bad := false } := by
  simp only [verify, h, if_neg hne]

theorem verify_accepted (h : q.pick pos (mask i) (rows.getD i []) = some d) :
    verify q mask rows (d :: drafts) i pos =
      { verify q mask rows drafts (i + 1) (pos + 1) with
        cand := d :: (verify q mask rows drafts (i + 1) (pos + 1)).cand
        accepted := (verify q mask rows drafts (i + 1) (pos + 1)).accepted + 1 } := by
  simp only [verify, h, if_true]

end

/-- What a verdict says of the target's samples, given by position, and of the drafts (14_speculation R475). -/
structure Verdict.Sound (r : Verdict) (sample : Nat → Option Nat) (drafts : List Nat) : Prop where
  accepted_le : r.accepted ≤ drafts.length
  take_accepted : r.cand.take r.accepted = drafts.take r.accepted
  length_cand : r.cand.length = r.accepted + (if r.bad = true then 0 else 1)
  bonus_iff : r.bonus = true ↔ r.accepted = drafts.length ∧ r.bad = false
  cand_eq : ∀ j, j < r.cand.length → r.cand[j]? = sample j
  differs : r.bad = false → r.accepted < drafts.length → r.cand[r.accepted]? ≠ drafts[r.accepted]?
  bad_stops : r.bad = true → sample r.cand.length = none

section
variable {sample : Nat → Option Nat} {d x : Nat} {drafts : List Nat}

theorem Verdict.sound_bad (h : sample 0 = none) :
    Verdict.Sound { cand := [], accepted := 0, bonus := false, bad := true } sample drafts := by
  constructor <;> simp [h]

theorem Verdict.sound_bonus (h : sample 0 = some x) :
    Verdict.Sound { cand := [x], accepted := 0, bonus := true, bad := false } sample [] := by
  constructor <;> simp [h]

theorem Verdict.sound_rejected (h : sample 0 = some x) (hne : x ≠ d) :
    Verdict.Sound { cand := [x], accepted := 0, bonus := false, bad := false } sample (d :: drafts) := by
  constructor <;> simp [h, hne]

/-- A draft that equals the target's sample goes before a sound verdict on the rest. -/
theorem Verdict.Sound.accept {r : Verdict} (h : r.Sound (fun j => sample (j + 1)) drafts) (hd : sample 0 = some d) :
    Verdict.Sound { r with cand := d :: r.cand, accepted := r.accepted + 1 } sample (d :: drafts) where
  accepted_le := Nat.succ_le_succ h.accepted_le
  take_accepted := congrArg (d :: ·) h.take_accepted
  length_cand := by simp only [List.length_cons, h.length_cand]; omega
  bonus_iff := by simpa using h.bonus_iff
  cand_eq
    | 0, _ => hd.symm
    | j + 1, hj => h.cand_eq j (Nat.lt_of_succ_lt_succ hj)
  differs hbad hlt := h.differs hbad (Nat.lt_of_succ_lt_succ hlt)
  bad_stops := h.bad_stops

end

theorem verify_sound (q : Sampler) (mask : Nat → Nat) (rows : List (List Num)) (drafts : List Nat) (i pos : Nat) :
    (verify q mask rows drafts i pos).Sound (fun j => q.pick (pos + j) (mask (i + j)) (rows.getD (i + j) [])) drafts := by
  induction drafts generalizing i pos with
  | nil =>
    cases hpick : q.pick pos (mask i) (rows.getD i []) with
    | none => exact verify_none hpick ▸ Verdict.sound_bad hpick
    | some x => exact verify_bonus hpick ▸ Verdict.sound_bonus hpick
  | cons d drafts ih =>
    cases hpick : q.pick pos (mask i) (rows.getD i []) with
    | none => exact verify_none hpick ▸ Verdict.sound_bad hpick
    | some x =>
      by_cases hx : x = d
      · subst hx
        have hrest := ih (i + 1) (pos + 1)
        simp only [Nat.add_assoc, Nat.add_comm 1] at hrest
        exact verify_accepted hpick ▸ hrest.accept hpick
      · exact verify_rejected hpick hx ▸ Verdict.sound_rejected hpick hx

/-- Settles O53: each row by what it does once nothing holds it back, the verdict by induction on the drafts. -/
theorem draftsAreProposedAndVerified : Obligations.DraftsAreProposedAndVerified := by
  refine ⟨fun s i v hv => ⟨?draftPass, ?maskBuild, ?lvs, ?verification⟩, ?verdict⟩
  case draftPass =>
    intro bn b m logits us hopen hproposer hchain hlvs hroom hb hreached hcarried hm t
    have hsamples := fun {o} => execDraftPass_samples (o := o) hv hopen hproposer hchain hlvs hroom hb hreached hcarried hm logits us
    exact ⟨fun d => hsamples, hsamples⟩
  case maskBuild =>
    intro g d m hg hopen hchain hsram hd hm
    have hbuild : exec (.maskBuild i) s = _ := execMaskBuild_builds hv hg hopen hchain hsram
    rw [hbuild]
    exact ⟨fun hout => congrArg _ (State.buildMask_masked hd hm hout), fun hin heos => congrArg _ (State.buildMask_eos hd hm hin heos),
      fun hin heos q hmove hmask => congrArg _ (State.buildMask_shadow hd hm hin heos hmove hmask)⟩
  case lvs =>
    intro bn b hb hreached hcommit hlost
    have hframe := fun {β} (π : State → β) hsess hcount => foldl_keeps π (State.truncateDrafts_keeps π hsess hcount) b.members
      { s with batches := KMap.put s.batches bn { b with lvsReached := true } }
    exact ⟨_, execLvs_truncates hb hreached hcommit hlost, hframe State.batches (fun _ _ _ => rfl) fun _ _ _ _ => rfl,
      hframe State.hostMem (fun _ _ _ => rfl) fun _ _ _ _ => rfl, hframe State.dev (fun _ _ _ => rfl) fun _ _ _ _ => rfl,
      hframe State.inflight (fun _ _ _ => rfl) fun _ _ _ _ => rfl⟩
  case verification =>
    intro bn b logits ns hb hplaced hfirst hrunning hcommit hlost hdone hcarried hfinal hmasks hrows r t
    have hkeeps : exec (.verification i ⟨logits, ns⟩) s = _ :=
      execVerification_keeps hv hb hplaced hfirst hrunning hcommit hlost hdone hcarried hfinal hmasks hrows
    rw [hkeeps]
    exact ⟨fun hspec => by rw [hspec]; rfl, fun hspec => by rw [hspec]; rfl⟩
  case verdict =>
    intro q mask rows drafts i pos r
    have h := verify_sound q mask rows drafts i pos
    exact ⟨h.accepted_le, h.take_accepted, h.length_cand, h.bonus_iff, h.cand_eq, h.differs, h.bad_stops⟩

end Sys2Proof.Machine
end

section
/-! Sessions open, generate and close (13_serving R426 to R433, R451, R456, R457, R460, R462): each row once its command starts, an opening
by what its pools answer, a generation by what its input answers. -/

namespace Sys2Proof.Machine

section
variable {s : State} {r : Ref} {e : CmdE}

/-! ## Handles that name something (13_serving R428) -/

theorem State.findD_of_image? {p h : Nat} {im : Image} (him : s.image? p h = some im) : KMap.findD (s.part p).images h {} = im := by
  unfold State.image? at him
  unfold KMap.findD
  split at him
  · cases him
  · next hfind => simpa [hfind] using (Option.ite_none_right_eq_some.1 him).2

theorem State.findD_of_vocab? {p h : Nat} {v : Vocab} (hv : s.vocab? p h = some v) : KMap.findD s.vocabs h {} = v := by
  unfold State.vocab? at hv
  unfold KMap.findD
  split at hv
  · cases hv
  · next hfind => simpa [hfind] using (Option.ite_none_right_eq_some.1 hv).2

/-! ## Opening (13_serving R426 to R428; 16_scheduling R514) -/

/-- Checks that hold leave the status to those after them. -/
theorem firstBad_append_of_none {l m : List (Bool × Nat)} (h : firstBad l = none) : firstBad (l ++ m) = firstBad m := by
  induction l with
  | nil => rfl
  | cons x l ih =>
    obtain ⟨_ | _, c⟩ := x
    · exact ih h
    · cases h

theorem State.checked_append {l m : List (Bool × Nat)} {f : Unit → State} (h : firstBad l = none) :
    s.checked e (l ++ m) f = s.checked e m f := by
  simp only [State.checked, firstBad_append_of_none h]

/-- The grammar that a descriptor names, none for 0xFFFF. -/
def State.openGrammar (s : State) (a : OpenArgs) : Option Grammar := if a.grammar = 0xFFFF then none else KMap.find s.grammars a.grammar

/-- The draft image that a descriptor names, none for 0xFFFF. -/
def State.openDraft (s : State) (p : Nat) (a : OpenArgs) : Option Image :=
  if a.draft = 0xFFFF then none else KMap.find (s.part p).images a.draft

/-- The state with the KV pools of a session's image and of its draft (13_serving R434). -/
def State.openPools (s : State) (p : Nat) (a : OpenArgs) (im : Image) (dr : Option Image) : Option State :=
  (s.openPool p a.model a.kvBlocks im).bind (fun u => match dr with
    | none => some u
    | some d => u.openPool p a.draft a.kvBlocks d)

/-- The seed of a session: the descriptor's, drawn where it is 0 (log 9). -/
def State.openSeed (t : State) (a : OpenArgs) : Nat := if a.seed = 0 then Config.freeNat t.fresh % 2 ^ 64 else a.seed

/-- The session that a descriptor opens (13_serving R427, R428). -/
def State.newSession (t : State) (e : CmdE) (a : OpenArgs) (g : Option Grammar) : Session :=
  { part := e.part, image := a.model, vocab := a.vocab, grammar := a.grammar, cls := a.cls, sflags := BitVec.ofNat 8 a.sflags
    glaze := a.glaze, maxCtx := a.maxCtx, maxNew := a.maxNew, temp := BitVec.ofNat 32 a.temp
    invT := if a.temp = 0 then 0 else BitVec.ofNat 32 (f32Code (div32 one (fp32.decode a.temp)))
    seed := BitVec.ofNat 64 (t.openSeed a), draft := a.draft, specMax := a.specMax, proposer := a.proposer
    stops := (stopPairs a).map (fun x => x.2.take x.1), streamQ := a.streamQ, openQ := e.queue
    st := if bit a.sflags 2 then .shadow else .idle
    gst := (g.map Grammar.start).getD 0, dropSpace := true, kvStack := t.kvStack t.nextSess }

/-- A session from what its pools answer: refused (log 25), or under the next ID. -/
def State.admitSession (s : State) (e : CmdE) (a : OpenArgs) (g : Option Grammar) : Option State → State
  | none => s.reject e Code.poolExhausted
  | some t => { t with
      sessions := KMap.put t.sessions t.nextSess (t.newSession e a g), nextSess := t.nextSess + 1, fresh := t.fresh + 1
      }.done e 0 (t.nextSess + 2 ^ 32 * t.openSeed a)

theorem State.openHandles_pass {p : Nat} {a : OpenArgs} (him : (s.image? p a.model).isSome = true)
    (hv : (s.vocab? p a.vocab).isSome = true) (hgrammar : a.grammar ≠ 0xFFFF → (s.grammar? p a.grammar).isSome = true)
    (hdraft : a.draft ≠ 0xFFFF → (s.image? p a.draft).isSome = true) : firstBad (s.openHandles p a) = none := by
  refine firstBad_none ?_
  simpa [State.openHandles, ← Option.isSome_iff_ne_none, him, hv] using ⟨hgrammar, hdraft⟩

/-- The checks after the handles', up to the channel's. -/
def State.openLimits (s : State) (p : Nat) (a : OpenArgs) (im : Image) (v : Vocab) : List (Bool × Nat) :=
  [(openParamBad a im v ((s.openGrammar a).map Grammar.vocab) (s.openDraft p a), Code.sessionParamInvalid),
   (!stopsOk (stopPairs a), Code.stopStringInvalid), (!tempOk a.temp, Code.samplingInvalid), (s.glazeBad p a.glaze im, Code.glazeInvalid),
   (decide (8192 ≤ s.sessions.length), Code.sessionLimit),
   ((s.queue p a.streamQ).cls ≠ 2 || decide (64 ≤ a.streamQ), Code.queueInvalid),
   (s.tooWide p a.model || s.tooWide p a.draft, Code.gangSizeInvalid)]

theorem State.openLimits_pass {p : Nat} {a : OpenArgs} {im : Image} {v : Vocab}
    (hparam : openParamBad a im v ((s.openGrammar a).map Grammar.vocab) (s.openDraft p a) = false)
    (hstops : stopsOk (stopPairs a) = true) (htemp : tempOk a.temp = true) (hglaze : s.glazeBad p a.glaze im = false)
    (hroom : s.sessions.length < 8192) (hcls : (s.queue p a.streamQ).cls = 2) (hqueue : a.streamQ < 64)
    (hmodel : s.tooWide p a.model = false) (hdraft : s.tooWide p a.draft = false) : firstBad (s.openLimits p a im v) = none := by
  refine firstBad_none ?_
  simp [State.openLimits, hparam, hstops, htemp, hglaze, hroom, hcls, hqueue, hmodel, hdraft]

/-- An opening whose other checks hold: the channel's check is left (05_array_dataflow R178; log 39), then the pools decide. -/
theorem execSessionOpen_admits {a : OpenArgs} {im : Image} {v : Vocab} (hs : s.starts r 0x60 e = true) (ha : argsOpen e.area e.pb = a)
    (him : s.image? e.part a.model = some im) (hv : s.vocab? e.part a.vocab = some v)
    (hhandles : firstBad (s.openHandles e.part a) = none) (hlimits : firstBad (s.openLimits e.part a im v) = none) :
    execSessionOpen r a s = .next (s.checked e
      [(s.barred e.part e.queue a.model || s.barred e.part e.queue a.draft, Code.dataflowInvalid)]
      (fun _ => s.admitSession e a (s.openGrammar a) (s.openPools e.part a im (s.openDraft e.part a)))) := by
  unfold execSessionOpen
  rw [State.command_of_starts hs (by simp [ha])]
  simp only [State.findD_of_image? him, State.findD_of_vocab? hv]
  rw [State.checked_append hhandles]
  exact congrArg _ (State.checked_append hlimits)

end

/-! ## Generating (13_serving R430 to R433) -/

section
variable {s : State} {r : Ref} {e : CmdE} {a : GenArgs} {v : Session}

/-- A generation accepted, what tokenising counts counted (11_text_engine R381). -/
def State.acceptGen (s t : State) (e : CmdE) (a : GenArgs) (toks : List Nat) (ill : Nat) : State :=
  let u := (t.beginGen a.session e.tag toks a.maxNew a.firstDl a.endDl s.arrivalTurn false).keep e
  if bit a.gflags 0 = true then
    ((u.count e.part Ctr.tokBytesIn a.inLen).count e.part Ctr.tokTokensOut toks.length).count e.part Ctr.illformedSub ill
  else u

/-- A generation by what its input answers. -/
def State.takeInput (s : State) (e : CmdE) (a : GenArgs) (v : Session) : Except (Nat × Nat) (List Nat × Nat × State) → State
  | .error c => (s.count e.part Ctr.cmdRejected 1).done e c.1 c.2
  | .ok (toks, ill, t) =>
    if v.ctx.length + toks.length = 0 ∨ v.maxCtx < v.ctx.length + toks.length then s.reject e Code.contextExceeded
    else s.acceptGen t e a toks ill

/-- A generation that names a session with its fields in range. -/
theorem execGenerate_named (hs : s.starts r 0x61 e = true) (ha : argsGen e.area = a) (htext : bit a.gflags 0 = true → a.policy ≤ 2)
    (htoks : bit a.gflags 0 = false → a.policy = 0) (hv : s.session? e.part a.session = some v) :
    execGenerate r a s = .next (if v.st ≠ .idle then s.reject e Code.sessionBusy
      else if s.sessBarred e.part e.queue v = true then s.reject e Code.dataflowInvalid
      else s.takeInput e a v (s.genInput e.part v a)) := by
  have hpolicy : (if bit a.gflags 0 = true then decide (2 < a.policy) else decide (a.policy ≠ 0)) = false := by
    cases hflag : bit a.gflags 0
    · simp [htoks hflag]
    · simp [htext hflag]
  unfold execGenerate
  rw [State.command_of_starts hs (by simp [ha])]
  simp only [hpolicy, Bool.false_eq_true, if_false, hv, Bool.or_eq_true, decide_eq_true_eq]
  rcases s.genInput e.part v a with ⟨c, x⟩ | ⟨toks, ill, t⟩ <;> rfl

end

/-! ## Ending (13_serving R429, R456, R457) -/

section
variable {s : State}

@[simp] theorem State.doneTags_sessions (l : List Nat) (status result : Nat) : (s.doneTags l status result).sessions = s.sessions :=
  foldl_keeps State.sessions (fun u t => by cases u.cmd t <;> simp) l s

@[simp] theorem State.dropBlock_sessions (p h b : Nat) : (s.dropBlock p h b).sessions = s.sessions :=
  State.dropBlock_keeps (π := State.sessions) (fun _ _ => rfl) (fun _ _ _ => rfl) s p h b

@[simp] theorem State.unref_sessions (q : BlkRef) : (s.unref q).sessions = s.sessions := by
  cases hb : s.kvBlk q with
  | none => simp [State.unref, hb]
  | some b => exact State.unref_keeps hb (fun _ _ => rfl) (fun _ _ _ => rfl)

@[simp] theorem State.unrefAll_sessions (l : List BlkRef) : (s.unrefAll l).sessions = s.sessions :=
  foldl_keeps State.sessions (fun _ q => State.unref_sessions q) l s

@[simp] theorem State.sweepPool_sessions (p h : Nat) : (s.sweepPool p h).sessions = s.sessions := by
  unfold State.sweepPool
  split
  · rfl
  · split_ifs
    · rfl
    · exact foldl_keeps State.sessions (fun u (b : Nat × KvBlk) => u.dropBlock_sessions p h b.1) _ s

theorem State.find_freeSession (i : Nat) : KMap.find (s.freeSession i).sessions i = none := by
  cases hv : KMap.find s.sessions i with
  | none => simp [State.freeSession, hv]
  | some v => simp [State.freeSession, hv]

theorem State.find_endSession (i : Nat) : KMap.find (s.endSession i).sessions i = none := by
  cases hv : KMap.find s.sessions i with
  | none => simp [State.endSession, hv]
  | some v => simp [State.endSession, hv, State.find_freeSession]

end

/-! ## Cancelling, closing, promoting, asking (13_serving R456, R457, R460, R462) -/

section
variable {s : State} {r : Ref} {e : CmdE} {v : Session}

section
variable {a : HArgs} (ha : argsH e.area = a) (hv : s.session? e.part a.handle = some v)
include ha hv

theorem execSessionCancel_waits (hs : s.starts r 0x62 e = true) :
    execSessionCancel r a s = .next ((s.modSess a.handle (fun v => { v with
      cancelAt := some (min (v.cancelAt.getD (s.boundaryAfter - 1)) (s.boundaryAfter - 1))
      cancelTags := v.cancelTags ++ [e.tag] })).keep e) := by
  unfold execSessionCancel
  rw [State.command_of_starts hs (by simp [ha])]
  simp only [hv]

theorem execSessionClose_busy (hs : s.starts r 0x63 e = true) (hst : v.st = .queued ∨ v.st = .running) :
    execSessionClose r a s = .next (s.reject e Code.sessionBusy) := by
  unfold execSessionClose
  rw [State.command_of_starts hs (by simp [ha])]
  simp only [hv]
  rw [if_pos (by simpa using hst)]

theorem execSessionClose_ends (hs : s.starts r 0x63 e = true) (hst : v.st = .idle ∨ v.st = .shadow) :
    execSessionClose r a s = .next ((s.endSession a.handle).done e 0 0) := by
  unfold execSessionClose
  rw [State.command_of_starts hs (by simp [ha])]
  simp only [hv]
  rw [if_neg (by rcases hst with h | h <;> simp [h])]

/-- A promotion of a session that is no shadow (log 25). -/
theorem execSessionPromote_other (hs : s.starts r 0x6A e = true) (hst : v.st ≠ .shadow) :
    execSessionPromote r a s = .next (s.reject e Code.shadowInvalid) := by
  unfold execSessionPromote
  rw [State.command_of_starts hs (by simp [ha])]
  simp only [hv, if_pos hst]

theorem execSessionPromote_shadow (hs : s.starts r 0x6A e = true) (hst : v.st = .shadow) :
    execSessionPromote r a s =
      .next ((s.modSess a.handle (fun w => { w with promoteTags := w.promoteTags ++ [e.tag] })).keep e) := by
  unfold execSessionPromote
  rw [State.command_of_starts hs (by simp [ha])]
  simp only [hv, hst, ne_eq, not_true, if_false]

end

/-- The items of the record are log 14's. -/
theorem execSessionQuery_delivers {a : QArgs} (hs : s.starts r 0x64 e = true) (ha : argsQ e.area = a)
    (hv : s.session? e.part a.handle = some v) :
    let items := [leBytes 4 v.st.num, leBytes 4 v.ctx.length, leBytes 4 v.blocks.length, leBytes 4 v.tokTotal, leBytes 4 v.genSeq]
    s.delivers e a items = true → execSessionQuery r a s = .next ((s.delivered e a items).done e 0 0) := by
  intro items hout
  unfold execSessionQuery
  rw [State.command_of_starts hs (by simp [ha])]
  simp only [hv]
  rw [State.answer_of_delivers hout]

end

/-- Settles O50: an opening by `execSessionOpen_admits` and what its pools answer, a generation by `execGenerate_named` and what its input
answers, the other rows by their own lemmas. -/
theorem sessionsOpenGenerateAndClose : Obligations.SessionsOpenGenerateAndClose := by
  intro s r e
  refine ⟨?opening, ?generation, fun a v ha hv => ⟨execSessionCancel_waits ha hv, fun hs => ⟨execSessionClose_busy ha hv hs,
    fun hst => ⟨execSessionClose_ends ha hv hs hst, State.find_endSession a.handle⟩⟩,
    fun hs => ⟨execSessionPromote_other ha hv hs, execSessionPromote_shadow ha hv hs⟩⟩, fun a v => execSessionQuery_delivers⟩
  case opening =>
    intro a im v hs ha him hv hgrammar hdraft g dr hparam hstops htemp hglaze hroom hcls hqueue hmodel hwide
    have hopen : exec (.sessionOpen r a) s = _ := execSessionOpen_admits hs ha him hv
      (State.openHandles_pass (Option.isSome_of_eq_some him) (Option.isSome_of_eq_some hv) hgrammar hdraft)
      (State.openLimits_pass hparam hstops htemp hglaze hroom hcls hqueue hmodel hwide)
    refine ⟨fun hbarred => ?_, fun hmodelFree hdraftFree => ?_⟩
    · rw [hopen, State.checked_stop (by rw [Bool.or_eq_true_iff.2 hbarred]; rfl)]
    intro pools
    have hadmits : exec (.sessionOpen r a) s = .next (s.admitSession e a g pools) := by
      rw [hopen, State.checked_pass (by rw [hmodelFree, hdraftFree]; rfl)]
      rfl
    refine ⟨fun hnone => by rw [hadmits, hnone]; rfl, fun hsome => ?_⟩
    obtain ⟨t, ht⟩ := Option.isSome_iff_exists.1 hsome
    rw [ht] at hadmits
    exact ⟨t, ht, t.newSession e a g, hadmits, rfl, rfl, rfl, rfl, rfl, rfl, rfl, rfl, rfl, rfl, rfl, rfl, rfl⟩
  case generation =>
    intro a v hs ha htext htoks hv
    have hnamed : exec (.generate r a) s = _ := execGenerate_named hs ha htext htoks hv
    refine ⟨fun hst => by rw [hnamed, if_pos hst], fun hst hbarred => by rw [hnamed, if_neg (not_not.2 hst), if_pos hbarred],
      fun hst hfree => ?_⟩
    rw [if_neg (not_not.2 hst), if_neg (by simp [hfree])] at hnamed
    cases hinput : s.genInput e.part v a with
    | error c => rw [hnamed, hinput]; rfl
    | ok o =>
      obtain ⟨toks, ill, t⟩ := o
      rw [hinput] at hnamed
      exact ⟨fun hout => by rw [hnamed, State.takeInput, if_pos hout],
        fun hpos hfits => by rw [hnamed, State.takeInput, if_neg (by omega)]; rfl⟩

end Sys2Proof.Machine
end

section
/-! Positions hold their tiles (16_scheduling R512, R513): the tile that an index of a position names, told apart by its die, its row and
its column. -/

namespace Sys2Proof.Machine

/-- The tile that index k of a position names. -/
def posTile (g pos k : Nat) : Nat :=
  if 128 < g then pos * g + k
  else
    let q := pos % perDie g
    128 * (pos / perDie g) + 16 * (q / (16 / gangW g) * gangH g + k / gangW g) + (q % (16 / gangW g) * gangW g + k % gangW g)

theorem posTiles_eq_map (g pos : Nat) : posTiles g pos = (List.range g).map (posTile g pos) := by
  unfold posTiles posTile
  split_ifs
  · rfl
  · exact List.map_congr_left fun k _ => by ring

/-- The width and the height of a gang of up to 128 tiles, and how many of them a die holds. -/
theorem gang_shape {n : Nat} (hn : n ≤ 7) :
    gangW (2 ^ n) = 2 ^ ((n + 1) / 2) ∧ gangH (2 ^ n) = 2 ^ (n / 2) ∧ perDie (2 ^ n) = 2 ^ (7 - n) := by
  interval_cases n <;> decide

theorem dieSize_lt_iff {n : Nat} : 128 < 2 ^ n ↔ 7 < n :=
  Nat.pow_lt_pow_iff_right (n := 7) one_lt_two

section
variable {n p : Nat}

theorem posTile_onDie (hn : n ≤ 7) (k : Nat) : posTile (2 ^ n) p k =
    128 * (p / perDie (2 ^ n)) + 16 * (p % perDie (2 ^ n) / (16 / gangW (2 ^ n)) * gangH (2 ^ n) + k / gangW (2 ^ n)) +
      (p % perDie (2 ^ n) % (16 / gangW (2 ^ n)) * gangW (2 ^ n) + k % gangW (2 ^ n)) :=
  if_neg (by rw [dieSize_lt_iff]; omega)

theorem posTile_manyDies (hn : 7 < n) (k : Nat) : posTile (2 ^ n) p k = p * 2 ^ n + k :=
  if_pos (dieSize_lt_iff.2 hn)

/-- A tile tells its position and its index there. -/
theorem posTile_injective (hn : n ≤ 10) {q k j : Nat} (hk : k < 2 ^ n) (hj : j < 2 ^ n)
    (h : posTile (2 ^ n) p k = posTile (2 ^ n) q j) : p = q ∧ k = j := by
  rcases Nat.lt_or_ge 7 n with hlarge | hsmall
  · rw [posTile_manyDies hlarge, posTile_manyDies hlarge] at h
    interval_cases n <;> omega
  · obtain ⟨hw, hh, hd⟩ := gang_shape hsmall
    rw [posTile_onDie hsmall, posTile_onDie hsmall, hw, hh, hd] at h
    interval_cases n <;> omega

theorem posTile_lt (hn : n ≤ 10) (hp : p < positionsIn (2 ^ n)) {k : Nat} (hk : k < 2 ^ n) : posTile (2 ^ n) p k < 1024 := by
  unfold positionsIn at hp
  rcases Nat.lt_or_ge 7 n with hlarge | hsmall
  · rw [posTile_manyDies hlarge]
    interval_cases n <;> omega
  · obtain ⟨hw, hh, hd⟩ := gang_shape hsmall
    rw [posTile_onDie hsmall, hw, hh, hd]
    interval_cases n <;> omega

theorem posTiles_getD {k : Nat} (hk : k < 2 ^ n) : (posTiles (2 ^ n) p).getD k 0 = posTile (2 ^ n) p k := by
  rw [posTiles_eq_map, List.getD_eq_getElem _ _ (by simpa using hk)]
  simp

/-! ## The order of the scan (16_scheduling R513) -/

theorem scanOrder_length (hn : n ≤ 10) (home : Nat) : (scanOrder (2 ^ n) home).length = positionsIn (2 ^ n) := by
  unfold scanOrder
  split_ifs with hlarge
  · simp
  · have hsmall : n ≤ 7 := Nat.le_of_not_lt (mt dieSize_lt_iff.2 hlarge)
    obtain ⟨-, -, hd⟩ := gang_shape hsmall
    simp [hd, positionsIn]
    interval_cases n <;> rfl

theorem mem_scanOrder (hn : n ≤ 10) (hp : p < positionsIn (2 ^ n)) (home : Nat) : p ∈ scanOrder (2 ^ n) home := by
  unfold scanOrder
  split_ifs with hlarge
  · have hpos : 0 < positionsIn (2 ^ n) := by omega
    refine List.mem_map.2 ⟨(p + (positionsIn (2 ^ n) - home / (2 ^ n / 128) % positionsIn (2 ^ n))) % positionsIn (2 ^ n),
      List.mem_range.2 (Nat.mod_lt _ hpos), ?_⟩
    have hm := Nat.mod_lt (home / (2 ^ n / 128)) hpos
    rw [Nat.add_mod_mod, ← Nat.mod_add_mod, show ∀ a b m : Nat, a < m → a + (b + (m - a)) = b + m by omega, Nat.add_mod_right,
      Nat.mod_eq_of_lt hp]
    exact hm
  · have hsmall : n ≤ 7 := Nat.le_of_not_lt (mt dieSize_lt_iff.2 hlarge)
    obtain ⟨-, -, hd⟩ := gang_shape hsmall
    have hpos : 0 < perDie (2 ^ n) := by rw [hd]; positivity
    have hdie : p / perDie (2 ^ n) < 8 := by
      rw [hd]; unfold positionsIn at hp
      interval_cases n <;> omega
    simp only [List.mem_flatMap, List.mem_map, List.mem_range]
    refine ⟨(p / perDie (2 ^ n) + 7 * home) % 8, Nat.mod_lt _ (by omega), p % perDie (2 ^ n), Nat.mod_lt _ hpos, ?_⟩
    have hhome : ∀ d, d < 8 → (home + (d + 7 * home) % 8) % 8 = d := by omega
    rw [hhome _ hdie, Nat.div_add_mod']

end

/-- Settles O31: `posTile_injective` keeps the tiles of a position, and of two positions, apart. -/
theorem positionsHoldTheirTiles : Obligations.PositionsHoldTheirTiles := by
  intro n p hn hp
  refine ⟨by simp [posTiles_eq_map], ?nodup, ?onModule, ?apart, fun hsmall k hk => ?_, fun hlarge k hk => ?_,
    fun home => ⟨scanOrder_length hn home, mem_scanOrder hn hp home⟩⟩
  case nodup =>
    rw [posTiles_eq_map]
    exact List.nodup_range.map_on fun k hk j hj h => (posTile_injective hn (List.mem_range.1 hk) (List.mem_range.1 hj) h).2
  case onModule =>
    simp only [posTiles_eq_map, List.mem_map, List.mem_range]
    rintro t ⟨k, hk, rfl⟩
    exact posTile_lt hn hp hk
  case apart =>
    simp only [posTiles_eq_map, List.mem_map, List.mem_range]
    rintro q - hq t ⟨k, hk, rfl⟩ ⟨j, hj, h⟩
    exact hq (posTile_injective hn hj hk h).1
  · rw [posTiles_getD hk, posTile_onDie hsmall]
  · rw [posTiles_getD hk, posTile_manyDies hlarge]

end Sys2Proof.Machine
end

section
/-! Tasks hold their gangs (16_scheduling R514 to R521, R526 to R528, R530, R531; 04_tile R131, R132): a gang taken, joined and given back,
a task's memories saved by index and put back by index, a regulator's piece. -/

namespace Sys2Proof.Machine

/-! ## Placement (16_scheduling R514 to R519) -/

section
variable {s : State} {n pos : Nat} {k : Task} {gang : List Nat}

/-- The tiles of a gang told that they are the task's (04_tile R132). -/
def State.takeTiles (s : State) (n : Nat) (k : Task) (gang : List Nat) : State :=
  gang.foldl (fun (a : State) i => a.modTile i (fun v => { v with
    task := n
    zeroing := v.zeroing || (v.lastOwner.isSome && v.lastOwner ≠ some k.part)
    untrusted := v.untrusted || v.lastOwner ≠ some k.part || k.st == TaskSt.saved
    lastOwner := some k.part })) s

/-- The task as its gang's. -/
def Task.inGang (k : Task) (pos : Nat) (gang : List Nat) : Task :=
  { k with
    st := if k.st == TaskSt.saved then .restoring else .placed, pos := pos, tiles := gang, folded := decide (gang.length < k.size) }

theorem State.takeTiles_tasks : (s.takeTiles n k gang).tasks = s.tasks := by
  unfold State.takeTiles
  exact foldl_keeps State.tasks (fun _ _ => State.modTile_tasks ..) gang s

theorem State.takeTiles_task {t : Nat} (h : t ∈ gang ∨ (s.tile t).task = n) : ((s.takeTiles n k gang).tile t).task = n := by
  unfold State.takeTiles
  induction gang generalizing s with
  | nil => simpa using h
  | cons i gang ih =>
    refine ih ?_
    rw [State.tile_modTile]
    split_ifs with hi
    · exact .inr rfl
    · simpa [hi] using h

theorem State.assign_tasks : (s.assign n k pos gang).tasks = KMap.put s.tasks n (k.inGang pos gang) := by
  rw [← State.takeTiles_tasks (s := s) (n := n) (k := k) (gang := gang)]
  simp only [State.assign, apply_ite State.tasks, State.count_tasks, State.devCount_tasks, ite_self]
  rfl

theorem State.assign_tiles : (s.assign n k pos gang).tiles = (s.takeTiles n k gang).tiles := by
  simp only [State.assign, apply_ite State.tiles, State.count_tiles, State.devCount_tiles, ite_self]
  rfl

theorem execTaskPlace_wanted (hk : KMap.find s.tasks n = some k) (hup : s.stage = .up) (hlost : s.moduleLost = false)
    (hstate : s.power.pstate = 0) (hentering : s.power.entering = false) (hexiting : s.power.exiting = false)
    (hw : s.wanted n k = some (pos, gang)) :
    execTaskPlace n s = .next (if s.granted n k gang = true then s.assign n k pos gang else s) := by
  unfold execTaskPlace
  simp only [hk, hup, hlost, hstate, hentering, hexiting, hw]
  cases s.granted n k gang <;> rfl

/-- The position of a scan whose dies hold most of the inputs, with the bytes they hold (16_scheduling R515). -/
def State.bestPos (s : State) (k : Task) (onDie : List Nat) : Option (Nat × Nat) :=
  leastBy (fun (a b : Nat × Nat) => decide (b.2 < a.2))
    ((scanOrder (s.runSize k.size) (s.part k.part).eff.homeDie).map (fun p => (p, posBytes (s.runSize k.size) p onDie)))

theorem State.bestPos_most {onDie : List Nat} {p : Nat} (hp : p ∈ scanOrder (s.runSize k.size) (s.part k.part).eff.homeDie) :
    posBytes (s.runSize k.size) p onDie ≤ posBytes (s.runSize k.size) (((s.bestPos k onDie).map Prod.fst).getD 0) onDie := by
  cases hbest : s.bestPos k onDie with
  | none => simp [List.map_eq_nil_iff.1 (leastBy_eq_none.1 hbest)] at hp
  | some m =>
    obtain ⟨hm, hmost⟩ := leastBy_least (place := fun (a : Nat × Nat) => OrderDual.toDual a.2) (by simp) hbest
    obtain ⟨q, -, rfl⟩ := List.mem_map.1 hm
    exact hmost _ (List.mem_map_of_mem hp)

theorem execAffinityQueueJoin_joins (hk : KMap.find s.tasks n = some k) (hst : k.st = .scanning)
    (hfits : s.tilesHeld k.part + s.runSize k.size ≤ (s.part k.part).eff.tileLimit) (onDie : List Nat) :
    execAffinityQueueJoin n onDie s = .next { s with tasks := KMap.put s.tasks n { k with
      st := .affinity, pos := ((s.bestPos k onDie).map Prod.fst).getD 0, joined := s.wheel.abs } } := by
  unfold execAffinityQueueJoin
  simp only [hk, hst]
  exact if_neg (by simpa using hfits)

theorem execTileRelease_ends (hk : KMap.find s.tasks n = some k) (htiles : k.tiles ≠ []) (hst : k.st = .placed)
    (hended : s.workEnded k = true) (ns : Nat) :
    execTileRelease n ns s = .next (((s.charge k.part (k.tiles.length * ns)).freeTiles n).endTask n) := by
  unfold execTileRelease
  simp only [hk]
  rw [if_neg (by simp [htiles, hst, hended]), hst]
  rfl

theorem execTileRelease_saved (hk : KMap.find s.tasks n = some k) (htiles : k.tiles ≠ []) (hst : k.st = .saved) (ns : Nat) :
    execTileRelease n ns s = .next { (s.charge k.part (k.tiles.length * ns)).freeTiles n with
      tasks := KMap.put ((s.charge k.part (k.tiles.length * ns)).freeTiles n).tasks n { k with tiles := [], since := s.wheel.abs } } := by
  unfold execTileRelease
  simp only [hk]
  rw [if_neg (by simp [htiles, hst]), hst]
  rfl

/-! ## Save and restore (16_scheduling R526 to R528) -/

/-- The memories of a slot each put into its tile. -/
def State.restoreTiles (s : State) (l : List (Nat × Mem × Mem)) : State :=
  l.foldl (fun (a : State) e => a.modTile e.1 (fun v => { v with scratch := e.2.1, acc := e.2.2, untrusted := true })) s

theorem State.restoreTiles_eq (l : List (Nat × Mem × Mem)) : s.restoreTiles l = { s with tiles := (s.restoreTiles l).tiles } := by
  unfold State.restoreTiles
  induction l generalizing s with
  | nil => rfl
  | cons e l ih => rw [List.foldl_cons, ih]; rfl

theorem State.restoreTiles_other {x : Nat} {l : List (Nat × Mem × Mem)} (h : x ∉ l.map Prod.fst) :
    (s.restoreTiles l).tile x = s.tile x := by
  unfold State.restoreTiles
  induction l generalizing s with
  | nil => rfl
  | cons e l ih =>
    rw [List.map_cons, List.mem_cons, not_or] at h
    rw [List.foldl_cons, ih h.2, State.tile_modTile, if_neg h.1]

theorem State.restoreTiles_mem {l : List (Nat × Mem × Mem)} (hl : (l.map Prod.fst).Nodup) {e : Nat × Mem × Mem} (he : e ∈ l) :
    (s.restoreTiles l).tile e.1 = { s.tile e.1 with scratch := e.2.1, acc := e.2.2, untrusted := true } := by
  induction l generalizing s with
  | nil => cases he
  | cons d l ih =>
    obtain ⟨hd, hl⟩ := List.nodup_cons.1 hl
    change (State.restoreTiles (s.modTile d.1 _) l).tile e.1 = _
    rcases List.mem_cons.1 he with rfl | he
    · rw [State.restoreTiles_other hd, State.tile_modTile, if_pos rfl]
    · have hne : e.1 ≠ d.1 := fun h => hd (h ▸ List.mem_map_of_mem he)
      rw [ih hl he, State.tile_modTile, if_neg hne]

theorem execSaveComplete_saves (hk : KMap.find s.tasks n = some k) (hst : k.st = .saving) :
    execSaveComplete n s = .next ({ s with tasks := KMap.put s.tasks n { k with
      st := .saved, slots := k.tiles.map (fun t => ((s.tile t).scratch, (s.tile t).acc)) } }.count k.part Ctr.saveBytes
        (4718592 * k.tiles.length)) := by
  unfold execSaveComplete
  simp only [hk, hst]
  rfl

theorem execRestoreComplete_restores (hk : KMap.find s.tasks n = some k) (hst : k.st = .restoring)
    (hzeroed : ∀ t ∈ k.tiles, (s.tile t).zeroing = false) :
    execRestoreComplete n s = .next { s.restoreTiles (k.tiles.zip k.slots) with
      tasks := KMap.put (s.restoreTiles (k.tiles.zip k.slots)).tasks n { k with st := .placed, slots := [] } } := by
  unfold execRestoreComplete
  simp only [hk, hst]
  exact if_neg (by simpa using hzeroed)

end

/-! ## Regulators (16_scheduling R530, R531) -/

section
variable {s : State} {p g bytes refill : Nat} {dies : Nat × Nat}

theorem execRegulatorPiece_runs (hg : g < 6) (hrate : (s.part p).eff.rate.getD g 0 ≠ 0) :
    let burst := 1024 * (s.part p).eff.burst.getD g 0
    let held := min ((s.part p).bucket.getD g 0 + refill) burst
    let n := min (if g = 5 then bytes * s.crossings dies.1 dies.2 else bytes) (min 65536 burst)
    execRegulatorPiece p ⟨g, dies⟩ bytes refill s = .next (if held < n
      then (s.modPart p (fun w => { w with bucket := w.bucket.set g held })).count p Ctr.stallRegEvt 1
      else s.modPart p (fun w => { w with bucket := w.bucket.set g (held - n) })) := by
  unfold execRegulatorPiece
  dsimp only
  rw [if_neg (by simpa using ⟨hg, hrate⟩)]
  split_ifs <;> rfl

end

/-- Settles O32: placement by what a gang taken tells its tiles, a restore by the tiles' slots, the other rows by their own lemmas. -/
theorem tasksHoldTheirGangs : Obligations.TasksHoldTheirGangs := by
  refine ⟨fun s n k hk => ⟨?place, fun hst hfits onDie =>
      ⟨_, execAffinityQueueJoin_joins hk hst hfits onDie, fun p => State.bestPos_most⟩,
    fun htiles hst hended ns => execTileRelease_ends hk htiles hst hended ns,
    fun htiles hst ns => execTileRelease_saved hk htiles hst ns, fun t ht => ?zeroing⟩,
    fun s => ⟨fun n k hk hst => execSaveComplete_saves hk hst, ?restore, ?piece⟩⟩
  case place =>
    intro hup hlost hstate hentering hexiting hwanted
    obtain ⟨⟨pos, gang⟩, hw⟩ := Option.isSome_iff_exists.1 hwanted
    have hplace : exec (.taskPlace n) s = _ := execTaskPlace_wanted hk hup hlost hstate hentering hexiting hw
    refine ⟨pos, gang, hw, fun hgrant => by rw [hplace, if_pos hgrant], fun hrefuse => by rw [hplace, hrefuse]; rfl,
      k.inGang pos gang, ?_, rfl, rfl, rfl, by simp [Task.inGang], fun t ht => ?_⟩
    · rw [State.assign_tasks, KMap.find_put_same]
    · rw [State.tile, State.assign_tiles]
      exact State.takeTiles_task (.inl ht)
  case zeroing => exact if_pos ht
  case restore =>
    intro n k hk hst hzeroed hnodup hlen
    have hfst : (k.tiles.zip k.slots).map Prod.fst = k.tiles := List.map_fst_zip hlen.ge
    refine ⟨_, execRestoreComplete_restores hk hst hzeroed, fun i hi => ?_, fun x hx => State.restoreTiles_other (hfst.symm ▸ hx), ?_⟩
    · have he : (k.tiles.getD i 0, k.slots.getD i ([], [])) ∈ k.tiles.zip k.slots := by
        rw [List.getD_eq_getElem _ _ hi, List.getD_eq_getElem _ _ (hlen ▸ hi), ← List.getElem_zip (h := by simpa [hlen] using hi)]
        exact List.getElem_mem _
      have htile := State.restoreTiles_mem (s := s) (hfst.symm ▸ hnodup) he
      exact ⟨congrArg (fun v : Tile => (v.scratch, v.acc)) htile, congrArg Tile.untrusted htile⟩
    · rw [State.restoreTiles_eq]
  case piece =>
    intro p g bytes refill dies hg hrate burst held n
    have hrun : exec (.regulatorPiece p ⟨g, dies⟩ bytes refill) s = _ := execRegulatorPiece_runs hg hrate
    exact ⟨fun hheld => by rw [hrun, if_neg (not_lt.2 hheld)], fun hshort => by rw [hrun, if_pos hshort]⟩

end Sys2Proof.Machine
end

section
/-! Heads train and narrow (17_host_link R538, R542, R551, R554, R556 to R560): what a head holds once it has trained, the width that the
lanes not excluded leave, and the rows of a head in use. -/

namespace Sys2Proof.Machine

section
variable {s : State} {h : Nat}

/-! ## Training (17_host_link R538, R542, R554) -/

/-- A head once it has trained. -/
def State.trained (s : State) (h : Nat) (a : TrainArgs) (v : Head) : Head :=
  { v with
    up := true, mld := a.mld, rate := a.rate, width := a.width
    flit256 := a.rate = 2 || (a.rate = 1 && a.flit256), latOpt := a.rate = 2 && a.latOpt
    speedDeg := a.rate = 0, widthDeg := decide (a.width < (s.headLanes h).length), partner := a.partner, recoveries := 0, laneFail := []
    lanes := s.laneMap h a.lanes, inRecovery := false, sldPart := s.sldPart.getD h 0 }

theorem State.head_modHead (f : Head → Head) (hh : h < s.heads.length) (g : Nat) :
    (s.modHead h f).head g = if g = h then f (s.head h) else s.head g := by
  unfold State.head State.modHead
  dsimp only
  split_ifs with hg
  · subst hg
    rw [List.getD_eq_getElem _ _ (by simpa using hh), List.getElem_modify_eq, List.getD_eq_getElem _ _ hh]
  · simp [List.getD_eq_getElem?_getD, Ne.symm hg]

/-- A training that its partner completes changes the head and the log alone. -/
theorem execLinkTraining_trains {a : TrainArgs} (hused : s.headUsed h = true) (hperst : (s.head h).perst = false)
    (hlost : s.moduleLost = false) (hok : a.ok = true) (hrate : a.rate ≤ 2) (hwidth : a.width ∈ [1, 2, 4, 8, 16])
    (hlanes : a.width ≤ (s.headLanes h).length) :
    ∃ m, execLinkTraining h a s = .next { s.modHead h (s.trained h a) with mgmt := m } := by
  have htrain : execLinkTraining h a s = .next (
      let u := if a.rate = 0 then (s.modHead h (s.trained h a)).logEv 6 1 0xFF h 0 0 else s.modHead h (s.trained h a)
      if a.width < (s.headLanes h).length then u.logEv 6 2 0xFF h 0 0 else u) := by
    unfold execLinkTraining
    rw [if_neg (by simp [hused, hperst, hlost]), if_neg (by simpa [hok] using ⟨⟨hrate, by simpa [or_iff_not_imp_left] using hwidth⟩, hlanes⟩)]
    rfl
  have hspeed : ∃ m, (if a.rate = 0 then (s.modHead h (s.trained h a)).logEv 6 1 0xFF h 0 0 else s.modHead h (s.trained h a)) =
      { s.modHead h (s.trained h a) with mgmt := m } := by
    split_ifs
    · exact State.logEv_eq ..
    · exact ⟨_, rfl⟩
  obtain ⟨m, hm⟩ := hspeed
  rw [htrain, hm]
  dsimp only
  split_ifs
  · obtain ⟨m', hm'⟩ := State.logEv_eq { s.modHead h (s.trained h a) with mgmt := m } 6 2 0xFF h 0 0
    exact ⟨m', congrArg _ hm'⟩
  · exact ⟨m, rfl⟩

/-! ## Lanes excluded (17_host_link R556, R557) -/

/-- Does a run of w lanes, from the first or from the last, hold no excluded lane? -/
def State.runClean (s : State) (h : Nat) (fail : List Nat) (w : Nat) : Bool :=
  !((s.headLanes h).take w).any fail.contains || !((s.headLanes h).drop ((s.headLanes h).length - w)).any fail.contains

theorem State.runClean_iff {fail : List Nat} {w : Nat} : s.runClean h fail w = true ↔
    (∀ l ∈ (s.headLanes h).take w, l ∉ fail) ∨ ∀ l ∈ (s.headLanes h).drop ((s.headLanes h).length - w), l ∉ fail := by
  simp only [State.runClean, Bool.or_eq_true, Bool.not_eq_true', List.any_eq_false, List.contains_iff_mem]

theorem State.runWidth_eq (fail : List Nat) : s.runWidth h fail = ([8, 4, 2, 1].find? (s.runClean h fail)).getD 0 := rfl

theorem State.runWidth_clean {fail : List Nat} (hw : 0 < s.runWidth h fail) : s.runClean h fail (s.runWidth h fail) = true := by
  rw [State.runWidth_eq] at hw ⊢
  cases hfind : [8, 4, 2, 1].find? (s.runClean h fail) with
  | none => simp [hfind] at hw
  | some w => exact List.find?_some hfind

/-- The first of a falling list that satisfies a test is its largest that does. -/
theorem le_find?_of_falling {p : Nat → Bool} {l : List Nat} (hl : l.Pairwise (· > ·)) {w : Nat} (hw : w ∈ l) (hp : p w = true) :
    w ≤ (l.find? p).getD 0 := by
  induction l with
  | nil => cases hw
  | cons x l ih =>
    obtain ⟨hx, hl⟩ := List.pairwise_cons.1 hl
    cases hpx : p x with
    | true =>
      rw [List.find?_cons_of_pos hpx]
      rcases List.mem_cons.1 hw with rfl | hw
      · exact le_rfl
      · exact (hx w hw).le
    | false =>
      rw [List.find?_cons_of_neg (by simp [hpx])]
      exact ih hl (List.mem_of_ne_of_mem (fun h => by simp [h, hpx] at hp) hw)

theorem State.le_runWidth {fail : List Nat} {w : Nat} (hw : w ∈ [8, 4, 2, 1]) (hclean : s.runClean h fail w = true) :
    w ≤ s.runWidth h fail :=
  le_find?_of_falling (by decide) hw hclean

/-! ## The rows of a head in use (17_host_link R551, R556, R557, R559, R560) -/

theorem execLaneExcluded_narrows {lane : Nat} (hup : (s.head h).up = true) (hlane : lane ∈ s.headLanes h)
    (hnew : lane ∉ (s.head h).laneFail) :
    let fail := (s.head h).laneFail ++ [lane]
    let w := s.runWidth h fail
    let t := ((s.modHead h (fun v => { v with
      laneFail := fail, width := min v.width w, widthDeg := true, recoveries := v.recoveries + 1, inRecovery := true
      up := decide (0 < w) })).headCount h Ctr.linkRecovery 1).logEv 6 2 0xFF h (bitmap fail) 0
    execLaneExcluded h lane s = .next (if w < (s.head h).width then t.headCount h Ctr.linkDowntrain 1 else t) :=
  if_neg (by simpa [hup] using ⟨hlane, hnew⟩)

theorem execLinkRecovery_recovers (hup : (s.head h).up = true) (flits : FlitCounts) (late : Nat) (figures : List (List Nat)) :
    execLinkRecovery h flits late figures s = .next ((((((if (s.head h).inRecovery = true then s
      else (s.modHead h (fun v => { v with recoveries := v.recoveries + 1 })).headCount h Ctr.linkRecovery 1).modHead h
        (fun v => { v with inRecovery := false, lanes := s.laneMap h figures })).headCount h Ctr.flitReplay flits.replayed).headCount h
          Ctr.linkLateRec late)).headCount h Ctr.fecCorrected flits.corrected) :=
  if_neg (by simp [hup])

/-- The failure of either stream drops both (log 32). -/
theorem execIdeFailure_drops (hide : (s.head h).ideIo = true ∨ (s.head h).ideMem = true) :
    execIdeFailure h s = .next (((s.modHead h (fun v => { v with ideIo := false, ideMem := false })).headCount h
      Ctr.ideFail 1).logEv 1 4 0xFF h h 0) :=
  if_neg (by simpa [or_iff_not_imp_left] using hide)

theorem execViral_disables (hup : (s.head h).up = true) :
    execViral h s = .next (((s.parts.filter (fun e => e.2.en && e.2.eff.head == h)).foldl
      (fun t e => t.disablePart e.1) s).logEv 6 3 0xFF h h 0) :=
  if_neg (by simp [hup])

end

/-- Settles O14: training by `execLinkTraining_trains`, the width by `State.runWidth_clean` and `State.le_runWidth`, the other rows by
their own lemmas. -/
theorem headsTrainAndNarrow : Obligations.HeadsTrainAndNarrow := by
  refine ⟨?training, fun s h => ⟨fun hup lane hlane hnew => execLaneExcluded_narrows hup hlane hnew, fun hup hrec flits late fec figures => ?_,
    fun hup hrec flits late fec figures => ?_, execIdeFailure_drops, execViral_disables⟩,
    fun s h fail w hw => ⟨fun hrun => ?_, fun hclean => State.le_runWidth hw (State.runClean_iff.2 hclean)⟩⟩
  case training =>
    intro s h a hused hperst hlost hh hok hrate hwidth hlanes
    obtain ⟨m, hm⟩ := execLinkTraining_trains hused hperst hlost hok hrate hwidth hlanes
    have hhead : ∀ g, State.head { s.modHead h (s.trained h a) with mgmt := m } g = if g = h then s.trained h a (s.head h) else s.head g :=
      State.head_modHead _ hh
    refine ⟨_, hm, ?_⟩
    simp only [hhead, if_pos]
    refine ⟨rfl, rfl, rfl, rfl, rfl, rfl, rfl, by simp [State.trained], by simp [State.trained], by simp [State.trained], rfl,
      fun g hg => if_neg hg, m, rfl⟩
  · have hrow : exec (.linkRecovery h ⟨flits, fec⟩ late figures) s = _ := execLinkRecovery_recovers hup ..
    rw [hrow, hrec]; rfl
  · have hrow : exec (.linkRecovery h ⟨flits, fec⟩ late figures) s = _ := execLinkRecovery_recovers hup ..
    rw [hrow, if_pos hrec]
  · subst hrun
    exact State.runClean_iff.1 (State.runWidth_clean (by simp only [List.mem_cons, List.not_mem_nil, or_false] at hw; omega))

end Sys2Proof.Machine
end

section
/-! Resets have their scope (17_host_link R540; 19_registers R598; 24_startup R697, R702, R704, R705): what sessions freed, blocks lost and
tasks ended leave alone, the function-level reset, and PERST of the one head in use. -/

namespace Sys2Proof.Machine

/-! ## What freeing leaves alone (13_serving R434, R457) -/

section
variable {α : Type} {π : State → α} (hfree : ∀ s k, π (State.freePages s k 1) = π s)
  (hkv : ∀ s p (g : KMap KvPool → KMap KvPool), π (State.modPart s p (fun w => { w with kv := g w.kv })) = π s)
include hfree hkv

theorem State.keeps_dropBlock (s : State) (p h b : Nat) : π (s.dropBlock p h b) = π s := by
  unfold State.dropBlock
  split
  · rfl
  · exact (foldl_keeps π hfree _ _).trans (hkv s p fun kv => KMap.put kv h _)

omit hfree in
theorem State.keeps_modBlk (s : State) (r : BlkRef) (f : KvBlk → KvBlk) : π (s.modBlk r f) = π s :=
  hkv s r.1 fun kv => KMap.mod kv r.2.1 _

theorem State.keeps_unrefAll (l : List BlkRef) (s : State) : π (s.unrefAll l) = π s := by
  refine foldl_keeps π (fun s r => ?_) l s
  cases hb : s.kvBlk r with
  | none => simp [State.unref, hb]
  | some b =>
    rcases State.unref_cases hb with h | h
    · rw [h, State.keeps_dropBlock hfree hkv]
    · rw [h, State.keeps_modBlk hkv]

theorem State.keeps_sweepPool (s : State) (p h : Nat) : π (s.sweepPool p h) = π s := by
  unfold State.sweepPool
  split
  · rfl
  · split
    · rfl
    · exact (hkv _ p fun kv => KMap.del kv h).trans (foldl_keeps π (fun a (b : Nat × KvBlk) => State.keeps_dropBlock hfree hkv a p h b.1) _ s)

variable (hsess : ∀ (s : State) l, π { s with sessions := l } = π s)
include hsess

theorem State.keeps_freeSession (s : State) (i : Nat) : π (s.freeSession i) = π s := by
  unfold State.freeSession
  split
  · rfl
  · simp only [State.keeps_sweepPool hfree hkv, State.keeps_unrefAll hfree hkv, hsess]

variable (hbatch : ∀ (s : State) l, π { s with batches := l } = π s) (hcount : ∀ (s : State) c n, π (s.devCount c n) = π s)
include hbatch hcount

omit hsess hbatch hcount in
theorem State.keeps_cutTable (s : State) (lost : BlkRef → Bool) (l : List BlkRef) : π (s.cutTable lost l).1 = π s :=
  (State.keeps_unrefAll hfree hkv _ _).trans (foldl_keeps π (fun a r => State.keeps_modBlk hkv a r _) _ s)

theorem State.keeps_cutSession (s : State) (lost : BlkRef → Bool) (i : Nat) : π (s.cutSession lost i) = π s := by
  unfold State.cutSession
  split
  · rfl
  · split
    · rfl
    · have hcut : ∀ (a : State) l l' f, π (((a.cutTable lost l).1.cutTable lost l').1.modSess i f) = π a := fun a l l' f =>
        (hsess _ _).trans ((State.keeps_cutTable hfree hkv _ lost l').trans (State.keeps_cutTable hfree hkv a lost l))
      dsimp only
      split_ifs <;> simp only [hcount, hbatch, hcut]

theorem State.keeps_loseBlocks (s : State) (lost : BlkRef → Bool) : π (s.loseBlocks lost) = π s :=
  (foldl_keeps π (fun a i => State.keeps_cutSession hfree hkv hsess hbatch hcount a lost i) _ _).trans
    (foldl_keeps π (fun a (r : BlkRef) => State.keeps_dropBlock hfree hkv a r.1 r.2.1 r.2.2) _ s)

end

/-- What the ends of tasks leave alone (16_scheduling R520). -/
theorem State.keeps_endTasks {α : Type} {π : State → α} (htask : ∀ (s : State) ts ks, π { s with tiles := ts, tasks := ks } = π s)
    (s : State) (p : Nat) : π (s.endTasks p) = π s := by
  refine foldl_keeps π (fun a (e : Nat × Task) => ?_) _ s
  unfold State.endTask
  split
  · rfl
  · exact htask a _ _

/-! ## Function-level reset (24_startup R705) -/

/-- Host memory, the wheel and partition p without its pools. -/
def State.flrView (s : State) (p : Nat) : Mem × Wheel × Option Part :=
  (s.hostMem, s.wheel, (KMap.find s.parts p).map (fun v => { v with kv := [] }))

theorem State.flrView_kv (s : State) (q p : Nat) (g : KMap KvPool → KMap KvPool) :
    (s.modPart q (fun w => { w with kv := g w.kv })).flrView p = s.flrView p := by
  unfold State.flrView State.modPart
  by_cases h : p = q
  · subst h; simp [KMap.find_mod_same, Function.comp_def]
  · simp [KMap.find_mod_other _ _ h]

/-- The state of a function-level reset before its partition is told: its sessions freed, its blocks lost, its tasks and pages freed. -/
def State.flrFreed (s : State) (p : Nat) : State :=
  let own := (s.sessions.filter (fun e => e.2.part == p)).map Prod.fst
  let t := ((own.foldl State.freeSession s).loseBlocks (fun r => r.1 == p)).endTasks p
  ((t.pages.filter (fun e => e.2.owner == p)).map (fun e => e.1)).foldl (fun (a : State) k => a.freePages k 1) t

theorem State.flrView_freePages (s : State) (k n p : Nat) : (s.freePages k n).flrView p = s.flrView p := rfl

theorem State.flrFreed_view (s : State) (p : Nat) : (s.flrFreed p).flrView p = s.flrView p := by
  have hfree : ∀ (a : State) k, (a.freePages k 1).flrView p = a.flrView p := fun a k => a.flrView_freePages k 1 p
  have hkv : ∀ (a : State) q (g : KMap KvPool → KMap KvPool), (a.modPart q fun w => { w with kv := g w.kv }).flrView p = a.flrView p :=
    fun a q g => a.flrView_kv q p g
  have htasks := fun a => State.keeps_endTasks (π := (State.flrView · p)) (fun _ _ _ => rfl) a p
  have hblocks := fun a => State.keeps_loseBlocks (π := (State.flrView · p)) hfree hkv (fun _ _ => rfl) (fun _ _ => rfl) (fun _ _ _ => rfl) a
  have hsessions := foldl_keeps (State.flrView · p) (State.keeps_freeSession (π := (State.flrView · p)) hfree hkv fun _ _ => rfl)
  unfold State.flrFreed
  exact (foldl_keeps (State.flrView · p) hfree _ _).trans ((htasks _).trans ((hblocks _ _).trans (hsessions _ s)))

/-- A function-level reset once it has freed: its partition told, and what is of it dropped. -/
def State.flrTold (t : State) (p : Nat) : State :=
  let u := t.modPart p Part.flr
  { u with
    inflight := u.inflight.filter (fun e => e.part ≠ p)
    sessions := u.sessions.filter (fun e => e.2.part ≠ p)
    batches := u.batches.filter (fun e => e.2.part ≠ p)
    runs := u.runs.filter (fun e => e.2.part ≠ p)
    chains := u.chains.filter (fun e => e.2.part ≠ p)
    vocabs := u.vocabs.filter (fun e => e.2.owner ≠ p)
    grammars := u.grammars.filter (fun e => e.2.owner ≠ p)
    prevBatch := u.prevBatch.filter (fun e => (KMap.find u.sessions e.1).isSome)
    flash := { u.flash with extents := KMap.each u.flash.extents (fun _ x => if x.owner = p then { x with pend := [] } else x) }
    vecDue := u.vecDue.filter (fun e => e.1 ≠ p) }

theorem State.flr_eq (s : State) (p : Nat) : s.flr p = (s.flrFreed p).flrTold p := by
  simp only [State.flr, State.flrTold, State.flrFreed]

/-- No pool enters what a function-level reset makes of a partition. -/
theorem Part.flr_kv (v : Part) (l : KMap KvPool) : Part.flr { v with kv := l } = v.flr := rfl

/-- A reset after whose freeing the view is as before leaves host memory and the wheel alone, and its partition reset. -/
theorem State.flrTold_of_view {s t : State} {p : Nat} (h : t.flrView p = s.flrView p) (hp : (KMap.find s.parts p).isSome = true) :
    (t.flrTold p).hostMem = s.hostMem ∧ (t.flrTold p).wheel = s.wheel ∧ (t.flrTold p).part p = (s.part p).flr := by
  obtain ⟨v, hv⟩ := Option.isSome_iff_exists.1 hp
  obtain ⟨hmem, hwheel, hparts⟩ : t.hostMem = s.hostMem ∧ t.wheel = s.wheel ∧ (KMap.find t.parts p).map (fun v => { v with kv := [] }) =
      some { v with kv := [] } := by simpa [State.flrView, hv] using h
  obtain ⟨w, hw, hkeep⟩ := Option.map_eq_some_iff.1 hparts
  refine ⟨hmem, hwheel, ?_⟩
  calc (t.flrTold p).part p = (t.modPart p Part.flr).part p := rfl
    _ = w.flr := by rw [State.modPart_same (Option.isSome_of_eq_some hw), State.part, KMap.findD, hw]; rfl
    _ = v.flr := by rw [← Part.flr_kv w [], hkeep, Part.flr_kv]
    _ = (s.part p).flr := by rw [State.part, KMap.findD, hv]; rfl

theorem State.flrTold_inflight {t : State} {p : Nat} {e : CmdE} (he : e ∈ (t.flrTold p).inflight) : e.part ≠ p := by
  simpa using (List.mem_filter.1 he).2

theorem State.flrTold_sessions {t : State} {p : Nat} {e : Nat × Session} (he : e ∈ (t.flrTold p).sessions) : e.2.part ≠ p := by
  simpa using (List.mem_filter.1 he).2

/-! ## PERST of the one head in use (17_host_link R540; 24_startup R704) -/

section
variable {s : State}

theorem execPerstAssert_warm {us : Nat} (hus : 10 ≤ us) (hstage : s.stage ≠ .off) (hmode : s.headMode = false)
    (hperst : (s.head 0).perst = false) (hheads : 0 < s.heads.length) (hinput : s.power.inputOk = true) (hstart : s.startFail = false) :
    execPerstAssert 0 us s = .next (s.modHead 0 (fun h => { h with
      perst := true, up := false, ideIo := false, ideMem := false, inRecovery := false })).warm := by
  unfold execPerstAssert
  rw [if_neg (by simp [State.headUsed, hstage, hperst, hus])]
  refine if_pos ?_
  rw [State.head_modHead _ hheads]
  simp [hmode, hinput, hstart]

theorem execPerstDeassert_resumes (hstage : s.stage = .held) (hmode : s.headMode = false) (hperst : (s.head 0).perst = true)
    (hheads : 0 < s.heads.length) :
    execPerstDeassert 0 s = .next { s.modHead 0 (fun h => { h with perst := false }) with stage := .verify } := by
  have hverify : (s.stage == .verify || s.stage == .mount) = false := by rw [hstage]; rfl
  have hcleared : ((s.modHead 0 (fun h => { h with perst := false })).head 0).perst = false := by rw [State.head_modHead _ hheads]; rfl
  unfold execPerstDeassert
  rw [hverify, Bool.and_false]
  simp only [Bool.false_eq_true, if_false, State.modHead_stage, State.modHead_headMode, hstage, hmode, hcleared]
  rw [if_neg (by simp [State.headUsed, hperst])]
  simp

end

/-- Settles O25: PERST by `execPerstAssert_warm` and its end by `execPerstDeassert_resumes`; a function-level reset by what
`State.flrTold_of_view` says of its partition. -/
theorem resetsHaveTheirScope : Obligations.ResetsHaveTheirScope := by
  intro s
  refine ⟨fun us hus hstage hmode hperst hheads hinput hstart => ?_, execPerstDeassert_resumes, fun p hp hreach hpart => ?_⟩
  · refine ⟨_, execPerstAssert_warm hus hstage hmode hperst hheads hinput hstart, rfl, rfl, rfl, rfl, rfl, rfl, rfl, rfl, rfl, rfl, rfl,
      rfl, ?_⟩
    exact congrArg Head.up (State.head_modHead (s := s) _ hheads 0)
  · have hrow : exec (.functionLevelReset p) s = .next (s.flr p) := if_pos (by simp [hreach, hp])
    obtain ⟨hmem, hwheel, hnow⟩ := State.flrTold_of_view (s.flrFreed_view p) hpart
    rw [s.flr_eq p] at hrow
    refine ⟨_, hrow, hmem, hwheel, ?_⟩
    rw [hnow]
    exact ⟨rfl, rfl, rfl, rfl, rfl, fun e => State.flrTold_inflight, fun e => State.flrTold_sessions, rfl, rfl⟩

end Sys2Proof.Machine
end

section
/-! The mailbox and the fabric manager answer (17_host_link R541, R544, R549, R552, R553): a mailbox and an FM-API command served, and the
registers of one partition that the FM-API writes. -/

namespace Sys2Proof.Machine

section
variable {s : State}

/-! ## Commands served (17_host_link R544, R552) -/

theorem State.mailbox_served {p : Nat} (hreach : s.reach p = true) (hlost : s.moduleLost = false) (hide : s.ideBlocked p = false)
    (f : Unit → State) : s.mailbox p f = .next (f ()) := by
  simp [State.mailbox, hreach, hlost, hide]

theorem State.fm_served (hfm : s.fmServed = true) (f : Unit → State) : s.fm f = .next (f ()) := if_pos hfm

section
variable (hfm : s.fmServed = true)
include hfm

theorem execGetQosStatus_draws {h : Nat} (hused : s.headUsed h = true) :
    execGetQosStatus h s = .next ({ s with fresh := s.fresh + 1 }.answers 0x5405 [Config.freeNat s.fresh]) := by
  rw [execGetQosStatus, State.fm_served hfm, if_neg (by simp [hused])]

theorem execSetQosControl_sets {h c th : Nat} (hused : s.headUsed h = true) : execSetQosControl h c th s =
    .next ((s.modHead h (fun v => { v with qosOn := c, qosThr := th })).answers 0x5404 [c, th]) := by
  rw [execSetQosControl, State.fm_served hfm, if_neg (by simp [hused])]

theorem execSetLdAllocations_sets {p z : Nat} (hname : s.fmNames p = true) (hz : z ≤ 32768) (hen : (s.part p).en = false)
    (hpend : (s.part p).enPend = false) : execSetLdAllocations p [z] s =
      .next ((s.modPart p (fun v => { v with wr := { v.wr with hdmSize := z }, cfgPend := true })).answers 0x5402 [z]) := by
  rw [execSetLdAllocations, State.fm_served hfm]
  simp [hname, hz, hen, hpend]

theorem execGetQosAllocatedBw_answers {g : Nat} (hg : g = 3 ∨ g = 4) : execGetQosAllocatedBw g s = .next (s.answers 0x5406
    ((List.range 16).map (fun p => fracOf ((s.part p).wr.rate.getD g 0 * 250000000) (s.head (s.part p).wr.head).raw))) := by
  rw [execGetQosAllocatedBw, State.fm_served hfm, if_neg (by omega)]

theorem execGetQosBwLimit_answers {g : Nat} (hg : g = 3 ∨ g = 4) : execGetQosBwLimit g s = .next (s.answers 0x5408
    ((List.range 16).map (fun p => fracOf ((s.part p).wr.burst.getD g 0 * 1024) (s.head (s.part p).wr.head).halfMs))) := by
  rw [execGetQosBwLimit, State.fm_served hfm, if_neg (by omega)]

theorem execGetHeadInfo_one (hmode : s.headMode = false) : execGetHeadInfo s = .next (s.answers 0x5501
    [flag (s.head 0).mld 0, (s.head 0).rate, (s.head 0).width, flag (s.head 0).flit256 0]) := by
  rw [execGetHeadInfo, State.fm_served hfm, hmode]
  rfl

/-! ## The regulators that the FM-API writes (17_host_link R553) -/

omit hfm in
/-- A regulator of one partition written, where neither its RATE nor its BURST is then zero. -/
theorem State.setRegs_one {op g p x : Nat} {f : Part → Nat → PendingRegs} (hg : g = 3 ∨ g = 4) (hname : s.fmNames p = true)
    (hx : x ≤ 256) (hrate : 0 < (f (s.part p) x).rate.getD g 0) (hburst : 0 < (f (s.part p) x).burst.getD g 0) :
    s.setRegs op g p [x] f = (s.modPart p (fun v => { v with wr := f v x, cfgPend := true })).answers op [x] := by
  unfold State.setRegs
  dsimp only
  rw [if_neg (by simp [hname, hx]; omega), if_neg ?_]
  · rfl
  · simp only [List.zip_cons_cons, List.zip_nil_right, List.range_one, List.map_cons, List.map_nil, List.length_singleton, Nat.add_zero,
      List.any_cons, List.any_nil, Bool.or_false, beq_eq_false_iff_ne.2 hrate.ne', beq_eq_false_iff_ne.2 hburst.ne']
    simp

omit hfm in
theorem getD_set_same {l : List Nat} {g : Nat} (hg : g < l.length) (x : Nat) : (l.set g x).getD g 0 = x := by
  simp [List.getD_eq_getElem?_getD, hg]

/-- RATE from a fraction (log 19). -/
theorem execSetQosAllocatedBw_sets {g p x : Nat} (hg : g = 3 ∨ g = 4) (hname : s.fmNames p = true) (hx : x ≤ 256)
    (hlen : g < (s.part p).wr.rate.length) (hpos : 0 < x * (s.head (s.part p).wr.head).raw / 256 / 250000000)
    (hburst : 0 < (s.part p).wr.burst.getD g 0) : execSetQosAllocatedBw g p [x] s = .next ((s.modPart p (fun v => { v with
      wr := { v.wr with rate := v.wr.rate.set g (x * (s.head v.wr.head).raw / 256 / 250000000) }, cfgPend := true })).answers 0x5407 [x]) := by
  rw [execSetQosAllocatedBw, State.fm_served hfm]
  exact congrArg _ (State.setRegs_one hg hname hx (by rwa [getD_set_same hlen]) hburst)

/-- BURST from a fraction (log 19). -/
theorem execSetQosBwLimit_sets {g p x : Nat} (hg : g = 3 ∨ g = 4) (hname : s.fmNames p = true) (hx : x ≤ 256)
    (hlen : g < (s.part p).wr.burst.length) (hpos : 0 < x) (hrate : 0 < (s.part p).wr.rate.getD g 0) :
    execSetQosBwLimit g p [x] s = .next ((s.modPart p (fun v => { v with
      wr := { v.wr with burst := v.wr.burst.set g (max 1 (min 65535 (x * (s.head v.wr.head).halfMs / 256 / 1024))) }
      cfgPend := true })).answers 0x5409 [x]) := by
  rw [execSetQosBwLimit, State.fm_served hfm]
  rw [State.setRegs_one hg hname hx hrate (by simp only [hpos.ne', if_false, getD_set_same hlen]; omega)]
  simp only [hpos.ne', if_false]

end
end

/-- Settles O16: each row by the mailbox or the FM-API served; a regulator's registers by `State.setRegs_one`. -/
theorem mailboxAndFabricManagerAnswer : Obligations.MailboxAndFabricManagerAnswer := by
  refine ⟨fun s p hreach hlost hide => ?mailbox, fun s hfm => ?queries, fun s p hfm => ?writes⟩
  case mailbox =>
    have hserved := State.mailbox_served hreach hlost hide
    exact ⟨(hserved _ : execIdentifyMemoryDevice p s = _), (hserved _ : execGetSupportedLogs p s = _), (hserved _ : execGetLog p s = _),
      (hserved _ : execGetEventRecords p s = _), (hserved _ : execClearEventRecords p s = _), (hserved _ : execGetHealthInfo p s = _),
      (hserved _ : execGetPoisonList p s = _), fun op hop => (hserved _ : execMailboxUnsupported p op s = _).trans
        (congrArg _ (if_neg (by simpa using hop)))⟩
  case queries =>
    have hserved := State.fm_served hfm
    exact ⟨(hserved _ : execFmIdentify s = _), (hserved _ : execGetLdInfo s = _), (hserved _ : execGetLdAllocations s = _),
      fun h => (hserved _ : execGetQosControl h s = _), fun h hused => execGetQosStatus_draws hfm hused,
      fun g hg => ⟨execGetQosAllocatedBw_answers hfm hg, execGetQosBwLimit_answers hfm hg⟩,
      (hserved _ : execGetMultiHeadedInfo s = _), fun hmode => execGetHeadInfo_one hfm hmode⟩
  case writes =>
    refine ⟨fun z => execSetLdAllocations_sets hfm, fun h c th => execSetQosControl_sets hfm, fun g x hname hg hx hrate hburst => ?_⟩
    exact ⟨execSetQosAllocatedBw_sets hfm hg hname hx hrate, execSetQosBwLimit_sets hfm hg hname hx hburst⟩

end Sys2Proof.Machine
end

section
/-! Register writes take effect or are refused (19_registers R594 to R597, R600, R604, R606, R607, R609, R610; 16_scheduling R532; 23_management
R689): a 4-byte write of BAR0 that holds nothing back, the registers it reaches, and the cone's trigger. -/

namespace Sys2Proof.Machine

/-- A partition that is there stays there. -/
theorem State.modPart_isSome {s : State} {p q : Nat} {f : Part → Part} (h : (KMap.find s.parts p).isSome = true) :
    (KMap.find (s.modPart q f).parts p).isSome = true := by
  unfold State.modPart
  by_cases hpq : p = q
  · subst hpq
    rw [KMap.find_mod_same, Option.isSome_map, h]
  · rw [KMap.find_mod_other _ _ hpq, h]

/-! ## A 4-byte write of BAR0 (19_registers R594, R595) -/

/-- Is a register neither half of one that is written whole? -/
def wholeReg (off : Nat) : Bool := !isLowHalf off && !(decide (4 ≤ off) && isLowHalf (off - 4))

theorem regWrites_whole {off : Nat} (h : wholeReg off = true) (held : Option (Nat × Nat)) (value : Nat) :
    regWrites held off 4 value = some ([(off, value % 2 ^ 32)], off) := by
  simp only [wholeReg, Bool.and_eq_true, Bool.not_eq_true', Bool.and_eq_false_imp, decide_eq_true_eq] at h
  obtain ⟨hlow, hhigh⟩ := h
  have hoff : (if 4 ≤ off ∧ isLowHalf (off - 4) = true then off - 4 else off) = off :=
    if_neg (fun ⟨h4, hl⟩ => by simp [hhigh h4] at hl)
  unfold regWrites
  simp only [hlow, hoff, Bool.false_eq_true, if_false]
  rw [if_neg (by decide)]
  split
  · next l w =>
    refine if_neg ?_
    rintro ⟨rfl, hl⟩
    simpa [hl] using hhigh (Nat.le_add_left ..)
  · rfl

/-- The registers above the queues' are whole. -/
theorem wholeReg_of_high {off : Nat} (h : 0x2004 ≤ off) : wholeReg off = true := by
  simp only [wholeReg, isLowHalf, Bool.and_eq_true, Bool.not_eq_true', Bool.and_eq_false_imp, decide_eq_true_eq]
  omega

theorem wholeReg_queue {q : Nat} (h : q < 64) : wholeReg (0x1000 + 64 * q) = true := by
  simp only [wholeReg, isLowHalf, Bool.and_eq_true, Bool.not_eq_true', Bool.and_eq_false_imp, decide_eq_true_eq, Bool.or_eq_false_iff,
    beq_eq_false_iff_ne]
  omega

section
variable {s : State} {p off : Nat}

/-- The state of an access of partition p, no low half held. -/
def State.unheld (s : State) (p : Nat) : State := s.modPart p (fun w => { w with heldLow := none })

theorem State.barWrite_whole (hopen : s.barOpen p = true) (halign : off % 4 = 0) (hwhole : wholeReg off = true) (value : Nat) :
    s.barWrite p off 4 value = (s.unheld p).applyWrite p [(off, value % 2 ^ 32)] off := by
  simp only [State.barOpen, Bool.and_eq_true, Bool.not_eq_true'] at hopen
  unfold State.barWrite
  rw [if_neg (by simp [hopen, accessOk, halign])]
  simp only [regWrites_whole hwhole]
  rfl

/-- A write of partition p other than 0 to the device-global or the wheel block (19_registers R596, R609). -/
theorem State.applyWrite_foreign {value : Nat} (hreg : (rsvMask off).isSome = true) (hp : p ≠ 0)
    (hblock : 0x20000 ≤ off ∨ (0x4000 ≤ off ∧ off < 0x8000)) : s.applyWrite p [(off, value)] off = s.refuse p 4 off := by
  unfold State.applyWrite
  simp [hreg, hp, hblock]

/-- A write that its register's partition may make and whose reserved bits are 0 reaches the register's block. -/
theorem State.applyWrite_reaches {value mask : Nat} (hreg : rsvMask off = some mask)
    (hown : p = 0 ∨ ¬ (0x20000 ≤ off ∨ (0x4000 ≤ off ∧ off < 0x8000))) (hbits : value &&& mask = 0) :
    s.applyWrite p [(off, value)] off =
      if off < 0x1000 then
        (if bit (newReg [(off, value)] 0x28 0) 31 then
          s.modPart p (fun v => { v with refuseValid := false, refuseCause := 0, refuseOff := 0 })
         else s)
      else if off < 0x2000 then s.writeQueue p ((off - 0x1000) / 64) (off / 64 * 64) [(off, value)] off
      else if off < 0x4000 then s.writeDoorbell p ([(off, value)].filter (fun e => e.1 ≠ 0x2008)) off
      else if off < 0x8000 then s.writeWheel p [(off, value)] off
      else if off < 0xC000 then s.writeTier p [(off, value)] off
      else if off < 0x10000 then s
      else if off < 0x20000 then s.writeCone p [(off, value)] off
      else if off < 0x21000 then s.writeGlobal [(off, value)] off
      else s.writeSlot ((off - 0x21000) / 256) (off / 256 * 256) [(off, value)] off := by
  have hfilter : [(off, value)].filter (fun e => (rsvMask e.1).isSome) = [(off, value)] := by simp [hreg]
  have hforeign : ¬ (p ≠ 0 ∧ (0x20000 ≤ off ∨ (0x4000 ≤ off ∧ off < 0x8000))) := by tauto
  unfold State.applyWrite
  simp only [hfilter]
  rw [if_neg (by simp), if_neg hforeign, if_neg (by simp [hreg, hbits])]

end

/-- Bits below a mask that is a multiple of 2^n meet none of it. -/
theorem and_mask_eq_zero {v n : Nat} (hv : v < 2 ^ n) (m : Nat) : v &&& (m * 2 ^ n) = 0 := by
  refine Nat.eq_of_testBit_eq fun i => ?_
  rw [Nat.testBit_and, Nat.zero_testBit, Nat.testBit_mul_two_pow]
  by_cases hi : n ≤ i
  · simp [Nat.testBit_lt_two_pow (hv.trans_le (Nat.pow_le_pow_right two_pos hi))]
  · simp [hi]

theorem word_mod (v : Word) : v.toNat % 2 ^ 32 = v.toNat := Nat.mod_eq_of_lt v.isLt

/-! ## The rows of single registers (19_registers R595, R600, R606) -/

section
variable {s : State} {p : Nat} (hopen : s.barOpen p = true)
include hopen

theorem execRegisterWrite_stickyN {v : BitVec 64} (hv : 1 ≤ v.toNat ∧ v.toNat ≤ 1000 ∨ v.toNat = 0xFFFF) :
    execRegisterWrite p 0x8000 4 v s = .next ((s.unheld p).modPart p (fun w => { w with stickyN := v.toNat })) := by
  have hmod : v.toNat % 2 ^ 32 = v.toNat := by omega
  unfold execRegisterWrite
  rw [State.barWrite_whole hopen rfl (wholeReg_of_high (by decide)), hmod,
    State.applyWrite_reaches (mask := 0xFFFF0000) rfl (.inr (by decide)) (and_mask_eq_zero (n := 16) (by omega) 0xFFFF)]
  simp only [Nat.reduceLT, if_false, if_true, State.writeTier, newReg, KMap.find, Option.getD_some]
  rw [if_neg (by omega)]

theorem execRefuseLogClear_clears {v : Word} (hclear : v.getLsbD 31 = true) (hbits : v.toNat &&& 0x70000000 = 0) :
    execRefuseLogClear p v s = .next ((s.unheld p).modPart p (fun w => { w with
      refuseValid := false, refuseCause := 0, refuseOff := 0 })) := by
  unfold execRefuseLogClear
  rw [State.barWrite_whole hopen rfl rfl, word_mod, State.applyWrite_reaches (mask := 0x70000000) rfl (.inr (by decide)) hbits,
    if_pos (by decide)]
  exact congrArg _ (if_pos hclear)

theorem execConeFire_fires {v : Word} (hfire : v.getLsbD 0 = true) (hbits : v.toNat &&& 0xFFFFFFFE = 0) :
    execConeFire p v s = .next ((s.unheld p).trigger 1 0) := by
  have hbit : bit v.toNat 0 = true := hfire
  unfold execConeFire
  rw [State.barWrite_whole hopen rfl (wholeReg_of_high (by decide)), word_mod,
    State.applyWrite_reaches (mask := 0xFFFFFFFE) rfl (.inr (by decide)) hbits]
  simp [State.writeCone, newReg, KMap.find, hbit]

end

/-! ## The cone's trigger (19_registers R607; 23_management R689) -/

section
variable {s : State} (hup : s.stage = .up) (hkeys : s.sagger.erased = false) (hlost : s.moduleLost = false)
include hup hkeys hlost

theorem State.trigger_busy (hbusy : s.mgmt.snapBusy = true) (src w : Nat) : (s.trigger src w).mgmt = { s.mgmt with
    conePulses := s.mgmt.conePulses + (if s.mgmt.coneOutEn then 1 else 0), matchEn := s.mgmt.matchEn && src ≠ 2
    snapMerged := min (s.mgmt.snapMerged + 1) (2 ^ 32 - 1)
    snaps := s.mgmt.snaps.modify (s.mgmt.snaps.length - 1) (fun p => { p with merged := p.merged + 1 }) } := by
  unfold State.trigger
  rw [if_neg (by simp [hup, hkeys, hlost])]
  simp only [hbusy, if_true]

theorem State.trigger_idle (hidle : s.mgmt.snapBusy = false) (src w : Nat) : ∃ l, (s.trigger src w).mgmt = { s.mgmt with
    conePulses := s.mgmt.conePulses + (if s.mgmt.coneOutEn then 1 else 0), matchEn := s.mgmt.matchEn && src ≠ 2
    lastSnap := (s.mgmt.lastSnap + 1) % 2 ^ 16, snapSource := src, snapBusy := true, snaps := l } := by
  unfold State.trigger
  rw [if_neg (by simp [hup, hkeys, hlost])]
  simp only [hidle, Bool.false_eq_true, if_false]
  exact ⟨_, rfl⟩

/-- The matcher disarms itself (19_registers R607). -/
theorem State.trigger_matcher (w : Nat) : (s.trigger 2 w).mgmt.matchEn = false := by
  cases hbusy : s.mgmt.snapBusy with
  | true => rw [State.trigger_busy hup hkeys hlost hbusy]; simp
  | false =>
    obtain ⟨l, hl⟩ := State.trigger_idle hup hkeys hlost hbusy 2 w
    rw [hl]; simp

end

/-- CONE_CTRL and MATCH_CFG written by a partition other than 0 (19_registers R607). -/
theorem State.barWrite_coneForeign {s : State} {p off v : Nat} (hopen : s.barOpen p = true) (hoff : off = 0x10000 ∨ off = 0x10008) (hp : p ≠ 0)
    (hv : v < 2 ^ 32) (hbits : v &&& (rsvMask off).getD 0 = 0) : s.barWrite p off 4 v = (s.unheld p).refuse p 4 off := by
  have hreg : rsvMask off = some ((rsvMask off).getD 0) := by rcases hoff with rfl | rfl <;> rfl
  rw [State.barWrite_whole hopen (by omega) (wholeReg_of_high (by omega)), Nat.mod_eq_of_lt hv,
    State.applyWrite_reaches hreg (.inr (by omega)) hbits]
  rcases hoff with rfl | rfl <;> simp [State.writeCone, hp]

/-! ## The rows of a queue's slot (19_registers R604; 16_scheduling R532) -/

section
variable {s : State} {p q : Nat} (hopen : s.barOpen p = true) (hq : q < 64)
include hopen hq

theorem State.barWrite_queue {v : Word} (hbits : v.toNat &&& 0x0F007F80 = 0) : s.barWrite p (0x1000 + 64 * q) 4 v.toNat =
    (s.unheld p).writeQueue p q (0x1000 + 64 * q) [(0x1000 + 64 * q, v.toNat)] (0x1000 + 64 * q) := by
  have hreg : rsvMask (0x1000 + 64 * q) = some 0x0F007F80 := by
    unfold rsvMask
    rw [if_neg (by omega), if_pos (by omega), show (0x1000 + 64 * q) % 64 = 0 by omega]
    rfl
  rw [State.barWrite_whole hopen (by omega) (wholeReg_queue hq), word_mod, State.applyWrite_reaches hreg (.inr (by omega)) hbits,
    if_neg (by omega), if_pos (by omega), show (0x1000 + 64 * q - 0x1000) / 64 = q by omega,
    show (0x1000 + 64 * q) / 64 * 64 = 0x1000 + 64 * q by omega]

omit hopen hq in
theorem newReg_written (off cur value : Nat) : newReg [(off, value)] off cur = value := by simp [newReg, KMap.find]

omit hopen hq in
theorem Queue.written_enable (k : Queue) (off : Nat) (v : Word) : (k.written q off [(off, v.toNat)]).enable = v.getLsbD 31 :=
  congrArg (bit · 31) (newReg_written ..)

end

/-! A write that no rule refuses raises ENABLE, or takes it back at once or at the boundary. -/

section
variable {s : State} {p q b off : Nat} {ws : RegWrites} {k n : Queue} (hk : s.queue p q = k) (hn : k.written q b ws = n)
  (hok : k.refusal n p q (s.part p).dbInWindow (s.ringMapped p n) = 0)
include hk hn hok

theorem State.writeQueue_rises (hnew : n.enable = true) (hold : k.enable = false) :
    s.writeQueue p q b ws off = s.modQueue p q (fun _ => n.cleared .enabled) := by
  unfold State.writeQueue
  simp only [hk, hn, hok, hnew, hold, Bool.not_false, Bool.and_self, if_true]

theorem State.writeQueue_falls (hnew : n.enable = false) (hold : k.enable = true) : s.writeQueue p q b ws off =
    if s.queueBusy p q = true then
      (s.cancelAt (fun _ v => v.part = p && v.openQ = q) s.boundaryAfter).modQueue p q (fun _ =>
        { n with state := .disablePending, tb := s.boundaryAfter })
    else s.modQueue p q (fun _ => { n with state := .disabled }) := by
  unfold State.writeQueue
  simp only [hk, hn, hok, hnew, hold, Bool.not_true, Bool.not_false, Bool.and_self, Bool.false_eq_true, if_false, if_true]

end

section
variable {s : State} {p q : Nat} {v : Word} {n : Queue} (hopen : s.barOpen p = true) (hq : q < 64) (hbits : v.toNat &&& 0x0F007F80 = 0)
  (hn : ((s.unheld p).queue p q).written q (0x1000 + 64 * q) [(0x1000 + 64 * q, v.toNat)] = n)
  (hok : ((s.unheld p).queue p q).refusal n p q ((s.unheld p).part p).dbInWindow ((s.unheld p).ringMapped p n) = 0)
include hopen hq hbits hn hok

theorem execQueueEnable_rises (hv : v.getLsbD 31 = true) (hold : ((s.unheld p).queue p q).enable = false) :
    execQueueEnable p q v s = .next ((s.unheld p).modQueue p q (fun _ => n.cleared .enabled)) := by
  have hnew : n.enable = true := by rw [← hn, Queue.written_enable, hv]
  unfold execQueueEnable
  rw [if_pos (by rw [hv, decide_eq_true hq]; rfl), State.barWrite_queue hopen hq hbits, State.writeQueue_rises rfl hn hok hnew hold]

theorem execQueueDisable_falls (hv : v.getLsbD 31 = false) (hold : ((s.unheld p).queue p q).enable = true) :
    execQueueDisable p q v s = .next (if (s.unheld p).queueBusy p q = true then
        ((s.unheld p).cancelAt (fun _ w => w.part = p && w.openQ = q) (s.unheld p).boundaryAfter).modQueue p q (fun _ =>
          { n with state := .disablePending, tb := (s.unheld p).boundaryAfter })
      else (s.unheld p).modQueue p q (fun _ => { n with state := .disabled })) := by
  have hnew : n.enable = false := by rw [← hn, Queue.written_enable, hv]
  unfold execQueueDisable
  rw [if_pos (by rw [hv, decide_eq_true hq]; rfl), State.barWrite_queue hopen hq hbits, State.writeQueue_falls rfl hn hok hnew hold]

end

/-! ## The rows of a partition's slot (19_registers R610; 16_scheduling R532) -/

theorem rsvMask_slot {n : Nat} (hn : n < 16) : rsvMask (0x21000 + 256 * n) = some 0x008FFF00 := by
  unfold rsvMask
  rw [if_neg (by omega), if_neg (by omega), if_neg (by omega), if_pos (by omega), show (0x21000 + 256 * n) % 256 = 0 by omega]
  rfl

section
variable {s : State} {n b off : Nat} {ws : RegWrites} {v : Part} {w : PendingRegs} {en : Bool}
  (hv : s.part n = v) (hw : v.slotWritten b ws = w) (hen : bit (newReg ws b (v.slotReg 0)) 31 = en) (hok : s.slotRefusal n w en = 0)
include hv hw hen hok

/-- EN rises where the partition's minimum frames and save-area slots are at hand. -/
theorem State.writeSlot_rises (hnew : en = true) (hold : v.en = false) (hframes : w.t0Min ≤ s.freeable 0 n ∧ w.t1Min ≤ s.freeable 1 n)
    (hsave : 144 * w.tileLimit ≤ s.saveFree n w.t1Min) : s.writeSlot n b ws off = s.modPart n (fun x => { x with
      wr := w, cfgPend := true, saveArea := x.saveArea + w.tileLimit, en := true, enPend := true }) := by
  subst hnew
  unfold State.writeSlot
  simp only [hv, hw, hen, hok, hold]
  simp [Nat.not_lt.mpr hframes.1, Nat.not_lt.mpr hframes.2, Nat.not_lt.mpr hsave]

theorem State.writeSlot_falls (hnew : en = false) (hold : v.en = true) (hslots : w.tileLimit ≤ v.saveArea) :
    s.writeSlot n b ws off = (s.modPart n (fun x => { x with wr := w, cfgPend := x.cfgPend || decide (w ≠ x.wr) })).disablePart n := by
  subst hnew
  unfold State.writeSlot
  simp only [hv, hw, hen, hok, hold]
  simp [Nat.not_lt.mpr hslots]

end

section
variable {s : State} {n : Nat} {v : Word} {w : PendingRegs} (hopen : s.barOpen 0 = true) (hn : n < 16) (hbits : v.toNat &&& 0x008FFF00 = 0)
include hopen hn hbits

theorem State.barWrite_slot : s.barWrite 0 (0x21000 + 256 * n) 4 v.toNat =
    (s.unheld 0).writeSlot n (0x21000 + 256 * n) [(0x21000 + 256 * n, v.toNat)] (0x21000 + 256 * n) := by
  rw [State.barWrite_whole hopen (by omega) (wholeReg_of_high (by omega)), word_mod,
    State.applyWrite_reaches (rsvMask_slot hn) (.inl rfl) hbits]
  iterate 8 rw [if_neg (by omega)]
  rw [show (0x21000 + 256 * n - 0x21000) / 256 = n by omega, show (0x21000 + 256 * n) / 256 * 256 = 0x21000 + 256 * n by omega]

variable (hw : ((s.unheld 0).part n).slotWritten (0x21000 + 256 * n) [(0x21000 + 256 * n, v.toNat)] = w)
  (hok : (s.unheld 0).slotRefusal n w (v.getLsbD 31) = 0)
include hw hok

theorem execPartitionEnable_rises (hv : v.getLsbD 31 = true) (hold : ((s.unheld 0).part n).en = false)
    (hframes : w.t0Min ≤ (s.unheld 0).freeable 0 n ∧ w.t1Min ≤ (s.unheld 0).freeable 1 n)
    (hsave : 144 * w.tileLimit ≤ (s.unheld 0).saveFree n w.t1Min) :
    execPartitionEnable 0 n v s = .next ((s.unheld 0).modPart n (fun x => { x with
      wr := w, cfgPend := true, saveArea := x.saveArea + w.tileLimit, en := true, enPend := true })) := by
  unfold execPartitionEnable
  rw [if_pos (by rw [hv, decide_eq_true hn]; rfl), State.barWrite_slot hopen hn hbits,
    State.writeSlot_rises rfl hw (congrArg (bit · 31) (newReg_written ..)) hok hv hold hframes hsave]

theorem execPartitionDisable_falls (hv : v.getLsbD 31 = false) (hold : ((s.unheld 0).part n).en = true)
    (hslots : w.tileLimit ≤ ((s.unheld 0).part n).saveArea) :
    execPartitionDisable 0 n v s = .next (((s.unheld 0).modPart n (fun x => { x with
      wr := w, cfgPend := x.cfgPend || decide (w ≠ x.wr) })).disablePart n) := by
  unfold execPartitionDisable
  rw [if_pos (by rw [hv, decide_eq_true hn]; rfl), State.barWrite_slot hopen hn hbits,
    State.writeSlot_falls rfl hw (congrArg (bit · 31) (newReg_written ..)) hok hv hold hslots]

end

theorem execRegisterWrite_systemOnly {s : State} {p off : Nat} (v : BitVec 64) (hopen : s.barOpen p = true) (hp : p ≠ 0)
    (halign : off % 4 = 0) (hoff : 0x20000 ≤ off) (hreg : (rsvMask off).isSome = true) :
    execRegisterWrite p off 4 v s = .next ((s.unheld p).refuse p 4 off) := by
  unfold execRegisterWrite
  rw [State.barWrite_whole hopen halign (wholeReg_of_high (by omega)), State.applyWrite_foreign hreg hp (.inl hoff)]

/-- Settles O10, by the block that each register's write reaches, and what the block does with it. -/
theorem registerWritesTakeEffectOrAreRefused : Obligations.RegisterWritesTakeEffectOrAreRefused := by
  unfold Obligations.RegisterWritesTakeEffectOrAreRefused
  refine ⟨fun s p hopen => ⟨fun v hv => execRegisterWrite_stickyN hopen hv, fun v hclear hbits => execRefuseLogClear_clears hopen hclear hbits,
    fun v hfire hbits => ⟨execConeFire_fires hopen hfire hbits, fun hup hkeys hlost hidle => ?_⟩, fun q v hq hbits => ?_, ?_⟩,
    fun s p off v hopen hp _ halign hoff _ hreg => execRegisterWrite_systemOnly v hopen hp halign hoff hreg⟩
  · obtain ⟨l, hl⟩ := State.trigger_idle (s := s.unheld p) hup hkeys hlost hidle 1 0
    exact ⟨_, execConeFire_fires hopen hfire hbits, by rw [hl], by rw [hl], by rw [hl]; rfl⟩
  · intro t k n hok
    refine ⟨fun hv hold => execQueueEnable_rises hopen hq hbits rfl hok hv hold, fun hv hold => ⟨fun hidle => ?_, fun hbusy => ?_⟩⟩
    · exact (execQueueDisable_falls hopen hq hbits rfl hok hv hold).trans
        (congrArg _ (if_neg (Bool.eq_false_iff.mp hidle)))
    · exact (execQueueDisable_falls hopen hq hbits rfl hok hv hold).trans (congrArg _ (if_pos hbusy))
  · rintro rfl n v hn hbits
    intro t w hok
    exact ⟨fun hv hold h0 h1 hsave => execPartitionEnable_rises hopen hn hbits rfl hok hv hold ⟨h0, h1⟩ hsave,
      fun hv hold hslots => execPartitionDisable_falls hopen hn hbits rfl hok hv hold hslots⟩

/-- Settles O11, by the trigger's branch for BUSY, and by the refusal of a write from another partition. -/
theorem triggerWhileBusyMerges : Obligations.TriggerWhileBusyMerges := by
  unfold Obligations.TriggerWhileBusyMerges
  refine fun s hup hkeys hlost => ⟨fun hbusy src w => ?_, State.trigger_matcher hup hkeys hlost, fun p off v hoff hopen hp hpart hv hbits => ?_⟩
  · rw [State.trigger_busy hup hkeys hlost hbusy]
    exact ⟨rfl, List.length_modify .., rfl, rfl⟩
  · rw [State.barWrite_coneForeign hopen hoff hp hv hbits]
    have hkept : (KMap.find (s.unheld p).parts p).isSome = true := State.modPart_isSome hpart
    exact ⟨by unfold State.refuse; rw [State.modPart_same hkept], rfl⟩

end Sys2Proof.Machine
end

section
/-! A step, the reset values of the registers, the queries and commands of the ADMIN set, cone triggers and the log's flush (19_registers R599,
R609; 18_queues R579, R582, R584 to R586; 15_wheel R490; 17_host_link R555; 20_power_thermal R616; 23_management R681 to R693). -/

namespace Sys2Proof.Machine

/-- Settles O1, by the two cases of the pending commands. -/
theorem stepRunsTheFrontCommand : Obligations.StepRunsTheFrontCommand := by
  unfold Obligations.StepRunsTheFrontCommand
  exact ⟨fun c rest s h => by unfold step; rw [h], fun s h => by unfold step; rw [h]⟩

/-! ## Reset values (19_registers R599, R609; 18_queues R579) -/

/-- A map written key by key from a list of keys. -/
theorem KMap.find_map_keys {α : Type} (f : Nat → α) (l : List Nat) (k : Nat) :
    KMap.find (l.map (fun i => (i, f i))) k = if k ∈ l then some (f k) else none := by
  induction l with
  | nil => rfl
  | cons i l ih =>
    rw [List.map_cons, KMap.find, ih]
    by_cases h : i = k
    · simp [h]
    · simp [h, Ne.symm h]

theorem KMap.findD_range {α : Type} {n k : Nat} (h : k < n) (f : Nat → α) (d : α) :
    KMap.findD ((List.range n).map (fun i => (i, f i))) k d = f k := by
  rw [KMap.findD, KMap.find_map_keys, if_pos (List.mem_range.mpr h), Option.getD_some]

theorem State.reset_part {p : Nat} (hp : p < 16) : State.reset.part p = Part.reset p := KMap.findD_range hp Part.reset _

theorem State.reset_queue {p q : Nat} (hp : p < 16) (hq : q < 64) : State.reset.queue p q = { cls := if q = 0 then 0 else 1 } := by
  unfold State.queue
  rw [State.reset_part hp]
  exact KMap.findD_range hq (fun q => ({ cls := if q = 0 then 0 else 1 } : Queue)) _

/-- Settles O2, by the slot of a partition and of a queue after reset. -/
theorem resetRegisterValues : Obligations.ResetRegisterValues := by
  unfold Obligations.ResetRegisterValues
  refine ⟨fun p hp => ?_, fun p q hp hq => ?_⟩
  · rw [State.reset_part hp]
    exact ⟨rfl, rfl, rfl, rfl, rfl, rfl, rfl⟩
  · rw [State.reset_queue hp hq]
    by_cases hadmin : q = 0
    · subst hadmin
      exact ⟨rfl, rfl, rfl, by decide⟩
    · rw [if_neg hadmin, if_neg hadmin]
      exact ⟨rfl, rfl, rfl, by decide⟩

/-! ## The queries of the ADMIN set (18_queues R584 to R586; 17_host_link R555; 23_management R693) -/

section
variable {s : State} {r : Ref} {a : QArgs} {e : CmdE} (ha : argsQ e.area = a)
include ha

theorem execIdentify_answers (hs : s.starts r 0x00 e = true) (hhandle : a.handle = 0) (hout : s.delivers e a (s.identItems e.part) = true) :
    execIdentify r a s = .next ((s.delivered e a (s.identItems e.part)).done e 0 0) := by
  unfold execIdentify
  rw [State.command_of_starts hs (by simp [ha]), State.checked_pass (by simp [hhandle]), State.answer_of_delivers hout]

theorem execCounterQuery_answers (hs : s.starts r 0x02 e = true) (hgroup : a.handle ≤ 8)
    (hout : s.delivers e a (s.ctrItems e.part a.handle) = true) :
    execCounterQuery r a s = .next ((s.delivered e a (s.ctrItems e.part a.handle)).done e 0 0) := by
  unfold execCounterQuery
  rw [State.command_of_starts hs (by simp [ha]), State.checked_pass (by simp [hgroup.not_gt]), State.answer_of_delivers hout]

theorem execCounterQuery_rejects (hs : s.starts r 0x02 e = true) (hgroup : 8 < a.handle) :
    execCounterQuery r a s = .next (s.reject e 0x0102) := by
  unfold execCounterQuery
  rw [State.command_of_starts hs (by simp [ha]), State.checked_stop (c := 0x0102) (by simp [hgroup])]

theorem execDiagQuery_answers (hs : s.starts r 0x03 e = true) (hplace : a.handle ≤ 1023) (hpart : e.part = 0)
    (hout : s.delivers e a (s.diagItems a.handle) = true) :
    execDiagQuery r a s = .next ((s.delivered e a (s.diagItems a.handle)).done e 0 0) := by
  unfold execDiagQuery
  rw [State.command_of_starts hs (by simp [ha]), State.checked_pass (by simp [hplace.not_gt, hpart]), State.answer_of_delivers hout]

theorem execLinkQuery_answers (hs : s.starts r 0x0D e = true) (hhandle : a.handle = 0)
    (hout : s.delivers e a (s.linkItems (s.part e.part).eff.head) = true) :
    execLinkQuery r a s = .next ((s.delivered e a (s.linkItems (s.part e.part).eff.head)).done e 0 0) := by
  unfold execLinkQuery
  rw [State.command_of_starts hs (by simp [ha]), State.checked_pass (by simp [hhandle]), State.answer_of_delivers hout]

theorem execSnapshotRead_answers {n : Snap} (hs : s.starts r 0x05 e = true) (hsnap : s.snap? a.handle = some n)
    (hout : s.delivers e a (n.items e.part) = true) :
    execSnapshotRead r a s = .next ((s.delivered e a (n.items e.part)).done e 0 0) := by
  unfold execSnapshotRead
  rw [State.command_of_starts hs (by simp [ha])]
  simp only [hsnap]
  rw [State.answer_of_delivers hout]

/-- In NAP and DEEP a command that does not execute there wakes the module and waits (20_power_thermal R616). -/
theorem execSessionQuery_wakes (hf : s.fetched r 0x64 e = true) (hentry : s.power.entering = false) (hstate : 2 ≤ s.power.pstate) :
    execSessionQuery r a s = .next { s with power := { s.power with exiting := true } } := by
  simp only [State.fetched, Bool.and_eq_true, beq_iff_eq] at hf
  obtain ⟨⟨hready, hadmits⟩, hrings⟩ := hf
  unfold execSessionQuery State.command
  simp only [hready, hadmits, hrings, ha, hentry, beq_self_eq_true]
  exact if_pos hstate

end

theorem ctrItems_length {s : State} {p g : Nat} : ∀ i ∈ s.ctrItems p g, i.length = 8 * groupSize g := by
  simp [State.ctrItems, List.length_flatMap, leBytes, Nat.mul_comm]

/-! ## LOG_READ, TIME_SET and POWER_SET (23_management R685; 15_wheel R490; 20_power_thermal R616) -/

section
variable {s : State} {r : Ref} {e : CmdE}

section
variable {a : LogArgs} (hs : s.starts r 0x06 e = true) (ha : argsLog e.area = a) (hcap : 128 ≤ a.outCap) {recs : List LogRec}
  (hrecs : (s.mgmt.logFlash ++ s.mgmt.logBuf).filter (fun l => a.first ≤ l.recno) = recs)
include hs ha hcap hrecs

theorem execLogRead_nothing (hnone : recs = []) : execLogRead r a s = .next (s.done e 0 s.mgmt.logNext) := by
  subst hnone
  unfold execLogRead
  rw [State.command_of_starts hs (by simp [ha]), if_neg hcap.not_gt]
  simp only [hrecs]

theorem execLogRead_reads {l : LogRec} {u : List LogRec} (hsome : recs = l :: u)
    (hout : s.writable e.part (bit a.dua 0) a.outAddr (logWalk e.part recs (a.outCap / 128) l.recno).1.length = true) :
    execLogRead r a s = .next ((s.stored (bit a.dua 0) a.outAddr (logWalk e.part recs (a.outCap / 128) l.recno).1).done e 0
      (logWalk e.part recs (a.outCap / 128) l.recno).2) := by
  subst hsome
  unfold execLogRead
  rw [State.command_of_starts hs (by simp [ha]), if_neg hcap.not_gt]
  simp only [hrecs, State.writeBuf_of_writable hout]

end

theorem execTimeSet_waits {n : Nat} (hs : s.starts r 0x0C e = true) (hn : field e.area 0 6 = n) (hpart : e.part = 0) :
    execTimeSet r n s = .next ({ s with wheel := { s.wheel with
      timeSet := s.wheel.timeSet ++ [(n, e.tag, s.wheel.base + s.wheel.now)] } }.keep e) := by
  unfold execTimeSet
  rw [State.command_of_starts hs (by simp [hn]), State.checked_pass (by simp [hpart])]

section
variable {n : Nat} (hs : s.starts r 0x07 e = true) (hn : field e.area 0 1 = n) (hrange : n ≤ 3) (hpart : e.part = 0)
  (hentry : s.power.entering = false)
include hs hn hrange hpart hentry

/-- POWER_SET where no entry is under way. -/
theorem execPowerSet_at_rest : execPowerSet r n s = .next (
    if s.power.pstate = n then s.done e 0 n
    else if n = 0 ∨ (n = 1 ∧ 2 ≤ s.power.pstate) then
      { s.keep { e with aux := [n] } with power := { s.power with exiting := true } }
    else { s.keep { e with aux := [n] } with power := { s.power with entering := true, target := n, quiescent := false, entryFrom := 0 } }) := by
  unfold execPowerSet
  rw [State.command_of_starts hs (by simp [hn]), State.checked_pass (by simp [hrange.not_gt, hpart])]
  simp only [hentry, Bool.false_eq_true, if_false]

theorem execPowerSet_stands (hstate : s.power.pstate = n) : execPowerSet r n s = .next (s.done e 0 n) := by
  rw [execPowerSet_at_rest hs hn hrange hpart hentry, if_pos hstate]

theorem execPowerSet_enters (hstate : s.power.pstate < n) : execPowerSet r n s = .next { s.keep { e with aux := [n] } with
    power := { s.power with entering := true, target := n, quiescent := false, entryFrom := 0 } } := by
  rw [execPowerSet_at_rest hs hn hrange hpart hentry, if_neg hstate.ne, if_neg (by omega)]

theorem execPowerSet_exits (hstate : s.power.pstate ≠ 0) (hup : n = 0 ∨ n = 1 ∧ 2 ≤ s.power.pstate) :
    execPowerSet r n s = .next { s.keep { e with aux := [n] } with power := { s.power with exiting := true } } := by
  rw [execPowerSet_at_rest hs hn hrange hpart hentry, if_neg (by omega), if_pos hup]

end
end

/-- Settles O12, each clause by the lemma of its row. -/
theorem adminQueriesAnswer : Obligations.AdminQueriesAnswer := by
  unfold Obligations.AdminQueriesAnswer
  refine ⟨fun s r a e ha => ⟨execIdentify_answers ha, execCounterQuery_answers ha, execDiagQuery_answers ha, execLinkQuery_answers ha,
    fun n => execSnapshotRead_answers ha⟩, ⟨fun s r a e hs ha hgroup => execCounterQuery_rejects ha hs hgroup, fun s p g => ctrItems_length⟩,
    fun s r e => ⟨fun a hs ha hcap => ?_, fun n => execTimeSet_waits, fun n hs hn hrange hpart hentry => ?_,
      fun a hf ha hentry hstate => execSessionQuery_wakes ha hf hentry hstate⟩⟩
  · intro recs
    exact ⟨execLogRead_nothing hs ha hcap rfl, fun l u hsome hout => execLogRead_reads hs ha hcap rfl hsome hout⟩
  · exact ⟨execPowerSet_stands hs hn hrange hpart hentry, execPowerSet_enters hs hn hrange hpart hentry,
      execPowerSet_exits hs hn hrange hpart hentry⟩

/-! ## Programmed cone triggers (23_management R689, R691, R692) -/

section
variable {s : State} {r : Ref} {a : ConeArgs} {e : CmdE} (hs : s.starts r 0x04 e = true) (ha : argsCone e.area = a)
include hs ha

theorem execConeProgram_cancels {c : Nat × Nat × Nat} (hcancel : bit a.cancel 0 = true)
    (hslot : (s.part e.part).cone.find? (fun c => c.2 == (a.turn, a.offset)) = some c) :
    execConeProgram r a s = .next ((s.modPart e.part (fun v => { v with cone := KMap.del v.cone c.1 })).done e 0 c.1) := by
  unfold execConeProgram
  rw [State.command_of_starts hs (by simp [ha]), if_pos hcancel]
  simp only [hslot, Option.map_some]

theorem execConeProgram_noSlot (hcancel : bit a.cancel 0 = true)
    (hslot : (s.part e.part).cone.find? (fun c => c.2 == (a.turn, a.offset)) = none) :
    execConeProgram r a s = .next (s.reject e 0x0102) := by
  unfold execConeProgram
  rw [State.command_of_starts hs (by simp [ha]), if_pos hcancel]
  simp only [hslot, Option.map_none]

section
variable (hcancel : bit a.cancel 0 = false) (hoffset : a.offset < s.wheel.period)
  (htime : s.turn < a.turn ∨ s.turn = a.turn ∧ s.wheel.now ≤ a.offset)
include hcancel hoffset htime

omit hs ha hcancel in
/-- No check stops an event that is still to come. -/
theorem coneChecks_pass : firstBad [(decide (s.wheel.period ≤ a.offset), Code.fieldInvalid),
    (decide (a.turn < s.turn) || (a.turn == s.turn && decide (a.offset < s.wheel.now)), Code.eventTimePassed)] = none := by
  have hcomes : (decide (a.turn < s.turn) || (a.turn == s.turn && decide (a.offset < s.wheel.now))) = false := by
    simp only [Bool.or_eq_false_iff, Bool.and_eq_false_imp, decide_eq_false_iff_not, beq_iff_eq]
    omega
  rw [hcomes, decide_eq_false hoffset.not_ge]
  rfl

theorem execConeProgram_arms {n : Nat} (hfree : KMap.free (s.part e.part).cone 4 = some n) : execConeProgram r a s =
    .next ((s.modPart e.part (fun v => { v with cone := KMap.put v.cone n (a.turn, a.offset) })).done e 0 n) := by
  unfold execConeProgram
  rw [State.command_of_starts hs (by simp [ha]), if_neg (Bool.eq_false_iff.mp hcancel), State.checked_pass (coneChecks_pass hoffset htime)]
  simp only [hfree]

theorem execConeProgram_full (hfree : KMap.free (s.part e.part).cone 4 = none) :
    execConeProgram r a s = .next (s.reject e 0x0102) := by
  unfold execConeProgram
  rw [State.command_of_starts hs (by simp [ha]), if_neg (Bool.eq_false_iff.mp hcancel), State.checked_pass (coneChecks_pass hoffset htime)]
  simp only [hfree]

end
end

theorem execProgrammedTrigger_fires {s : State} {p n o : Nat} (hslot : KMap.find (s.part p).cone n = some (s.turn, o)) :
    execProgrammedTrigger p n s = .next (({ s with wheel := { s.wheel with now := max s.wheel.now o } }.modPart p
      (fun v => { v with cone := KMap.del v.cone n })).trigger 3 0) := by
  unfold execProgrammedTrigger
  simp only [hslot, ne_eq, not_true_eq_false, if_false]

/-! ## CONE_IN, the snapshot's store and the log's flush (23_management R681, R684, R689, R692) -/

section
variable {s : State}

theorem execConeIn_triggers (w : Nat) : execConeIn w s = .next (if s.mgmt.coneInEn = true ∧ 10 ≤ w then s.trigger 0 0 else s) := by
  simp only [execConeIn, Bool.and_eq_true, decide_eq_true_eq]

theorem execSnapshotStore_ends (hbusy : s.mgmt.snapBusy = true) : execSnapshotStore s =
    .next ({ s with mgmt := { s.mgmt with snapBusy := false } }.logEv 10 1 0xFF 0xFFFF s.mgmt.lastSnap s.mgmt.snapSource) := by
  unfold execSnapshotStore
  rw [if_pos hbusy]

theorem execLogFlush_moves (hda : s.daUp = true) (hflash : s.flashUp = true)
    (hroom : s.mgmt.logFlash.length + s.mgmt.logBuf.length ≤ 524288) :
    execLogFlush s = .next { s with mgmt := { s.mgmt with logFlash := s.mgmt.logFlash ++ s.mgmt.logBuf, logBuf := [] } } := by
  have hnone : (s.mgmt.logFlash ++ s.mgmt.logBuf).length - 524288 = 0 := by rw [List.length_append]; omega
  simp only [execLogFlush, hda, hflash, hnone, List.drop_zero]
  rfl

end

/-- Settles O13, each clause by the lemma of its row. -/
theorem coneTriggersAndLogFlush : Obligations.ConeTriggersAndLogFlush := by
  unfold Obligations.ConeTriggersAndLogFlush
  refine ⟨fun s => ⟨fun r a e hs ha => ⟨fun hcancel => ⟨fun c => execConeProgram_cancels hs ha hcancel, execConeProgram_noSlot hs ha hcancel⟩,
    fun hcancel hoffset htime => ⟨fun n => execConeProgram_arms hs ha hcancel hoffset htime,
      execConeProgram_full hs ha hcancel hoffset htime⟩⟩, fun p n o => execProgrammedTrigger_fires⟩,
    fun s => ⟨execConeIn_triggers, execSnapshotStore_ends, execLogFlush_moves⟩⟩

end Sys2Proof.Machine
end

section
/-! Power state transitions (20_power_thermal R612, R614 to R618) and sensor samples (20_power_thermal R623, R626). -/

namespace Sys2Proof.Machine

/-! ## Power states (20_power_thermal R612, R614 to R618) -/

section
variable {s : State}

theorem execQuiescence_idle (hentry : s.power.entering = true) (htarget : 2 ≤ s.power.target) (hrunning : s.power.quiescent = false)
    (hidle : ∀ e ∈ s.tasks, e.2.tiles = []) :
    execQuiescence s = .next { s with power := { s.power with quiescent := true, entryFrom := 1 } } := by
  have hnone : s.tasks.any (fun e => !e.2.tiles.isEmpty) = false := by
    rw [List.any_eq_false]
    intro e he
    simp [hidle e he]
  unfold execQuiescence
  exact if_neg (by simp [hentry, htarget.not_gt, hrunning, hnone])

section
variable (hentry : s.power.entering = true) (htarget : s.power.target = 3) (hquiet : s.power.quiescent = true) (hfrom : s.power.entryFrom ≠ 2)
include hentry htarget hquiet hfrom

theorem execT0Evacuation_moved (hmoved : (State.evacuate (s.endMoves.pages.filter (fun e => e.2.tier == 0)) s.endMoves).2 = true) :
    execT0Evacuation s = .next { (State.evacuate (s.endMoves.pages.filter (fun e => e.2.tier == 0)) s.endMoves).1 with
      power := { (State.evacuate (s.endMoves.pages.filter (fun e => e.2.tier == 0)) s.endMoves).1.power with entryFrom := 2 } } := by
  unfold execT0Evacuation
  rw [if_neg (by simp [hentry, htarget, hquiet, hfrom])]
  exact if_pos hmoved

theorem execT0Evacuation_stays {m : State} {r : State × Bool} (hm : s.endMoves = m)
    (hr : State.evacuate (m.pages.filter (fun e => e.2.tier == 0)) m = r) (hleft : r.2 = false) :
    execT0Evacuation s = .next (({ r.1 with
        power := { r.1.power with target := 2, entryFrom := 2 }
        inflight := r.1.inflight.map (fun (e : CmdE) =>
          if e.opc = 0x07 && e.st == CmdSt.running && e.aux == [3] then { e with aux := [2] } else e) }.powCount
            Ctr.deepFallbacks 1).logEv 7 6 0xFF 256 2 0) := by
  subst hm hr
  unfold execT0Evacuation
  rw [if_neg (by simp [hentry, htarget, hquiet, hfrom])]
  exact if_neg (Bool.eq_false_iff.mp hleft)

end

theorem execPowerStateEntry_idle (hentry : s.power.entering = true) (htarget : s.power.target = 1) :
    execPowerStateEntry s = .next ({ s with power := { s.power with
      entering := false, quiescent := false, entryFrom := 0, woke := false, exiting := s.power.woke
      domUp := domainsUp 1 s.power.domLost } }.enterState 1) := by
  unfold execPowerStateEntry
  rw [if_neg (by simp [hentry, htarget])]
  simp only [htarget]
  rfl

theorem execPowerStateEntry_deep {x : Nat} (hx : x = 2 ∨ x = 3) (hentry : s.power.entering = true) (htarget : s.power.target = x)
    (hquiet : s.power.quiescent = true) (hmoved : x = 3 → s.power.entryFrom = 2) :
    execPowerStateEntry s = .next ({ s with power := { s.power with
      entering := false, quiescent := false, entryFrom := 0, woke := false, exiting := s.power.woke
      domUp := domainsUp x s.power.domLost } }.emptyTiles.enterState x) := by
  unfold execPowerStateEntry
  rw [if_neg (by simp only [hentry, hquiet, htarget]; simpa using hmoved)]
  simp only [htarget]
  rw [if_pos (by omega)]

theorem execPowerStateExit_ends (hexit : s.power.exiting = true) (hentry : s.power.entering = false) {up t : State}
    (hup : { s with power := { s.power with exiting := false, domUp := domainsUp 0 s.power.domLost } } = up)
    (ht : (if 2 ≤ s.power.pstate then { up.emptyTiles with wheel := { s.wheel with released := true } } else up).enterState 0 = t) :
    execPowerStateExit s = if t.inflight.any (fun e => e.opc = 0x07 && e.st == .running && e.aux == [1]) = true then
      .next { t with power := { t.power with entering := true, target := 1 } } else .next t := by
  subst hup ht
  unfold execPowerStateExit
  rw [if_neg (by simp [hexit, hentry])]

end

/-- A domain is up that is not lost and that its power state does not take down. -/
theorem domainsUp_iff {x d : Nat} {lost : List Bool} (hd : d < 20) : (domainsUp x lost).getD d false = true ↔
    lost.getD d false = false ∧ (d < 8 → x < 2) ∧ (8 ≤ d → d < 16 → x ≠ 3) := by
  unfold domainsUp
  rw [List.getD_eq_getElem _ _ (by simpa using hd), List.getElem_map, List.getElem_range]
  simp only [Bool.and_eq_true, Bool.not_eq_true', Bool.and_eq_false_imp, decide_eq_true_eq, decide_eq_false_iff_not, and_imp, and_assoc]
  exact and_congr_right fun _ => and_congr (by omega) (by omega)

/-- Settles O18, each clause by the lemma of its row. -/
theorem powerStateTransitions : Obligations.PowerStateTransitions := by
  unfold Obligations.PowerStateTransitions
  refine ⟨fun s => ⟨execQuiescence_idle, fun hentry htarget hquiet hfrom => ?_, execPowerStateEntry_idle, fun x => execPowerStateEntry_deep,
    fun hexit hentry => ?_⟩, fun x d lost => domainsUp_iff⟩
  · exact ⟨execT0Evacuation_moved hentry htarget hquiet hfrom, execT0Evacuation_stays hentry htarget hquiet hfrom rfl rfl⟩
  · have hends := execPowerStateExit_ends hexit hentry rfl rfl
    exact ⟨fun hidle => hends.trans (if_neg (Bool.eq_false_iff.mp hidle)), fun hidle => hends.trans (if_pos hidle)⟩

/-! ## Sensor samples (20_power_thermal R623, R626) -/

section
variable {s : State} {id : Nat} {lo hi x : Int} (hrange : sensorRange id = some (lo, hi)) (hda : s.daUp = true)
include hrange hda

section
variable (hout : x < lo ∨ hi < x) (hgood : (s.sensor id).faulty = false)
include hout hgood

theorem execSensorSample_discards (hfew : (s.sensor id).discards + 1 < 3) : execSensorSample id x s =
    .next (s.setSensor id { s.sensor id with discards := (s.sensor id).discards + 1, good := 0 }) := by
  simp only [execSensorSample, hda, hrange, if_pos hout, hgood, hfew, hfew.not_ge]
  simp [← hgood]

theorem execSensorSample_faults (hthird : 3 ≤ (s.sensor id).discards + 1) : execSensorSample id x s =
    .next (s.sensorActs (((s.setSensor id { s.sensor id with discards := (s.sensor id).discards + 1, good := 0, faulty := true }).powCount
      Ctr.sensorFaulty 1).logEv 7 4 0xFF id id 0) id) := by
  simp only [execSensorSample, hda, hrange, if_pos hout, hgood, hthird, hthird.not_gt]
  simp

end

theorem execSensorStale_marks (hfresh : (s.sensor id).stale = false) : execSensorStale id s =
    .next (s.sensorActs (((s.setSensor id { s.sensor id with stale := true, good := 0 }).powCount Ctr.sensorStale 1).logEv
      7 5 0xFF id id 0) id) := by
  simp only [execSensorStale, hda, hrange, hfresh]
  simp

end

/-- A sensor after a sample in its range: the count of accepted samples while it is FAULTY or STALE, which the sixteenth ends. -/
def Sensor.accepted (v : Sensor) (filt : Int) (recent : List Int) (low : Nat) : Sensor :=
  let bad := v.faulty || v.stale
  let good := if bad then v.good + 1 else 0
  let back := bad && decide (16 ≤ good)
  { v with
    filt := some filt, recent := recent, discards := 0, good := if back then 0 else good
    faulty := v.faulty && !back, stale := v.stale && !back, low := low }

section
variable {v : Sensor} {filt : Int} {recent : List Int} {low : Nat}

theorem Sensor.accepted_healthy (hf : v.faulty = false) (hs : v.stale = false) : v.accepted filt recent low =
    { v with filt := some filt, recent := recent, discards := 0, good := 0, low := low } := by
  simp [Sensor.accepted, hf, hs]

theorem Sensor.accepted_counts (hbad : v.faulty = true ∨ v.stale = true) (hfew : v.good + 1 < 16) : v.accepted filt recent low =
    { v with filt := some filt, recent := recent, discards := 0, good := v.good + 1, low := low } := by
  have hbad' : (v.faulty || v.stale) = true := by simpa using hbad
  simp [Sensor.accepted, hbad', hfew.not_ge]

theorem Sensor.accepted_recovers (hbad : v.faulty = true ∨ v.stale = true) (hmany : 16 ≤ v.good + 1) : v.accepted filt recent low =
    { v with filt := some filt, recent := recent, discards := 0, good := 0, faulty := false, stale := false, low := low } := by
  have hbad' : (v.faulty || v.stale) = true := by simpa using hbad
  simp [Sensor.accepted, hbad', hmany]

end

section
variable {s : State} {id : Nat} {lo hi x : Int} (hda : s.daUp = true) (hlo : lo ≤ x) (hhi : x ≤ hi)
include hda hlo hhi

theorem execSensorSample_accepts (hrange : sensorRange id = some (lo, hi)) (hid : id ≠ 4) {recent : List Int} {filt : Int}
    (hrecent : ((s.sensor id).recent ++ [x]).drop ((s.sensor id).recent.length - 2) = recent)
    (hfilt : Config.filterStep (s.sensor id).filt (median3 recent) = filt) : execSensorSample id x s =
    .next (s.sensorActs (s.setSensor id ((s.sensor id).accepted filt recent
      (if id = 194 ∧ filt < 1000 then (s.sensor id).low + 1 else 0))) id) := by
  have hlow : (if (decide (id = 194) && decide (filt < 1000)) = true then (s.sensor id).low + 1 else 0) =
      if id = 194 ∧ filt < 1000 then (s.sensor id).low + 1 else 0 := by simp only [Bool.and_eq_true, decide_eq_true_eq]
  simp only [execSensorSample, hda, hrange, if_neg (not_or.mpr ⟨hlo.not_gt, hhi.not_gt⟩), hid, hrecent, hfilt, hlow, if_false]
  rfl

/-- The source impedance is the median of its last 16 estimates (20_power_thermal R626). -/
theorem execSensorSample_impedance (hrange : sensorRange 4 = some (lo, hi)) {est : List Nat} {recent : List Int}
    (hrecent : ((s.sensor 4).recent ++ [x]).drop ((s.sensor 4).recent.length - 2) = recent)
    (hest : (s.power.impEst ++ [x.toNat]).drop (s.power.impEst.length - 15) = est) : execSensorSample 4 x s =
    .next (s.sensorActs ({ s with power := { s.power with impEst := est } }.setSensor 4 ((s.sensor 4).accepted
      ((sortBy (fun (a b : Nat) => decide (a < b)) est).getD (est.length / 2) 0 : Nat) recent 0)) 4) := by
  simp only [execSensorSample, hda, hrange, if_neg (not_or.mpr ⟨hlo.not_gt, hhi.not_gt⟩), hrecent, hest, if_true]
  rfl

end

/-- Settles O19, by the sample's place in the sensor's range and the sensor's own state. -/
theorem sensorSamplesAreJudged : Obligations.SensorSamplesAreJudged := by
  unfold Obligations.SensorSamplesAreJudged
  intro s id lo hi x hrange hda v
  refine ⟨fun hout => ⟨execSensorSample_discards hrange hda hout, execSensorSample_faults hrange hda hout⟩, fun hlo hhi => ?_,
    execSensorStale_marks hrange hda⟩
  intro recent filt low
  refine ⟨fun hid hf hs => ?_, fun hid hbad hfew => ?_, fun hid hbad hmany => ?_, ?_⟩
  · rw [← Sensor.accepted_healthy hf hs]
    exact execSensorSample_accepts hda hlo hhi hrange hid rfl rfl
  · rw [← Sensor.accepted_counts hbad hfew]
    exact execSensorSample_accepts hda hlo hhi hrange hid rfl rfl
  · rw [← Sensor.accepted_recovers hbad hmany]
    exact execSensorSample_accepts hda hlo hhi hrange hid rfl rfl
  · rintro rfl hf hs est mid
    rw [← Sensor.accepted_healthy hf hs]
    exact execSensorSample_impedance hda hlo hhi hrange rfl rfl

end Sys2Proof.Machine
end

section
/-! Management commands (23_management R676 to R680, R686, R687; 20_power_thermal R620; 25_module R718) and SPDM sessions (17_host_link R550;
22_security R658, R665 to R669). -/

namespace Sys2Proof.Machine

/-! ## Management commands -/

section
variable {s : State} (hup : s.askuxUp = true)
include hup

section
variable (hrec : s.recovery = false)
include hrec

theorem execMctpControl_setsEid (eid : Nat) : execMctpControl 1 eid s =
    .next ({ s with mgmt := { s.mgmt with eid := eid } }.answers 0x100 [1, eid]) := by
  unfold execMctpControl
  rw [if_neg (by simp [hup, hrec])]
  rfl

theorem execPldmRequest_setsReceiver (id : Nat) : execPldmRequest 2 4 id s =
    .next ({ s with mgmt := { s.mgmt with receiver := true } }.answers 0x200 [2, 4]) := by
  unfold execPldmRequest
  rw [if_neg (by simp [hup, hrec]), if_neg (by decide), if_pos (by decide)]

theorem execPldmRequest_reads {id : Nat} {v : Int} (hv : s.pldmReading id = some v) :
    execPldmRequest 2 0x11 id s = .next (s.answers 0x200 [2, 0x11, id, unsigned 64 v]) := by
  unfold execPldmRequest
  rw [if_neg (by simp [hup, hrec]), if_neg (by decide), if_neg (by decide), if_pos (by decide)]
  simp only [hv]

theorem execPowerCap_caps {w : Nat} (hlo : 600 ≤ w) (hhi : w ≤ 1800) (hstep : w % 10 = 0) : execPowerCap w s =
    .next ({ s with power := { s.power with powerCap := w } }.answers 0x200 [2, 0x31, 512, w]) := by
  unfold execPowerCap
  rw [if_neg (by simp [hup, hrec]), if_neg (by omega)]

end

theorem execI3cTargetReset_resets {us : Nat} (hheld : 25000 < us) : execI3cTargetReset us s =
    .next { s with mgmt := { s.mgmt with i3cReset := s.mgmt.i3cReset + 1 } } := by
  simp only [State.askuxUp, Bool.and_eq_true, decide_eq_true_eq] at hup
  obtain ⟨⟨hstage, hda⟩, -⟩ := hup
  unfold execI3cTargetReset
  exact if_neg (by simp [hheld.not_ge, hstage, hda])

/-- An update that both signatures let pass moves slot A to slot B and takes its place. -/
theorem execRequestUpdate_updates {c ver : Nat} {old : Comp} (hc : c < 5) (hold : s.mgmt.comps.getD c {} = old) (hfloor : old.floor ≤ ver)
    (hslot : old.slotA.isSome = true) : execRequestUpdate c ver true true s =
    .next (({ s with mgmt := { s.mgmt with comps := s.mgmt.comps.set c { old with
      slotB := old.slotA, sigB := old.sigA, slotA := some ver, sigA := true } } }.logEv 8 1 0xFF c c 0).answers 0x500 [c, 0]) := by
  simp only [execRequestUpdate, hup, hold, hslot, hc.not_ge, hfloor.not_gt]
  rfl

omit hup in
/-- A component other than Askux waits for its reset (23_management R687). -/
theorem State.activate_pends {c v : Nat} (hother : c ≠ 1) (hslot : (s.mgmt.comps.getD c {}).slotA = some v) : s.activate c =
    { s with mgmt := { s.mgmt with comps := s.mgmt.comps.set c { s.mgmt.comps.getD c {} with pending := true } } }.logEv 8 2 0xFF c c 0 := by
  unfold State.activate
  simp only [hslot, hother, if_false]

theorem execActivateFirmware_pends {c v : Nat} (hc : c < 5) (hother : c ≠ 1) (hslot : (s.mgmt.comps.getD c {}).slotA = some v)
    (hrunning : s.ready = false) : execActivateFirmware [c] none s =
    .next (({ s with mgmt := { s.mgmt with comps := s.mgmt.comps.set c { s.mgmt.comps.getD c {} with pending := true } } }.logEv
      8 2 0xFF c c 0).answers 0x501 [c]) := by
  have hlist : ([c].filter (fun i => decide (i < 5))).dedup = [c] := by simp [hc]
  have hkept : (s.activate c).ready = false := by
    rw [State.activate_pends hother hslot]
    obtain ⟨m, hm⟩ := State.logEv_eq
      { s with mgmt := { s.mgmt with comps := s.mgmt.comps.set c { s.mgmt.comps.getD c {} with pending := true } } } 8 2 0xFF c c 0
    rw [hm]
    exact hrunning
  unfold execActivateFirmware
  rw [if_neg (by simp [hup]), hlist]
  simp only [List.foldl_cons, List.foldl_nil, hkept, Bool.false_eq_true, if_false]
  rw [State.activate_pends hother hslot]

end

/-- Settles O21, each clause by the lemma of its command. -/
theorem managementCommands : Obligations.ManagementCommands := by
  unfold Obligations.ManagementCommands
  intro s hup hrec
  refine ⟨execMctpControl_setsEid hup hrec, execPldmRequest_setsReceiver hup hrec, fun id v => execPldmRequest_reads hup hrec,
    fun w => execPowerCap_caps hup hrec, fun us => execI3cTargetReset_resets hup, fun c ver hc hfloor hslot => ?_,
    fun c v => execActivateFirmware_pends hup⟩
  exact execRequestUpdate_updates hup hc rfl hfloor hslot

/-! ## SPDM sessions -/

section
variable {s : State} {p : Nat} (hserved : s.spdmServed p = true)
include hserved

/-- A request of the state that SPDM has reached is answered. -/
theorem State.spdm_of_served {n : Nat} {f : Part → State} (hstate : n ≤ (s.part p).spdmState) : s.spdm p n f = .next (f (s.part p)) := by
  unfold State.spdm
  rw [if_neg (by simp [hserved]), if_neg hstate.not_gt]

theorem execGetVersion_answers (hnone : (s.part p).spdm = none) : execGetVersion p s =
    .next ((s.modPart p (fun w => { w with spdmState := 1 })).spdmAnswer 0x04 [0x13] []) := by
  unfold execGetVersion
  rw [State.spdm_of_served hserved (Nat.zero_le _), hnone]
  rfl

theorem execGetCapabilities_answers (hstate : 1 ≤ (s.part p).spdmState) : execGetCapabilities p s =
    .next ((s.modPart p (fun w => { w with spdmState := max (s.part p).spdmState 2 })).spdmAnswer 0x61 [] (Config.standardAnswer 0x61 [])) :=
  State.spdm_of_served hserved hstate

theorem execNegotiateAlgorithms_answers (hstate : 2 ≤ (s.part p).spdmState) : execNegotiateAlgorithms p true s =
    .next ((s.modPart p (fun w => { w with spdmState := max (s.part p).spdmState 3 })).spdmAnswer 0x63 [0x9601, 0x9602, 0x9603] []) :=
  State.spdm_of_served hserved hstate

section
variable (hstate : 3 ≤ (s.part p).spdmState)
include hstate

theorem execGetDigests_answers : execGetDigests p s = .next (s.spdmAnswer 0x01 [if s.partKey p then 3 else 1]
    (([0, 1].filterMap (s.slotCert p)).flatMap (fun c => Config.shake256 c 64))) :=
  State.spdm_of_served hserved hstate

theorem execGetCertificate_answers {n : Nat} {c : List Byte} (hslot : s.slotCert p n = some c) :
    execGetCertificate p n s = .next (s.spdmAnswer 0x02 [n] c) := by
  unfold execGetCertificate
  rw [State.spdm_of_served hserved hstate]
  simp only [hslot]

theorem execChallenge_signs (hsign : s.noSigning = false) (nonce : List Byte) :
    execChallenge p nonce s = .next (s.spdmAnswer 0x03 [] (Config.mlDsaSign nonce)) := by
  unfold execChallenge
  rw [State.spdm_of_served hserved hstate, if_neg (Bool.eq_false_iff.mp hsign)]

theorem execGetMeasurements_answers {i : Nat} (hi : 1 ≤ i ∧ i ≤ 8 ∨ i = 16 + p) :
    execGetMeasurements p i false s = .next (s.spdmAnswer 0x60 [i] (s.sagger.value i ++ [])) := by
  unfold execGetMeasurements
  rw [State.spdm_of_served hserved hstate, if_neg (by simp; omega)]
  rfl

theorem execKeyExchange_opens {key : List Byte} (hnone : (s.part p).spdm = none) (hsign : s.noSigning = false) (hlocked : s.locked = false)
    (hkeys : s.sagger.erased = false) (hlen : key.length = 1184) : execKeyExchange p key s =
    .next (({ s with fresh := s.fresh + 1 }.modPart p (fun w => { w with
      spdm := some (Config.mlKemEncaps key s.fresh).2, spdmState := 4, spdmUpd := 0 })).spdmAnswer 0x64 []
        ((Config.mlKemEncaps key s.fresh).1 ++ Config.mlDsaSign (Config.mlKemEncaps key s.fresh).1)) := by
  unfold execKeyExchange
  rw [State.spdm_of_served hserved hstate, if_neg (by simp [hnone, hlen, hsign, hlocked, hkeys])]

end

theorem execFinish_secures (hstate : (s.part p).spdmState = 4) : execFinish p true s =
    .next ((s.modPart p (fun w => { w with spdmState := 5 })).spdmAnswer 0x65 [] []) := by
  unfold execFinish
  rw [State.spdm_of_served hserved hstate.ge, if_neg (by simp [hstate]), if_pos rfl]

section
variable (hstate : 5 ≤ (s.part p).spdmState)
include hstate

theorem execEndSession_ends : execEndSession p s =
    .next ((s.modPart p (fun w => { w with spdm := none, spdmState := 3, spdmUpd := 0 })).spdmAnswer 0x6C [] []) :=
  State.spdm_of_served hserved hstate

theorem execHeartbeat_answers : execHeartbeat p s = .next (s.spdmAnswer 0x68 [] []) := State.spdm_of_served hserved hstate

theorem execKeyUpdate_counts : execKeyUpdate p s =
    .next ((s.modPart p (fun w => { w with spdmUpd := w.spdmUpd + 1 })).spdmAnswer 0x69 [] []) :=
  State.spdm_of_served hserved hstate

theorem execTrustGet_answers : execTrustGet p s =
    .next (s.spdmAnswer 0x7E [1, (s.part p).trustCnt, (s.part p).trustList.length] (s.part p).trustList.flatten) :=
  State.spdm_of_served hserved hstate

theorem execIdeKm_sets (hscope : s.sagger.debugScope ≠ 3) (mem skid : Bool) : execIdeKm p mem skid s =
    .next ((s.modHead (s.part p).eff.head (fun h => { h with
      ideIo := h.ideIo || !mem, ideMem := h.ideMem || mem, skid := if mem then skid else h.skid })).spdmAnswer 0x7E [] []) := by
  unfold execIdeKm
  rw [State.spdm_of_served hserved hstate, if_neg hscope]

theorem execTrustSet_sets {cnt : Nat} {l : List (List Byte)} {sig : List Byte} (hsome : l ≠ []) (hlen : l.length ≤ 8)
    (hhash : ∀ h ∈ l, h.length = 32) (hcnt : cnt = (s.part p).trustCnt + 1)
    (hsig : Config.mlDsaVerify (leBytes 8 Config.serial.toNat ++ leBytes 1 p ++ leBytes 4 cnt ++ l.flatten) sig 2 (s.part p).trustList = true) :
    execTrustSet p cnt l sig s = .next ((s.modPart p (fun w => { w with trust := l, trustCnt := cnt })).spdmAnswer 0x7E [2, cnt] []) := by
  have hall : l.all (fun h => h.length = 32) = true := by simpa using hhash
  unfold execTrustSet
  rw [State.spdm_of_served hserved hstate, hsig, hall, if_neg (by simp [hsome, hlen, hcnt])]

theorem execKeyRotate_rotates (hplain : (s.part p).images.any (fun e => e.2.encrypted) = false) : execKeyRotate p s =
    .next ((s.modPart p (fun w => { w with genP := (w.genP + 1) % 2 ^ 32 })).spdmAnswer 0x7E [3, (s.part p).genP + 1] []) := by
  unfold execKeyRotate
  rw [State.spdm_of_served hserved hstate, if_neg (Bool.eq_false_iff.mp hplain)]

end
end

/-- Settles O23, each clause by the lemma of its request. -/
theorem spdmSessions : Obligations.SpdmSessions := by
  unfold Obligations.SpdmSessions
  refine ⟨fun s p hserved => ?_, fun s p hserved hstate => ?_⟩
  · intro v
    exact ⟨execGetVersion_answers hserved, execGetCapabilities_answers hserved, execNegotiateAlgorithms_answers hserved,
      fun h3 => ⟨execGetDigests_answers hserved h3, fun n c => execGetCertificate_answers hserved h3,
        execChallenge_signs hserved h3, fun i => execGetMeasurements_answers hserved h3,
        fun hnone hsign hlocked hkeys key => execKeyExchange_opens hserved h3 hnone hsign hlocked hkeys⟩,
      execFinish_secures hserved⟩
  · refine ⟨execEndSession_ends hserved hstate, execHeartbeat_answers hserved hstate, execKeyUpdate_counts hserved hstate,
      fun hscope => ⟨fun skid => ?_, fun skid => ?_⟩, execTrustGet_answers hserved hstate,
      fun cnt l sig => execTrustSet_sets hserved hstate, execKeyRotate_rotates hserved hstate⟩
    · have hio := execIdeKm_sets hserved hstate hscope false skid
      simp only [Bool.not_false, Bool.or_true, Bool.or_false, Bool.false_eq_true, if_false] at hio
      exact hio
    · have hmem := execIdeKm_sets hserved hstate hscope true skid
      simp only [Bool.not_true, Bool.or_true, Bool.or_false, if_true] at hmem
      exact hmem

end Sys2Proof.Machine
end

section
/-! Descriptors fetched and checked, completions posted, and the ends of queue resets and disables (16_scheduling R532, R533; 18_queues R565 to
R580, R590). -/

namespace Sys2Proof.Machine

/-! ## Fetches (18_queues R565 to R567, R570, R577, R578, R590) -/

/-- A fetch of an enabled queue whose completion slots are at hand. -/
theorem execDescriptorFetch_fetches {s : State} {p q n : Nat} {k : Queue} {d : List Byte} {e f : CmdE} {t : State}
    (hfetch : s.fetches p q = true) (hk : s.queue p q = k) (hd : s.descriptor k = d) (he : entryOf s.nextTag p q d = e)
    (hn : s.reserves k.cls d e = n) (hslots : n ≤ k.freeSlots)
    (hf : { e with resv := n, st := if e.pbLen = 0 then s.startSt e else .pbWait } = f)
    (ht : ({ s with nextTag := s.nextTag + 1, inflight := s.inflight ++ [f] }.count p Ctr.cmdFetched 1).modQueue p q (fun v => { v with
      sqHead := (if v.sqHead = v.sqSizeM1 then 0 else v.sqHead + 1), reserved := v.reserved + n }) = t) :
    (descriptorErr k.cls d e = 0 → execDescriptorFetch p q s = .next t) ∧
    (descriptorErr k.cls d e ≠ 0 → execDescriptorFetch p q s = .next (t.reject f (descriptorErr k.cls d e))) := by
  subst hk hd he hn hf ht
  have hgo : execDescriptorFetch p q s = _ := if_neg (by simp [hfetch, hslots.not_gt])
  rw [hgo]
  refine ⟨fun hok => by simp only [hok], fun hbad => ?_⟩
  split
  · exact absurd ‹_› hbad
  · rfl

/-! The order of steps 1 to 3 (18_queues R567). -/

section
variable {cls : Nat} {d : List Byte} {e : CmdE}

theorem descriptorErr_unknown (harea : areaFields e.opc = none) : descriptorErr cls d e = 0x0101 := by
  unfold descriptorErr
  rw [harea]

section
variable {l : List (Nat × Nat × Nat)} (harea : areaFields e.opc = some l)
include harea

theorem descriptorErr_class (hcls : opcClass e.opc ≠ cls) : descriptorErr cls d e = 0x0101 := by
  unfold descriptorErr
  rw [harea]
  exact if_pos hcls

variable (hcls : opcClass e.opc = cls)
include hcls

theorem descriptorErr_reserved (hrsv : 8 ≤ field d 1 1 ∨ resvOk l e.area = false) : descriptorErr cls d e = 0x0103 := by
  unfold descriptorErr
  simp only [harea, hcls, ne_eq, not_true_eq_false, if_false]
  exact if_pos (by simpa using hrsv)

variable (hflags : field d 1 1 < 8) (hrsv : resvOk l e.area = true)
include hflags hrsv

theorem descriptorErr_block : descriptorErr cls d e =
    if !pbLenOk e.opc e.pbLen || e.pbAddr % 16 ≠ 0 || (e.pbLen == 0 && e.pbAddr ≠ 0) then 0x0104 else 0 := by
  unfold descriptorErr
  simp only [harea, hcls, ne_eq, not_true_eq_false, if_false]
  exact if_neg (by simp [hflags.not_ge, hrsv])

end
end

section
variable {s : State} {r : Ref} {e : CmdE}

theorem execParameterBlockRead_starts {pb : List Byte} {t : State} (hat : s.at? r .pbWait = some e)
    (hread : s.readable e.part e.pbDua e.pbAddr e.pbLen = true) (hpb : s.bytesAt e.pbDua e.pbAddr e.pbLen = pb)
    (ht : s.seen e.part e.pbDua e.pbAddr e.pbLen = t) : execParameterBlockRead r s =
      if pbResvOk e.opc pb = true then .next (t.setCmd { e with pb := pb, st := t.startSt e })
      else .next (t.reject { e with pb := pb, st := t.startSt e } 0x0103) := by
  subst hpb ht
  unfold execParameterBlockRead
  simp only [hat, State.paramBlock, State.readBuf_of_readable hread]

theorem execOrderedStart_starts (hat : s.at? r .ordWait = some e) (hready : s.startSt e = .ready) :
    execOrderedStart r s = .next (s.setCmd { e with st := .ready }) := by
  unfold execOrderedStart
  simp only [hat, hready]
  rfl

theorem State.readFails_fetch {p q : Nat} (hfetch : s.fetches p q = true) (status : Nat) : s.readFails p q none status =
    (((s.modQueue p q (fun v => { v with state := .fetchError })).count p Ctr.fetchErrors 1).raise p 128).logEv 5 2 p q q 0 :=
  if_neg (by simp [hfetch])

theorem State.readFails_command {p q cid : Nat} (status : Nat)
    (hfind : s.inflight.find? (fun c => c.part = p && c.queue = q && c.cid = cid && (c.st == .pbWait || c.st == .ready)) = some e) :
    s.readFails p q (some cid) status = s.reject e status := by
  unfold State.readFails
  simp only [hfind]

end

/-- Settles O7, each clause by the lemma of its row. -/
theorem descriptorsAreFetchedAndChecked : Obligations.DescriptorsAreFetchedAndChecked := by
  unfold Obligations.DescriptorsAreFetchedAndChecked
  refine ⟨fun s p q hfetch => ?_, fun cls d e => ⟨descriptorErr_unknown, fun l harea => ⟨descriptorErr_class harea, fun hcls =>
    ⟨descriptorErr_reserved harea hcls, fun hflags hrsv => ?_⟩⟩⟩, fun s r e => ⟨fun hat hread => ?_, execOrderedStart_starts⟩,
    fun s p q cid e => ⟨fun hfetch => ?_, fun hfind => ?_⟩⟩
  · intro k d e n f t hslots
    exact execDescriptorFetch_fetches hfetch rfl rfl rfl rfl hslots rfl rfl
  · rw [descriptorErr_block harea hcls hflags hrsv]
    refine ⟨fun hbad => if_pos (by simpa [or_assoc] using hbad), fun hlen halign haddr => if_neg ?_⟩
    simpa [hlen, halign] using haddr
  · intro pb t
    have hstarts := execParameterBlockRead_starts hat hread rfl rfl
    exact ⟨fun hok => hstarts.trans (if_pos hok), fun hbad => hstarts.trans (if_neg (Bool.eq_false_iff.mp hbad))⟩
  · intro t
    exact ⟨congrArg _ (State.readFails_fetch hfetch _), fun k => congrArg _ (State.readFails_fetch hfetch _)⟩
  · exact ⟨congrArg _ (State.readFails_command _ hfind), congrArg _ (State.readFails_command _ hfind),
      congrArg _ (State.readFails_command _ hfind), congrArg _ (State.readFails_command _ hfind)⟩

/-! ## Completions (18_queues R569 to R572) -/

theorem leBytes_length (n v : Nat) : (leBytes n v).length = n := by
  induction n generalizing v with
  | zero => rfl
  | succ n ih => rw [leBytes, List.length_cons, ih]

theorem cplBytes_length (e : CmdE) (k : Queue) (stage : Option Nat) (status result turn : Nat) :
    (cplBytes e k stage status result turn).length = 32 := by
  simp [cplBytes, leBytes_length, zeros]

/-- Reading back all the bytes written. -/
theorem Mem.readN_writeN {m : Mem} (h : Mem.wf m = true) (a : Nat) (bs : List Byte) :
    Mem.readN (Mem.writeN m a bs) a bs.length = bs := by
  refine List.ext_getElem (Mem.readN_length ..) fun i hi hi' => ?_
  simp only [Mem.readN, List.getElem_map, List.getElem_range]
  exact Mem.read_writeN_inside h a bs i hi'

theorem State.hostPut_hostMem (s : State) (a : Nat) (bs : List Byte) : (s.hostPut a bs).hostMem = s.hostMem.writeN a bs := rfl

/-! A completion's count, vector and match leave host memory and the queues as they are. -/

theorem State.announced_parts (u : State) (p c v status : Nat) :
    (((u.count p c 1).due p v).matcher p status).parts = (u.count p c 1).parts := by
  obtain ⟨m, hm⟩ := State.matcher_eq ((u.count p c 1).due p v) p status
  obtain ⟨d, hd⟩ := State.due_eq (u.count p c 1) p v
  rw [congrArg State.parts hm, congrArg State.parts hd]

theorem State.announced_hostMem (u : State) (p c v status : Nat) : (((u.count p c 1).due p v).matcher p status).hostMem = u.hostMem := by
  obtain ⟨m, hm⟩ := State.matcher_eq ((u.count p c 1).due p v) p status
  obtain ⟨d, hd⟩ := State.due_eq (u.count p c 1) p v
  rw [congrArg State.hostMem hm, congrArg State.hostMem hd, State.count_hostMem]

theorem State.announced_queue (u : State) (p c v status q k : Nat) :
    (((u.count p c 1).due p v).matcher p status).queue q k = u.queue q k := by
  unfold State.queue
  rw [State.matcher_part, State.due_part]
  exact State.count_keeps (fun v => KMap.findD v.queues k {}) (fun _ _ => rfl) u p c 1 q

/-! A queue that is there stays there. -/

/-- The state holds queue q of partition p. -/
def State.hasQueue (s : State) (p q : Nat) : Prop :=
  (KMap.find s.parts p).isSome = true ∧ (KMap.find (s.part p).queues q).isSome = true

theorem KMap.mod_isSome {α : Type} (m : KMap α) (k j : Nat) (f : α → α) : (KMap.find (KMap.mod m k f) j).isSome = (KMap.find m j).isSome := by
  by_cases h : j = k
  · rw [h, KMap.find_mod_same, Option.isSome_map]
  · rw [KMap.find_mod_other _ _ h]

section
variable {s : State} {p q : Nat}

theorem State.hasQueue_modPart (h : s.hasQueue p q) {r : Nat} {f : Part → Part} (hf : ∀ v, (f v).queues = v.queues) :
    (s.modPart r f).hasQueue p q :=
  ⟨State.modPart_isSome h.1, by rw [State.modPart_keeps Part.queues hf]; exact h.2⟩

theorem State.hasQueue_count (h : s.hasQueue p q) (r c n : Nat) : (s.count r c n).hasQueue p q := State.hasQueue_modPart h fun _ => rfl

theorem State.hasQueue_modQueue (h : s.hasQueue p q) (p' q' : Nat) (f : Queue → Queue) : (s.modQueue p' q' f).hasQueue p q :=
  ⟨State.modPart_isSome h.1, (State.modPart_keeps (fun v => (KMap.find v.queues q).isSome)
    (fun v => KMap.mod_isSome v.queues q' q f) s p' p).trans h.2⟩

theorem State.hasQueue_congr {t : State} (h : s.hasQueue p q) (hparts : t.parts = s.parts) : t.hasQueue p q := by
  unfold State.hasQueue State.part at *
  rw [hparts]
  exact h

theorem State.hasQueue_post (h : s.hasQueue p q) (e : CmdE) (stage : Option Nat) (status result : Nat) :
    (s.post e stage status result).hasQueue p q := by
  unfold State.post
  split_ifs
  · exact h
  · exact State.hasQueue_count h ..
  · refine State.hasQueue_congr (State.hasQueue_count ?_ ..) (State.announced_parts ..)
    unfold State.cplWrite
    exact State.hasQueue_modQueue (s := s.hostPut ..) h ..

theorem State.hasQueue_done (h : s.hasQueue p q) (e : CmdE) (status result : Nat) : (s.done e status result).hasQueue p q := by
  unfold State.done
  split_ifs
  · exact State.hasQueue_modQueue (s := { s with inflight := _ }) h ..
  · exact State.hasQueue_modQueue (s := { s.post e none status result with inflight := _ }) (State.hasQueue_post h ..) ..

end

section
variable {s : State} {e : CmdE}

section
variable (hlive : s.ringsLive = true) (hring : s.ringOk e.part e.queue = true)
include hlive hring

theorem State.post_posts (stage : Option Nat) (status result : Nat) : s.post e stage status result =
    (((s.cplWrite e stage status result).count e.part Ctr.cplPosted 1).due e.part (s.queue e.part e.queue).vector).matcher e.part
      status := by
  unfold State.post
  rw [if_neg (by simp [hlive]), if_neg (by simp [hring])]

theorem State.post_hostMem (stage : Option Nat) (status result : Nat) : (s.post e stage status result).hostMem =
    s.hostMem.writeN (s.queue e.part e.queue).cplSlot (cplBytes e (s.queue e.part e.queue) stage status result s.turn) := by
  rw [State.post_posts hlive hring, State.announced_hostMem]
  unfold State.cplWrite
  rw [State.modQueue_hostMem, State.hostPut_hostMem]

/-- The queue of a completion posted stands at its next slot. -/
theorem State.post_queue (hpart : (KMap.find s.parts e.part).isSome = true)
    (hqueue : (KMap.find (s.part e.part).queues e.queue).isSome = true) (stage : Option Nat) (status result : Nat) :
    (s.post e stage status result).queue e.part e.queue = (s.queue e.part e.queue).cplNext := by
  rw [State.post_posts hlive hring, State.announced_queue]
  unfold State.cplWrite
  rw [State.modQueue_same (s := s.hostPut ..) hpart (by rw [State.hostPut_part]; exact hqueue)]
  unfold State.queue
  rw [State.hostPut_part]

end

theorem State.done_quiet {status : Nat} (result : Nat) (hquiet : e.quiet = true) (hok : status = 0) : s.done e status result =
    { s with inflight := s.inflight.filter (fun c => c.tag ≠ e.tag) }.modQueue e.part e.queue
      (fun v => { v with reserved := v.reserved - e.resv }) := by
  unfold State.done
  simp only [hquiet, hok, decide_true, Bool.and_self, if_true]

theorem State.done_posts {status : Nat} (result : Nat) (hloud : e.quiet = false ∨ status ≠ 0) : s.done e status result =
    { s.post e none status result with
      inflight := (s.post e none status result).inflight.filter (fun c => c.tag ≠ e.tag) }.modQueue e.part e.queue
        (fun v => { v with reserved := v.reserved - e.resv }) := by
  have hloud' : ¬ (e.quiet && decide (status = 0)) = true := by
    rcases hloud with h | h <;> simp [h]
  unfold State.done
  rw [if_neg hloud']

/-- A command that is there is found changed. -/
theorem State.cmd_setCmd {c : CmdE} (hc : s.cmd e.tag = some c) : (s.setCmd e).cmd e.tag = some e := by
  have htag : c.tag = e.tag := by simpa using List.find?_some hc
  have hsame : ((fun x : CmdE => decide (x.tag = e.tag)) ∘ fun x => if x.tag = e.tag then e else x) = fun x => decide (x.tag = e.tag) := by
    funext x
    by_cases hx : x.tag = e.tag <;> simp [hx]
  unfold State.cmd at hc
  unfold State.cmd State.setCmd
  rw [List.find?_map, hsame, hc, Option.map_some, if_pos htag]

/-- A per-stage completion leaves its command there, with one slot of its reservation given back (18_queues R572). -/
theorem State.stageOver_cmd (n status result : Nat) (hcmd : s.cmd e.tag = some e) :
    (s.stageOver e n status result).cmd e.tag = some { e with resv := e.resv - 1 } := by
  obtain ⟨_, _, _, _, hpost, -⟩ := State.post_eq s e (some n) status result
  have hthere : (s.post e (some n) status result).cmd e.tag = some e := by rw [hpost]; exact hcmd
  have hentry : (s.post e (some n) status result).entry e = e := by rw [State.entry, hthere, Option.getD_some]
  unfold State.stageOver State.slotBack
  rw [hentry]
  exact State.cmd_setCmd (e := { e with resv := e.resv - 1 }) hthere

theorem State.stageOver_reserved (n status result : Nat) (h : s.hasQueue e.part e.queue) :
    ((s.stageOver e n status result).queue e.part e.queue).reserved = (s.queue e.part e.queue).reserved - 1 := by
  have hthere := State.hasQueue_post h e (some n) status result
  have hkept := State.post_queue_keeps Queue.reserved (fun _ => rfl) s e (some n) status result e.part e.queue
  unfold State.stageOver State.slotBack
  rw [State.modQueue_same (s := State.setCmd ..) hthere.1 hthere.2]
  exact congrArg (· - 1) hkept

end

/-- Settles O9, by the slot that a completion is written to, and by the queue and the command after it. -/
theorem completionsArePosted : Obligations.CompletionsArePosted := by
  unfold Obligations.CompletionsArePosted
  refine ⟨fun s e status result hcan hlive hring hpart hqueue => ?_, fun s e status result => ⟨fun c hc => ?_, State.done_quiet result,
    State.done_posts result, fun n hpart hqueue hcmd => ⟨State.stageOver_cmd n status result hcmd,
      State.stageOver_reserved n status result ⟨hpart, hqueue⟩⟩⟩⟩
  · intro k t
    obtain ⟨_, _, _, _, hpost, -⟩ : ∃ hm ps vd m, t = _ ∧ _ := State.post_eq s e none status result
    have hmem : t.hostMem = s.hostMem.writeN k.cplSlot (cplBytes e k none status result s.turn) :=
      State.post_hostMem hlive hring none status result
    have hnext : t.queue e.part e.queue = k.cplNext := State.post_queue hlive hring hpart hqueue none status result
    have hlen := cplBytes_length e k none status result s.turn
    refine ⟨?_, fun a ha => ?_, by rw [hpost], by rw [hpost], by rw [hpost], by rw [hpost],
      by rw [hnext]; rfl, by rw [hnext]; rfl⟩
    · rw [hmem, ← hlen]
      exact Mem.readN_writeN hcan.1 ..
    · rw [hmem, Mem.read_writeN_outside _ _ _ (by rw [hlen]; exact ha)]
  · simpa using hc

/-! ## Queue reset and disable end (16_scheduling R532, R533; 18_queues R580) -/

theorem State.abort_keeps {β : Type} (π : State → β) (hdone : ∀ s e status result, π (State.done s e status result) = π s) (s : State)
    (waits : CmdE → Bool) (status : Nat) : π (s.abort waits status) = π s :=
  foldl_keeps (f := fun t e => t.done e status 0) π (fun t e => hdone t e status 0) (s.inflight.filter waits) s

theorem State.hasQueue_abort {s : State} {p q : Nat} (h : s.hasQueue p q) (waits : CmdE → Bool) (status : Nat) :
    (s.abort waits status).hasQueue p q := by
  unfold State.abort
  induction s.inflight.filter waits generalizing s with
  | nil => exact h
  | cons e l ih => exact ih (State.hasQueue_done h e status 0)

section
variable {s : State} {r : Ref} {a : HArgs} {e : CmdE}

theorem execQueueReset_resets {waits : CmdE → Bool} {t : State} (hs : s.starts r 0x01 e = true) (ha : argsH e.area = a)
    (hlow : 0 < a.handle) (hhigh : a.handle < 64)
    (hstate : (s.queue e.part a.handle).state = .enabled ∨ (s.queue e.part a.handle).state = .fetchError)
    (hwaits : (fun (c : CmdE) => decide (c.part = e.part) && decide (c.queue = a.handle) && !(c.st == .running)) = waits)
    (ht : s.abort waits Code.abortedByReset = t) : execQueueReset r a s =
    .next (((t.cancelAt (fun _ v => t.onQueue e.part a.handle v) s.boundaryAfter).modQueue e.part a.handle
      (fun v => { v with state := .resetting, tb := s.boundaryAfter, ptbReset := e.tag
                         aborted := (s.inflight.filter waits).length })).keep { e with aux := [a.handle] }) := by
  subst hwaits ht
  unfold execQueueReset
  rw [State.command_of_starts hs (by simp [ha])]
  refine congrArg _ (State.checked_pass (firstBad_none ?_))
  rcases hstate with hstate | hstate <;> simp [hstate, hhigh, hlow.ne']

/-- A queue changed in a state whose commands are then changed. -/
theorem State.keep_queue (hthere : s.hasQueue e.part a.handle) (f : Queue → Queue) (c : CmdE) :
    ((s.modQueue e.part a.handle f).keep c).queue e.part a.handle = f (s.queue e.part a.handle) :=
  State.modQueue_same hthere.1 hthere.2

end

section
variable {s : State} {p q : Nat}

theorem execQueueResetDone_ends {t : State} (hstate : (s.queue p q).state = .resetting) (hturn : (s.queue p q).tb ≤ s.turn)
    (hidle : s.inflight.any (fun c => c.part = p && c.queue = q) = false)
    (ht : ((s.modQueue p q (fun v => { v.cleared .enabled with ptbReset := 0, aborted := 0 })).count p Ctr.queueResets 1).raise p 128 = t) :
    (s.cmd (s.queue p q).ptbReset = none → execQueueResetDone p q s = .next t) ∧
    (∀ e, s.cmd (s.queue p q).ptbReset = some e → execQueueResetDone p q s = .next (t.done e 0 (s.queue p q).aborted)) := by
  have hcmd : ∀ tag, t.cmd tag = s.cmd tag := by
    intro tag
    obtain ⟨l, hl⟩ := State.raise_eq
      ((s.modQueue p q (fun v => { v.cleared .enabled with ptbReset := 0, aborted := 0 })).count p Ctr.queueResets 1) p 128
    unfold State.cmd
    rw [← ht, hl]
    rfl
  unfold execQueueResetDone
  simp only [hstate, hidle, hturn.not_gt, ht, hcmd]
  exact ⟨fun hnone => by rw [hnone]; rfl, fun e hsome => by rw [hsome]; rfl⟩

theorem execDisablePendingClear_queue (hstate : (s.queue p q).state = .disablePending) (hturn : (s.queue p q).tb ≤ s.turn)
    (hidle : s.inflight.any (fun c => c.part = p && c.queue = q) = false) :
    execDisablePendingClear p (some q) s = .next ((s.modQueue p q (fun w => w.cleared .disabled)).raise p 128) := by
  unfold execDisablePendingClear
  simp only [hstate, hidle, hturn.not_gt]
  rfl

theorem execDisablePendingClear_part (hpending : (s.part p).disablePending = true) (hturn : (s.part p).tb ≤ s.turn)
    (hidle : s.inflight.any (fun c => c.part = p) = false) : execDisablePendingClear p none s = .next ((s.modPart p (fun w => { w with
      disablePending := false, saveArea := 0
      queues := KMap.each w.queues (fun _ k => { k.cleared .disabled with enable := false }) })).raise p 128) := by
  unfold execDisablePendingClear
  simp only [hpending, hidle, hturn.not_gt]
  rfl

end

/-- Settles O8, each clause by the lemma of its row. -/
theorem queueResetAndDisableEnd : Obligations.QueueResetAndDisableEnd := by
  unfold Obligations.QueueResetAndDisableEnd
  refine fun s => ⟨fun r a e hs ha hlow hhigh hstate => ?_, fun p q hstate hturn hidle => ?_, fun p q => execDisablePendingClear_queue,
    fun p => execDisablePendingClear_part⟩
  · intro waits t
    have hresets := execQueueReset_resets hs ha hlow hhigh hstate (waits := waits) (t := t) rfl rfl
    refine ⟨hresets, State.abort_keeps State.dev State.done_dev .., State.abort_keeps State.wheel State.done_wheel ..,
      State.abort_keeps State.sessions State.done_sessions .., fun hpart hqueue => ⟨_, hresets, ?_⟩⟩
    have hthere : (t.cancelAt (fun _ v => t.onQueue e.part a.handle v) s.boundaryAfter).hasQueue e.part a.handle :=
      State.hasQueue_congr (State.hasQueue_abort ⟨hpart, hqueue⟩ waits Code.abortedByReset) rfl
    rw [State.keep_queue hthere]
    exact ⟨rfl, rfl⟩
  · intro t
    exact execQueueResetDone_ends hstate hturn hidle rfl

end Sys2Proof.Machine
end

section
/-! The boundary opens a turn and the window end commits it (11_text_engine R389 to R391; 13_serving R433, R440, R445, R453; 14_speculation R477;
15_wheel R491 to R497; 16_scheduling R509, R510, R519, R523; 18_queues R573 to R575; 19_registers R597; 22_security R671). -/

namespace Sys2Proof.Machine

/-! ## The boundary (15_wheel R491 to R494) -/

/-- The wheel without the fields of its pace. -/
def Wheel.unpaced (w : Wheel) : Wheel :=
  { w with pace := 0, ppsGood := 0, slewing := false, lockDue := false, holdMs := 0, holdAt := 0 }

/-- What a change of pace leaves alone: the rest of the wheel, the partitions, the sessions and host memory. -/
def State.turnView (s : State) : Wheel × KMap Part × KMap Session × Mem := (s.wheel.unpaced, s.parts, s.sessions, s.hostMem)

section
variable (s : State)

theorem State.devCount_turnView (c n : Nat) : (s.devCount c n).turnView = s.turnView := rfl

theorem State.holdTime_turnView : s.holdTime.turnView = s.turnView := by
  unfold State.holdTime
  split <;> rfl

theorem State.platformEvent_turnView (id : Nat) (v : Int) : (s.platformEvent id v).turnView = s.turnView := by
  obtain ⟨m, hm⟩ := State.platformEvent_eq s id v
  rw [hm]
  rfl

theorem State.setPace_turnView (x : Nat) : (s.setPace x).turnView = s.turnView := by
  unfold State.setPace
  dsimp only
  generalize hu : State.platformEvent _ 257 _ = u
  have hview : u.turnView = s.turnView := by
    rw [← hu, State.platformEvent_turnView]
    exact State.holdTime_turnView s
  split <;> exact hview

/-- A turn's counts and its lock leave the view as it is. -/
theorem State.turnOver_turnView (a b c : Bool) : (let u := if a then s.devCount Ctr.transitionTurns 1 else s
    let u := if b then u.devCount Ctr.slewTurns 1 else u
    if c then u.setPace 0 else u).turnView = s.turnView := by
  cases a <;> cases b <;> cases c <;> simp only [Bool.false_eq_true, if_true, if_false, State.setPace_turnView, State.devCount_turnView]

theorem State.wheelTurn_turnView : ∃ w : Wheel, s.wheelTurn.turnView = (w.unpaced, s.parts, s.sessions, s.hostMem) ∧
    w.turn = (if s.wheel.started = true then (s.wheel.turn + 1) % 2 ^ 64 else 0) ∧ w.now = 0 ∧ w.commit = false ∧ w.released = false ∧
    w.started = true ∧ w.turnPeriod = s.wheel.turnPeriodWr ∧ w.commitWin = s.wheel.commitWinWr ∧
    w.base = (if s.wheel.started = true then s.wheel.base + s.wheel.len else s.wheel.base) := by
  have hview := State.holdTime_turnView { s with wheel := { s.wheel with now := s.wheel.len } }
  unfold State.wheelTurn
  generalize State.holdTime { s with wheel := { s.wheel with now := s.wheel.len } } = t at hview ⊢
  simp only [State.turnView, Prod.mk.injEq] at hview
  obtain ⟨hwheel, hparts, hsess, hmem⟩ := hview
  have hstarted : t.wheel.started = s.wheel.started := (congrArg Wheel.started hwheel :)
  have hturn : t.wheel.turn = s.wheel.turn := (congrArg Wheel.turn hwheel :)
  have hperiod : t.wheel.turnPeriodWr = s.wheel.turnPeriodWr := (congrArg Wheel.turnPeriodWr hwheel :)
  have hcommit : t.wheel.commitWinWr = s.wheel.commitWinWr := (congrArg Wheel.commitWinWr hwheel :)
  have hbase : t.wheel.base = s.wheel.base := (congrArg Wheel.base hwheel :)
  have hlen : t.wheel.len = s.wheel.len := (congrArg Wheel.len hwheel :)
  refine ⟨_, (State.turnOver_turnView _ _ _ _).trans (by rw [← hparts, ← hsess, ← hmem]; rfl), ?_, ?_, ?_, ?_, ?_, ?_, ?_, ?_⟩
  · rw [← hstarted, ← hturn]
  · rfl
  · rfl
  · rfl
  · rfl
  · exact hperiod
  · exact hcommit
  · rw [← hstarted, ← hbase, ← hlen]

end

/-- Save-area slots that a lowered TILE_LIMIT leaves over are freed (16_scheduling R523). -/
theorem State.trimSave_saveArea {x : State} {p : Nat} (hpart : (KMap.find x.parts p).isSome = true) : ((x.trimSave p).part p).saveArea =
    if (x.part p).en = true then min (x.part p).saveArea (max (x.part p).wr.tileLimit (x.slotsNeeded p)) else (x.part p).saveArea := by
  unfold State.trimSave
  rw [State.modPart_same hpart]
  split <;> rfl

/-- A boundary of a module that is up, after the commit that it runs where none has told it. -/
theorem execTurnBoundary_turns {s o u : State} (hup : s.stage ≠ .off) (hda : s.daUp = true)
    (ho : (if s.wheel.started && !s.wheel.commit && !s.moduleLost then s.windowEnd else s) = o)
    (hu : ((State.disables { { o.glazesOver.wheelTurn with vectors := [] } with
      parts := KMap.each { o.glazesOver.wheelTurn with vectors := [] }.parts (fun _ v => v.turn) }).salts o).lock = u) :
    execTurnBoundary s = if u.locked || u.moduleLost then .next u
      else .next ((KMap.keys ((KMap.keys u.sessions).foldl State.letIn u).preemptions.parts).foldl State.trimSave
        ((KMap.keys u.sessions).foldl State.letIn u).preemptions) := by
  subst ho hu
  exact if_neg (by simp [hup, hda])

/-- Settles O56, by the branches of the boundary, and by the wheel's own step. -/
theorem theBoundaryOpensATurn : Obligations.TheBoundaryOpensATurn := by
  unfold Obligations.TheBoundaryOpensATurn
  intro s
  obtain ⟨w, hview, hturn, hnow, hcommit, hreleased, hstarted, hperiod, hwin, hbase⟩ := State.wheelTurn_turnView s
  simp only [State.turnView, Prod.mk.injEq] at hview
  obtain ⟨hwheel, hparts, hsess, hmem⟩ := hview
  refine ⟨fun hup hda => ?_, (congrArg Wheel.turn hwheel :).trans hturn, (congrArg Wheel.now hwheel :).trans hnow,
    (congrArg Wheel.commit hwheel :).trans hcommit, (congrArg Wheel.released hwheel :).trans hreleased,
    (congrArg Wheel.started hwheel :).trans hstarted, (congrArg Wheel.turnPeriod hwheel :).trans hperiod,
    (congrArg Wheel.commitWin hwheel :).trans hwin, fun hs => (congrArg Wheel.base hwheel :).trans (hbase.trans (if_pos hs)),
    hparts, hsess, hmem, fun v => ⟨rfl, rfl, rfl, by simp [Part.turn], rfl, rfl⟩⟩
  intro o w t u
  have hturns := execTurnBoundary_turns hup hda (o := o) (u := u) rfl rfl
  refine ⟨fun hlocked hlost => ?_, fun x p => State.trimSave_saveArea, fun hlocked => ?_⟩
  · intro x
    exact hturns.trans (if_neg (by simp [hlocked, hlost]))
  · exact hturns.trans (if_pos (by simp [hlocked]))

end Sys2Proof.Machine
end

section
/-! The window end commits the turn (11_text_engine R389 to R391; 13_serving R433, R453; 14_speculation R477; 15_wheel R495 to R497; 18_queues R573
to R575). -/

namespace Sys2Proof.Machine

/-! ## The end of the compute window -/

section
variable (s : State)

theorem State.due_batches (p v : Nat) : (s.due p v).batches = s.batches := by
  obtain ⟨d, hd⟩ := State.due_eq s p v
  rw [hd]

theorem State.raise_batches (p v : Nat) : (s.raise p v).batches = s.batches := by
  obtain ⟨l, hl⟩ := State.raise_eq s p v
  rw [hl]

theorem State.tail_batches (p q : Nat) : (s.tail p q).batches = s.batches := by
  unfold State.tail
  simp only [apply_ite State.batches, State.due_batches, State.modQueue_batches, ite_self]

theorem State.raises_batches (l : List (Nat × Nat)) : (l.foldl (fun (a : State) e => a.raise e.1 e.2) s).batches = s.batches :=
  foldl_keeps State.batches (fun a e => a.raise_batches e.1 e.2) l s

theorem State.tails_batches (p : Nat) (l : List Nat) : (l.foldl (fun (a : State) q => a.tail p q) s).batches = s.batches :=
  foldl_keeps State.batches (fun a q => a.tail_batches p q) l s

theorem State.allTails_batches (l : KMap Part) :
    (l.foldl (fun (a : State) e => (KMap.keys e.2.queues).foldl (fun (b : State) q => b.tail e.1 q) a) s).batches = s.batches :=
  foldl_keeps State.batches (fun a (e : Nat × Part) => a.tails_batches e.1 (KMap.keys e.2.queues)) l s

theorem State.signal_batches : s.signal.batches = s.batches := by
  simp only [State.signal, State.raises_batches, State.allTails_batches]

theorem State.signal_vecDue : s.signal.vecDue = [] := rfl

theorem State.endBatches_batches : s.endBatches.batches = [] := rfl

/-- The commit leaves no batch, no vector due and the commit window open. -/
theorem State.windowEnd_commits : s.windowEnd.wheel.commit = true ∧ s.windowEnd.batches = [] ∧ s.windowEnd.vecDue = [] := by
  unfold State.windowEnd
  dsimp only
  generalize List.foldl State.commitSession _ _ = u
  exact ⟨rfl, u.endBatches.signal_batches.trans u.endBatches_batches, u.endBatches.signal_vecDue⟩

end

/-! ## Stream records (13_serving R453; 18_queues R573 to R575) -/

theorem leNat_leBytes {n v : Nat} (h : v < 256 ^ n) : leNat (leBytes n v) = v := by
  induction n generalizing v with
  | zero => simp at h; simp [h, leBytes, leNat]
  | succ n ih =>
    rw [leBytes, leNat, ih (by rw [pow_succ] at h; omega), BitVec.toNat_ofNat]
    omega

/-- A field that stands in a list between a part of its offset's length and a rest. -/
theorem field_append {pre rest : List Byte} {o n v : Nat} (ho : pre.length = o) (hv : v < 256 ^ n) :
    field (pre ++ (leBytes n v ++ rest)) o n = v := by
  subst ho
  rw [field, List.drop_left, List.take_left' (leBytes_length n v), leNat_leBytes hv]

theorem roundUp_bounds (a : Nat) {b : Nat} (hb : 0 < b) : roundUp a b % b = 0 ∧ a ≤ roundUp a b ∧ roundUp a b < a + b := by
  unfold roundUp ceilDiv
  have hdiv := Nat.div_add_mod (a + b - 1) b
  have hmod := Nat.mod_lt (a + b - 1) hb
  rw [Nat.mul_comm] at hdiv
  exact ⟨Nat.mul_mod_left .., by omega, by omega⟩

/-- A stream record's body: the text, filled to a multiple of 4 bytes, and the tokens. -/
def recordBody (bytes : List Byte) (ids : List Nat) : List Byte :=
  bytes ++ zeros (roundUp bytes.length 4 - bytes.length) ++ ids.flatMap (leBytes 4)

theorem recordBody_length (bytes : List Byte) (ids : List Nat) :
    (recordBody bytes ids).length = roundUp bytes.length 4 + 4 * ids.length := by
  have hpad := (roundUp_bounds bytes.length (b := 4) (by decide)).2.1
  have hids : (ids.flatMap (leBytes 4)).length = 4 * ids.length := by
    simp [List.length_flatMap, leBytes_length, Nat.mul_comm]
  simp only [recordBody, List.length_append, zeros, List.length_replicate, hids]
  omega

section
variable (fl st i gs tn fired tot : Nat) (bytes : List Byte) (ids : List Nat)

/-- The length of a stream record. -/
def recordLen : Nat := roundUp (40 + (recordBody bytes ids).length) 16

/-- A stream record's fields, one after another. -/
theorem streamRecord_eq : streamRecord fl st i gs tn fired tot bytes ids =
    leBytes 4 (recordLen bytes ids) ++ leBytes 2 fl ++ leBytes 2 st ++ leBytes 4 i ++ leBytes 4 gs ++ leBytes 8 tn ++ leBytes 2 fired ++
      leBytes 2 bytes.length ++ leBytes 4 ids.length ++ leBytes 4 tot ++ zeros 4 ++ recordBody bytes ids ++
      zeros (recordLen bytes ids - 40 - (recordBody bytes ids).length) := rfl

theorem recordLen_bounds : recordLen bytes ids % 16 = 0 ∧ 40 + (recordBody bytes ids).length ≤ recordLen bytes ids ∧
    40 + bytes.length + 4 * ids.length ≤ recordLen bytes ids ∧ recordLen bytes ids < 40 + bytes.length + 4 * ids.length + 19 := by
  obtain ⟨-, hlow, hhigh⟩ := roundUp_bounds bytes.length (b := 4) (by decide)
  obtain ⟨hdvd, hlow', hhigh'⟩ := roundUp_bounds (40 + (recordBody bytes ids).length) (b := 16) (by decide)
  have hbody := recordBody_length bytes ids
  unfold recordLen
  omega

theorem streamRecord_length : (streamRecord fl st i gs tn fired tot bytes ids).length = recordLen bytes ids := by
  obtain ⟨-, hlow, -⟩ := recordLen_bounds bytes ids
  rw [streamRecord_eq]
  simp only [List.length_append, leBytes_length, zeros, List.length_replicate]
  omega

theorem streamRecord_len (hlen : recordLen bytes ids < 2 ^ 32) :
    field (streamRecord fl st i gs tn fired tot bytes ids) 0 4 = recordLen bytes ids := by
  rw [streamRecord_eq]
  simp only [List.append_assoc]
  exact field_append (pre := []) rfl (by omega)

theorem streamRecord_byteCnt (hlen : bytes.length < 2 ^ 16) :
    field (streamRecord fl st i gs tn fired tot bytes ids) 26 2 = bytes.length := by
  have hsplit : streamRecord fl st i gs tn fired tot bytes ids =
      (leBytes 4 (recordLen bytes ids) ++ leBytes 2 fl ++ leBytes 2 st ++ leBytes 4 i ++ leBytes 4 gs ++ leBytes 8 tn ++ leBytes 2 fired) ++
        (leBytes 2 bytes.length ++ (leBytes 4 ids.length ++ leBytes 4 tot ++ zeros 4 ++ recordBody bytes ids ++
          zeros (recordLen bytes ids - 40 - (recordBody bytes ids).length))) := by
    rw [streamRecord_eq]
    simp only [List.append_assoc]
  rw [hsplit]
  exact field_append (by simp only [List.length_append, leBytes_length]) (by omega)

theorem streamRecord_text : ((streamRecord fl st i gs tn fired tot bytes ids).drop 40).take bytes.length = bytes := by
  rw [streamRecord_eq, List.append_assoc, List.drop_left' (by simp only [List.length_append, leBytes_length, zeros, List.length_replicate]),
    recordBody]
  simp only [List.append_assoc]
  exact List.take_left' rfl

end

/-! A record written to a ring stays in it. -/

theorem padRecord_length {n : Nat} (h : 12 ≤ n) : (padRecord n).length = n := by
  simp only [padRecord, List.length_append, leBytes_length, zeros, List.length_replicate]
  omega

theorem ring_size_aligned {n : Nat} (h : 16 ≤ 2 ^ n) : 2 ^ n % 16 = 0 := by
  have hn : 4 ≤ n := (Nat.pow_le_pow_iff_right (a := 2) (by decide)).mp (by simpa using h)
  obtain ⟨m, rfl⟩ := Nat.exists_eq_add_of_le hn
  rw [pow_add]
  exact Nat.mul_mod_right ..

theorem State.putRecord_outside {s : State} {p q a : Nat} {bs : List Byte} {k : Queue} {size : Nat} (hk : s.queue p q = k)
    (hsize : 2 ^ k.strLog2 = size) (hwr : k.strWr < size) (hlen : bs.length ≤ size) (halign : k.strWr % 16 = 0) (hmin : 16 ≤ size)
    (ha : a < k.sqBase ∨ k.sqBase + size ≤ a) : (s.putRecord p q bs).hostMem.read a = s.hostMem.read a := by
  have hmod : size % 16 = 0 := by
    rw [← hsize]
    exact ring_size_aligned (by rw [hsize]; exact hmin)
  unfold State.putRecord
  simp only [hk, hsize]
  split
  · rfl
  split
  · rfl
  by_cases hwrap : size < k.strWr + bs.length
  · have hpad : size - k.strWr ≠ 0 := by omega
    have hout : a < k.sqBase + k.strWr ∨ k.sqBase + k.strWr + (padRecord (size - k.strWr)).length ≤ a := by
      rw [padRecord_length (by omega)]
      omega
    simp only [if_pos hwrap, if_neg hpad, State.count_hostMem, State.modQueue_hostMem]
    rw [Mem.read_writeN_outside _ _ _ (by omega), Mem.read_writeN_outside _ _ _ hout]
  · simp only [if_neg hwrap, if_true, State.count_hostMem, State.modQueue_hostMem]
    exact Mem.read_writeN_outside _ _ _ (by omega)

/-! ## Firing (11_text_engine R389 to R391; 13_serving R433; 14_speculation R477) -/

section
variable (v : Session) (voc : Vocab) (g : Option Grammar)

/-- One candidate, where none before it has ended the list. -/
def Fired.step (f : Fired) (x : Nat) : Fired :=
  if f.reason.isSome then f
  else if v.maxCtx ≤ v.all.length + f.toks.length then { f with reason := some 3 }
  else if (voc.toks.getD x {}).eos then { f with toks := f.toks ++ [x], reason := some 0 }
  else
    let d := f.detok.bytes voc.addPrefix (v.sf 1) v.stops (voc.tokBytes x)
    { toks := f.toks ++ [x], detok := d, pos := (g.bind (fun h => h.move f.pos x)).getD f.pos
      reason := if d.stop.stopped then some 1
        else if v.genMax ≤ v.tokTotal + (f.toks.length + 1) then some 2
        else if v.maxCtx ≤ v.all.length + (f.toks.length + 1) then some 3
        else none }

theorem Fired.step_ended {f : Fired} (h : f.reason.isSome = true) (x : Nat) : f.step v voc g x = f := if_pos h

theorem Fired.foldl_ended {f : Fired} (h : f.reason.isSome = true) (l : List Nat) : l.foldl (Fired.step v voc g) f = f := by
  induction l with
  | nil => rfl
  | cons x l ih => rw [List.foldl_cons, Fired.step_ended v voc g h, ih]

theorem fireAll_eq_foldl (l : List Nat) (f : Fired) : fireAll v voc g l f = l.foldl (Fired.step v voc g) f := by
  induction l generalizing f with
  | nil => rfl
  | cons x l ih =>
    rw [fireAll, List.foldl_cons]
    by_cases hended : f.reason.isSome = true
    · rw [if_pos hended, Fired.step_ended v voc g hended, Fired.foldl_ended v voc g hended]
    · have hstep : f.step v voc g x = _ := if_neg hended
      rw [if_neg hended, hstep]
      by_cases hctx : v.maxCtx ≤ v.all.length + f.toks.length
      · rw [if_pos hctx, if_pos hctx, Fired.foldl_ended v voc g rfl]
      · rw [if_neg hctx, if_neg hctx]
        by_cases heos : (voc.toks.getD x {}).eos = true
        · simp only [heos, if_true]
          rw [Fired.foldl_ended v voc g rfl]
        · simp only [heos]
          exact ih _

theorem Fired.step_toks (f : Fired) (x : Nat) :
    (f.step v voc g x).toks = f.toks ++ [x] ∨ (f.step v voc g x).toks = f.toks ∧ (f.step v voc g x).reason.isSome = true := by
  unfold Fired.step
  split
  · exact .inr ⟨rfl, ‹_›⟩
  split
  · exact .inr ⟨rfl, rfl⟩
  split
  · exact .inl rfl
  · exact .inl rfl

/-- The tokens fired are the first of the candidates, and all of them where nothing ends the list. -/
theorem Fired.foldl_prefix (cand : List Nat) (f : Fired) : ∃ l, (cand.foldl (Fired.step v voc g) f).toks = f.toks ++ l ∧ l <+: cand ∧
    ((cand.foldl (Fired.step v voc g) f).reason = none → l = cand) := by
  induction cand generalizing f with
  | nil => exact ⟨[], by simp, List.prefix_rfl, fun _ => rfl⟩
  | cons x t ih =>
    rw [List.foldl_cons]
    rcases Fired.step_toks v voc g f x with htoks | ⟨htoks, hended⟩
    · obtain ⟨l, hl, hpre, hall⟩ := ih (f.step v voc g x)
      exact ⟨x :: l, by rw [hl, htoks, List.append_assoc]; rfl, (List.prefix_cons_inj x).mpr hpre, fun h => by rw [hall h]⟩
    · rw [Fired.foldl_ended v voc g hended]
      exact ⟨[], by rw [htoks, List.append_nil], List.nil_prefix, fun h => by simp [h] at hended⟩

/-- What every firing keeps: an EOS stands at the end alone, and the token limit and the context bound the tokens. -/
structure Fired.Bounded (f : Fired) : Prop where
  plain : f.reason ≠ some 0 → ∀ x ∈ f.toks, (voc.toks.getD x {}).eos = false
  last : f.reason = some 0 → ∃ l x, f.toks = l ++ [x] ∧ (voc.toks.getD x {}).eos = true ∧ ∀ y ∈ l, (voc.toks.getD y {}).eos = false
  limit : v.tokTotal < v.genMax → v.tokTotal + f.toks.length ≤ v.genMax
  below : v.tokTotal < v.genMax → f.reason = none → v.tokTotal + f.toks.length < v.genMax
  ctx : v.all.length ≤ v.maxCtx → v.all.length + f.toks.length ≤ v.maxCtx

variable {v voc}

theorem Fired.bounded_start (d : Detok) (q : GPos) : Fired.Bounded v voc { toks := [], detok := d, pos := q, reason := none } :=
  ⟨fun _ _ hx => absurd hx List.not_mem_nil, fun hr => (nomatch hr), fun h => h.le, fun h _ => h, fun h => h⟩

theorem Fired.bounded_step {f : Fired} (h : f.Bounded v voc) (x : Nat) : (f.step v voc g x).Bounded v voc := by
  unfold Fired.step
  split
  · exact h
  next hopen =>
  have hnone : f.reason = none := by simpa using hopen
  have hplain := h.plain (by rw [hnone]; decide)
  split
  · exact ⟨fun _ => hplain, fun hr => (by simp at hr), h.limit, fun _ hr => (by simp at hr), h.ctx⟩
  next hctx =>
  have hlimit : v.tokTotal < v.genMax → v.tokTotal + (f.toks ++ [x]).length ≤ v.genMax := fun hg => by
    have := h.below hg hnone
    rw [List.length_append, List.length_singleton]
    omega
  have hroom : v.all.length ≤ v.maxCtx → v.all.length + (f.toks ++ [x]).length ≤ v.maxCtx := fun _ => by
    rw [List.length_append, List.length_singleton]
    omega
  split
  next heos => exact ⟨fun hr => absurd rfl hr, fun _ => ⟨f.toks, x, rfl, heos, hplain⟩, hlimit, fun _ hr => (by simp at hr), hroom⟩
  next heos =>
  dsimp only
  refine ⟨fun _ y hy => ?_, fun hr => ?_, hlimit, fun _ hr => ?_, hroom⟩
  · rcases List.mem_append.mp hy with hy | hy
    · exact hplain y hy
    · rw [List.mem_singleton.mp hy]
      exact Bool.eq_false_iff.mpr heos
  · exact absurd hr (by split_ifs <;> simp)
  · rw [List.length_append, List.length_singleton]
    split_ifs at hr
    omega

/-- Reason 1 stands for a stop string matched. -/
theorem Fired.stopped_step {f : Fired} (h : f.reason = some 1 ↔ f.detok.stop.stopped = true) (x : Nat) :
    (f.step v voc g x).reason = some 1 ↔ (f.step v voc g x).detok.stop.stopped = true := by
  unfold Fired.step
  split
  · exact h
  next hopen =>
  have hnone : f.reason = none := by simpa using hopen
  have hrunning : ¬ f.detok.stop.stopped = true := by
    rw [← h, hnone]
    exact nofun
  split
  · exact iff_of_false (by simp) hrunning
  split
  · exact iff_of_false (by simp) hrunning
  · dsimp only
    split
    next hstop => exact iff_of_true rfl hstop
    next hstop => exact iff_of_false (by split_ifs <;> simp) hstop

/-- What one firing keeps, all of them keep. -/
theorem Fired.foldl_keeps {P : Fired → Prop} (hstep : ∀ f x, P f → P (f.step v voc g x)) {f : Fired} (h : P f) (l : List Nat) :
    P (l.foldl (Fired.step v voc g) f) := by
  induction l generalizing f with
  | nil => exact h
  | cons x l ih => exact ih (hstep f x h)

end

/-- Settles O54, by the commit's own steps, the fields of a record, the bounds of its ring, and what each firing keeps. -/
theorem theWindowEndCommitsTheTurn : Obligations.TheWindowEndCommitsTheTurn := by
  unfold Obligations.TheWindowEndCommitsTheTurn
  refine ⟨⟨fun s hstarted hrunning hlost => ⟨s.windowEnd, if_neg (by simp [hstarted, hrunning, hlost]), rfl, s.windowEnd_commits⟩,
    fun s hcommit => if_pos (by simp [hcommit]), fun fl st i gs tn fired tot bytes ids hbytes hids => ?_,
    fun s p q bs _ hwr hlen halign hmin a ha => State.putRecord_outside rfl rfl hwr hlen halign hmin ha⟩,
    fun v voc g cand d q => ?_⟩
  · obtain ⟨halign, -, hlow, hhigh⟩ := recordLen_bounds bytes ids
    intro r
    have hr : r.length = recordLen bytes ids := streamRecord_length ..
    rw [hr]
    exact ⟨halign, hlow, hhigh, streamRecord_len _ _ _ _ _ _ _ _ _ (by omega), streamRecord_byteCnt _ _ _ _ _ _ _ _ _ hbytes,
      streamRecord_text ..⟩
  · rw [fireAll_eq_foldl]
    intro f
    obtain ⟨l, hl, hpre, hall⟩ := Fired.foldl_prefix v voc g cand { toks := [], detok := d, pos := q, reason := none }
    have hl' : f.toks = l := hl
    have hb : f.Bounded v voc := Fired.foldl_keeps (P := Fired.Bounded v voc) g (fun _ x h => Fired.bounded_step g h x)
      (Fired.bounded_start d q) cand
    refine ⟨hl' ▸ hpre, fun hr => hl'.trans (hall hr), fun x hx => ?_, fun hr => ?_, hb.limit, hb.ctx, fun hd => ?_⟩
    · by_cases hr : f.reason = some 0
      · obtain ⟨m, y, hm, -, hplain⟩ := hb.last hr
        rw [hm, List.dropLast_concat] at hx
        exact hplain x hx
      · exact hb.plain hr x (List.mem_of_mem_dropLast hx)
    · obtain ⟨m, y, hm, heos, -⟩ := hb.last hr
      exact ⟨y, by rw [hm, List.getLast?_concat], heos⟩
    · exact Fired.foldl_keeps (P := fun f => f.reason = some 1 ↔ f.detok.stop.stopped = true) g
        (fun _ x h => Fired.stopped_step g h x) (by simp [hd]) cand

end Sys2Proof.Machine
end

section
/-! Indexes and templates come and go (09_vector_search R287 to R293, R316, R329; 18_queues R588, R589, R729). -/

namespace Sys2Proof.Machine

/-! ## Indexes (09_vector_search R287 to R293; 18_queues R588) -/

section
variable {s : State} {r : Ref} {e : CmdE}

section
variable {a : IndexArgs} {v : Vocab} {cents : List Byte} {pub h : Nat} {passages : List (Nat × Nat × List Nat)} {blocks : Nat → List Byte}
  {backed : Bool} {t : State} (hfree : KMap.free (s.part e.part).indexes 64 = some h)
include hfree

/-! The lowest free handle names the index, where its planes find their frames. (The draw of the planes is any function here: where it
stands by its name, the kernel unfolds it.) -/

theorem State.makeIndex_made {u : State} (hmade : t.newIndex e.part h a v cents pub passages blocks backed = some u) :
    s.makeIndex e a v cents pub passages blocks backed t = u.done e 0 (h + 2 ^ 16 * pub) := by
  unfold State.makeIndex
  obtain ⟨draw, hdraw⟩ : ∃ draw, State.newIndex t = draw := ⟨_, rfl⟩
  rw [hdraw] at hmade ⊢
  simp only [hfree, hmade]

theorem State.makeIndex_exhausted (hmade : t.newIndex e.part h a v cents pub passages blocks backed = none) :
    s.makeIndex e a v cents pub passages blocks backed t = s.reject e Code.poolExhausted := by
  unfold State.makeIndex
  obtain ⟨draw, hdraw⟩ : ∃ draw, State.newIndex t = draw := ⟨_, rfl⟩
  rw [hdraw] at hmade ⊢
  simp only [hfree, hmade]

end

section
variable {a : IndexArgs} {v : Vocab} (ha : argsIndex e.pb = a) (hok : ixBad a = false) (hvocab : s.vocab? e.part a.vocab = some v)
  (hroom : s.ixFull e.part = false)
include ha hok hvocab hroom

theorem execIndexCreate_makes (hs : s.starts r 0x30 e = true)
    (hread : s.readable e.part (bit a.ixflags 1) a.centAddr (2 ^ a.npartLog2 * (a.codeBits / 8)) = true) :
    execIndexCreate r a s = .next (s.makeIndex e a v (s.bytesAt (bit a.ixflags 1) a.centAddr (2 ^ a.npartLog2 * (a.codeBits / 8))) 1 []
      (emptyBlock a) false (s.seen e.part (bit a.ixflags 1) a.centAddr (2 ^ a.npartLog2 * (a.codeBits / 8)))) := by
  unfold execIndexCreate
  rw [State.command_of_starts hs (by simp [ha]), if_neg (Bool.eq_false_iff.mp hok)]
  simp only [hvocab]
  rw [if_neg (Bool.eq_false_iff.mp hroom), State.readBuf_of_readable hread]

section
variable {n : Nat} {blk : Nat → List Byte} (hs : s.starts r 0x31 e = true) (hn : 2 ^ a.npartLog2 = n)
  (hblk : (fun q => s.extentRead a.extent (a.blkOff + q * (65536 * a.blkPages)) (65536 * a.blkPages)) = blk)
  (hcent : s.extentOk e.part a.extent a.centOff (n * (a.codeBits / 8)) = true)
  (hblocks : s.extentOk e.part a.extent a.blkOff (n * (65536 * a.blkPages)) = true) (hpsg : s.extentOk e.part a.psgExtent 0 0 = true)
include hs hn hblk hcent hblocks hpsg

theorem execIndexLoad_badBlock (hbad : ∃ q, q < n ∧ blockOk a q (blk q) = false) :
    execIndexLoad r a s = .next (s.reject e Code.indexFormatInvalid) := by
  have hall : (List.range n).all (fun q => blockOk a q (blk q)) = false := by simpa using hbad
  subst hn hblk
  unfold execIndexLoad
  rw [State.command_of_starts hs (by simp [ha])]
  dsimp only
  rw [if_neg (Bool.eq_false_iff.mp hok)]
  simp only [hvocab, hroom, hcent, hblocks, hpsg, hall]
  rfl

theorem execIndexLoad_makes (hgood : ∀ q, q < n → blockOk a q (blk q) = true)
    (hlive : s.liveAll + ((List.range n).map (fun q => ((pieces (nodeStride a.codeBits) (field (blk q) 4 2) ((blk q).drop 256)).map
      (readNode a.codeBits)).filter (fun x => !x.tomb && !x.free) |>.length)).sum ≤ 2 ^ 33) :
    execIndexLoad r a s = .next (s.makeIndex e a v (s.extentRead a.extent a.centOff (n * (a.codeBits / 8))) a.pub
      (Config.passageStore (s.extentRead a.psgExtent 0 (KMap.findD s.flash.extents a.psgExtent {}).size)) blk true s) := by
  have hall : (List.range n).all (fun q => blockOk a q (blk q)) = true := by simpa using hgood
  subst hn hblk
  unfold execIndexLoad
  rw [State.command_of_starts hs (by simp [ha])]
  dsimp only
  rw [if_neg (Bool.eq_false_iff.mp hok)]
  simp only [hvocab, hroom, hcent, hblocks, hpsg, hall]
  exact congrArg _ (if_neg hlive.not_gt)

end
end

theorem execIndexDrop_drops {a : HArgs} {ix : Index} (hs : s.starts r 0x32 e = true) (ha : argsH e.area = a)
    (hix : s.index? e.part a.handle e.tag = some ix) : execIndexDrop r a s =
    .next (((s.modIndex e.part a.handle (fun x => { x with dropped := true })).sweepIndex e.part a.handle).done e 0 0) := by
  unfold execIndexDrop
  rw [State.command_of_starts hs (by simp [ha])]
  simp only [hix]

theorem execIndexQuery_answers {a : QArgs} {ix : Index} (hs : s.starts r 0x3A e = true) (ha : argsQ e.area = a)
    (hix : s.index? e.part a.handle e.tag = some ix) (hout : s.delivers e a (s.indexItems ix) = true) :
    execIndexQuery r a s = .next ((s.delivered e a (s.indexItems ix)).done e 0 0) := by
  unfold execIndexQuery
  rw [State.command_of_starts hs (by simp [ha])]
  simp only [hix]
  rw [State.answer_of_delivers hout]

/-! ## Templates (18_queues R589, R729) -/

theorem execTemplateLoad_loads {a : TemplateArgs} {h : Nat} {v : Vocab} (hs : s.starts r 0x3B e = true) (ha : argsTemplate e.pb = a)
    (hlens : ∀ n ∈ a.lens, n ≤ 4096) (hlen : e.pbLen = 32 + 4 * a.lens.sum) (hfree : KMap.free (s.part e.part).templates 64 = some h)
    (hvocab : s.vocab? e.part a.vocab = some v) (htoks : ∀ x ∈ a.toks, x < v.toks.length) :
    execTemplateLoad r a s = .next ((s.modPart e.part (fun w => { w with
      templates := KMap.put w.templates h ({ vocab := a.vocab, vocabId := v.vocabId, lists := cutAt a.lens a.toks } : Template)
      })).done e 0 h) := by
  have hlens' : a.lens.any (fun n => decide (4096 < n)) = false := by simpa using hlens
  have htoks' : a.toks.any (fun x => decide (v.toks.length ≤ x)) = false := by simpa using htoks
  unfold execTemplateLoad
  rw [State.command_of_starts hs (by simp [ha])]
  simp only [hlens', hlen, hfree, hvocab, htoks', ne_eq, not_true_eq_false, decide_false, firstBad_cons_false, firstBad_nil]
  rfl

theorem execTemplateUnload_waits {a : HArgs} {tp : Template} (hs : s.starts r 0x3C e = true) (ha : argsH e.area = a)
    (htp : s.template? e.part a.handle 0 = some tp) : execTemplateUnload r a s = .next ((s.modPart e.part (fun w => { w with
      templates := KMap.mod w.templates a.handle (fun t => { t with dropped := true, unloadTag := e.tag }) })).keep e) := by
  unfold execTemplateUnload
  rw [State.command_of_starts hs (by simp [ha])]
  simp only [htp]

theorem execTemplateFree_frees {p h : Nat} {tp : Template} {c : CmdE} (htp : KMap.find (s.part p).templates h = some tp)
    (hdropped : tp.dropped = true) (husers : ∀ u ∈ tp.users, s.cmd u = none) (hcmd : s.cmd tp.unloadTag = some c) :
    execTemplateFree p h s = .next ((s.modPart p (fun w => { w with templates := KMap.del w.templates h })).done c 0 0) := by
  have hidle : tp.users.any (fun u => (s.cmd u).isSome) = false := by
    rw [List.any_eq_false]
    intro u hu
    simp [husers u hu]
  unfold execTemplateFree
  simp only [htp, hdropped, hidle, hcmd]
  rfl

end

/-- Settles O37, each clause by the lemma of its row. -/
theorem indexesAndTemplatesComeAndGo : Obligations.IndexesAndTemplatesComeAndGo := by
  unfold Obligations.IndexesAndTemplatesComeAndGo
  refine ⟨fun s r e => ⟨fun a v ha hok hvocab hroom => ?_, fun a ix => execIndexDrop_drops, fun a ix => execIndexQuery_answers⟩,
    fun s r e => ⟨fun a h v => execTemplateLoad_loads, fun a tp => execTemplateUnload_waits, fun p h tp c => execTemplateFree_frees⟩⟩
  intro n
  refine ⟨fun hs hread h hfree => ?_, fun hs => ?_⟩
  · intro made
    have hmakes := execIndexCreate_makes ha hok hvocab hroom hs hread
    refine ⟨fun hmade => ?_, fun hmade => hmakes.trans (congrArg _ (State.makeIndex_exhausted hfree hmade))⟩
    obtain ⟨u, hu⟩ := Option.isSome_iff_exists.mp hmade
    exact ⟨u, hu, hmakes.trans (congrArg _ (State.makeIndex_made hfree hu))⟩
  · intro blk live hcent hblocks hpsg
    refine ⟨execIndexLoad_badBlock ha hok hvocab hroom hs rfl rfl hcent hblocks hpsg, fun hgood hlive h hfree => ?_⟩
    intro made
    have hmakes := execIndexLoad_makes ha hok hvocab hroom hs rfl rfl hcent hblocks hpsg hgood hlive
    refine ⟨fun hmade => ?_, fun hmade => hmakes.trans (congrArg _ (State.makeIndex_exhausted hfree hmade))⟩
    obtain ⟨u, hu⟩ := Option.isSome_iff_exists.mp hmade
    exact ⟨u, hu, hmakes.trans (congrArg _ (State.makeIndex_made hfree hu))⟩

end Sys2Proof.Machine
end

section
/-! Chains run their stages (01_architecture R28, R29; 09_vector_search R325 to R328; 18_queues R587). -/

namespace Sys2Proof.Machine

/-! ## Acceptance (18_queues R587) -/

section
variable {s t k : State} {r : Ref} {e : CmdE} {a : ChainArgs} {bs : List Byte} (hs : s.starts r 0x70 e = true) (ha : argsChain e.pb = a)
  (hok : chainBad a = false) (hquery : (chainQ a).bad = false) (hchecks : ∀ x ∈ s.chainChecks e.part e.queue e.tag a, x.1 = false)
  (hread : s.readable e.part (bit a.chflags 3) a.queryAddr a.queryLen = true)
  (ht : s.seen e.part (bit a.chflags 3) a.queryAddr a.queryLen = t) (hbs : s.bytesAt (bit a.chflags 3) a.queryAddr a.queryLen = bs)
  (hk : (t.modPart e.part (fun w => { w with templates := KMap.mod w.templates a.template (fun x =>
    { x with users := x.users ++ [e.tag] }) })).keep { e with aux := [a.encImg, a.rrImg] } = k)
include hs ha hok hquery hchecks hread ht hbs hk

theorem execChain_illFormed {off : Nat} (hseg : (KMap.findD s.vocabs a.qvocab {}).segment a.qvocab a.policy true {} bs = .error off) :
    execChain r a s = .next (k.chainFail e 0 Code.inputIllFormed off) := by
  subst ht hbs hk
  unfold execChain
  rw [State.command_of_starts hs (by simp [ha]), State.checked_pass (firstBad_none (by simpa [hok, hquery] using hchecks)),
    State.readBuf_of_readable hread]
  simp only [hseg]

theorem execChain_full {o : SegOut} (hseg : (KMap.findD s.vocabs a.qvocab {}).segment a.qvocab a.policy true {} bs = .ok o)
    (hkept : k.chainStore { tag := e.tag, part := e.part } 0 (o.toks.flatMap (leBytes 4)) = none) :
    execChain r a s = .next (k.chainFail e 0 Code.poolExhausted 0) := by
  subst ht hbs hk
  obtain ⟨store, hstore⟩ : ∃ store, State.chainStore = store := ⟨_, rfl⟩
  unfold execChain
  rw [hstore] at hkept ⊢
  rw [State.command_of_starts hs (by simp [ha]), State.checked_pass (firstBad_none (by simpa [hok, hquery] using hchecks)),
    State.readBuf_of_readable hread]
  simp only [hseg, hkept]

theorem execChain_accepts {o : SegOut} {u : State}
    (hseg : (KMap.findD s.vocabs a.qvocab {}).segment a.qvocab a.policy true {} bs = .ok o)
    (hkept : k.chainStore { tag := e.tag, part := e.part } 0 (o.toks.flatMap (leBytes 4)) = some u) :
    execChain r a s = .next (((u.count e.part Ctr.tokBytesIn a.queryLen).count e.part Ctr.tokTokensOut o.toks.length).count e.part
      Ctr.illformedSub o.ill) := by
  subst ht hbs hk
  obtain ⟨store, hstore⟩ : ∃ store, State.chainStore = store := ⟨_, rfl⟩
  unfold execChain
  rw [hstore] at hkept ⊢
  rw [State.command_of_starts hs (by simp [ha]), State.checked_pass (firstBad_none (by simpa [hok, hquery] using hchecks)),
    State.readBuf_of_readable hread]
  simp only [hseg, hkept]

end

/-! ## The next stage is due (09_vector_search R325 to R327) -/

section
variable {s p : State} {r : Ref} {e : CmdE} {c : Chain} {ks : List Nat} (code : Nat) (scores : List Word)
  (hfind : s.inflight.find? (fun x => x.part = r.part && x.queue = r.queue && x.cid = r.cid && x.opc = 0x70 && x.st == .running) = some e)
  (hchain : KMap.find s.chains e.tag = some c)
include hfind hchain

theorem execChainStageComplete_unplaced (hplaced : c.placed ≤ c.stage) : execChainStageComplete r code scores s = .next s := by
  unfold execChainStageComplete
  simp only [hfind, hchain]
  exact if_pos (by simp [hplaced])

variable (hstage : c.stage < 4) (hlost : s.moduleLost = false) (hplaced : c.stage < c.placed)
  (hp : (if c.stage = 1 && (s.index? e.part (argsChain e.pb).index e.tag).isSome then s.pinIndex e.part (argsChain e.pb).index e.tag
    else s) = p) (hks : p.chainReads e (argsChain e.pb) c = ks)
include hstage hlost hplaced hp hks

theorem execChainStageComplete_lost (hgone : p.anyLost ks = true) :
    execChainStageComplete r code scores s = .next (p.chainFail e c.stage Code.pageLost 0) := by
  subst hp hks
  unfold execChainStageComplete
  simp only [hfind, hchain]
  rw [if_neg (by simp [hplaced.not_ge, hstage.not_ge, hlost])]
  exact if_pos hgone

section
variable (hthere : p.anyLost ks = false)
include hthere

theorem execChainStageComplete_holds {u : State} (hheld : p.hold e ks = some u) : execChainStageComplete r code scores s = .next u := by
  subst hp hks
  unfold execChainStageComplete
  simp only [hfind, hchain]
  rw [if_neg (by simp [hplaced.not_ge, hstage.not_ge, hlost]), if_neg (Bool.eq_false_iff.mp hthere)]
  simp only [hheld]

/-- The stage runs once its pages are at hand. -/
theorem execChainStageComplete_runs {t : State} (hhand : p.inT2 ks = []) (ht : (p.setCmd { e with wait := [] }).readPages e.part ks = t) :
    (c.stage = 0 → execChainStageComplete r code scores s = .next (t.chainEmbed e (argsChain e.pb) c code)) ∧
    (c.stage = 1 → execChainStageComplete r code scores s = .next (t.chainSearch e (argsChain e.pb) c)) ∧
    (c.stage = 2 → execChainStageComplete r code scores s = .next (t.chainRerank e (argsChain e.pb) c scores)) ∧
    (c.stage = 3 → execChainStageComplete r code scores s = .next (t.chainPack e (argsChain e.pb) c)) := by
  subst hp hks ht
  have hnone := State.hold_eq_none (e := e).2 hhand
  unfold execChainStageComplete
  simp only [hfind, hchain]
  rw [if_neg (by simp [hplaced.not_ge, hstage.not_ge, hlost]), if_neg (Bool.eq_false_iff.mp hthere)]
  simp only [hnone]
  refine ⟨fun h => ?_, fun h => ?_, fun h => ?_, fun h => ?_⟩ <;> simp only [h]

end
end

/-! ## The stages (09_vector_search R297, R319 to R327). Each stores its results, or fails where their pages find no frame. (A store is any
function in these proofs: where it stands by its name, the kernel unfolds it.) -/

section
variable {s : State} {e : CmdE} {a : ChainArgs} {c : Chain} {ix : Index}

section
variable {code : Nat} {bs : List Byte} (hwide : s.tooWide e.part a.encImg = false)
  (hix : KMap.find (s.part e.part).indexes a.index = some ix) (hbs : leBytes (ix.bits / 8) (code % 2 ^ ix.bits) = bs)
include hwide hix hbs

theorem State.chainEmbed_full (hkept : s.chainStore { c with stage := 1 } 1 bs = none) :
    s.chainEmbed e a c code = s.chainFail e 0 Code.poolExhausted 0 := by
  subst hbs
  obtain ⟨store, hstore⟩ : ∃ store, State.chainStore = store := ⟨_, rfl⟩
  unfold State.chainEmbed
  rw [hstore] at hkept ⊢
  rw [if_neg (Bool.eq_false_iff.mp hwide)]
  simp only [hix, hkept]

theorem State.chainEmbed_stores {u : State} (hkept : s.chainStore { c with stage := 1 } 1 bs = some u) :
    s.chainEmbed e a c code = u.stagePost e 0 0 0 := by
  subst hbs
  obtain ⟨store, hstore⟩ : ∃ store, State.chainStore = store := ⟨_, rfl⟩
  unfold State.chainEmbed
  rw [hstore] at hkept ⊢
  rw [if_neg (Bool.eq_false_iff.mp hwide)]
  simp only [hix, hkept]

end

section
variable {x : List Byte × Nat × Nat} (hix : s.index? e.part a.index e.tag = some ix)
  (hx : s.searchOne ix (chainQ a) (ix.readEpoch e.tag) (s.chainCode c) = x)
include hix hx

theorem State.chainSearch_full (hkept : s.chainStore { c with stage := if a.rrCnt = 0 then 3 else 2 } 2 x.1 = none) :
    s.chainSearch e a c = s.chainFail e 1 Code.poolExhausted 0 := by
  obtain ⟨store, hstore⟩ : ∃ store, State.chainStore = store := ⟨_, rfl⟩
  unfold State.chainSearch
  rw [hstore] at hkept ⊢
  simp only [hix, hx, hkept]

theorem State.chainSearch_stores {u : State} (hkept : s.chainStore { c with stage := if a.rrCnt = 0 then 3 else 2 } 2 x.1 = some u) :
    s.chainSearch e a c = (u.searched e.part a.index 1 [x]).stagePost e 1 0 (ix.readEpoch e.tag + 2 ^ 48 * (readHdr x.1).valid) := by
  obtain ⟨store, hstore⟩ : ∃ store, State.chainStore = store := ⟨_, rfl⟩
  unfold State.chainSearch
  rw [hstore] at hkept ⊢
  simp only [hix, hx, hkept]

end

section
variable {im : Image} {scores : List Word} {items : List ItemEl} {els : List SelEl} {row : List Byte}
  (him : KMap.find (s.part e.part).images a.rrImg = some im) (hix : s.index? e.part a.index e.tag = some ix)
  (hwide : s.tooWide e.part a.rrImg = false) (hfits : rerankBad im ix = false) (hitems : (s.chainItems c).take a.rrCnt = items)
  (hlen : scores.length = items.length) (hels : ix.scored (items.map (fun i => (i.id, i.epoch))) scores = els)
  (hrow : topkRow true false a.rrTop els = row)
include him hix hwide hfits hitems hlen hels hrow

theorem State.chainRerank_full (hkept : s.chainStore { c with stage := 3 } 3 row = none) :
    s.chainRerank e a c scores = s.chainFail e 2 Code.poolExhausted 0 := by
  obtain ⟨store, hstore⟩ : ∃ store, State.chainStore = store := ⟨_, rfl⟩
  unfold State.chainRerank
  rw [hstore] at hkept ⊢
  simp only [him, hix, hwide, hfits, hitems, hlen, hels, hrow, hkept, List.length_map, ne_eq, not_true_eq_false, Bool.false_eq_true, if_false]

theorem State.chainRerank_stores {u : State} (hkept : s.chainStore { c with stage := 3 } 3 row = some u) :
    s.chainRerank e a c scores = (u.modIndex e.part a.index (fun x => { x with
      ctr := bump x.ctr IxCtr.passageGoneCnt (items.length - els.length) })).stagePost e 2
        (if items.length - els.length = 0 then 0 else Code.passageGone) (field row 32 4 + 2 ^ 32 * (readHdr row).valid) := by
  obtain ⟨store, hstore⟩ : ∃ store, State.chainStore = store := ⟨_, rfl⟩
  unfold State.chainRerank
  rw [hstore] at hkept ⊢
  simp only [him, hix, hwide, hfits, hitems, hlen, hels, hrow, hkept, List.length_map, ne_eq, not_true_eq_false, Bool.false_eq_true, if_false]

end

section
variable {tp : Template} {psgs : List (Option (List Nat))} {gone : Nat} {o : List Nat × Packed}
  (htp : s.template? e.part a.template e.tag = some tp) (hix : s.index? e.part a.index e.tag = some ix) (hvocab : tp.vocab = ix.vocab)
  (hid : tp.vocabId = ix.vocabId) (hbudget : tp.fixed (s.chainToks c) ≤ a.budget)
  (hpsgs : (s.chainOrder c).map (fun i => ((s.chainItems c)[i]?).bind (fun x => ix.passage x.id x.epoch)) = psgs)
  (hgone : (psgs.filter Option.isNone).length = gone) (ho : tp.pack (bit a.chflags 2) a.budget (psgs.filterMap id) (s.chainToks c) = o)
include htp hix hvocab hid hbudget hpsgs hgone ho

omit htp hix hpsgs hgone ho in
theorem packChecks_pass : ¬ (tp.vocab ≠ ix.vocab || tp.vocabId ≠ ix.vocabId || decide (a.budget < tp.fixed (s.chainToks c))) = true := by
  simp [hvocab, hid, hbudget.not_gt]

omit hgone in
theorem State.chainPack_full (hkept : s.chainStore { c with stage := 4 } 4 (o.1.flatMap (leBytes 4)) = none) :
    s.chainPack e a c = s.chainFail e 3 Code.poolExhausted 0 := by
  obtain ⟨store, hstore⟩ : ∃ store, State.chainStore = store := ⟨_, rfl⟩
  unfold State.chainPack
  rw [hstore] at hkept ⊢
  simp only [htp, hix]
  rw [if_neg (packChecks_pass hvocab hid hbudget)]
  simp only [hpsgs, ho, hkept]

theorem State.chainPack_stores {u : State} (hkept : s.chainStore { c with stage := 4 } 4 (o.1.flatMap (leBytes 4)) = some u) :
    s.chainPack e a c = (((u.modIndex e.part a.index (fun x => { x with
      ctr := bump x.ctr IxCtr.passageGoneCnt gone })).stagePost e 3 (if gone = 0 then 0 else Code.passageGone)
        (o.1.length + 2 ^ 32 * o.2.used)).chainRelease e).chainGenerate e a o.1 := by
  obtain ⟨store, hstore⟩ : ∃ store, State.chainStore = store := ⟨_, rfl⟩
  unfold State.chainPack
  rw [hstore] at hkept ⊢
  simp only [htp, hix]
  rw [if_neg (packChecks_pass hvocab hid hbudget)]
  simp only [hpsgs, hgone, ho, hkept]

end

/-! ## GENERATE (01_architecture R28; 13_serving R430 to R432) -/

section
variable {toks : List Nat} {v : Session} {b : State} (hsess : s.session? e.part a.session = some v) (hidle : v.st = .idle)
  (hsome : 0 < v.ctx.length + toks.length) (hfits : v.ctx.length + toks.length ≤ v.maxCtx)
  (hb : s.beginGen a.session e.tag toks a.maxNew a.firstDl a.endDl e.acceptTurn true = b)
include hsess hidle hsome hfits hb

theorem State.chainGenerate_begins :
    (∀ c, KMap.find b.chains e.tag = some c → s.chainGenerate e a toks =
      { b.chainPages c with chains := KMap.put b.chains e.tag { c with results := [] } }) ∧
    (KMap.find b.chains e.tag = none → s.chainGenerate e a toks = b) := by
  unfold State.chainGenerate
  simp only [hsess]
  rw [if_neg (by simp [hidle]), if_neg (by simp only [Bool.or_eq_true, decide_eq_true_eq]; omega), hb]
  exact ⟨fun c hc => by simp only [hc], fun hnone => by simp only [hnone]⟩

end
end

/-- What a chain stores stands in its results and reads back (18_queues R587). -/
theorem State.chainStore_reads {s u : State} {c : Chain} {k : Nat} {bs : List Byte} (hcan : s.canonical) (hkept : s.chainStore c k bs = some u) :
    ∃ d, KMap.find u.chains c.tag = some d ∧ d.stage = c.stage ∧ d.placed = c.placed ∧ u.chainResult d k = bs := by
  obtain ⟨⟨n, t⟩, halloc, rfl⟩ := Option.map_eq_some_iff.1 hkept
  have hwf : Mem.wf t.dev = true := (State.canonical_alloc hcan halloc).2
  refine ⟨_, KMap.find_put_same .., rfl, rfl, ?_⟩
  unfold State.chainResult
  simp only [KMap.find_put_same]
  exact Mem.readN_writeN hwf ..

/-- Settles O55, each clause by the lemma of its row or of its stage. -/
theorem chainsRunTheirStages : Obligations.ChainsRunTheirStages := by
  unfold Obligations.ChainsRunTheirStages
  refine fun s r e => ⟨fun a hs ha hok hquery hchecks hread => ?_, fun c code scores hfind hchain hstage hlost => ?_,
    fun a toks v hsess hidle hsome hfits => ?_, fun c k bs u hcan hkept => State.chainStore_reads hcan hkept⟩
  · intro k
    split
    next off hseg => exact execChain_illFormed hs ha hok hquery hchecks hread rfl rfl rfl hseg
    next o hseg =>
    intro kept
    refine ⟨execChain_full hs ha hok hquery hchecks hread rfl rfl rfl hseg, fun hkept => ?_⟩
    obtain ⟨u, hu⟩ := Option.isSome_iff_exists.mp hkept
    exact ⟨u, hu, execChain_accepts hs ha hok hquery hchecks hread rfl rfl rfl hseg hu⟩
  · intro a p ks t go
    refine ⟨execChainStageComplete_unplaced code scores hfind hchain, fun hplaced =>
      ⟨execChainStageComplete_lost code scores hfind hchain hstage hlost hplaced rfl rfl, fun hthere hwait => ?_, fun hthere hhand => ?_⟩⟩
    · obtain ⟨u, hu⟩ := State.hold_some e hwait
      exact ⟨u, hu, execChainStageComplete_holds code scores hfind hchain hstage hlost hplaced rfl rfl hthere hu⟩
    obtain ⟨hembed, hsearch, hrerank, hpack⟩ :=
      execChainStageComplete_runs code scores hfind hchain hstage hlost hplaced rfl rfl hthere hhand (t := t) rfl
    refine ⟨fun ix h hwide hix => ?_, fun ix h hix => ?_, fun im ix h him hix hwide hfits hlen => ?_,
      fun tp ix h htp hix hvocab hid hbudget => ?_⟩
    · intro kept
      refine ⟨fun hkept => (hembed h).trans (congrArg _ (State.chainEmbed_full hwide hix rfl hkept)), fun hkept => ?_⟩
      obtain ⟨u, hu⟩ := Option.isSome_iff_exists.mp hkept
      exact ⟨u, hu, (hembed h).trans (congrArg _ (State.chainEmbed_stores hwide hix rfl hu))⟩
    · intro x kept
      refine ⟨fun hkept => (hsearch h).trans (congrArg _ (State.chainSearch_full hix rfl hkept)), fun hkept => ?_⟩
      obtain ⟨u, hu⟩ := Option.isSome_iff_exists.mp hkept
      exact ⟨u, hu, (hsearch h).trans (congrArg _ (State.chainSearch_stores hix rfl hu))⟩
    · intro els gone row kept
      refine ⟨fun hkept => (hrerank h).trans (congrArg _ (State.chainRerank_full him hix hwide hfits rfl hlen rfl rfl hkept)), fun hkept => ?_⟩
      obtain ⟨u, hu⟩ := Option.isSome_iff_exists.mp hkept
      exact ⟨u, hu, (hrerank h).trans (congrArg _ (State.chainRerank_stores him hix hwide hfits rfl hlen rfl rfl hu))⟩
    · intro psgs gone o kept
      refine ⟨fun hkept => (hpack h).trans (congrArg _ (State.chainPack_full htp hix hvocab hid hbudget rfl rfl hkept)), fun hkept => ?_⟩
      obtain ⟨u, hu⟩ := Option.isSome_iff_exists.mp hkept
      exact ⟨u, hu, (hpack h).trans (congrArg _ (State.chainPack_stores htp hix hvocab hid hbudget rfl rfl rfl hu))⟩
  · intro b
    exact State.chainGenerate_begins hsess hidle hsome hfits rfl

end Sys2Proof.Machine
end

section
/-! Every step answers a next state (18_queues R567, R591): a row either has its premise, or leaves the state as it is (log 2), and a step without
a command idles (log 1). -/

namespace Sys2Proof.Machine

/-- The outcome is a next state: neither a fault nor a refusal. -/
def Answers (o : Host.Outcome State Fault Refusal) : Prop := ∃ t, o = .next t

section
variable {c : Prop} [Decidable c] {a b : Host.Outcome State Fault Refusal}

theorem answers_ite (ha : Answers a) (hb : Answers b) : Answers (if c then a else b) := by
  split
  · exact ha
  · exact hb

end

section
variable {s : State}

/-! ## The wrappers of the SPDM, mailbox and FM-API rows -/

theorem State.spdm_next (p n : Nat) (f : Part → State) : Answers (s.spdm p n f) :=
  answers_ite ⟨_, rfl⟩ (answers_ite ⟨_, rfl⟩ ⟨_, rfl⟩)

theorem State.mailbox_next (p : Nat) (f : Unit → State) : Answers (s.mailbox p f) :=
  answers_ite ⟨_, rfl⟩ (answers_ite ⟨_, rfl⟩ ⟨_, rfl⟩)

theorem State.fm_next (f : Unit → State) : Answers (s.fm f) := answers_ite ⟨_, rfl⟩ ⟨_, rfl⟩

/-! ## Rows that look a thing up: one lemma for each, by the answers of its searches -/

theorem execDescriptorFetch_next (part queue : Nat) : Answers (execDescriptorFetch part queue s) := by
  refine answers_ite ⟨_, rfl⟩ ?_
  split <;> exact ⟨_, rfl⟩

theorem execParameterBlockRead_next (r : Ref) : Answers (execParameterBlockRead r s) := by
  unfold execParameterBlockRead
  split
  · exact ⟨_, rfl⟩
  · split
    · exact ⟨_, rfl⟩
    · exact answers_ite ⟨_, rfl⟩ ⟨_, rfl⟩

theorem execOrderedStart_next (r : Ref) : Answers (execOrderedStart r s) := by
  unfold execOrderedStart
  split
  · exact ⟨_, rfl⟩
  · exact answers_ite ⟨_, rfl⟩ ⟨_, rfl⟩

theorem execDisablePendingClear_next (part : Nat) (queue : Option Nat) : Answers (execDisablePendingClear part queue s) := by
  cases queue <;> exact answers_ite ⟨_, rfl⟩ ⟨_, rfl⟩

theorem execQueueResetDone_next (part queue : Nat) : Answers (execQueueResetDone part queue s) := by
  refine answers_ite ⟨_, rfl⟩ ?_
  split <;> exact ⟨_, rfl⟩

theorem execTaskPlace_next (task : Nat) : Answers (execTaskPlace task s) := by
  unfold execTaskPlace
  split
  · exact ⟨_, rfl⟩
  · refine answers_ite ⟨_, rfl⟩ ?_
    split
    · exact ⟨_, rfl⟩
    · exact answers_ite ⟨_, rfl⟩ (answers_ite ⟨_, rfl⟩ ⟨_, rfl⟩)

theorem execAffinityQueueJoin_next (task : Nat) (bytesOnDie : List Nat) : Answers (execAffinityQueueJoin task bytesOnDie s) := by
  unfold execAffinityQueueJoin
  split
  exacts [⟨_, rfl⟩, answers_ite ⟨_, rfl⟩ ⟨_, rfl⟩]

theorem execTileRelease_next (task heldNs : Nat) : Answers (execTileRelease task heldNs s) := by
  unfold execTileRelease
  split
  exacts [⟨_, rfl⟩, answers_ite ⟨_, rfl⟩ (answers_ite ⟨_, rfl⟩ ⟨_, rfl⟩)]

theorem execSaveComplete_next (task : Nat) : Answers (execSaveComplete task s) := by
  unfold execSaveComplete
  split
  exacts [⟨_, rfl⟩, answers_ite ⟨_, rfl⟩ ⟨_, rfl⟩]

theorem execRestoreComplete_next (task : Nat) : Answers (execRestoreComplete task s) := by
  unfold execRestoreComplete
  split
  exacts [⟨_, rfl⟩, answers_ite ⟨_, rfl⟩ ⟨_, rfl⟩]

theorem execLvs_next (batch : Nat) : Answers (execLvs batch s) := by
  unfold execLvs
  split
  exacts [⟨_, rfl⟩, answers_ite ⟨_, rfl⟩ ⟨_, rfl⟩]

theorem execT2PageRead_next (page media : Nat) : Answers (execT2PageRead page media s) := by
  unfold execT2PageRead
  split
  exacts [⟨_, rfl⟩, answers_ite ⟨_, rfl⟩ (answers_ite ⟨_, rfl⟩ (answers_ite ⟨_, rfl⟩ ⟨_, rfl⟩))]

theorem execPageFreeComplete_next (r : Ref) : Answers (execPageFreeComplete r s) := by
  unfold execPageFreeComplete
  split
  exacts [⟨_, rfl⟩, answers_ite ⟨_, rfl⟩ ⟨_, rfl⟩]

theorem execWedgeRelease_next (part index : Nat) : Answers (execWedgeRelease part index s) := by
  unfold execWedgeRelease
  split
  exacts [⟨_, rfl⟩, ⟨_, rfl⟩]

theorem execProgrammedTrigger_next (part slot : Nat) : Answers (execProgrammedTrigger part slot s) := by
  unfold execProgrammedTrigger
  split
  exacts [⟨_, rfl⟩, answers_ite ⟨_, rfl⟩ ⟨_, rfl⟩]

theorem execDebugResponse_next (scope : Nat) (signature : List Byte) : Answers (execDebugResponse scope signature s) := by
  unfold execDebugResponse
  split
  exacts [⟨_, rfl⟩, answers_ite ⟨_, rfl⟩ (answers_ite ⟨_, rfl⟩ (answers_ite ⟨_, rfl⟩ ⟨_, rfl⟩))]

theorem execRecordIssue_next (o : Owner) (index : Nat) (told : Issue) : Answers (execRecordIssue o index told s) := by
  refine answers_ite ⟨_, rfl⟩ ?_
  cases o <;> dsimp only <;> split <;> exact ⟨_, rfl⟩

theorem execReExecution_next (o : Owner) (startNs : Nat) : Answers (execReExecution o startNs s) := by
  refine answers_ite ⟨_, rfl⟩ ?_
  cases o with
  | run n =>
    dsimp only
    split
    · exact ⟨_, rfl⟩
    · split <;> exact ⟨_, rfl⟩
  | batch b =>
    dsimp only
    split <;> exact ⟨_, rfl⟩

theorem execLayerClose_next (batch closeNs : Nat) : Answers (execLayerClose batch closeNs s) := by
  unfold execLayerClose
  split
  · exact ⟨_, rfl⟩
  · split
    exacts [⟨_, rfl⟩, answers_ite ⟨_, rfl⟩ ⟨_, rfl⟩]

theorem execRefireDecision_next (batch : Nat) : Answers (execRefireDecision batch s) := by
  unfold execRefireDecision
  split
  · exact ⟨_, rfl⟩
  · split
    · exact ⟨_, rfl⟩
    · split
      · exact ⟨_, rfl⟩
      · exact answers_ite ⟨_, rfl⟩ (answers_ite ⟨_, rfl⟩ (answers_ite ⟨_, rfl⟩
          (answers_ite ⟨_, rfl⟩ (answers_ite ⟨_, rfl⟩ ⟨_, rfl⟩))))

theorem execDraftPass_next (session : Nat) (logits : List Word) (tileUs : Nat) : Answers (execDraftPass session logits tileUs s) := by
  unfold execDraftPass
  split
  · exact ⟨_, rfl⟩
  · refine answers_ite ⟨_, rfl⟩ ?_
    split
    · refine answers_ite ⟨_, rfl⟩ ?_
      split <;> exact ⟨_, rfl⟩
    · exact ⟨_, rfl⟩

theorem execMaskBuild_next (session : Nat) : Answers (execMaskBuild session s) := by
  unfold execMaskBuild
  split
  · exact ⟨_, rfl⟩
  · split
    exacts [⟨_, rfl⟩, answers_ite ⟨_, rfl⟩ ⟨_, rfl⟩]

theorem execVerification_next (session : Nat) (judged : Judged) : Answers (execVerification session judged s) := by
  unfold execVerification
  split
  · exact ⟨_, rfl⟩
  · split
    exacts [⟨_, rfl⟩, answers_ite ⟨_, rfl⟩ (answers_ite ⟨_, rfl⟩ ⟨_, rfl⟩)]

theorem execChainStageComplete_next (r : Ref) (code : Nat) (scores : List Word) : Answers (execChainStageComplete r code scores s) := by
  unfold execChainStageComplete
  split
  · exact ⟨_, rfl⟩
  · split
    · exact ⟨_, rfl⟩
    · extract_lets
      refine answers_ite ⟨_, rfl⟩ ?_
      extract_lets
      refine answers_ite ⟨_, rfl⟩ ?_
      split
      · exact ⟨_, rfl⟩
      · split <;> exact ⟨_, rfl⟩

theorem execMigrationStart_next (engine : Nat) : Answers (execMigrationStart engine s) := by
  unfold execMigrationStart
  split
  · exact ⟨_, rfl⟩
  · refine answers_ite ⟨_, rfl⟩ ?_
    split
    · exact answers_ite ⟨_, rfl⟩ ⟨_, rfl⟩
    · split <;> exact ⟨_, rfl⟩

theorem execMigrationSwitch_next (page : Nat) (destOk : Bool) : Answers (execMigrationSwitch page destOk s) := by
  unfold execMigrationSwitch
  split
  · exact ⟨_, rfl⟩
  · refine answers_ite ⟨_, rfl⟩ (answers_ite ⟨_, rfl⟩ (answers_ite ?_ (answers_ite (answers_ite ⟨_, rfl⟩ ⟨_, rfl⟩) ⟨_, rfl⟩)))
    split <;> exact ⟨_, rfl⟩

theorem execExtentCommit_next (extent : Nat) : Answers (execExtentCommit extent s) := by
  unfold execExtentCommit
  split
  · exact ⟨_, rfl⟩
  · refine answers_ite ⟨_, rfl⟩ ?_
    split
    · exact ⟨_, rfl⟩
    · extract_lets
      split <;> exact ⟨_, rfl⟩

theorem execImageUnloadComplete_next (part image : Nat) : Answers (execImageUnloadComplete part image s) := by
  unfold execImageUnloadComplete
  split
  · exact ⟨_, rfl⟩
  · refine answers_ite ⟨_, rfl⟩ ?_
    extract_lets
    split <;> exact ⟨_, rfl⟩

theorem execTemplateFree_next (part template : Nat) : Answers (execTemplateFree part template s) := by
  unfold execTemplateFree
  split
  · exact ⟨_, rfl⟩
  · refine answers_ite ⟨_, rfl⟩ ?_
    extract_lets
    split <;> exact ⟨_, rfl⟩

theorem execVersionRetire_next (part table version : Nat) : Answers (execVersionRetire part table version s) := by
  unfold execVersionRetire
  split
  · exact ⟨_, rfl⟩
  · split
    exacts [⟨_, rfl⟩, answers_ite ⟨_, rfl⟩ (answers_ite ⟨_, rfl⟩ ⟨_, rfl⟩)]

theorem execWedgeForced_next (part index : Nat) : Answers (execWedgeForced part index s) := by
  unfold execWedgeForced
  split
  · exact ⟨_, rfl⟩
  · refine answers_ite ⟨_, rfl⟩ (answers_ite ⟨_, rfl⟩ ?_)
    split <;> exact ⟨_, rfl⟩

theorem execPatrolScrub_next (region : Region) (uncorrectable : Bool) : Answers (execPatrolScrub region uncorrectable s) := by
  cases region with
  | tileWord t a => exact answers_ite ⟨_, rfl⟩ (answers_ite ⟨_, rfl⟩ ⟨_, rfl⟩)
  | frame _ _ _ => exact ⟨_, rfl⟩
  | hubSram a => exact answers_ite ⟨_, rfl⟩ (answers_ite ⟨_, rfl⟩ ⟨_, rfl⟩)

theorem execParityRebuild_next (page : Nat) : Answers (execParityRebuild page s) := by
  unfold execParityRebuild
  dsimp only
  split
  · exact ⟨_, rfl⟩
  · refine answers_ite (answers_ite ⟨_, rfl⟩ ?_) (answers_ite ⟨_, rfl⟩ ?_)
    · split <;> exact ⟨_, rfl⟩
    · split <;> exact ⟨_, rfl⟩

theorem execMirrorRebuild_next (page : Nat) : Answers (execMirrorRebuild page s) := by
  unfold execMirrorRebuild
  split
  · exact ⟨_, rfl⟩
  · refine answers_ite ⟨_, rfl⟩ ?_
    split
    · split <;> exact ⟨_, rfl⟩
    · exact ⟨_, rfl⟩

theorem execSensorSample_next (sensor : Nat) (value : Int) : Answers (execSensorSample sensor value s) := by
  refine answers_ite ⟨_, rfl⟩ ?_
  split
  exacts [⟨_, rfl⟩, answers_ite (answers_ite ⟨_, rfl⟩ ⟨_, rfl⟩) ⟨_, rfl⟩]

theorem execCxlMemRead_next (part offset len : Nat) : Answers (execCxlMemRead part offset len s) := by
  refine answers_ite ⟨_, rfl⟩ (answers_ite ⟨_, rfl⟩ (answers_ite ⟨_, rfl⟩ ?_))
  split
  exacts [answers_ite ⟨_, rfl⟩ ⟨_, rfl⟩, ⟨_, rfl⟩]

theorem execCxlMemWrite_next (part offset : Nat) (data : List Byte) : Answers (execCxlMemWrite part offset data s) := by
  refine answers_ite ⟨_, rfl⟩ (answers_ite (answers_ite ⟨_, rfl⟩ ⟨_, rfl⟩) ?_)
  split
  exacts [answers_ite ⟨_, rfl⟩ (answers_ite ⟨_, rfl⟩ ⟨_, rfl⟩), ⟨_, rfl⟩]

theorem execFirmwareVerify_next (component : Nat) : Answers (execFirmwareVerify component s) := by
  refine answers_ite ⟨_, rfl⟩ ?_
  split <;> exact ⟨_, rfl⟩

theorem execPldmRequest_next (type command id : Nat) : Answers (execPldmRequest type command id s) := by
  refine answers_ite ⟨_, rfl⟩ (answers_ite ⟨_, rfl⟩ (answers_ite ⟨_, rfl⟩ (answers_ite ?_ ⟨_, rfl⟩)))
  split <;> exact ⟨_, rfl⟩

end

/-- Every row of the block answers a next state. -/
theorem exec_next (i : Instr) (s : State) : Answers (exec i s) :=
  match i with
  | .identify r a => (State.command_next .. : Answers (execIdentify r a s))
  | .queueReset r a => (State.command_next .. : Answers (execQueueReset r a s))
  | .counterQuery r a => (State.command_next .. : Answers (execCounterQuery r a s))
  | .diagQuery r a => (State.command_next .. : Answers (execDiagQuery r a s))
  | .coneProgram r a => (State.command_next .. : Answers (execConeProgram r a s))
  | .snapshotRead r a => (State.command_next .. : Answers (execSnapshotRead r a s))
  | .logRead r a => (State.command_next .. : Answers (execLogRead r a s))
  | .powerSet r state => (State.command_next .. : Answers (execPowerSet r state s))
  | .timeSet r seconds => (State.command_next .. : Answers (execTimeSet r seconds s))
  | .linkQuery r a => (State.command_next .. : Answers (execLinkQuery r a s))
  | .imageLoad r a => (State.command_next .. : Answers (execImageLoad r a s))
  | .imageUnload r a => (State.command_next .. : Answers (execImageUnload r a s))
  | .graphRun r image binds => (State.command_next .. : Answers (execGraphRun r image binds s))
  | .imageQuery r a => (State.command_next .. : Answers (execImageQuery r a s))
  | .indexCreate r a => (State.command_next .. : Answers (execIndexCreate r a s))
  | .indexLoad r a => (State.command_next .. : Answers (execIndexLoad r a s))
  | .indexDrop r a => (State.command_next .. : Answers (execIndexDrop r a s))
  | .indexQuery r a => (State.command_next .. : Answers (execIndexQuery r a s))
  | .insert r a => (State.command_next .. : Answers (execInsert r a s))
  | .delete r a => (State.command_next .. : Answers (execDelete r a s))
  | .search r a => (State.command_next .. : Answers (execSearch r a s))
  | .wedge r a => (State.command_next .. : Answers (execWedge r a s))
  | .shardMerge r a => (State.command_next .. : Answers (execShardMerge r a s))
  | .rerank r a scores => (State.command_next .. : Answers (execRerank r a scores s))
  | .pack r a => (State.command_next .. : Answers (execPack r a s))
  | .templateLoad r a => (State.command_next .. : Answers (execTemplateLoad r a s))
  | .templateUnload r a => (State.command_next .. : Answers (execTemplateUnload r a s))
  | .tableCreate r a => (State.command_next .. : Answers (execTableCreate r a s))
  | .tableDrop r a => (State.command_next .. : Answers (execTableDrop r a s))
  | .tableStage r a => (State.command_next .. : Answers (execTableStage r a s))
  | .tableWrite r a => (State.command_next .. : Answers (execTableWrite r a s))
  | .tablePublish r a => (State.command_next .. : Answers (execTablePublish r a s))
  | .tableDiscard r a => (State.command_next .. : Answers (execTableDiscard r a s))
  | .embedLookup r a => (State.command_next .. : Answers (execEmbedLookup r a s))
  | .embedUpdate r a => (State.command_next .. : Answers (execEmbedUpdate r a s))
  | .tableRead r a => (State.command_next .. : Answers (execTableRead r a s))
  | .tableQuery r a => (State.command_next .. : Answers (execTableQuery r a s))
  | .vocabLoad r a => (State.command_next .. : Answers (execVocabLoad r a s))
  | .vocabUnload r a => (State.command_next .. : Answers (execVocabUnload r a s))
  | .vocabQuery r a => (State.command_next .. : Answers (execVocabQuery r a s))
  | .tokenise r a => (State.command_next .. : Answers (execTokenise r a s))
  | .detokenise r a => (State.command_next .. : Answers (execDetokenise r a s))
  | .grammarLoad r a => (State.command_next .. : Answers (execGrammarLoad r a s))
  | .grammarUnload r a => (State.command_next .. : Answers (execGrammarUnload r a s))
  | .grammarQuery r a => (State.command_next .. : Answers (execGrammarQuery r a s))
  | .grammarMask r a => (State.command_next .. : Answers (execGrammarMask r a s))
  | .sessionOpen r a => (State.command_next .. : Answers (execSessionOpen r a s))
  | .generate r a => (State.command_next .. : Answers (execGenerate r a s))
  | .sessionCancel r a => (State.command_next .. : Answers (execSessionCancel r a s))
  | .sessionClose r a => (State.command_next .. : Answers (execSessionClose r a s))
  | .sessionQuery r a => (State.command_next .. : Answers (execSessionQuery r a s))
  | .glazeRegister r a => (State.command_next .. : Answers (execGlazeRegister r a s))
  | .glazeDeregister r a => (State.command_next .. : Answers (execGlazeDeregister r a s))
  | .glazeQuery r a => (State.command_next .. : Answers (execGlazeQuery r a s))
  | .prefixFlush r => (State.command_next .. : Answers (execPrefixFlush r s))
  | .shadowFeed r a => (State.command_next .. : Answers (execShadowFeed r a s))
  | .sessionPromote r a => (State.command_next .. : Answers (execSessionPromote r a s))
  | .classSet r a => (State.command_next .. : Answers (execClassSet r a s))
  | .chain r a => (State.command_next .. : Answers (execChain r a s))
  | .pageAlloc r a => (State.command_next .. : Answers (execPageAlloc r a s))
  | .pageFree r a => (State.command_next .. : Answers (execPageFree r a s))
  | .pageMove r a => (State.command_next .. : Answers (execPageMove r a s))
  | .pagePin r a => (State.command_next .. : Answers (execPagePin r a s))
  | .pageUnpin r a => (State.command_next .. : Answers (execPageUnpin r a s))
  | .hdmMap r a => (State.command_next .. : Answers (execHdmMap r a s))
  | .hdmUnmap r a => (State.command_next .. : Answers (execHdmUnmap r a s))
  | .pageWrite r a => (State.command_next .. : Answers (execPageWrite r a s))
  | .pageRead r a => (State.command_next .. : Answers (execPageRead r a s))
  | .tierQuery r a => (State.command_next .. : Answers (execTierQuery r a s))
  | .poolStats r a => (State.command_next .. : Answers (execPoolStats r a s))
  | .extentCreate r a => (State.command_next .. : Answers (execExtentCreate r a s))
  | .extentWrite r a => (State.command_next .. : Answers (execExtentWrite r a s))
  | .extentRead r a => (State.command_next .. : Answers (execExtentRead r a s))
  | .extentDelete r a => (State.command_next .. : Answers (execExtentDelete r a s))
  | .flashHealth r a => (State.command_next .. : Answers (execFlashHealth r a s))
  | .sqTail _ _ _ _ _ => ⟨_, rfl⟩
  | .cqHead _ _ _ _ => ⟨_, rfl⟩
  | .strHead _ _ _ _ => ⟨_, rfl⟩
  | .descriptorFetch _ _ => execDescriptorFetch_next ..
  | .parameterBlockRead _ => execParameterBlockRead_next ..
  | .hostReadTimeout _ _ _ => ⟨_, rfl⟩
  | .orderedStart _ => execOrderedStart_next ..
  | .registerWrite _ _ _ _ => ⟨_, rfl⟩
  | .refuseLogClear _ _ => ⟨_, rfl⟩
  | .queueEnable _ _ _ => ⟨_, rfl⟩
  | .queueDisable _ _ _ => ⟨_, rfl⟩
  | .partitionEnable _ _ _ => ⟨_, rfl⟩
  | .partitionDisable _ _ _ => ⟨_, rfl⟩
  | .coneFire _ _ => ⟨_, rfl⟩
  | .disablePendingClear _ _ => execDisablePendingClear_next ..
  | .queueResetDone _ _ => execQueueResetDone_next ..
  | .turnBoundary => answers_ite ⟨_, rfl⟩ (answers_ite ⟨_, rfl⟩ ⟨_, rfl⟩)
  | .kvExhausted _ => ⟨_, rfl⟩
  | .batchRelease _ => answers_ite ⟨_, rfl⟩ ⟨_, rfl⟩
  | .batchFallback => answers_ite ⟨_, rfl⟩ ⟨_, rfl⟩
  | .taskPlace _ => execTaskPlace_next ..
  | .affinityQueueJoin _ _ => execAffinityQueueJoin_next ..
  | .tileRelease _ _ => execTileRelease_next ..
  | .tileZeroing _ => answers_ite ⟨_, rfl⟩ ⟨_, rfl⟩
  | .saveComplete _ => execSaveComplete_next ..
  | .restoreComplete _ => execRestoreComplete_next ..
  | .recordIssue _ _ _ => execRecordIssue_next ..
  | .regulatorPiece _ _ _ _ => answers_ite ⟨_, rfl⟩ (answers_ite ⟨_, rfl⟩ ⟨_, rfl⟩)
  | .layerClose _ _ => execLayerClose_next ..
  | .refireDecision _ => execRefireDecision_next ..
  | .draftPass _ _ _ => execDraftPass_next ..
  | .maskBuild _ => execMaskBuild_next ..
  | .lvs _ => execLvs_next ..
  | .verification _ _ => execVerification_next ..
  | .reExecution _ _ => execReExecution_next ..
  | .computeWindowEnd => answers_ite ⟨_, rfl⟩ ⟨_, rfl⟩
  | .chainStageComplete _ _ _ => execChainStageComplete_next ..
  | .migrationStart _ => execMigrationStart_next ..
  | .migrationSwitch _ _ => execMigrationSwitch_next ..
  | .t2PageRead _ _ => execT2PageRead_next ..
  | .extentCommit _ => execExtentCommit_next ..
  | .flashRefresh _ _ => answers_ite ⟨_, rfl⟩ ⟨_, rfl⟩
  | .patrolRead _ => ⟨_, rfl⟩
  | .tierReadonly _ => answers_ite ⟨_, rfl⟩ ⟨_, rfl⟩
  | .pageFreeComplete _ => execPageFreeComplete_next ..
  | .imageUnloadComplete _ _ => execImageUnloadComplete_next ..
  | .templateFree _ _ => execTemplateFree_next ..
  | .versionRetire _ _ _ => execVersionRetire_next ..
  | .wedgeRelease _ _ => execWedgeRelease_next ..
  | .wedgeForced _ _ => execWedgeForced_next ..
  | .patrolScrub _ _ => execPatrolScrub_next ..
  | .hubSramReload _ => answers_ite ⟨_, rfl⟩ ⟨_, rfl⟩
  | .parityRebuild _ => execParityRebuild_next ..
  | .knownAnswerTest _ _ => answers_ite ⟨_, rfl⟩ ⟨_, rfl⟩
  | .domainLost _ => answers_ite ⟨_, rfl⟩ ⟨_, rfl⟩
  | .renobLinkFail _ _ => answers_ite ⟨_, rfl⟩ ⟨_, rfl⟩
  | .governorStep _ _ => ⟨_, rfl⟩
  | .currentClamp => answers_ite ⟨_, rfl⟩ ⟨_, rfl⟩
  | .clampHoldEnd => answers_ite ⟨_, rfl⟩ ⟨_, rfl⟩
  | .clampRelease => answers_ite ⟨_, rfl⟩ ⟨_, rfl⟩
  | .sustainedLimit => answers_ite ⟨_, rfl⟩ ⟨_, rfl⟩
  | .sustainedLimitRelease => ⟨_, rfl⟩
  | .dieHot _ _ => answers_ite ⟨_, rfl⟩ (answers_ite (answers_ite ⟨_, rfl⟩ ⟨_, rfl⟩) (answers_ite ⟨_, rfl⟩ ⟨_, rfl⟩))
  | .dieTrip _ => answers_ite ⟨_, rfl⟩ ⟨_, rfl⟩
  | .sensorSample _ _ => execSensorSample_next ..
  | .sensorStale _ => answers_ite ⟨_, rfl⟩ ⟨_, rfl⟩
  | .inputLow _ => answers_ite ⟨_, rfl⟩ ⟨_, rfl⟩
  | .inputLoss => ⟨_, rfl⟩
  | .inputOvervoltage => ⟨_, rfl⟩
  | .quiescence => answers_ite ⟨_, rfl⟩ ⟨_, rfl⟩
  | .t0Evacuation => answers_ite ⟨_, rfl⟩ (answers_ite ⟨_, rfl⟩ ⟨_, rfl⟩)
  | .powerStateExit => answers_ite ⟨_, rfl⟩ (answers_ite ⟨_, rfl⟩ ⟨_, rfl⟩)
  | .ppsEdge _ _ _ =>
    answers_ite ⟨_, rfl⟩ (answers_ite (answers_ite ⟨_, rfl⟩ ⟨_, rfl⟩) (answers_ite ⟨_, rfl⟩ (answers_ite ⟨_, rfl⟩ ⟨_, rfl⟩)))
  | .refPresenceLoss => answers_ite ⟨_, rfl⟩ ⟨_, rfl⟩
  | .refFrequencyCheck _ _ => answers_ite ⟨_, rfl⟩ (answers_ite ⟨_, rfl⟩ ⟨_, rfl⟩)
  | .ppsContinuityLoss => answers_ite ⟨_, rfl⟩ ⟨_, rfl⟩
  | .holdoverLimit => answers_ite ⟨_, rfl⟩ ⟨_, rfl⟩
  | .acquireTimeout => answers_ite ⟨_, rfl⟩ ⟨_, rfl⟩
  | .secondMark _ => answers_ite ⟨_, rfl⟩ ⟨_, rfl⟩
  | .logFlush => answers_ite ⟨_, rfl⟩ ⟨_, rfl⟩
  | .coneIn _ => ⟨_, rfl⟩
  | .programmedTrigger _ _ => execProgrammedTrigger_next ..
  | .snapshotStore => ⟨_, rfl⟩
  | .linkTraining _ _ => answers_ite ⟨_, rfl⟩ (answers_ite ⟨_, rfl⟩ ⟨_, rfl⟩)
  | .laneExcluded _ _ => answers_ite ⟨_, rfl⟩ ⟨_, rfl⟩
  | .ideFailure _ => answers_ite ⟨_, rfl⟩ ⟨_, rfl⟩
  | .viral _ => answers_ite ⟨_, rfl⟩ ⟨_, rfl⟩
  | .cxlMemRead _ _ _ => execCxlMemRead_next ..
  | .cxlMemWrite _ _ _ => execCxlMemWrite_next ..
  | .coldStart _ _ => answers_ite ⟨_, rfl⟩ ⟨_, rfl⟩
  | .firmwareVerify _ => execFirmwareVerify_next ..
  | .ftlMount => answers_ite ⟨_, rfl⟩ ⟨_, rfl⟩
  | .hbmTraining _ => answers_ite ⟨_, rfl⟩ ⟨_, rfl⟩
  | .t0March _ => answers_ite ⟨_, rfl⟩ ⟨_, rfl⟩
  | .tileBist _ _ => answers_ite ⟨_, rfl⟩ ⟨_, rfl⟩
  | .ready _ => answers_ite ⟨_, rfl⟩ (answers_ite ⟨_, rfl⟩ ⟨_, rfl⟩)
  | .perstAssert _ _ => answers_ite ⟨_, rfl⟩ (answers_ite ⟨_, rfl⟩ ⟨_, rfl⟩)
  | .perstDeassert _ => answers_ite ⟨_, rfl⟩ (answers_ite (answers_ite ⟨_, rfl⟩ ⟨_, rfl⟩) (answers_ite ⟨_, rfl⟩ ⟨_, rfl⟩))
  | .functionLevelReset _ => answers_ite ⟨_, rfl⟩ ⟨_, rfl⟩
  | .alarm _ _ => answers_ite ⟨_, rfl⟩ ⟨_, rfl⟩
  | .debugChallenge => answers_ite ⟨_, rfl⟩ ⟨_, rfl⟩
  | .debugResponse _ _ => execDebugResponse_next ..
  | .getVersion part => (State.spdm_next .. : Answers (execGetVersion part s))
  | .getCapabilities part => (State.spdm_next .. : Answers (execGetCapabilities part s))
  | .negotiateAlgorithms part offersAll => (State.spdm_next .. : Answers (execNegotiateAlgorithms part offersAll s))
  | .getDigests part => (State.spdm_next .. : Answers (execGetDigests part s))
  | .getCertificate part slot => (State.spdm_next .. : Answers (execGetCertificate part slot s))
  | .challenge part nonce => (State.spdm_next .. : Answers (execChallenge part nonce s))
  | .getMeasurements part index signed => (State.spdm_next .. : Answers (execGetMeasurements part index signed s))
  | .keyExchange part encapKey => (State.spdm_next .. : Answers (execKeyExchange part encapKey s))
  | .finish part ok => (State.spdm_next .. : Answers (execFinish part ok s))
  | .endSession part => (State.spdm_next .. : Answers (execEndSession part s))
  | .heartbeat part => (State.spdm_next .. : Answers (execHeartbeat part s))
  | .keyUpdate part => (State.spdm_next .. : Answers (execKeyUpdate part s))
  | .ideKm part memStream skid => (State.spdm_next .. : Answers (execIdeKm part memStream skid s))
  | .trustGet part => (State.spdm_next .. : Answers (execTrustGet part s))
  | .trustSet part cnt list signature => (State.spdm_next .. : Answers (execTrustSet part cnt list signature s))
  | .keyRotate part => (State.spdm_next .. : Answers (execKeyRotate part s))
  | .mctpControl _ _ => answers_ite ⟨_, rfl⟩ ⟨_, rfl⟩
  | .pldmRequest _ _ _ => execPldmRequest_next ..
  | .powerCap _ => answers_ite ⟨_, rfl⟩ (answers_ite ⟨_, rfl⟩ ⟨_, rfl⟩)
  | .requestUpdate _ _ _ _ => answers_ite ⟨_, rfl⟩ (answers_ite ⟨_, rfl⟩ ⟨_, rfl⟩)
  | .activateFirmware _ _ => answers_ite ⟨_, rfl⟩ ⟨_, rfl⟩
  | .fmIdentify => (State.fm_next .. : Answers (execFmIdentify s))
  | .getLdInfo => (State.fm_next .. : Answers (execGetLdInfo s))
  | .getLdAllocations => (State.fm_next .. : Answers (execGetLdAllocations s))
  | .setLdAllocations first sizes => (State.fm_next .. : Answers (execSetLdAllocations first sizes s))
  | .getQosControl head => (State.fm_next .. : Answers (execGetQosControl head s))
  | .setQosControl head control thresholds => (State.fm_next .. : Answers (execSetQosControl head control thresholds s))
  | .getQosStatus head => (State.fm_next .. : Answers (execGetQosStatus head s))
  | .getQosAllocatedBw reg => (State.fm_next .. : Answers (execGetQosAllocatedBw reg s))
  | .setQosAllocatedBw reg first fractions => (State.fm_next .. : Answers (execSetQosAllocatedBw reg first fractions s))
  | .getQosBwLimit reg => (State.fm_next .. : Answers (execGetQosBwLimit reg s))
  | .setQosBwLimit reg first fractions => (State.fm_next .. : Answers (execSetQosBwLimit reg first fractions s))
  | .getMultiHeadedInfo => (State.fm_next .. : Answers (execGetMultiHeadedInfo s))
  | .getHeadInfo => (State.fm_next .. : Answers (execGetHeadInfo s))
  | .identifyMemoryDevice part => (State.mailbox_next .. : Answers (execIdentifyMemoryDevice part s))
  | .getSupportedLogs part => (State.mailbox_next .. : Answers (execGetSupportedLogs part s))
  | .getLog part => (State.mailbox_next .. : Answers (execGetLog part s))
  | .getEventRecords part => (State.mailbox_next .. : Answers (execGetEventRecords part s))
  | .clearEventRecords part => (State.mailbox_next .. : Answers (execClearEventRecords part s))
  | .getHealthInfo part => (State.mailbox_next .. : Answers (execGetHealthInfo part s))
  | .getPoisonList part => (State.mailbox_next .. : Answers (execGetPoisonList part s))
  | .mailboxUnsupported part opcode => (State.mailbox_next .. : Answers (execMailboxUnsupported part opcode s))
  | .i3cTargetReset _ => answers_ite ⟨_, rfl⟩ ⟨_, rfl⟩
  | .hostReadError _ _ _ _ => ⟨_, rfl⟩
  | .hdmDecoderCommit _ _ => answers_ite ⟨_, rfl⟩ ⟨_, rfl⟩
  | .mirrorRebuild _ => execMirrorRebuild_next ..
  | .powerStateEntry => answers_ite ⟨_, rfl⟩ ⟨_, rfl⟩
  | .linkRecovery _ _ _ _ => answers_ite ⟨_, rfl⟩ ⟨_, rfl⟩

/-- Settles O5, by the rows, one for each command. -/
theorem everyStepAnswersANextState : Obligations.EveryStepAnswersANextState := by
  unfold Obligations.EveryStepAnswersANextState
  intro s
  unfold step
  split
  · exact ⟨_, rfl⟩
  · exact exec_next ..

end Sys2Proof.Machine
end
